-- ==== Sys2Proof/Word.lean ====
section
/-! DEFINITION. The plain word types of the MDR-9640 model. -/
namespace Sys2Proof

/-- One register word of the module (R600). -/
abbrev Word := BitVec 32

/-- One byte of a packet or of memory (R65). -/
abbrev Byte := BitVec 8

/-- A time stamp of the timebase: a 56-bit count of 5 ns ticks (R3, R4). -/
abbrev Stamp := BitVec 56

/-- A diagnostic counter of R8: its count and its sticky OVF flag.
The width is given where the counter is counted up. -/
structure Counter where
  val : Nat := 0
  ovf : Bool := false
  deriving DecidableEq, Repr

end Sys2Proof
end

