-- ==== Sys2Proof/Machine/StCal.lean ====
section
/-! DEFINITION. State of calibration under live traffic (spec file 14_live_calibration). -/
namespace Sys2Proof.Machine

/-- Sums of one phase channel over a window (14 R362, R363), of x (raw word) against y (reference). -/
structure CalSums where
  n : Nat := 0
  sx : Int := 0
  sy : Int := 0
  sxx : Int := 0
  sxy : Int := 0
  syy : Int := 0
  /-- Samples with y above and below ±256/1024 of rated peak current. -/
  above : Nat := 0
  below : Nat := 0
  deriving DecidableEq, Repr

/-- One window: its sums, the consistency sum and count of the same window in 1/1024, and the tick at which it began
(14 R363). The window of the DC-link offset uses n and sx. -/
structure CalWindow where
  sums : CalSums := {}
  cons : Int × Nat := (0, 0)
  at' : Nat := 0
  deriving DecidableEq, Repr

/-- Current calibration of one machine (14 R357 to R365, R371, R372). Channels in the order of 04 R94. -/
structure CalMachine where
  /-- Active gain in 1/65,536 (14 R360). Reset: the base, 65,536. -/
  gain : Vector Nat 4 := Vector.replicate 4 65536
  /-- Active offset in 1/256 of a fast-word unit (14 R360, R365). Reset: the base, 0. -/
  offset : Vector Int 4 := Vector.replicate 4 0
  /-- Gains and offsets sealed for the next commit point (14 R357). -/
  pending : Option (List (Nat × Nat × Int)) := none
  /-- Windows in progress of channels U and V and of the DC-link current offset (14 R363, R364). -/
  win : Vector CalWindow 3 := Vector.replicate 3 {}
  /-- Windows closed that wait for their fit (14 R363). -/
  closed : Vector (Option CalWindow) 3 := Vector.replicate 3 none
  suspended : Bool := false
  /-- STOPPED and STOP_CAUSE (14 R371, R372). Reset: 0. -/
  stopped : Bool := false
  stopCause : BitVec 4 := 0
  /-- Channels whose correction is held at its trim limit; AT_LIMIT reads 1 while any is (14 R364, R372). Reset: 0. -/
  atLimit : BitVec 3 := 0
  residual : BitVec 8 := 0
  /-- Accepted windows running with a fit beyond twice its limit, per phase channel (14 R371). -/
  beyondRun : Vector Nat 2 := Vector.replicate 2 0
  /-- Accepted windows running with a consistency mean beyond its limit, per phase channel (14 R371). -/
  consRun : Vector Nat 2 := Vector.replicate 2 0
  /-- H3 was not voted: suspended until the commit point after it is voted again (14 R358). Reset: false. -/
  h3Lost : Bool := false
  /-- Calibration collected at the last strobe (CAL_RUN). Reset: 0. -/
  calRun : Bool := false
  /-- Standstill condition has held since this tick (14 R365). -/
  stillAt : Option Nat := none
  /-- Standstill capture: boundaries counted, sum, least and greatest fine word of the three current channels. -/
  capture : Option (Nat × List (Int × Int × Int)) := none
  /-- A capture has completed in this standstill (14 R365). -/
  captured : Bool := false
  accepted : Counter := {}
  limitHits : Counter := {}
  deriving DecidableEq, Repr

/-- What H3 collects over 16 whole cycles of a resolver or sin/cos port (14 R366): the number of demodulated sample
pairs, the sums of s, c, s², c² and sc, the angle turned since the first, the angle of the last in 1/65,536 cycle, the
tick of the first and the span to the last, and the sum, the least and the greatest of the tracked speeds. -/
structure PortSums where
  n : Nat := 0
  ss : Int := 0
  cs : Int := 0
  s2 : Int := 0
  c2 : Int := 0
  sc : Int := 0
  turned : Int := 0
  last : BitVec 16 := 0
  startAt : Nat := 0
  span : Nat := 0
  speeds : Int := 0
  least : Int := 0
  greatest : Int := 0
  deriving DecidableEq, Repr

/-- Calibration of one position port (14 R366, R367). -/
structure CalPort where
  /-- o_s, o_c in 1/1024 of A_s; k_a in 1/65,536; phi in 0.01° (14 R375). Reset: 0, 0, 65,536, 0. -/
  os : Int := 0
  oc : Int := 0
  ka : Nat := 65536
  phi : Int := 0
  /-- The same sealed for the next commit point. -/
  pending : Option (Int × Int × Nat × Int) := none
  /-- The signals being collected, and those of 16 whole cycles that wait for their fit (14 R366). Reset: none. -/
  sums : PortSums := {}
  closed : Option PortSums := none
  /-- A_s of the last fit in sample units; none before the first, when it is a free value (14 R366, log 55). -/
  amp : Option Nat := none
  beyondRun : Nat := 0
  stopped : Bool := false
  rejections : Counter := {}
  deriving DecidableEq, Repr

/-- Delay margins and rails of one region (14 R368, R369). -/
structure CalRegion where
  /-- Margins of the two replicas in 0.1 % (14 R369). Reset: 120, the B2 target (DESIGN CHOICE, log 3). -/
  margins : Int × Int := (120, 120)
  /-- Rail set by the supply die in mV (14 R368). Reset: 800 (DESIGN CHOICE, log 3). -/
  rail : Nat := 800
  /-- Tick of the last replica measurement (14 R369). Reset: none. -/
  measuredAt : Option Nat := none
  /-- Rail fixed at 0.90 V (14 R369). Reset: false. -/
  fixed : Bool := false
  /-- 12.5 cause 0 raised while the margin stays below 5 % at 0.90 V. -/
  lowRaised : Bool := false
  steps : Counter := {}
  deriving DecidableEq, Repr

/-- Calibration of the module (14). -/
structure Cal where
  machines : Vector CalMachine 4 := Vector.replicate 4 {}
  ports : Vector CalPort 4 := Vector.replicate 4 {}
  /-- H0 to H3, STOVE, TFU, COMMS, MEM, FLUE. -/
  regions : Vector CalRegion 9 := Vector.replicate 9 {}
  /-- Trim of each control-die sensor in 0.01 K (14 R370). Reset: 0. -/
  trims : Vector Int 10 := Vector.replicate 10 0
  /-- Ticks of the last rail adjustment and of the last cross check (14 R368, R370). Reset: none. -/
  railAt : Option Nat := none
  checkAt : Option Nat := none
  /-- Tick of the last trim of the sensors (14 R370). Reset: none. -/
  trimAt : Option Nat := none
  suspectRun : Vector Nat 10 := Vector.replicate 10 0
  suspect : Vector Bool 10 := Vector.replicate 10 false
  /-- No machine or axis has been enabled since this tick (14 R370). Reset: 0. -/
  quietAt : Nat := 0
  deriving DecidableEq, Repr

end Sys2Proof.Machine
end

