-- ==== Sys2Proof/Machine/StPorter.lean ====
section
/-! DEFINITION. State of the Porter: commands in flight, replies, update groups, sessions, CAN objects,
key slots, image load (spec files 03_command_packets, 19_can, 23_opcodes, 24_register_map). -/
namespace Sys2Proof.Machine

/-- One transport in the sense of 03 R74: an Ethernet source pair and a fabric source address
are a transport each. -/
inductive Transport where
  | hspi
  | can (p : Fin 6)
  | eth (e : Fin 2) (ip : BitVec 32) (port : BitVec 16)
  | ser (s : Fin 2)
  | fabric (src : BitVec 6)
  deriving DecidableEq, Repr

/-- Where a command stands (03 R70, R74 to R78). -/
inductive CmdPhase where
  /-- Accepted, not started. -/
  | waiting
  /-- Started; its final reply waits for a commit point. -/
  | committing
  /-- A long command that was answered ACCEPTED and runs. -/
  | running
  /-- Ended; its final reply or completion is queued but not sent. -/
  | ended
  deriving DecidableEq, Repr

/-- A command whose tag is outstanding (03 R65, R69, R74). -/
structure Cmd where
  tr : Transport
  tag : BitVec 16
  opcode : BitVec 16
  /-- TARGET as sent: kind in [15:12], index in [11:0] (03 R66). -/
  target : BitVec 16
  level : BitVec 3
  sv : Bool
  session : BitVec 9
  /-- Sequence number of the authentication field (03 R68, R69). -/
  seq : BitVec 32
  /-- Session key at acceptance (03 R71). -/
  key : List Byte
  data : List Byte
  phase : CmdPhase := .waiting
  /-- The command was ended by MODULE_RESET or BLOCK_RESET without a reply (23 R580, R581). -/
  silent : Bool := false
  /-- Physical tick of the start of a long command (23 R577). -/
  startedAt : Nat := 0
  deriving DecidableEq, Repr

/-- A reply or completion packet (03 R69, R70). -/
structure Reply where
  tr : Transport
  completion : Bool
  /-- Opcode of the command; bit 15 is set on the line. -/
  opcode : BitVec 16
  tag : BitVec 16
  status : BitVec 16
  level : BitVec 3
  sv : Bool
  session : BitVec 9
  seq : BitVec 32
  key : List Byte
  data : List Byte
  /-- It is the last packet for its tag: the tag is released when it has been sent (03 R74). -/
  final : Bool
  /-- It answers a packet whose tag never became outstanding (21 R546). -/
  refused : Bool := false
  /-- Physical tick at which it was queued (23 R580). -/
  queuedAt : Nat := 0
  deriving DecidableEq, Repr

/-- Whose commit point an update group waits for (01 R32, 03 R90). -/
inductive CommitAt where
  | machine (m : Fin 4)
  | stove (i : Fin 4)
  deriving DecidableEq, Repr

/-- A sealed update group of parameter values (01 R33, 03 R88 to R91). -/
structure UGroup where
  at' : CommitAt
  /-- Parameter key and value, in the order of the packet. -/
  entries : List (Nat × Nat)
  /-- SI7 is tested again at the commit point (03 R85). -/
  safety : Bool
  /-- The command that waits for its reply. -/
  cmd : Option (Transport × BitVec 16)
  deriving DecidableEq, Repr

/-- A session held in a berth (03 R83, R84; 24 R607 session layout). -/
structure Session where
  /-- Open, or awaiting its proof. -/
  isOpen : Bool
  transport : Transport
  slot : Fin 8
  /-- Level requested while awaiting the proof, level held when open. -/
  level : BitVec 3
  nonces : List Byte
  key : List Byte := []
  seqHigh : BitVec 32 := 0
  /-- Bit i: seqHigh − 1 − i has been accepted. -/
  window : BitVec 32 := 0
  /-- Idle timeout in seconds, 1 to 3,600. -/
  timeout : Nat := 60
  /-- Physical tick of the last packet of the session, or of the open. -/
  lastAt : Nat
  openTime : Stamp
  deriving DecidableEq, Repr

/-- Format of a CAN frame (19 R496, R502). -/
inductive CanFormat where
  | classical | fd | fdBrs | xl
  deriving DecidableEq, Repr

/-- A CAN frame (19 R502, R504). -/
structure CanFrame where
  format : CanFormat
  ide : Bool
  rtr : Bool
  id : BitVec 29
  xlHdr : BitVec 32 := 0
  af : BitVec 32 := 0
  data : List Byte
  deriving DecidableEq, Repr

/-- LAST_RESULT of a transmit object (24 R607 CAN layout). -/
inductive TxResult where
  | none' | sent | aborted | lateSent | timeout | fault
  deriving DecidableEq, Repr

/-- A pending frame of a transmit object (19 R505 to R507). -/
structure TxPending where
  data : List Byte
  committed : Bool := false
  /-- An ABORT or timeout reached the committed frame (19 R507). -/
  late : Bool := false
  /-- Physical tick of the CAN_SEND, for T_OUT. -/
  at' : Nat
  cmd : Option (Transport × BitVec 16)
  /-- Internal frame: the last segment of a command packet, or a safety PDU. -/
  lastSegment : Bool := false
  deriving DecidableEq, Repr

/-- A CAN transmit or receive object bound to a berth (19 R501 to R507; 24 R607). -/
structure CanObj where
  internal : Bool := false
  tx : Bool
  port : Fin 6
  format : CanFormat := .classical
  /-- Accepted formats: Classical [0], FD [1], XL [2]. -/
  formats : BitVec 3 := 0
  ide : Bool := false
  id : BitVec 29 := 0
  mask : BitVec 29 := 0
  rtr : BitVec 2 := 0
  xlHdr : BitVec 32 := 0
  af : BitVec 32 := 0
  single : Bool := false
  overwrite : Bool := false
  tOut : Nat := 0
  staged : List Byte := []
  pend : Option TxPending := none
  last : TxResult := .none'
  /-- Consecutive collisions, 0 to 2 (19 R510). -/
  collisions : Nat := 0
  new : Bool := false
  frame : Option CanFrame := none
  frameTime : Stamp := 0
  deriving DecidableEq, Repr

/-- One of the 512 berths of the Ledger (24 R606, R607). -/
inductive Berth where
  | free
  | session (x : Session)
  | can (o : CanObj)
  deriving DecidableEq, Repr

/-- A key slot (03 R83). -/
structure KeySlot where
  maxLevel : BitVec 3
  key : List Byte
  deriving DecidableEq, Repr

/-- Counters of one transport (03 R85, R86). -/
structure TransportCounters where
  format : Counter := {}
  crc : Counter := {}
  hop : Counter := {}
  auth : Counter := {}
  deriving DecidableEq, Repr

/-- An open image load (23 R596). -/
structure ImageLoad where
  /-- false image A, true image B. -/
  imageB : Bool
  length : Nat
  transport : Transport
  session : Option (BitVec 9)
  lastAt : Nat
  /-- IMAGE_LOAD_END runs with this header; the header write has begun (23 R577). -/
  ending : Option (List Byte) := none
  headerBegun : Bool := false
  deriving DecidableEq, Repr

/-- A PARAM_STORE in progress (22 R564). -/
structure Storing where
  cmd : Transport × BitVec 16
  /-- false copy 0, true copy 1. -/
  target : Bool
  values : List (Nat × Nat)
  keys : List (Nat × Nat × List Byte)
  generation : BitVec 32
  /-- Step 2 of R564 has begun. -/
  step2 : Bool := false
  deriving DecidableEq, Repr

/-- A CAN command packet in reassembly (03 R80). -/
structure CanAssembly where
  bytes : List Byte
  next : BitVec 6
  lastAt : Nat
  deriving DecidableEq, Repr

/-- A command packet taken whole off its transport (03 R72). -/
structure ReadyPacket where
  tr : Transport
  bytes : List Byte
  /-- It was sent to every node of a serial line: no node replies to it (03 R79). -/
  silent : Bool := false
  deriving DecidableEq, Repr

/-- The Porter and the parameter space (03, 23). -/
structure Porter where
  /-- Outstanding commands of every transport, in order of arrival (03 R74). Reset: none. -/
  cmds : List Cmd := []
  /-- Replies and completions queued, oldest first (03 R69, 21 R546). Reset: none. -/
  replies : List Reply := []
  /-- Active parameter values that differ from their defaults, by rising key (03 R87 to R91). Reset: none listed. -/
  params : List (Nat × Nat) := []
  /-- Sealed update groups that wait for a commit point, in seal order (01 R33). Reset: none. -/
  groups : List UGroup := []
  /-- The 512 berths (24 R606). Reset: free. -/
  berths : Vector Berth 512 := Vector.replicate 512 .free
  /-- Key slots 0 to 7 (03 R83). Reset: empty. -/
  keys : Vector (Option KeySlot) 8 := Vector.replicate 8 none
  /-- Debug key, 32 bytes (21 R552). Reset: zeros. -/
  debugKey : List Byte := List.replicate 32 0
  /-- Counters of HSPI, CAN0 to CAN5, ETH0, ETH1, SER0, SER1, fabric (03 R86). Reset: 0. -/
  counters : Vector TransportCounters 12 := Vector.replicate 12 {}
  /-- CAN packets in reassembly, one per port (03 R80). Reset: none. -/
  canIn : Vector (Option CanAssembly) 6 := Vector.replicate 6 none
  /-- Segments of the reply that a CAN port is sending (03 R79, R80). Reset: none. -/
  canOut : Vector (List (List Byte)) 6 := Vector.replicate 6 []
  /-- Packets taken whole off their transport and not yet checked, oldest first (03 R72). Reset: none. -/
  ready : List ReadyPacket := []
  /-- Format of the last request segment of each CAN port, in which it is answered (03 R79; log 18). Reset: Classical. -/
  canFmt : Vector CanFormat 6 := Vector.replicate 6 .classical
  /-- Unauthenticated limit of each transport in the order of R86 (03 R82). Reset: OPERATE for HSPI, CAN and SER,
  MONITOR for Ethernet and the fabric. -/
  unauth : Vector (BitVec 3) 12 := (((Vector.replicate 12 1).set 7 0).set 8 0).set 11 0
  /-- PARAM_STORE in progress (22 R564). Reset: none. -/
  storing : Option Storing := none
  /-- Image load (23 R596). Reset: none. -/
  load : Option ImageLoad := none
  /-- Direct register mode of HSPI (21 R547). Reset: off. -/
  regMode : Bool := false
  deriving DecidableEq, Repr

end Sys2Proof.Machine
end

