-- ==== Sys2Proof/Machine/StComm.lean ====
section
/-! DEFINITION. State of the thermal manager, the CAN ports, the fabric and the other ports
(spec files 18_thermal, 19_can, 20_fabric, 21_other_ports). -/
namespace Sys2Proof.Machine

/-- STATE of a sensor (18 R492). -/
inductive SensorState where
  | off | ok | replaced | noEst
  deriving DecidableEq, Repr

/-- What a sensor delivers at an evaluation (18 R475 to R477, R488): a temperature in 0.1 °C, the conditioned input of
an external sensor (resistance in 0.01 Ω, or millivolts), an open or short circuit found by the conditioning, the
arrival of a power-stage item, or the end of a status cycle of its board without that item. -/
inductive ThermalInput where
  | value (t : Int)
  | input (x : Int)
  | openShort
  | item
  | noItem
  deriving DecidableEq, Repr

/-- One temperature sensor (18 R475 to R493). Temperatures in 0.1 °C. -/
structure Sensor where
  /-- Temperature in use, S16 (18 R495 0x9480 subindex 1). Reset: 0. -/
  temp : Int := 0
  state : SensorState := .off
  warn : Bool := false
  trip : Bool := false
  rate : Bool := false
  frozen : Bool := false
  /-- RATE_SEL: 0 10 ms, 1 1 ms, 2 100 µs, 3 at arrival. -/
  rateSel : Nat := 0
  /-- BAND B0 to B5. Reset: 0 (R492). -/
  band : Nat := 0
  level : Nat := 0
  /-- Last reading (18 R488 cause 1). Reset: none. -/
  lastReading : Option Int := none
  /-- Last good reading (18 R489). Reset: 0. -/
  lastGood : Int := 0
  /-- Tick of the last evaluation (18 R480). Reset: none. -/
  evalAt : Option Nat := none
  /-- Readings with their ticks, newest first, for the rate of rise (18 R481). Reset: none. -/
  hist : List (Nat × Int) := []
  /-- Physical tick of the last change of the warn flag, level, sampling rate and band (18 R479). Reset: none. -/
  warnAt : Option Nat := none
  levelAt : Option Nat := none
  rateSelAt : Option Nat := none
  bandAt : Option Nat := none
  /-- The rate limit was exceeded at the last evaluation (18 R481). -/
  rateOver : Bool := false
  /-- The rate has stayed at or below its limit since this tick (18 R481). -/
  rateBelowAt : Option Nat := none
  /-- The last evaluation was at trip (18 R485). -/
  tripOver : Bool := false
  /-- Recorded offset, 0.1 K (18 R489). Reset: 0. -/
  offset : Int := 0
  /-- Tick of the last update of the offset (18 R489). Reset: none. -/
  offsetAt : Option Nat := none
  /-- Readings have been valid since this tick while replaced (18 R490). -/
  validAt : Option Nat := none
  /-- Status cycles without a report (18 R488 cause 2). -/
  missed : Nat := 0
  /-- Trips, 8 bits (18 R493). Reset: 0. -/
  trips : Counter := {}
  /-- Failures, 8 bits (18 R493). Reset: 0. -/
  failures : Counter := {}
  deriving DecidableEq, Repr

/-- Thermal management (18). -/
structure Thermal where
  sensors : Vector Sensor 44 := Vector.replicate 44 {}
  /-- Thermal factor k of M0 to M3 in 1/1024, the active copy (18 R483, R495). Reset: 1,024. -/
  k : Vector Nat 4 := Vector.replicate 4 1024
  /-- Factor sealed and not yet committed (18 R483). Reset: none. -/
  kSealed : Vector (Option Nat) 4 := Vector.replicate 4 none
  /-- Governing sensor of each machine, 0xFF none (18 R495). Reset: 0xFF. -/
  governing : Vector Nat 4 := Vector.replicate 4 0xFF
  /-- Throttle level of each machine, 0 to 8 (18 R495). Reset: 0. -/
  level : Vector Nat 4 := Vector.replicate 4 0
  /-- Throttle rises, 16 bits (18 R493). Reset: 0. -/
  rises : Vector Counter 4 := Vector.replicate 4 {}
  /-- Band changes, 32 bits (18 R493). Reset: 0. -/
  bandChanges : Counter := {}
  deriving DecidableEq, Repr

/-- STATE of a CAN port (19 R516). -/
inductive CanState where
  | off | integrating | errorActive | errorPassive | busOff | recovering | sleep
  deriving DecidableEq, Repr

/-- LAST_ERROR of a CAN port (19 R516). -/
inductive CanErr where
  | none' | stuff | form | ack | bitRecessive | bitDominant | crc
  deriving DecidableEq, Repr

/-- One CAN port (19 R496 to R517). -/
structure CanPort where
  /-- Reset: 0x0 OFF. -/
  state : CanState := .off
  /-- TEC, 9 bits (19 R508). Reset: 0. -/
  tec : Nat := 0
  /-- REC, 8 bits (19 R508). Reset: 0. -/
  recv : Nat := 0
  /-- WAKE_CAUSE (19 R516). Reset: 0. -/
  wakeCause : BitVec 2 := 0
  /-- LAST_ERROR (19 R516). Reset: 0. -/
  lastError : CanErr := .none'
  /-- Loop delay last measured, 5 ns (19 R499). Reset: 0. -/
  loopDelay : Nat := 0
  /-- BUS_OFF, waiting for a request (19 R509). Reset: 0. -/
  recoveryWait : Bool := false
  /-- The restart delay runs since this tick (19 R509). Reset: none. -/
  restartAt : Option Nat := none
  /-- A sleep request waits for bus idle (19 R511). Reset: false. -/
  sleepReq : Bool := false
  /-- Tick of a wake request that came while a sleep request waited (19 R515). Reset: none. -/
  wakeReq : Option Nat := none
  /-- Fault state before SLEEP (19 R515). Reset: error active. -/
  saved : CanState := .errorActive
  /-- Wake source, filter, identifier, mask, IDE, pattern and data mask taken at the entry into SLEEP (19 R519). Reset: none. -/
  wakeSet : Option (List Nat) := none
  /-- Tick of the entry into SLEEP (19 R513). Reset: 0. -/
  sleepAt : Nat := 0
  /-- Berth offered in the attempt in progress (19 R505). Reset: none. -/
  attempt : Option (Fin 512) := none
  /-- Stamp and tick of the SOF sample point of the frame on the bus (19 R504). Reset: 0. -/
  sofStamp : Stamp := 0
  /-- Bus-off entries, 16 bits (19 R517). Reset: 0. -/
  busOffs : Counter := {}
  /-- Identifier clashes, 16 bits. Reset: 0. -/
  clashes : Counter := {}
  /-- Receive overruns, 16 bits. Reset: 0. -/
  overruns : Counter := {}
  /-- Late cancels, 16 bits. Reset: 0. -/
  lateCancels : Counter := {}
  deriving DecidableEq, Repr

/-- STATE of a fabric link (20 R538). -/
inductive LinkState where
  | down | training | hello | up | held | disabled | loop
  deriving DecidableEq, Repr

/-- Traffic class (20 R522). -/
inductive FabClass where
  | sync | safe | cmd | bulk
  deriving DecidableEq, Repr

/-- State of one link of a module in a LINK_STATE message, and the neighbour's UID (20 R527). -/
structure LinkInfo where
  state : LinkState
  neighbour : BitVec 64
  deriving DecidableEq, Repr

def LinkInfo.up (k : LinkInfo) : Bool := k.state == .up

/-- One row of the topology database (20 R527). Priority and preferred address, which R528 and R529 decide by, travel
in LINK_STATE too (log 7). -/
structure TopoRow where
  uid : BitVec 64
  generation : BitVec 16
  priority : Nat
  preferred : BitVec 8 := 0xFF
  /-- Address that the module holds, 0xFF none: the SRC of its LINK_STATE (20 R522, R529). -/
  addr : BitVec 8 := 0xFF
  links : List LinkInfo
  deriving DecidableEq, Repr

/-- A member report of 13 R344. It also carries what its member declares under 13 R342 and R341
(weight, ratio, rated torque in 0.1 N·m, the decision grid and its role), which the distributor and
the enable checks of R343 need (DEDUCED, log 7). -/
structure MemberReport where
  group : Nat
  member : Nat
  master : Bool
  run : Bool
  lo : Int
  hi : Int
  torque : Int
  w : Nat
  g : Int
  tRated : Nat
  d : Nat
  n : Nat
  phi : Nat
  deriving DecidableEq, Repr

/-- Payload of a fabric frame by TYPE (20 R522, R527; 13 R344, R350). -/
inductive FabMsg where
  | packet (bytes : List Byte)
  | safetyPdu (bytes : List Byte)
  | memberReport (r : MemberReport)
  | share (group : Nat) (sender : Nat) (member : Nat) (share : Int) (last : Bool)
  | transfer (machine : Fin 4) (startState : Nat) (enabled : Bool) (crc : Option (BitVec 32))
  | hello (uid : BitVec 64) (priority : Nat) (addr : BitVec 8) (linkNo : Nat) (innkeeper : BitVec 64) (echo : BitVec 64)
  | linkState (row : TopoRow)
  | innkeeper (uid : BitVec 64) (priority : Nat) (epoch : BitVec 16) (dbCrc : BitVec 32)
  | assign (pairs : List (BitVec 64 × BitVec 8))
  | route (uid : BitVec 64) (epoch : BitVec 16) (entries : List Word)
  | routeAck (epoch : BitVec 16)
  | commit (epoch : BitVec 16)
  | flow (kind : Fin 3) (source dest : BitVec 8) (ts : Nat)
  | bulk (bytes : List Byte)
  deriving DecidableEq, Repr

/-- A fabric frame (20 R522). -/
structure FabFrame where
  cls : FabClass
  treeB : Bool
  dup : Bool
  hops : Nat
  dest : BitVec 8
  src : BitVec 8
  lseq : BitVec 8 := 0
  flow : BitVec 8 := 0
  eseq : BitVec 16 := 0
  msg : FabMsg
  deriving DecidableEq, Repr

/-- A frame sent and not yet acknowledged (20 R524). -/
structure Unacked where
  frame : FabFrame
  sent : Nat
  at' : Nat
  deriving DecidableEq, Repr

/-- One retried class of one link (20 R524, R525). -/
structure LinkClass where
  txSeq : BitVec 8 := 0
  rxSeq : BitVec 8 := 0
  unacked : List Unacked := []
  /-- Frames that wait for a place among the 16 or for a credit. -/
  waiting : List FabFrame := []
  credits : Nat := 0
  deriving DecidableEq, Repr

/-- One fabric link (20 R520 to R526, R538, R539). -/
structure FabLink where
  /-- Reset: 0x0 DOWN. -/
  state : LinkState := .down
  /-- Receiver has symbol lock (20 R521). Reset: false. -/
  symbolLock : Bool := false
  neighbourUid : BitVec 64 := 0
  /-- Neighbour's address. Reset: 0xFF. -/
  neighbour : BitVec 8 := 0xFF
  helloRun : Nat := 0
  echoSeen : Bool := false
  lastHello : Nat := 0
  /-- Tick of the HELLO last sent. Reset: 0. -/
  sentHello : Nat := 0
  /-- Ticks of entries into DOWN within 10 s (20 R521). -/
  downs : List Nat := []
  heldAt : Nat := 0
  /-- SAFE, CMD and BULK, in that order (20 R524). -/
  safe : LinkClass := {}
  cmd : LinkClass := {}
  bulk : LinkClass := {}
  /-- Ends of the SYNC frames on the line and in their queue, in 1/25 of a tick, oldest first (20 R525, R526; log 19).
  Reset: none. -/
  syncEnds : List Nat := []
  timeParent : Bool := false
  inTree : Bool := false
  /-- Measured delay in 0.1 ns (20 R538). Reset: 0. -/
  delay : Nat := 0
  retrans : Counter := {}
  crcErrors : Counter := {}
  downCount : Counter := {}
  deriving DecidableEq, Repr

/-- Where the admission of a SYNC flow stands (20 R533). -/
inductive FlowState where
  | asked | granted | refused
  deriving DecidableEq, Repr

/-- A SYNC flow: one of this module's own, or on the Innkeeper one that it granted (20 R533). -/
structure SyncFlow where
  source : BitVec 8
  dest : BitVec 8
  /-- Flow number of the frames (20 R522). -/
  flow : BitVec 8 := 0
  ts : Nat
  state : FlowState := .asked
  /-- Number of the sample period in which the reservation was last used. -/
  lastUse : Option Nat := none
  deriving DecidableEq, Repr

/-- STATE of the fabric status word (20 R537). -/
inductive FabState where
  | noLink | discovering | electing | member | innkeeper
  deriving DecidableEq, Repr

/-- The fabric module logic on H2 (20 R527 to R539). -/
structure Fabric where
  links : Vector FabLink 4 := Vector.replicate 4 {}
  /-- Reset: 0x0 no link UP. -/
  state : FabState := .noLink
  /-- Address in use. Reset: 0xFF. -/
  addr : BitVec 8 := 0xFF
  /-- Innkeeper known: UID and priority (20 R527, R528). Reset: none. -/
  innkeeper : Option (BitVec 64 × Nat) := none
  innkeeperAddr : BitVec 8 := 0xFF
  lastInnkeeper : Nat := 0
  /-- Topology database, by rising UID (20 R527). Reset: none. -/
  db : List TopoRow := []
  /-- Tick of the last change of the database (20 R528). Reset: 0. -/
  dbAt : Nat := 0
  /-- Generation of this module's own LINK_STATE (20 R527). Reset: 0. -/
  ownGen : BitVec 16 := 0
  /-- A change of a link waits to be flooded (20 R527). Reset: false. -/
  linkDirty : Bool := false
  lastLinkState : Nat := 0
  lastInnkeeperSent : Nat := 0
  /-- Addresses assigned: UID and address (20 R529). Reset: none. -/
  assigned : List (BitVec 64 × BitVec 8) := []
  /-- Addresses reserved for modules that left: UID, address, tick (20 R529). Reset: none. -/
  reserved : List (BitVec 64 × BitVec 8 × Nat) := []
  /-- Route epoch in force (20 R537). Reset: 0. -/
  epoch : BitVec 16 := 0
  /-- Routing entries in force (20 R532). Reset: 0. -/
  routes : Vector Word 64 := Vector.replicate 64 0
  /-- Shadow table and its epoch (20 R532). Reset: none. -/
  shadow : Option (BitVec 16 × Vector Word 64) := none
  /-- ROUTE sent: epoch, tick, and UIDs that have acknowledged (20 R527). Reset: none. -/
  routing : Option (BitVec 16 × Nat × List (BitVec 64)) := none
  /-- 11.11 cause 0 raised for this epoch (20 R530). Reset: none. -/
  disjointRaised : Option (BitVec 16) := none
  /-- Flooded messages seen: kind, originator, generation (20 R527). Reset: none. -/
  seen : List (Nat × BitVec 64 × BitVec 16) := []
  flows : List SyncFlow := []
  /-- Frames delivered to this module and not yet taken by the step they are for (20 R522). Reset: none. -/
  inbox : List FabFrame := []
  /-- Last ESEQ delivered per source and flow (20 R530). Reset: none. -/
  eseqIn : List (Nat × BitVec 16) := []
  /-- Next ESEQ per flow sent (20 R522). Reset: none. -/
  eseqOut : List (Nat × BitVec 16) := []
  timeRoot : Bool := false
  hopsRoot : Nat := 0
  /-- Consecutive measurements within, and beyond, ±20 ns (20 R535). Reset: 0. -/
  alignedRun : Nat := 0
  beyondRun : Nat := 0
  /-- The time root has changed and no measurement has been made since (20 R536). Reset: false. -/
  newParent : Bool := false
  /-- Offset from the root, 0.1 ns (20 R541). Reset: 0. -/
  offset : Int := 0
  /-- Frequency trim, 0.001 ppm (20 R541). Reset: 0. -/
  trim : Int := 0
  dropped : Counter := {}
  innkeeperChanges : Counter := {}
  deriving DecidableEq, Repr

/-- An entry of the ARP cache (21 R544). -/
structure ArpEntry where
  ip : BitVec 32
  mac : BitVec 48
  at' : Nat
  deriving DecidableEq, Repr

/-- One Ethernet port (21 R542 to R544, R554). -/
structure EthPort where
  /-- Link state: 0 down, 1 10, 2 100, 3 1000 Mbit/s. Reset: 0. -/
  link : Nat := 0
  /-- Line settings in force since the last link up: IPv4 address, mask, gateway, enable (21 R555). Reset: 0, 0, 0, 1. -/
  ip : BitVec 32 := 0
  mask : BitVec 32 := 0
  gateway : BitVec 32 := 0
  arp : List ArpEntry := []
  /-- Requests outstanding: address asked (21 R543, R544). -/
  arpWait : List (BitVec 32 × Nat) := []
  /-- Ticks of the echo replies of the last second (21 R543). -/
  icmpAt : List Nat := []
  discards : Counter := {}
  deriving DecidableEq, Repr

/-- One serial port (21 R549, R550). -/
structure SerPort where
  /-- Node address and bit rate in force since the last idle line (21 R555). Reset: 1, 115,200. -/
  node : Nat := 1
  rate : Nat := 115200
  /-- The frame in transmission has failed its readback once (21 R550). Reset: false. -/
  resent : Bool := false
  drops : Counter := {}
  deriving DecidableEq, Repr

/-- TAP instruction (21 R551). -/
inductive TapIr where
  | bypass | sample | extest | idcode | clamp | highz | dbgChallenge | dbgResponse | dbgAccess
  deriving DecidableEq, Repr

/-- HSPI and the debug port (21 R545 to R552). -/
structure Ports where
  eth : Vector EthPort 2 := Vector.replicate 2 {}
  ser : Vector SerPort 2 := Vector.replicate 2 {}
  /-- START of the HSPI status word (21 R548). Reset: 0. -/
  hspiStart : Bool := false
  /-- TAP instruction loaded (21 R551). Reset: IDCODE (PRESUMED, IEEE 1149.1; log 5). -/
  ir : TapIr := .idcode
  /-- Nonce of the challenge in force (21 R552). Reset: none. -/
  challenge : Option (List Byte) := none
  /-- Wrong responses since the last lockout (21 R552). Reset: 0. -/
  wrong : Nat := 0
  /-- Lockout since this tick (21 R552). Reset: none. -/
  lockoutAt : Option Nat := none
  /-- Debug access unlocked (21 R552). Reset: false. -/
  unlocked : Bool := false
  /-- Wrong debug responses, 16 bits (21 R554). Reset: 0. -/
  wrongCount : Counter := {}
  deriving DecidableEq, Repr

end Sys2Proof.Machine
end

