-- ==== Sys2Proof/Machine/StFlue.lean ====
section
/-! DEFINITION. State of the Flue, the event router, the memories, the journal and the trace recorder
(spec files 17_faults, 22_memory_journal, 24_register_map). -/
namespace Sys2Proof.Machine

/-- RETRY of a raise (17 R454). -/
inductive Retry where
  | none' | transient | lasting | notRetried
  deriving DecidableEq, Repr

/-- One raise as a record holds it (17 R462, R464). -/
structure FaultRec where
  source : BitVec 8
  master : BitVec 8
  /-- 0 event, 1 fetch, 2 read, 3 write, 4 atomic, 5 link frame, 6 vote. -/
  kind : BitVec 3
  retry : Retry
  addr : BitVec 32
  stamp : Stamp
  sameTick : Bool := false
  moved : Bool := false
  recovered : Bool := false
  repeated : Bool := false
  deriving DecidableEq, Repr

/-- One event message of the router (17 R457, R460; 24 EVT_LAST). -/
structure EventMsg where
  hearth : Fin 4
  nmi : Bool
  source : BitVec 8
  stamp : Stamp
  deriving DecidableEq, Repr

/-- A block that can be block-reset, with its unit (02 R61; 23 R581). -/
inductive Blk where
  | stv (i : Fin 4) | tfu (i : Fin 4) | sns (i : Fin 4) | prf | axd | glk (i : Fin 4)
  | can (i : Fin 6) | vnf (i : Fin 4) | vnfAll | eth (i : Fin 2) | ser (i : Fin 2) | hspi
  deriving DecidableEq, Repr

/-- A register group whose other words are latched by a read of its lowest word (24 R601). -/
structure GroupLatch where
  /-- Address of the lowest word. -/
  base : Nat
  /-- The words latched, from the lowest address on. -/
  words : List Word
  deriving DecidableEq, Repr

/-- Flue and event router (17_faults R453 to R474; 24 R604). -/
structure Flue where
  /-- Line level of the 256 sources, FLUE_LIVE (17 R455, R471). Reset: 0. -/
  live : BitVec 256 := 0
  /-- Sticky bits of the 256 sources, FLUE_STICKY (17 R455, R471). Reset: 0. -/
  sticky : BitVec 256 := 0
  /-- The machines that the raises of a source named in their address fields since its sticky bit was set (06 R183,
  13 R355, 17 R457); all other sources keep 0. Reset: 0. -/
  named : Vector (BitVec 4) 256 := Vector.replicate 256 0
  /-- The reaction words that the writes of the tick `wordsAt` replaced, source and word (17 R470). Reset: none, 0. -/
  oldWords : List (Nat × Nat) := []
  wordsAt : Nat := 0
  /-- Physical tick at which each quiet timer last restarted (17 R465). Reset: 0. -/
  quietAt : Vector Nat 256 := Vector.replicate 256 0
  /-- Ticks of the last quiet-period checks of every 100 µs and of every 1 ms (17 R466). Reset: none. -/
  checkAt : Vector (Option Nat) 2 := Vector.replicate 2 none
  /-- Per-source recovery counters, 8 bits (00 R12, 17 R472). Reset: 0. -/
  recov : Vector Counter 256 := Vector.replicate 256 {}
  /-- Total recovery counter, 32 bits (00 R12, 17 R472). Reset: 0. -/
  total : Counter := {}
  /-- Lost-record counter, 16 bits (17 R462, R472). Reset: 0. -/
  lost : Counter := {}
  /-- Dropped-message counter, 16 bits (17 R460, R472). Reset: 0. -/
  dropped : Counter := {}
  /-- First-error record (17 R462 to R464). Reset: free. -/
  fer : Option FaultRec := none
  /-- Next-error record (17 R462 to R464). Reset: free. -/
  ner : Option FaultRec := none
  /-- 15.1 has been raised since the last release (17 R462). Reset: false. -/
  lostRaised : Bool := false
  /-- 15.0 is owed when the queue next has room (17 R460). Reset: false. -/
  dropOwed : Bool := false
  /-- Event messages queued, at most 64 (01 R37, 17 R460). Reset: none. -/
  queue : List EventMsg := []
  /-- The last message queued, EVT_LAST (24 EVT registers). Reset: none. -/
  lastMsg : Option EventMsg := none
  /-- Physical ticks of the last module resets caused by the Flue, newest first, at most two (17 R459). Reset: none. -/
  resetStamps : List Nat := []
  /-- The block resets that reactions of the command in progress requested (17 R457, R470).
  Empty between commands. Reset: none. -/
  resetReq : List Blk := []
  /-- The raises of the tick `raisedAt`, each with whether its sticky bit was set before (17 R470; 24 R602). Reset: none, 0. -/
  raised : List (FaultRec × Bool) := []
  raisedAt : Nat := 0
  /-- 15.4 was raised by the command in progress: HOLD of 17 R459 follows. False between commands. Reset: false. -/
  holdReq : Bool := false
  deriving DecidableEq, Repr

/-- The kind, code and data of a journal entry that waits to be written (22 R565, 23 R590). -/
structure JournalItem where
  kind : BitVec 8
  code : BitVec 16
  stamp : Stamp
  data : List Byte
  deriving DecidableEq, Repr

/-- The journal (22 R565, R566). Its ring lies in the MRAM bytes. -/
structure Journal where
  /-- Queue of at most 256 entries, oldest first (22 R566). Reset: none. -/
  queue : List JournalItem := []
  /-- Entries lost since the last entry of kind 0x08 (22 R566). Reset: 0. -/
  lostPending : Nat := 0
  /-- Next SEQ, 32 bits, kept in MRAM (22 R565). Reset: 0 (DESIGN CHOICE, log 4). -/
  nextSeq : BitVec 32 := 0
  /-- Entries held in the ring, at most 524,288 (22 R565). Reset: 0 (DESIGN CHOICE, log 4). -/
  held : Nat := 0
  deriving DecidableEq, Repr

/-- Phase of the trace recorder (22 R567, R568). -/
inductive TracePhase where
  | off | pre | post | copy
  deriving DecidableEq, Repr

/-- What triggered a capture, in the order of 22 R568. -/
inductive TraceCause where
  | source (n : Fin 256) | level | lat | opcode
  deriving DecidableEq, Repr

/-- One record of the trace area (22 R568, R569). -/
structure TraceRec where
  number : BitVec 16
  stamp : Stamp
  cause : TraceCause
  channels : List Nat
  isProtected : Bool
  damaged : Bool
  laterTriggers : Nat
  data : List (BitVec 32)
  deriving DecidableEq, Repr

/-- Trace recorder (22 R567 to R570). -/
structure Trace where
  /-- Recorder phase. Reset: off. -/
  phase : TracePhase := .off
  /-- Staging ring: samples of the capture, oldest first, one list of channel values each (22 R567). Reset: none. -/
  staging : List (List (BitVec 32)) := []
  /-- Samples still to take after the trigger (22 R568). Reset: 0. -/
  postLeft : Nat := 0
  /-- Samples of the period source since the last one kept (22 R567). Reset: 0. -/
  skip : Nat := 0
  /-- Stamp and cause of the trigger, and whether a source of group 13 or 14 made it (22 R568, R569). Reset: none. -/
  trigger : Option (Stamp × TraceCause × Bool) := none
  /-- Later triggers counted (22 R570). Reset: 0. -/
  later : Nat := 0
  /-- A staging sample was lost: the record will be DAMAGED (22 R562). Reset: false. -/
  damaged : Bool := false
  /-- Last value of the level-trigger channel (22 R568). Reset: none. -/
  lastLevel : Option Int := none
  /-- The newest sample of that channel crossed the trigger level in its direction (22 R568). Reset: false. -/
  crossed : Bool := false
  /-- Records of the trace area, oldest first, in MRAM (22 R569). Reset: none (DESIGN CHOICE, log 4). -/
  records : List TraceRec := []
  /-- Next record number, in MRAM (23 R598). Reset: 0 (DESIGN CHOICE, log 4). -/
  nextNumber : BitVec 16 := 0
  deriving DecidableEq, Repr

/-- The memories, ECC and their counters (22 R556 to R562, R571). -/
structure Mem where
  /-- SRAM bytes that differ from 0, by address, rising (22 R556). Reset: none listed. -/
  sram : List Host.Cell := []
  /-- MRAM bytes that differ from 0, by address, rising (22 R558). Reset: none listed. -/
  mram : List Host.Cell := []
  /-- Words written poisoned, by word address, in the order of their loss (22 R562). Reset: none. -/
  poisoned : List Nat := []
  /-- SRAM rows with a corrected error at the last scrub pass (22 R557). Reset: none. -/
  rowMarks : List Nat := []
  /-- Spare SRAM rows free, 256 (22 R557, R573). Reset: 256. -/
  spareSram : Nat := 256
  /-- Spare MRAM rows free on dies 0 and 1, 1,024 each, 2,048 in all (22 R558, R573). Reset: 1,024 each. -/
  spareMram : Vector Nat 2 := Vector.replicate 2 1024
  /-- SRAM corrected words, 32 bits (22 R571). Reset: 0. -/
  sramCorr : Counter := {}
  /-- SRAM uncorrectable reads, 16 bits. Reset: 0. -/
  sramUnc : Counter := {}
  /-- MRAM corrected words, 32 bits. Reset: 0. -/
  mramCorr : Counter := {}
  /-- MRAM uncorrectable reads, 16 bits. Reset: 0. -/
  mramUnc : Counter := {}
  /-- Rows spared, both memories, 16 bits. Reset: 0. -/
  spared : Counter := {}
  /-- Journal entries lost, 32 bits. Reset: 0. -/
  journalLost : Counter := {}
  /-- Register group latches of 24 R601. Reset: none. -/
  latches : List GroupLatch := []
  deriving DecidableEq, Repr

end Sys2Proof.Machine
end

