-- ==== Sys2Proof/Machine/StHearth.lean ====
section
/-! DEFINITION. State of the Hearths: voting, resynchronisation, split and debug (spec file 16_hearths, 24 R605). -/
namespace Sys2Proof.Machine

/-- MODE of HRT_STAT (16 R449). -/
inductive HearthMode where
  | triplex | duplex | singleVoter | split | resync | halted
  deriving DecidableEq, Repr

/-- LAST_CLASS of HRT_STAT (16 R449). -/
inductive DisClass where
  | none' | transient | core | lane | trivet | latent | undecidable
  deriving DecidableEq, Repr

/-- The voted fields of one transaction as one lane holds them (16 R428). -/
structure LaneEntry where
  addr : BitVec 32
  data : BitVec 64
  enables : BitVec 8
  /-- 0 fetch, 1 read, 2 write, 3 atomic. -/
  kind : BitVec 2
  /-- Privilege, cacheability, ordering. -/
  attr : BitVec 3
  seq : BitVec 8
  /-- Every byte of the entry has good parity. -/
  parityOk : Bool
  deriving DecidableEq, Repr

/-- One logged write of REPLAY mode (16 R447): where it goes, and its value. -/
structure ReplayItem where
  target : BitVec 32
  value : BitVec 32
  deriving DecidableEq, Repr

/-- An asynchronous input of a Hearth (16 R427): a message of the event router, or one on the Damper cross-link. -/
inductive HearthInput where
  | message (m : EventMsg)
  | crossLink (usec : BitVec 32)
  deriving DecidableEq, Repr

/-- An asynchronous input bound to a transaction number, and the cores that have taken it (16 R427). -/
structure BoundInput where
  number : Nat
  input : HearthInput
  taken : Vector Bool 3 := Vector.replicate 3 false
  deriving DecidableEq, Repr

/-- Resynchronisation in progress (16 R433). -/
structure Resync where
  core : Fin 3
  source : Fin 3
  startedAt : Nat
  latent : Bool
  deriving DecidableEq, Repr

/-- Why a split or a rejoin runs (16 R442, R443). -/
structure SplitRun where
  startedAt : Nat
  /-- Mode word of HEARTH_SPLIT: the test given to cores B and C, if any (23 R597). -/
  test : Bool
  /-- It comes from a debug halt. -/
  debug : Bool
  /-- A rejoin whose first copy did not agree (16 R443). -/
  second : Bool := false
  deriving DecidableEq, Repr

/-- One Hearth (16). -/
structure Hearth where
  /-- MODE of HRT_STAT. Reset: 0x0 TRIPLEX (16 R449). -/
  mode : HearthMode := .triplex
  /-- DEBUG_SPLIT. Reset: 0. -/
  debugSplit : Bool := false
  /-- CORE_OK of A, B and C. Reset: 0b111. -/
  coreOk : Vector Bool 3 := Vector.replicate 3 true
  /-- TRIVET_X_OK and TRIVET_Y_OK. Reset: 1, 1. -/
  trivetOk : Vector Bool 2 := Vector.replicate 2 true
  /-- LANE_OK of A, B and C. Reset: 0b111. -/
  laneOk : Vector Bool 3 := Vector.replicate 3 true
  /-- SPARE_USED of lanes A, B and C. Reset: 0b000. -/
  spareUsed : Vector Bool 3 := Vector.replicate 3 false
  /-- Row of each lane that the spare row replaces (16 R436). -/
  sparedRow : Vector (Option (Fin 4)) 3 := Vector.replicate 3 none
  /-- LAST_CORE. Reset: 0b00. -/
  lastCore : Fin 3 := 0
  /-- REPLAY_SEL. Reset: 0. -/
  replaySel : Bool := false
  /-- LAST_CLASS. Reset: 0x0. -/
  lastClass : DisClass := .none'
  /-- LAST_SEQ. Reset: 0x00. -/
  lastSeq : BitVec 8 := 0
  /-- HRT_CLASS_TIME (24 R605). Reset: 0. -/
  classTime : Stamp := 0
  /-- Retirement time of each core, 0 when not retired (16 R452). Reset: 0. -/
  retiredAt : Vector Stamp 3 := Vector.replicate 3 0
  /-- Tick of the start of the last resynchronisation for a core fault (16 R434). Reset: none. -/
  resyncAt : Vector (Option Nat) 3 := Vector.replicate 3 none
  /-- Consecutive digest points at which the core diverged latently (16 R434). Reset: 0. -/
  latentRun : Vector Nat 3 := Vector.replicate 3 0
  /-- Number of the transaction to be voted next, modulo 256 on the lanes (16 R426). Reset: 0. -/
  txn : Nat := 0
  /-- The lanes of the skew buffer, oldest entry first, at most 4 rows each (16 R428; 01 R37). Reset: empty. -/
  lanes : Vector (List LaneEntry) 3 := Vector.replicate 3 []
  /-- Number of transactions that each core has issued, which is the number of its next one (16 R426). Reset: 0. -/
  issued : Vector Nat 3 := Vector.replicate 3 0
  /-- The core has issued a read and waits for its data (16 R426, R427). Reset: false. -/
  waits : Vector Bool 3 := Vector.replicate 3 false
  /-- Number and data of the last voted read (16 R427). Reset: none. -/
  readBack : Option (Nat × BitVec 64) := none
  /-- Asynchronous inputs that not every core has taken, oldest first (16 R427). Reset: none. -/
  bound : List BoundInput := []
  /-- The lane entries of a disagreement that survived its retry and awaits its class, and whether the results of Trivet-X
  and Trivet-Y differ from the majority (16 R430). Reset: none. -/
  disagreed : Option (Vector LaneEntry 3 × Vector Bool 2) := none
  resync : Option Resync := none
  /-- A split or a rejoin in progress (16 R442, R443). Reset: none. -/
  splitting : Option SplitRun := none
  rejoining : Option SplitRun := none
  /-- Cores B and C of the split Hearth run a built-in test (16 R442). Reset: false. -/
  testing : Bool := false
  /-- The cores are halted by debug (16 R445 to R448). Reset: false. -/
  debugHalted : Bool := false
  /-- REPLAY log, oldest first, at most 256 (16 R448). Reset: none. -/
  log : List ReplayItem := []
  /-- HEARTH_SPLIT or HEARTH_REJOIN that waits for its completion (23 R597). Reset: none. -/
  waitsFor : Option (Transport × BitVec 16) := none
  /-- Ticks of the last digest point and of the last online Trivet test (16 R431, R439). Reset: none. -/
  digestAt : Option Nat := none
  testAt : Option Nat := none
  /-- t_brake of a brake request of R438 runs on these machines since this tick (16 R438). Reset: none. -/
  brakeWait : Option Nat := none
  /-- NEXT_TEST (24 R605). Reset: 0. -/
  nextTest : Nat := 0
  masked : Counter := {}
  transients : Counter := {}
  spared : Counter := {}
  latents : Counter := {}
  splits : Counter := {}
  deriving DecidableEq, Repr

end Sys2Proof.Machine
end

