-- ==== Sys2Proof/Machine/StMotion.lean ====
section
/-! DEFINITION. State of the profile channels, the auxiliary axes and their drive die, the gate links, the DC link,
the stops and the degraded modes (spec files 09 to 12). -/
namespace Sys2Proof.Machine

/-- A segment as the queue holds it: its end state and duration in µs (09 R240, R241). -/
structure Segment where
  duration : Nat
  /-- End position, absolute, once the start is known; relative when `rel` (09 R240). -/
  endPos : BitVec 32
  endVel : Int
  rel : Bool
  latchStop : Bool
  deriving DecidableEq, Repr

/-- A segment in force: start state and tick, with its end (09 R241). Positions carry a 32-bit fraction (09 R238). -/
structure RunSeg where
  startAt : Nat
  /-- Start position in 1/2^32 unit, modulo 2^64. -/
  p0 : BitVec 64
  /-- Start and end velocity in 1/65,536 unit per second. -/
  v0 : Int
  durTicks : Nat
  p1 : BitVec 64
  v1 : Int
  latchStop : Bool := false
  /-- It is a stop segment, and of a fault stop. -/
  stop : Bool := false
  fault : Bool := false
  deriving DecidableEq, Repr

/-- State of a profile channel (09 R245). -/
inductive ChanState where
  | idle | moving | stopping | off
  deriving DecidableEq, Repr

/-- A request waiting for the commit point of a channel (09 R249, R250; 23 R587). -/
inductive ChanReq where
  | append (segs : List Segment)
  | blend (segs : List Segment)
  | stop
  | faultStop
  deriving DecidableEq, Repr

/-- One profile channel (09 R237 to R254, R261). -/
structure Channel09 where
  /-- Reset: 3 OFF (09 R263). -/
  state : ChanState := .off
  /-- Segments after the running one. -/
  queue : List Segment := []
  seg : Option RunSeg := none
  /-- Segments ended within the last 1 ms, newest first, with their end tick (09 R252). -/
  kept : List (Nat × RunSeg) := []
  /-- Position reference with its 32-bit fraction, at the instant last evaluated. Reset: 0. -/
  pos : BitVec 64 := 0
  /-- Reference velocity, 1/65,536 unit per second. Reset: 0. -/
  vel : Int := 0
  /-- Reference acceleration, 1/65,536 unit per second squared, exact as a fraction (08 R216, 09 R241). Reset: 0. -/
  acc : Int × Int := (0, 1)
  /-- Reference latched for the consuming Stove: position, velocity, acceleration (09 R239). -/
  latched : BitVec 64 × Int × (Int × Int) := (0, 0, (0, 1))
  /-- The reference for the next boundary is ready (01 R38). -/
  refReady : Bool := false
  segmentsDone : BitVec 32 := 0
  /-- Requests sealed for the next commit point, with the command that waits (09 R250). -/
  reqs : List (ChanReq × Option (Transport × BitVec 16)) := []
  /-- A latch stop is due (09 R253). -/
  latchStopDue : Bool := false
  recStamp : Stamp := 0
  recPos : BitVec 32 := 0
  recApplied : BitVec 32 := 0
  recValid : Bool := false
  underruns : Counter := {}
  refused : Counter := {}
  faultStops : Counter := {}
  deriving DecidableEq, Repr

/-- Axis state (09 R263 0x5002). -/
inductive AxisState where
  | disabled | driven | off | short
  deriving DecidableEq, Repr

/-- A microstep or setting on its way to the die, with its apply tick (09 R257, 11 R295). -/
inductive AuxItem where
  | step (axis : Fin 6) (forward : Bool) (applyAt : Nat)
  | reference (axis : Fin 6) (iSet : Nat) (applyAt : Nat)
  | legMode (axis : Fin 6) (mode : AxisState) (applyAt : Nat)
  | setting (axis : Fin 6) (values : List Nat)
  | hysteresis (h tdw : Nat)
  deriving DecidableEq, Repr

/-- Chopper phase of a leg (11 R313 PHASE, with the held-back reference change of 09 R258). -/
inductive Phase where
  | none' | on | fast | slow
  deriving DecidableEq, Repr

/-- Switch state of a leg (11 R313 SW_STATE). -/
inductive LegSw where
  | bothOff | lowOn | highOn
  deriving DecidableEq, Repr

/-- Progress of a bootstrap trip (11 R303). -/
inductive BootTrip where
  | none' | softOff | refresh | wait
  deriving DecidableEq, Repr

/-- One leg of the auxiliary drive die (11 R297 to R313). -/
structure Leg where
  latched : Bool := false
  scTrip : Bool := false
  scHard : Bool := false
  uvLow : Bool := false
  uvBoot : Bool := false
  hsFault : Bool := false
  coincident : Bool := false
  refresh : Bool := false
  sw : LegSw := .bothOff
  phase : Phase := .none'
  /-- Tick at which the phase began. -/
  phaseAt : Nat := 0
  /-- Commanded switch that waits for the handshake of R297, since the other's turn-off. -/
  wanted : LegSw := .bothOff
  turnOffAt : Nat := 0
  /-- A turn-on waits for the handshake since this tick (11 R298). -/
  waiting : Bool := false
  blankAt : Nat := 0
  /-- Signed reference of the coil in 1/256 of I_fs: the sign of 09 R256 and the magnitude of 11 R305. -/
  ref : Int := 0
  /-- A reference change waits for the first 1 µs of an off phase (09 R258) or for step 4 of R303 (11 R304). -/
  refHeld : Option Int := none
  boot : BootTrip := .none'
  bootAt : Nat := 0
  /-- Low-side supply and bootstrap above their thresholds. Reset: true, false (DESIGN CHOICE, log 3). -/
  lowOk : Bool := true
  bootOk : Bool := false
  /-- Turned off by a soft turn-off now. -/
  softOff : Bool := false
  deriving DecidableEq, Repr

/-- One auxiliary axis (09 R255 to R261, 11 R308 to R314). -/
structure Axis where
  enabled : Bool := false
  state : AxisState := .disabled
  /-- Applied microstep count, 32 bits (09 R257, R261). Reset: 0. -/
  applied : BitVec 32 := 0
  /-- The applied count as it stood before each of the last eight microsteps, with the tick of the microstep, oldest
  first (09 R252). Reset: none. -/
  history : List (Nat × BitVec 32) := []
  /-- Tick of the last microstep applied, and the microsteps applied in that tick (00 R11). Reset: none. -/
  stepped : Option (Nat × Int) := none
  /-- Microstep index μ, six bits (09 R256). Reset: 0. -/
  mu : BitVec 6 := 0
  /-- Set current that the die uses, in 1/256 of I_fs (09 R260, 11 R295). Reset: 0. -/
  iSet : Nat := 0
  /-- The enable has completed and the first entry into IDLE has not been taken (09 R260). Reset: false. -/
  fresh : Bool := false
  /-- IDLE since this tick; the standstill action has been taken (09 R260). -/
  idleAt : Option Nat := none
  standstill : Bool := false
  /-- The leg mode of the standstill action, to be sent at the next commit point (09 R260, 11 R295). Reset: none. -/
  modeDue : Option AxisState := none
  /-- I_hold, t_idle and the standstill action as of the last entry into IDLE (09 R263). -/
  idleSet : Nat × Nat × Nat := (64, 1000, 0)
  /-- Microsteps of an evaluation that was not complete in time (09 R239). -/
  heldSteps : List AuxItem := []
  /-- Enable running since this tick with its command (11 R302). -/
  enabling : Option (Nat × Option (Transport × BitVec 16)) := none
  /-- A disable waits for the next commit point of the axis grid (23 R587). -/
  disableReq : Option (Option (Transport × BitVec 16)) := none
  /-- Soft turn-off sequence: legs joined with the tick of joining (11 R309). -/
  softLegs : List (Fin 12 × Nat) := []
  fullSink : Bool := false
  /-- The first report of a short circuit of this axis has raised its source (11 R310). -/
  scRaised : Bool := false
  /-- Settings as the die holds them: nine values of 0x5010, t_off, f, coil B reversed, I_run, I_hold (11 R295). -/
  dieSet : List Nat := []
  disables : Counter := {}
  trips : Counter := {}
  bootA : Counter := {}
  bootB : Counter := {}
  handshakes : Counter := {}
  deriving DecidableEq, Repr

/-- A report of the auxiliary die that waits for a FAULT frame (11 R292, R310). -/
structure AuxReport where
  leg : Option (Fin 12)
  axis : Fin 6
  /-- 0 trip, 1 hard trip, 2 bootstrap counted, 3 bootstrap not recovered, 4 not charged, 5 low-side UVLO,
  6 handshake, 7 low-side UVLO on every leg. -/
  kind : Fin 8
  coincident : Bool
  /-- Detection tick (11 R310). -/
  foundAt : Nat := 0
  deriving DecidableEq, Repr

/-- A frame of the auxiliary command link: 80 data bits, the sequence number and the CRC-8 (11 R292). -/
structure AuxFrame where
  data : BitVec 80
  seq : BitVec 4
  crc : BitVec 8
  deriving DecidableEq, Repr

/-- The auxiliary command link and the die's shared state (11 R292 to R295, R310, R314). -/
structure AuxLink where
  /-- Downlink items that wait for a slot, oldest first. -/
  outbox : List AuxItem := []
  /-- Downlink sequence number, 4 bits (11 R292). Reset: 0. -/
  seq : BitVec 4 := 0
  /-- Downlink frames that are not yet echoed: data bits, sequence, tick of the last send, resends (11 R293). -/
  unechoed : List (BitVec 80 × BitVec 4 × Nat × Nat) := []
  /-- Frames due to be sent again, with the resends made. -/
  again : List (BitVec 80 × BitVec 4 × Nat) := []
  /-- Tick of the last slot. Reset: none. -/
  slotAt : Option Nat := none
  /-- The frames on the line in this slot, and the report that the uplink frame carries (11 R292). Reset: none. -/
  downLine : Option AuxFrame := none
  upLine : Option (AuxFrame × Option AuxReport) := none
  /-- Sequence number of the uplink, 4 bits (11 R292). Reset: 0. -/
  upSeq : BitVec 4 := 0
  /-- Last good downlink sequence number at the die (11 R293). Reset: none. -/
  lastGood : Option (BitVec 4) := none
  /-- Sequence numbers of the last eight frames the die took, newest first. Reset: none. -/
  taken : List (BitVec 4) := []
  /-- Items at the die that wait for their apply time. -/
  dieQueue : List AuxItem := []
  badDown : Nat := 0
  goodDown : Nat := 0
  badUp : Nat := 0
  linkLost : Bool := false
  reports : List AuxReport := []
  /-- h and t_dw as the die holds them (18 R487). -/
  hyst : Option (Nat × Nat) := none
  errors : Counter := {}
  /-- Trip record 0x0421: first leg, second leg, difference, VALID, COINCIDENT (11 R310). Reset: 0xFF, 0xFF, 0, 0, 0. -/
  recFirst : Nat := 0xFF
  recSecond : Nat := 0xFF
  recDiff : Nat := 0
  recValid : Bool := false
  recCoincident : Bool := false
  /-- Detection tick of the first trip of the record (11 R310). -/
  recAt : Nat := 0
  /-- The trip that later ones can be coincident with: its detection tick and leg (11 R310). Reset: none. -/
  burst : Option (Nat × Fin 12) := none
  deriving DecidableEq, Repr

/-- CODE of a downlink frame (10 R268). -/
inductive FrameCode where
  | run | rep | trip | off | standby | config
  deriving DecidableEq, Repr

/-- A row of the uplink checks whose condition was met at the last checked frame (10 R283). -/
structure UplinkMet where
  dsat : Bool := false
  brkDsat : Bool := false
  gs : Bool := false
  hs : Bool := false
  latched : Bool := false
  uv : Bool := false
  gen : Bool := false
  deriving DecidableEq, Repr

/-- One gate link (10 R264 to R285, 24 R608). -/
structure GateLink where
  /-- SEQ of the last frame sent, 8 bits (10 R266). Reset: 0. -/
  seq : BitVec 8 := 0
  /-- Last downlink frame launched (24 R608). Reset: 0. -/
  down : BitVec 64 := 0
  code : FrameCode := .run
  /-- No frame has been launched yet: CODE and SEQ read 0. Reset: true. -/
  fresh : Bool := true
  /-- Switch field and BRK of the last RUN-type frame sent, for repeats and checks (01 R39). -/
  sw : BitVec 24 := 0
  brk : Bool := false
  /-- Line busy until this tick (10 R265). Reset: 0. -/
  busyUntil : Nat := 0
  /-- H0's shutdown line (15 R379). Reset: not set. -/
  shutdown : Bool := false
  /-- The line has set while RUN or REPEAT frames were sent: an OFF frame is due at the next boundary (15 R379). -/
  offDue : Bool := false
  /-- Frames sent while not enabled, modulo 4, and the next CONFIG item 0 to 4 (10 R280). -/
  frameMod : Nat := 0
  configItem : Nat := 0
  /-- Last good uplink frame (10 R275, 24 R608). Reset: 0. -/
  up : BitVec 64 := 0
  upOk : Bool := false
  /-- Bad or missing uplinks in a row, 0 to 3 (10 R282). Reset: 0. -/
  missRun : Nat := 0
  /-- Downlink frames whose uplink is awaited, oldest first: SEQ, code, end of the frame (10 R275, R282). -/
  awaits : List (BitVec 8 × FrameCode × Nat) := []
  /-- Last value of items 0x00 to 0x32 (10 R276). Reset: 0. -/
  items : Vector (BitVec 16) 51 := Vector.replicate 51 0
  /-- Item 0x32 was reported since the items last changed (10 R281). Reset: false. -/
  checkReported : Bool := false
  /-- The five configuration values as last sent, for the change of 10 R281. Reset: none sent. -/
  cfgItems : List Nat := []
  /-- Switch fields with the tick from which the module takes each to be in force, newest first (10 R282). -/
  changeAt : List (Nat × BitVec 24) := []
  /-- The switches whose GS differed at the last frame that checked them (10 R282). Reset: none. -/
  gsDiffer : BitVec 24 := 0
  /-- The line code's running disparity at the tick `busyUntil`, true when positive (10 R264). Reset: negative. -/
  disparity : Bool := false
  /-- GEN differs since this tick (10 R282). -/
  genAt : Option Nat := none
  met : UplinkMet := {}
  bad : Counter := {}
  dsats : Counter := {}
  gateFaults : Counter := {}
  deriving DecidableEq, Repr

/-- Stop kind (12 R328). -/
inductive StopKind where
  | coast | ramp | rampBrake | brakeNow
  deriving DecidableEq, Repr

/-- Phase of a stop (12 R337 STOP_PHASE). -/
inductive StopPhase where
  | none' | speed | zero | brake | torqueRamp | offWait
  deriving DecidableEq, Repr

/-- A stop in progress (12 R330 to R332, R635). -/
structure Stop where
  phase : StopPhase
  kind : StopKind
  fault : Bool
  /-- Started by QUICK_STOP: the machine stays enabled at STOPPED (12 R635). -/
  quick : Bool
  /-- Tick and |speed| at the start (12 R330). -/
  startedAt : Nat
  speed0 : Nat
  /-- |speed| ≤ n_zero since this tick (12 R330). -/
  zeroAt : Option Nat := none
  /-- Tick of the SBC request (12 R330). -/
  brakeAt : Option Nat := none
  /-- Torque reference held or ramped, 1/1024 (12 R330). -/
  torque : Int := 0
  /-- Tick at which the torque ramp began. -/
  rampAt : Nat := 0
  deriving DecidableEq, Repr

/-- A stop request that waits for the machine's commit point (23 R584, 12 R332). -/
structure StopReq where
  fault : Bool
  /-- It comes from QUICK_STOP. -/
  quick : Bool
  /-- It comes from DISABLE: the machine is disabled at STOPPED. -/
  kind : Option StopKind := none
  cmd : Option (Transport × BitVec 16) := none
  deriving DecidableEq, Repr

/-- The enable in progress (23 R586, 12 R333). -/
structure Enabling where
  cmd : Option (Transport × BitVec 16)
  startedAt : Nat
  /-- GEN has been seen high (15 R388). -/
  genSeen : Bool := false
  /-- The soft start was applied at this tick (08 R227). -/
  softAt : Option Nat := none
  /-- Boundaries with the torque within H_T of T_pre (12 R333). -/
  inBand : Nat := 0
  /-- Brake release requested at this tick (12 R333). -/
  releaseAt : Option Nat := none
  /-- The speed-ramp target is released (12 R333 step 4). -/
  released : Bool := false
  /-- First source raised that ended the start: number and cause (23 R586). -/
  firstSource : Option (Nat × Nat) := none
  /-- The end of the enable, which ENABLE_COMPLETE sends: status and data (23 R586). -/
  result : Option (BitVec 16 × List Byte) := none
  deriving DecidableEq, Repr

/-- Degraded mode (12 R334, R337). -/
inductive Degraded where
  | none' | bridge | set | sensor | hold | render
  deriving DecidableEq, Repr

/-- DC link, chopper, stops and degraded modes of one machine (12). -/
structure Drive where
  /-- The machine is enabled (00 R6). Reset: false. -/
  enabled : Bool := false
  enabling : Option Enabling := none
  stop : Option Stop := none
  reqs : List StopReq := []
  /-- Torque and flux reference committed (08 R217). Reset: 0; 1,024. -/
  tRef : Int := 0
  psiRef : Int := 1024
  /-- v of the last strobe, 1/1024 of rated (12 R317). Reset: 0. -/
  v : Int := 0
  ovWarn : Bool := false
  uvWarn : Bool := false
  ovRun : Nat := 0
  uvRun : Nat := 0
  /-- Chopper bit (12 R321). Reset: 0. -/
  brk : Bool := false
  /-- Launches since the last change of the bit; none before any change (12 R321). -/
  brkLaunches : Option Nat := none
  /-- Tick at which the board applies the last change of the bit (12 R323 cause 1). -/
  brkApplyAt : Nat := 0
  /-- Launches with BRK on in this sample period (12 R322). -/
  brkOn : Nat := 0
  /-- Energy of the brake resistor in mJ (12 R322). Reset: E_max / 2 = 500,000 J. -/
  energy : Nat := 500000000
  /-- Chopper fault causes 0 to 4 present (12 R323). Reset: cause 4 is found at the first test. -/
  chop : Vector Bool 5 := Vector.replicate 5 false
  /-- v at or above OV_WARN with the bit on since this tick (12 R323 cause 2). -/
  effAt : Option Nat := none
  /-- BRK_GS mismatches running (12 R323 cause 1). -/
  gsRun : Nat := 0
  /-- REGEN_REFUSED (12 R323). Reset: 0. -/
  regenRefused : Bool := false
  /-- Held torque of the last SBC request, 1/1024 (12 R333). Reset: 0. -/
  heldTorque : Int := 0
  /-- The lasting degraded mode: bridge, set or sensor lost (12 R334). Reset: none. -/
  degraded : Degraded := .none'
  /-- Command HOLD and render run (12 R334). Reset: false. -/
  inHold : Bool := false
  inRender : Bool := false
  lostBridge : Nat := 0
  lostSet : Bool := false
  /-- Tick of the last command that restarts the watchdog (12 R335). -/
  lastCmd : Nat := 0
  /-- Command HOLD since this tick (12 R334). -/
  holdAt : Nat := 0
  /-- Tension condition of render, entry or exit, met since this tick (12 R334). -/
  renderAt : Option Nat := none
  /-- Render overspeed since this tick (12 R336). -/
  overspeedAt : Option Nat := none
  ovWarns : Counter := {}
  chopFaults : Counter := {}
  degradedEntries : Counter := {}
  brakeStops : Counter := {}
  deriving DecidableEq, Repr

end Sys2Proof.Machine
end

