-- ==== Sys2Proof/Machine/StSafe.lean ====
section
/-! DEFINITION. State of the safety functions and the safety connections (spec file 15_safety, 24 R609, R636).
A `SafeView` is what one channel holds of its own: view 0 is the Damper, view 1 is Hearth 0 (15 R378). -/
namespace Sys2Proof.Machine

/-- One safe input in the view of one channel (15 R386, R401, R402). Level true is high. -/
structure SafeInput where
  /-- Level of A and B at the input stage. Reset: low. -/
  levelA : Bool := false
  levelB : Bool := false
  /-- The filter of the channel level runs since this tick. Reset: none. -/
  filterA : Option Nat := none
  filterB : Option Nat := none
  /-- Accepted level: the channel is on. Reset: off (15 R401). -/
  accA : Bool := false
  accB : Bool := false
  /-- One channel is accepted on alone since this tick: t_disc runs. Reset: none. -/
  discAt : Option Nat := none
  /-- Discrepancy fault. Reset: false. -/
  disc : Bool := false
  /-- The input is on since this tick (for the acknowledge input, 15 R390). Reset: none, off. -/
  onAt : Option Nat := none
  deriving DecidableEq, Repr

/-- One safety connection in the view of one channel (15 R411 to R413). -/
structure SafeConn where
  /-- Last accepted SEQ and TEXP, and the whole PDU. Reset: none accepted. -/
  lastSeq : Option (BitVec 16) := none
  lastTexp : BitVec 32 := 0
  lastPdu : List Byte := []
  /-- Tick of the last accepted PDU: the watchdog runs since then (15 R413). Reset: none. -/
  lastAt : Option Nat := none
  /-- Ticks of rejections of the last second (15 R413). Reset: none. -/
  rejects : List Nat := []
  /-- The connection is lost (15 R413). Reset: false. -/
  lost : Bool := false
  /-- Tick of the first accepted PDU since the loss (15 R413). Reset: none. -/
  okAt : Option Nat := none
  /-- Payload words of M0 to M3 last accepted (15 R409). Reset: none, 0. -/
  words : Vector (BitVec 16) 4 := Vector.replicate 4 0
  deriving DecidableEq, Repr

/-- SS1 running on one machine in the view of one channel (15 R391). -/
structure Ss1 where
  startedAt : Nat
  /-- Speed magnitude at the demand, in 1/256 rpm. -/
  n0 : Nat
  /-- Time-controlled, whatever the form parameter says (15 R400). -/
  timed : Bool
  /-- SBC fell at this tick and STO falls t_sbc_sto later. -/
  sbcAt : Option Nat := none
  deriving DecidableEq, Repr

/-- The safety functions of one machine in the view of one channel (15 R383 to R395, R405). -/
structure SafeFn where
  /-- STO is in force by a reaction of this chapter: a violation or the end of SS1, not by a demand. -/
  stoReaction : Bool := false
  /-- SBC is in force by a reaction. -/
  sbcReaction : Bool := false
  /-- The demands of STO, SS1, SOS, SLS, SDI and SBC as last evaluated (15 R405). Reset: none. -/
  was : Vector Bool 6 := Vector.replicate 6 false
  ss1 : Option Ss1 := none
  /-- SOS demanded since this tick. -/
  sosAt : Option Nat := none
  /-- Position captured at the start of the monitoring, in the counts of this channel. -/
  sosPos : Option Int := none
  /-- Limit monitored, 0 to 3 (15 R420 SLS_SEL). Reset: 0. -/
  slsSel : Fin 4 := 0
  /-- A lower limit selected that waits for t_reach since this tick (15 R393). -/
  slsNext : Option (Fin 4 × Nat) := none
  /-- Position captured at the demand of SDI positive only and negative only (15 R395). -/
  sdiPos : Option Int := none
  sdiNeg : Option Int := none
  /-- |n| is below n_ssm in this channel (15 R394). Reset: false. -/
  ssm : Bool := false
  /-- A violation of SS1, SOS, SLS and SDI is present (15 R405: raised once). -/
  violated : Vector Bool 4 := Vector.replicate 4 false
  deriving DecidableEq, Repr

/-- One channel's own view (15 R378). -/
structure SafeView where
  /-- SI0 to SI7 and the STO input (8). -/
  inputs : Vector SafeInput 9 := Vector.replicate 9 {}
  conns : Vector SafeConn 8 := Vector.replicate 8 {}
  fns : Vector SafeFn 4 := Vector.replicate 4 {}
  deriving DecidableEq, Repr

/-- One SP port (15 R399). -/
structure SpPort where
  levelA : Bool := false
  levelB : Bool := false
  /-- Position, the edge count (15 R399). Reset: 0. -/
  pos : Int := 0
  /-- Edges of the eight sub-gates, newest first. Reset: 0. -/
  gates : Vector Nat 8 := Vector.replicate 8 0
  /-- Edges of the sub-gate in progress. Reset: 0. -/
  current : Nat := 0
  /-- Direction of the last edge, true positive. Reset: true. -/
  positive : Bool := true
  /-- SP_FAULT of the port. Reset: false. -/
  fault : Bool := false
  /-- Tick of the last sub-gate end (15 R399). Reset: none. -/
  gateAt : Option Nat := none
  /-- |n_H0 − n_D| has been beyond its limit since this tick (15 R400). -/
  xchkAt : Option Nat := none
  deriving DecidableEq, Repr

/-- One safe output (15 R396 to R398, R403). -/
structure SafeOut where
  /-- Channels A and B on. Reset: off. -/
  a : Bool := false
  b : Bool := false
  /-- Balls as last read back. Reset: off. -/
  readA : Bool := false
  readB : Bool := false
  /-- Ticks of the last tests of channels A and B (15 R403). Reset: none. -/
  testA : Option Nat := none
  testB : Option Nat := none
  /-- OUT_FAULT of the output. Reset: false. -/
  fault : Bool := false
  /-- The output changed and its feedback is awaited since this tick (15 R398). -/
  feedbackAt : Option Nat := none
  deriving DecidableEq, Repr

/-- Counters and sending of one safety connection (15 R410, R413, R421). -/
structure SafeLink where
  /-- SEQ of the last PDU sent. Reset: 0. -/
  seq : BitVec 16 := 0
  sentAt : Option Nat := none
  /-- Status payload last sent, for a send on change (15 R410). -/
  sentBits : List Byte := []
  /-- CONN_FAULT latched (15 R413). Reset: false. -/
  fault : Bool := false
  /-- PDUs in a row that one channel accepted and the other rejected (15 R413). -/
  disagreeRun : Nat := 0
  rejected : Counter := {}
  gaps : Counter := {}
  losses : Counter := {}
  disagreements : Counter := {}
  deriving DecidableEq, Repr

/-- Safety of the module (15). -/
structure Safety where
  /-- The Damper is supplied and has started (02 R46, R61). Reset: true (DESIGN CHOICE, log 3). -/
  damperUp : Bool := true
  /-- Tick of the Damper's last start, from which its microsecond counter counts, or of its last power-on while it is
  not up (02 R46; 15 R381). Reset: 0. -/
  damperAt : Nat := 0
  damper : SafeView := {}
  h0 : SafeView := {}
  /-- The eight balls of GEN0 to GEN3 driven high, A then B (15 R387, R388). Reset: low. -/
  genA : Vector Bool 4 := Vector.replicate 4 false
  genB : Vector Bool 4 := Vector.replicate 4 false
  /-- H0 requests GEN of the machine since this tick (15 R388). Reset: none. -/
  genReq : Vector (Option Nat) 4 := Vector.replicate 4 none
  /-- OUT_FAULT of the GEN of each machine (15 R404). Reset: false. -/
  genFault : Vector Bool 4 := Vector.replicate 4 false
  /-- RESTART_REQ (15 R389, R420). Reset: 1. -/
  restartReq : Vector Bool 4 := Vector.replicate 4 true
  /-- XCHK_FAULT (15 R400). Reset: 0. -/
  xchk : Vector Bool 4 := Vector.replicate 4 false
  /-- H0 requests STO, SBC and the release of the brake of the machine over the cross-link (15 R380, R397). Reset: false. -/
  stoReq : Vector Bool 4 := Vector.replicate 4 false
  sbcReq : Vector Bool 4 := Vector.replicate 4 false
  releaseReq : Vector Bool 4 := Vector.replicate 4 false
  outs : Vector SafeOut 4 := Vector.replicate 4 {}
  /-- Failed internal test holds the input off: passes still needed, and none when good (15 R402). -/
  testHold : Vector (Option Nat) 9 := Vector.replicate 9 none
  /-- IN_FAULT latched per input until an acknowledgement (15 R401, R402). Reset: false. -/
  inFault : Vector Bool 9 := Vector.replicate 9 false
  ports : Vector SpPort 2 := Vector.replicate 2 {}
  links : Vector SafeLink 8 := Vector.replicate 8 {}
  /-- Heartbeat counter last sent by H0 and by the Damper (15 R381). Reset: 0. -/
  hbH0 : BitVec 4 := 0
  hbDamper : BitVec 4 := 0
  /-- Ticks of the heartbeats last sent (15 R381). Reset: none. -/
  hbH0At : Option Nat := none
  hbDamperAt : Option Nat := none
  /-- Tick of H0's last test of speed and position (15 R400). Reset: none. -/
  h0CheckAt : Option Nat := none
  /-- Ticks of the last test of each input path (15 R402). Reset: none. -/
  testAt : Vector (Option Nat) 9 := Vector.replicate 9 none
  /-- Counter last received by the Damper, and the tick (15 R381). Reset: none; 0. -/
  hbSeen : Option (BitVec 4) := none
  hbSeenAt : Nat := 0
  /-- Heartbeats have been correct since this tick (15 R381). Reset: none. -/
  hbGoodAt : Option Nat := none
  /-- State code of the last heartbeat received, 24 R636. Reset: 0x00. -/
  h0Code : BitVec 8 := 0
  hbLost : Bool := false
  /-- Tick of the last Damper heartbeat that H0 received, and the microsecond count it carried (15 R381, R412). -/
  dampSeenAt : Nat := 0
  dampSeenUs : BitVec 32 := 0
  /-- H0 has found the Damper heartbeat lost (15 R381). Reset: false. -/
  dampLost : Bool := false
  oscFault : Bool := false
  /-- Consecutive good oscillator windows (15 R382). Reset: 0. -/
  oscGood : Nat := 0
  /-- Last oscillator window count (24 R609 DMP_OSC). Reset: 0. -/
  oscCount : BitVec 16 := 0
  /-- CFG_FAULT (15 R417, R420). Reset: 1. -/
  cfgFault : Bool := true
  /-- The Damper holds a loaded safety set (15 R418). Reset: false. -/
  loaded : Bool := false
  /-- CRC of the set as H0 and as the Damper computed it last (15 R417). Reset: 0. -/
  crcH0 : BitVec 32 := 0
  crcDamper : BitVec 32 := 0
  /-- The loaded values of the safety set: the Damper's own registers, in the canonical form of the parameters. -/
  set : List (Nat × Nat) := []
  /-- The Damper's self-test has passed (24 R609 DMP_LINK). Reset: true with `damperUp` (DESIGN CHOICE, log 3). -/
  selfTest : Bool := true
  /-- The DMP window as last refreshed: words at offsets 0x00 to 0x48 in steps of 4 (24 R609).
  Reset: 0, the status words as 15 R420 resets them. -/
  dmp : Vector Word 19 :=
    ((((Vector.replicate 19 0).set 4 0x80E00800).set 5 0x80E00800).set 6 0x80E00800).set 7 0x80E00800
  /-- Safety PDUs taken off Ethernet or CAN and not yet checked: transport number of 15 R423 and bytes. Reset: none. -/
  pduIn : List (Nat × List Byte) := []
  /-- Input fault counters of SI0 to SI7 and the demand counters (15 R421). Reset: 0. -/
  inCount : Vector Counter 8 := Vector.replicate 8 {}
  demands : Vector Counter 4 := Vector.replicate 4 {}
  deriving DecidableEq, Repr

end Sys2Proof.Machine
end

