-- ==== Sys2Proof/Machine/StTfu.lean ====
section
/-! DEFINITION. State of the sensing front ends, the position ports, the torque-flux units, the start states and
the observer (spec files 04_sensing, 05_torque_flux, 06_stages_windows, 07_starting_observer). -/
namespace Sys2Proof.Machine

/-- One electrical channel of a machine (04 R94 to R105, R121). -/
structure Channel where
  /-- Fast word latched at the last strobe, before correction, 16-bit signed (04 R97, R98). Reset: 0. -/
  word : Int := 0
  /-- Age of the word at its strobe, in ticks: group delay and latch age, or the age of a SAR word (04 R98, R105). Reset: 0. -/
  age : Nat := 0
  /-- Fine word latched at the last sample boundary, 24-bit signed (04 R97). Reset: 0. -/
  fine : Int := 0
  /-- Age of the fine word at its boundary, in ticks: group delay and latch age (04 R97, R98). Reset: 0. -/
  fineAge : Nat := 0
  /-- Conversions running whose word lay at an end of the range, stopping at 3 (04 R121). Reset: 0. -/
  endRun : Nat := 0
  /-- Loss latched until the machine is enabled again (04 R121). Reset: false. -/
  lost : Bool := false
  /-- Decisions running at or beyond the clip limit, stopping at 4 (04 R102). Reset: 0. -/
  clipRun : Nat := 0
  /-- Clip counter, 16 bits (04 R123). Reset: 0. -/
  clips : Counter := {}
  /-- Last SAR word with its conversion start tick (04 R105). Reset: none. -/
  sar : Option (Int × Nat) := none
  /-- Conversion in progress: start tick (04 R103, 06 R179). Reset: none. -/
  converting : Option Nat := none
  /-- Decisions since the last undisturbed word (06 R179). Reset: 0. -/
  disturbedRun : Nat := 0
  deriving DecidableEq, Repr

/-- One position port (04 R109 to R121, R366 of 14). -/
structure Port where
  /-- Position, turns in [31:16] and angle in [15:0] (04 R110). Reset: 0. -/
  pos : BitVec 32 := 0
  /-- Tick of the instant that the position applies to (04 R110). Reset: 0. -/
  posTick : Nat := 0
  /-- Position delivered at the last sample boundary, and the time stamp of the instant it applies to (04 R110, R118).
  Reset: 0. -/
  posAtBoundary : BitVec 32 := 0
  boundaryStamp : Stamp := 0
  /-- Edges or signal periods counted (04 R113, R114); the spec gives the count itself no width, the position wraps. Reset: 0. -/
  count : Int := 0
  /-- Counts with the tick from which each held, newest first, for captures (04 R119). Reset: none. -/
  counts : List (Nat × Int) := []
  /-- Positions delivered at strobes with their ticks, newest first, for captures (04 R119). Reset: none. -/
  strobePos : List (Nat × BitVec 32) := []
  /-- Accepted levels of A and B (04 R115). Reset: low. -/
  levelA : Bool := false
  levelB : Bool := false
  /-- Count at the previous accepted Z edge (04 R115). Reset: none. -/
  zCount : Option Int := none
  /-- Count and tick of the last accepted edge (04 R118). Reset: none. -/
  lastEdge : Option (Int × Nat) := none
  /-- The same as of the previous boundary (04 R118). Reset: none. -/
  prevEdge : Option (Int × Nat) := none
  /-- Last unfiltered speed w in 1/256 rpm (04 R118). Reset: 0. -/
  lastW : Int := 0
  /-- Filtered speed S32 in 1/256 rpm (04 R118). Reset: 0. -/
  speed : Int := 0
  /-- Speed of the tracking loop, 1/256 rpm (04 R111, R118). Reset: 0. -/
  loopSpeed : Int := 0
  /-- Loss reported, latched (04 R121). Reset: false. -/
  lost : Bool := false
  /-- Interpolation-off flag of the port status (04 R113). Reset: false. -/
  interpOff : Bool := false
  /-- Absolute turns kept from the first lock after enable (04 R112). Reset: false, not locked. -/
  locked : Bool := false
  /-- Ticks of count errors within 100 ms (04 R121). Reset: none. -/
  recentErrors : List Nat := []
  /-- Frame errors running (04 R121). Reset: 0. -/
  frameRun : Nat := 0
  /-- Count-error counter, 16 bits (04 R123). Reset: 0. -/
  countErrors : Counter := {}
  /-- Frame-error counter, 16 bits (04 R123). Reset: 0. -/
  frameErrors : Counter := {}
  /-- Angle of a sin/cos port in 1/4,096 of a signal period (04 R113). Reset: 0. -/
  angle : Int := 0
  /-- Half periods of the excitation running with sin² + cos² out of range, stopping at 4 (04 R121). Reset: 0. -/
  ampRun : Nat := 0
  /-- Since when sin² + cos² of a sin/cos port has been out of range (04 R121). Reset: none. -/
  ampAt : Option Nat := none
  /-- SSI transfer started at the last boundary (04 R116). Reset: none. -/
  ssiAt : Option Nat := none
  deriving DecidableEq, Repr

/-- One LAT input (04 R119, R120). -/
structure Lat where
  stamp : Stamp := 0
  pos : BitVec 32 := 0
  valid : Bool := false
  overruns : Counter := {}
  /-- Tick of a capture whose position waits for the next strobe of its port (04 R119). Reset: none. -/
  waiting : Option Nat := none
  /-- Tick of the last edge accepted by the filter, for the recorder (04 R119, 22 R568). Reset: none. -/
  edgeAt : Option Nat := none
  /-- The last edge not captured: its tick, what it would have captured, and the overrun counter before it (04 R120). Reset: none. -/
  missed : Option (Nat × Stamp × BitVec 32 × Counter) := none
  deriving DecidableEq, Repr

/-- One SAR converter (04 R103). -/
structure Sar where
  /-- Tick at which the conversion in progress ends. Reset: 0. -/
  busyUntil : Nat := 0
  /-- Input last scanned. Reset: none. -/
  last : Option (Fin 16) := none
  /-- Scanned conversion in progress: input and start tick. Reset: none. -/
  scan : Option (Fin 16 × Nat) := none
  deriving DecidableEq, Repr

/-- What the test of a lost sensor sees from outside (04 R121): the last 64 modulator bits of a sigma-delta input, and an
excitation current outside its limits. -/
structure LossTest where
  bits : BitVec 64 := 0
  excitation : Bool := false
  deriving DecidableEq, Repr

/-- A vector: the leg levels in halves of V_dc over `den`, the 24-bit switch field and the VECTOR code (06 R157 to R160, R181). -/
structure Vec where
  lu : Int := -1
  lv : Int := -1
  lw : Int := -1
  den : Nat := 1
  /-- Switch field of the gate-link frame. -/
  on : BitVec 24 := 0
  code : BitVec 16 := 0
  /-- Every switch off: no vector is in force. -/
  off : Bool := false
  deriving DecidableEq, Repr

/-- The words of one strobe that wait for, or are used by, a decision (01 R30, 04 R98). -/
structure StrobeWords where
  /-- Physical tick of the strobe. -/
  at' : Nat
  /-- Its number (05 R141). -/
  k : Nat := 0
  iu : Int
  iv : Int
  idc : Int
  vdc : Int
  /-- Age of the current words in ticks. -/
  age : Nat
  /-- Lower-half DC-link word of a three-level stage (06 R164). -/
  vlow : Int
  /-- Phase-current words of bridges 1 to 3 of a paralleled stage (06 R167). -/
  bridges : List (Int × Int)
  /-- Position, its instant, loop speed and loss of the port used (04 R110, R118). -/
  pos : BitVec 32
  posAt : Nat
  loopSpeed : Int
  portLost : Bool
  deriving DecidableEq, Repr

/-- A frame that waits for step 9 (01 R28 step 8). -/
structure ReadyFrame where
  /-- Physical tick of the strobe of the decision, and its number. -/
  strobe : Nat
  k : Nat := 0
  vec : Vec
  shift : Int
  /-- The chopper bit copied at step 7 (12 R321). -/
  brk : Bool := false
  deriving DecidableEq, Repr

/-- Counters of a TFU (05 R153, 06 R182, 07 R207). -/
structure TfuCounters where
  hold : Counter := {}
  ceiling : Counter := {}
  regLimit : Counter := {}
  shifted : Counter := {}
  disturbed : Counter := {}
  rescue : Counter := {}
  substitutions : Counter := {}
  lockLosses : Counter := {}
  reacquisitions : Counter := {}
  locateFailures : Counter := {}
  fallbacks : Counter := {}
  deriving DecidableEq, Repr

/-- One torque-flux unit (05, 06). Flux and torque in 1/1,048,576 of rated (05 R125). -/
structure Tfu where
  /-- The TFU is stopped (01 R27, R41; 04 R107, R121; 05 R131). Reset: false. -/
  stopped : Bool := false
  /-- Every frame carries all switch bits off until the machine is disabled (01 R27, R41; 04 R121; 05 R131). Reset: false. -/
  allOff : Bool := false
  /-- Trip latched: trip frames until the machine is disabled (04 R107). Reset: false. -/
  tripped : Bool := false
  /-- A trip frame waits for the character boundary (04 R107, 10 R265). Reset: false. -/
  tripFrameDue : Bool := false
  /-- Words of strobes not yet decided, oldest first (01 R30, R37). Reset: none. -/
  inputs : List StrobeWords := []
  /-- Tick of the strobe of the last decision run (05 R129). Reset: none. -/
  lastDecision : Option Nat := none
  psiA : Int := 0
  psiB : Int := 0
  torque : Int := 0
  /-- Flux angle in 1/65,536 turn (05 R136). Reset: 0. -/
  theta : BitVec 16 := 0
  /-- Currents of the last decision, alpha and beta, 1/1024 (05 R129). Reset: 0. -/
  iA : Int := 0
  iB : Int := 0
  /-- Extrapolated current of the last decision (05 R129). Reset: 0. -/
  icA : Int := 0
  icB : Int := 0
  /-- Corrected DC-link voltage of the last decision, 1/1024 of rated (05 R125). Reset: 0. -/
  vdc : Int := 0
  /-- Corrected DC-link current of the last decision, scaled under 04 R100. Reset: 0. -/
  idc : Int := 0
  /-- Speed of the tracking loop of the machine's port handed over at the last decision's strobe, 1/256 rpm (04 R118). Reset: 0. -/
  loopSpeed : Int := 0
  /-- Flux comparator output, true +1 (05 R132). Reset: false, the C_PSI bit 0 of R152. -/
  cPsi : Bool := false
  /-- Torque comparator output −1, 0, +1 (05 R133). Reset: 0. -/
  cT : Int := 0
  /-- Rotation sense −1, 0, +1 (05 R134). Reset: 0. -/
  d : Int := 0
  /-- Flux angles of the last 16 decisions, newest first (05 R134). Reset: none. -/
  thetas : List (BitVec 16) := []
  /-- Sector in use, 0 before any evaluation (05 R137). Reset: 0. -/
  sector : Nat := 0
  /-- Vectors with the tick from which each is in force, oldest first (05 R128). Reset: none. -/
  inForce : List (Nat × Vec) := []
  /-- Vector of the last frame sent (05 R139, R141). Reset: all off. -/
  lastVec : Vec := { off := true }
  /-- Vector of the last decision completed, for the status word (05 R152). After a decision whose frame has every switch
  off, VECTOR reads 0 (DESIGN CHOICE, log 82). Reset: code 0. -/
  decided : Vec := { off := true }
  /-- Number of the strobe whose frame last changed each leg, bridge b leg L at 3b + L; none is unlocked (05 R141, R143).
  Reset: none. -/
  legAt : Vector (Option Nat) 12 := Vector.replicate 12 none
  /-- HOLD of the status word (05 R142). Reset: 0. -/
  hold : Bool := false
  /-- Decisions running out of bounds (05 R131). Reset: 0. -/
  boundsRun : Nat := 0
  /-- The frames that are ready and wait for step 9, oldest first (01 R28, R30). Reset: none. -/
  ready : List ReadyFrame := []
  /-- Strobe of the last frames of a pair judged at step 9, and whether one of them was late (06 R172), kept on the first
  channel. Reset: none. -/
  pairStep9 : Option (Nat × Bool) := none
  /-- Off-to-on transitions in the window (05 R145). Reset: 0. -/
  onCount : Nat := 0
  /-- Sample periods of the window so far (05 R145). Reset: 0. -/
  windowPos : Nat := 0
  /-- The TFU stopped in this window (05 R145). Reset: false. -/
  windowSpoilt : Bool := false
  /-- Band scale g in 1/256 (05 R145). Reset: 256. -/
  g : Nat := 256
  /-- New g that takes effect at the next commit point (05 R145). Reset: none. -/
  gNext : Option Nat := none
  /-- REG_LIMIT (05 R147). Reset: 0. -/
  regLimit : Bool := false
  /-- θ at the last boundary (05 R148). Reset: 0. -/
  thetaAtBoundary : BitVec 16 := 0
  /-- Angle moved by the flux in the last sample period, 1/65,536 turn, signed (05 R148). Reset: 0. -/
  dTheta : Int := 0
  /-- Sum and number of the corrected DC-link words of the period (05 R148). Reset: 0. -/
  vdcSum : Int := 0
  vdcCount : Nat := 0
  /-- The last of those words, which at a boundary is the first of the new period (01 R24). Reset: 0. -/
  vdcLast : Int := 0
  /-- Mean of the last period as sum and count (05 R148, 12 R322). Reset: 0, 0. -/
  vdcMean : Int × Nat := (0, 0)
  ceilRun : Nat := 0
  ceilClearRun : Nat := 0
  /-- CEILING (05 R149). Reset: 0. -/
  ceiling : Bool := false
  /-- Voltage level λ (06 R162). Reset: 1. -/
  lambda : Nat := 1
  /-- ΔV in 1/65,536 of rated DC-link voltage (06 R164). Reset: 0. -/
  deltaV : Int := 0
  /-- Neutral-point rescue (06 R166). Reset: false. -/
  rescue : Bool := false
  npTripRun : Nat := 0
  /-- Decisions running beyond the imbalance limit, per bridge (06 R169). Reset: 0. -/
  imbalanceRun : Vector Nat 4 := Vector.replicate 4 0
  /-- Decisions running beyond the harmonic limit (06 R172). Reset: 0. -/
  harmonicRun : Nat := 0
  /-- Harmonic current i_xy of a pair (06 R171). Reset: 0. -/
  ixA : Int := 0
  ixB : Int := 0
  /-- Target vector of a paralleled stage, 0 to 7 (06 R168). Reset: 0. -/
  target : Nat := 0
  /-- V1 is sent in the DC phase of MAGNETISE (07 R195). Reset: false. -/
  dcOn : Bool := false
  /-- Upper-switch bits of each bridge's legs as last sent, bridge b leg L at bit 3b + L (06 R168). Reset: 0. -/
  bridgeUp : BitVec 12 := 0
  /-- Shifted edge instant of the previous frame that changed a switch (06 R178). Reset: none. -/
  lastEdge : Option Int := none
  /-- Nominal edges of frames for which no shift met 06 R178, newest first (06 R179). Reset: none. -/
  badEdges : List Int := []
  /-- Neutral-point input on AIN: conversion in progress, last undisturbed word with its start, and decisions since
  the last one (06 R164, R176, R179). Reset: none, none, 0. -/
  npConv : Option Nat := none
  npSar : Option (Int × Nat) := none
  npRun : Nat := 0
  /-- Conversions running of that input whose word lay at an end of the range, stopping at 3 (04 R121). Reset: 0. -/
  npEnd : Nat := 0
  /-- The neutral-point input is lost (06 R164). Reset: false. -/
  npLost : Bool := false
  counters : TfuCounters := {}
  deriving DecidableEq, Repr

/-- Start state of a machine (07 R185). -/
inductive RunState where
  | stopped | catch' | locate | magnetise | openLoop | run | banked | stopping
  deriving DecidableEq, Repr

/-- Progress of CATCH (07 R188 to R190). -/
structure CatchState where
  /-- 1 first pulse, 2 gap, 3 second pulse, 4 waiting to repeat. -/
  phase : Nat := 1
  startedAt : Nat
  /-- Tick at which the attempt's first pulse began. -/
  pulseAt : Nat
  i1 : Int × Int := (0, 0)
  t1 : Nat := 0
  /-- Tick of the enable, for the catch timeout. -/
  enabledAt : Nat
  deriving DecidableEq, Repr

/-- Progress of LOCATE (07 R191 to R194). -/
structure LocateState where
  attempt : Nat := 1
  /-- 0 sizing pulse, 1 to 6 test pulses, 7 and 8 confirmation pulses. -/
  pulse : Nat := 0
  /-- Step 1 to 4 of R191. -/
  step : Nat := 1
  /-- Launches made in this step. -/
  launches : Nat := 0
  tp : Nat := 0
  readings : List Int := []
  /-- A repeat frame or a HOLD fell in step 1 or 2 of the pulse in progress (07 R194). -/
  spoilt : Bool := false
  /-- A pulse of this attempt was disturbed once already. -/
  disturbed : Bool := false
  /-- Position at the start of the attempt. -/
  pos0 : BitVec 32
  /-- Angle found, while the confirmation runs. -/
  found : BitVec 16 := 0
  /-- Tick at which the rest of step 4 began. -/
  restAt : Nat := 0
  deriving DecidableEq, Repr

/-- The observer of one machine (07 R197 to R204). -/
structure Observer where
  psiA : Int := 0
  psiB : Int := 0
  /-- Rotor flux magnitude of the last decision, 1/1,048,576. -/
  psiR : Int := 0
  theta : BitVec 16 := 0
  /-- Fraction of theta_pll, 1/2^32 of its unit. -/
  frac : Nat := 0
  /-- Whole electrical turns since enable (07 R201). -/
  turns : Int := 0
  /-- Reported speed after the filter, 1/256 rpm (07 R199, R201). -/
  speed : Int := 0
  /-- Tracked frequency in 1/65,536 of a turn per 2^32 ticks. -/
  omega : Int := 0
  /-- Sums of |e| over the sample and their number. -/
  errSum : Nat := 0
  errCount : Nat := 0
  q : Nat := 0
  lockRun : Nat := 0
  lostRun : Nat := 0
  locked : Bool := false
  /-- Lost in RUN: BANKED at the next decision (07 R203). -/
  lostNow : Bool := false
  reacqRun : Nat := 0
  deriving DecidableEq, Repr

/-- Start states of one machine (07 R185 to R206). -/
structure StartMachine where
  state : RunState := .stopped
  /-- The machine's parameters off their defaults that the start keeps until it ends, taken at its first decision
  (07 R186). Reset: none. -/
  frozen : Option (List (Nat × Nat)) := none
  /-- Tick at which the start began (23 R577). -/
  startedAt : Nat := 0
  /-- RUN was entered with the angle of an absolute port: the flux is set at its first decision (07 R196). -/
  fluxDue : Bool := false
  /-- The machine was enabled into a Stove that was running: no soft start (08 R219). -/
  joins : Bool := false
  /-- RUN has been reached since enable (07 R200). -/
  reachedRun : Bool := false
  /-- The machine runs sensorless after a fall-back (07 R202). -/
  fallback : Bool := false
  /-- Fall-back or loss of the port has been handled (07 R202). -/
  portHandled : Bool := false
  catchSt : Option CatchState := none
  locateSt : Option LocateState := none
  /-- Table phase of MAGNETISE since this tick; none in the DC phase (07 R195). -/
  tableAt : Option Nat := none
  /-- |psi| at the start of the ramp (07 R195). -/
  psi0 : Int := 0
  /-- Boundaries running with |psi| ≥ 256 (07 R195). -/
  fluxRun : Nat := 0
  /-- Tick of the entry into MAGNETISE (07 R195). -/
  magnetiseAt : Nat := 0
  /-- Tick of the entry into OPEN (07 R200). -/
  openAt : Nat := 0
  /-- Tick of the entry into BANKED and the torque held (07 R203, R205). -/
  bankedAt : Nat := 0
  heldTorque : Int := 0
  /-- Speed handed to the Stove as measured, 1/256 rpm (07 R189, R195). -/
  handed : Option Int := none
  /-- Reacquired: the held reference is released at the preset's commit point (07 R204). -/
  reacquiring : Bool := false
  /-- Locate result: r2 in [25:16], r1 in [9:0] (07 R209). -/
  locateResult : BitVec 32 := 0
  deriving DecidableEq, Repr

end Sys2Proof.Machine
end

