-- ==== Sys2Proof/Machine/StTime.lean ====
section
/-! DEFINITION. State of the timebase, the supplies, the staged start and the reset causes
(spec files 01_architecture, 02_bring_up, 24_register_map). -/
namespace Sys2Proof.Machine

/-- The 25 MHz reference as TB sees it (R27). -/
inductive RefState where
  | present
  | missing (since : Nat)
  | holdover
  deriving DecidableEq, Repr

/-- One decision strobe that still waits for its step 9 (R28, R37): the physical tick of the strobe,
and whether the decision has completed and its frame is ready. -/
structure Waiting9 where
  at' : Nat
  /-- Number of the strobe, counted per machine (05 R141); the model's own. -/
  k : Nat := 0
  ready : Bool
  /-- A decision was due on this strobe: the machine was enabled and its TFU not stopped (01 R38). -/
  live : Bool := true
  deriving DecidableEq, Repr

/-- The timebase island TB (01_architecture R24 to R43; 24_register_map R603). -/
structure Timebase where
  /-- 56 bits, the time stamp (00 R4, 01 R24, 02 R48). Reset: 0. -/
  now : Stamp := 0
  /-- The tick count runs (02 R48 step 2). Reset: false until PLL_LOCK. -/
  counting : Bool := false
  /-- The time stamp has wrapped and the wrap event has not been raised yet (00 R4); the model's own field. Reset: false. -/
  wrapDue : Bool := false
  /-- Source 2.14 was raised by a loss whose 100 µs have not ended: its reaction mask is not applied (01 R27). Reset: false. -/
  lossMasked : Bool := false
  /-- PLL_LOCK of TB_STAT (24 R603). Reset: 0. -/
  pllLock : Bool := false
  /-- The reference as watched under 01 R27. Reset: present (DESIGN CHOICE, log 3). -/
  ref : RefState := .present
  /-- REF_OK of TB_STAT (24 R603). Reset: 0. -/
  refOk : Bool := false
  /-- ALIGNED, TIME_ALIGNED of 20 R535 (24 R603). Reset: 0. -/
  aligned : Bool := false
  /-- STEPPED of TB_STAT (01 R26, 24 R603). Reset: 0. -/
  stepped : Bool := false
  /-- Steering still to be made, in ticks, positive lengthens (01 R26, 20 R534). Reset: 0. -/
  steer : Int := 0
  /-- The step of the last boundary of M0 that the tick count has not followed yet, +1 lengthens (01 R26). Reset: 0. -/
  stepDue : Int := 0
  /-- Physical tick of the last steering step (20 R534). Reset: none. -/
  stepAt : Option Nat := none
  /-- Rails of H0 to H3, STOVE, TFU, COMMS, MEM, FLUE as last reported, in mV (01 R18, R23).
  Reset: DESIGN CHOICE 800 (log 3). -/
  railMv : Vector Nat 9 := Vector.replicate 9 800
  /-- The rails have been reported at least once since the start. Reset: false. -/
  railSeen : Bool := false
  /-- A rail moved by more than 10 mV between the last two reports (01 R20). Reset: false. -/
  railFast : Bool := false
  /-- A limit of the region envelope is exceeded (01 R23; ENVELOPE of TB_STAT). Reset: 0. -/
  envelope : Bool := false
  /-- TFU frame miss counters, 16 bits (01 R43). Reset: 0. -/
  missTfu : Vector Counter 4 := Vector.replicate 4 {}
  /-- Stove miss counters, 16 bits (01 R43). Reset: 0. -/
  missStove : Vector Counter 4 := Vector.replicate 4 {}
  /-- Profile miss counter, 16 bits (01 R43). Reset: 0. -/
  missProf : Counter := {}
  /-- Consecutive missed frames per machine (01 R41). Reset: 0. -/
  runTfu : Vector Nat 4 := Vector.replicate 4 0
  /-- Consecutive missed commit points per Stove (01 R42). Reset: 0. -/
  runStove : Vector Nat 4 := Vector.replicate 4 0
  /-- Physical tick of the last decision strobe of each machine, none before the first (01 R24). Reset: none. -/
  lastStrobe : Vector (Option Nat) 4 := Vector.replicate 4 none
  /-- Physical tick of the last sample boundary of each machine (01 R24). Reset: none. -/
  lastBoundary : Vector (Option Nat) 4 := Vector.replicate 4 none
  /-- Physical tick of the last tick of the axis grid (09 R239). Reset: none. -/
  lastGrid : Option Nat := none
  /-- Sample boundaries counted per machine, for the periods that chapters give in T_s. Reset: 0. -/
  boundaries : Vector Nat 4 := Vector.replicate 4 0
  /-- Decision strobes counted per machine, which number its launches (05 R141). Reset: 0. -/
  strobes : Vector Nat 4 := Vector.replicate 4 0
  /-- Strobes that wait for step 9 (01 R28, R30, R37: at most three). Reset: none. -/
  waiting9 : Vector (List Waiting9) 4 := Vector.replicate 4 []
  deriving DecidableEq, Repr

/-- START_STATE of RST_CAUSE (02 R63). -/
inductive StartState where
  | staged | boot | tests | ready | restricted | hold
  deriving DecidableEq, Repr

/-- An external supply that the supply die judges (02 R637). -/
inductive Supply where
  | vinCore | vio | vana | vauxGate
  deriving DecidableEq, Repr

/-- The kind of a supply violation (02 R637). -/
inductive SupplyFault where
  | tooFast | tooSlow | notMonotonic | order
  deriving DecidableEq, Repr

/-- The cause of a pending module reset (02 R61, R63). -/
inductive ResetCause where
  | pin | flue | opcode
  deriving DecidableEq, Repr

/-- The results of the start-up tests (02 R57): true is a failure. -/
structure StartTests where
  /-- Lanes that failed the Trivet injection, by Hearth and lane, and Hearths with a failed Trivet. -/
  lanes : Vector (Vector Bool 3) 4
  trivets : Vector Bool 4
  /-- An uncorrectable SRAM cell, and the number of rows with a correctable one. -/
  sramBad : Bool
  sramRows : Nat
  /-- Known answers of a TFU or its deadline monitor, and of a Stove. -/
  knownTfu : Vector Bool 4
  knownStove : Vector Bool 4
  /-- Machines that use a failed converter or front end. -/
  analog : Vector Bool 4
  damper : Bool
  auxDie : Bool
  gateLink : Vector Bool 4
  fabricLink : Vector Bool 4
  deriving DecidableEq, Repr

/-- A firmware image area of MRAM as its header shows it (02 R53 to R55; 22 R563). -/
structure Image where
  /-- The header CRC-32C is good. -/
  headerOk : Bool := false
  /-- Generation number, 32 bits. -/
  generation : BitVec 32 := 0
  /-- Firmware major and minor version. -/
  version : BitVec 16 := 0
  /-- Trial flag. -/
  trial : Bool := false
  /-- Trial count, 2 bits. -/
  trialCount : BitVec 2 := 0
  /-- Marked not bootable. -/
  notBootable : Bool := false
  /-- Header as it was written, and the length of the body behind it. -/
  header : List Byte := []
  length : Nat := 0
  /-- The body that the load checked, and whether the header's ECDSA signature covers it (02 R53; 22 R563). -/
  checked : List Byte := []
  sigOk : Bool := false
  deriving DecidableEq, Repr

/-- The supply die and the staged start (02 R45 to R52, R637). -/
structure Start where
  /-- VIN_CORE and VIO above threshold since the start reference (02 R46, R48). Reset: false. -/
  coreUp : Bool := false
  /-- CLK_SEL ball, true is high, which no command moves (25 R627). Reset: low, the crystal (DESIGN CHOICE, log 3). -/
  clkSel : Bool := false
  /-- CLK_SEL as read at the start reference, true for REF_IN, until the next power-on (25 R625, R627). Reset: none. -/
  refIn : Option Bool := none
  /-- VANA above its brown-out threshold (02 R46). Reset: true (DESIGN CHOICE, log 3). -/
  vanaUp : Bool := true
  /-- Attempt of the staged start, 1 or 2 (02 R51). Reset: 0, none begun. -/
  attempt : Nat := 0
  /-- Last step of the staged release order that was made, 0 to 15 (02 R48). Reset: 0. -/
  step : Nat := 0
  /-- Physical tick of the start reference (02 R48). Reset: 0. -/
  refAt : Nat := 0
  /-- Physical tick of PLL lock, L (02 R48). Reset: 0. -/
  lockAt : Nat := 0
  /-- Rails removed by R51; the tick at which the 10 ms end. Reset: none. -/
  offUntil : Option Nat := none
  /-- A start reference is awaited: before the first, and after the 10 ms of 02 R51 (02 R48, R51). Reset: true. -/
  awaitRef : Bool := true
  /-- Rails stay off until VIN_CORE or VIO is cycled or RESET_N pulses low (02 R51). Reset: false. -/
  latchedOff : Bool := false
  /-- Failed step held in the supply die's status word (02 R51). Reset: none. -/
  failedStep : Option Nat := none
  /-- Supply violations held until the end of the start (02 R637). Reset: none. -/
  violations : List (Supply × SupplyFault) := []
  /-- The boot ROM has begun its work in this start (02 R52). Reset: false. -/
  bootBegun : Bool := false
  /-- RESET_N is low, since this tick (02 R52, R61). Reset: none, high. -/
  resetNLow : Option Nat := none
  /-- RESET_N went high at this tick (02 R52). Reset: 0. -/
  resetNHighAt : Nat := 0
  /-- RST_CAUSE flags: RST_OVF and RST_COUNT (02 R63). Reset: 0. -/
  rstCount : Counter := {}
  /-- DAMPER_POR [11] (02 R63). Reset: 0. -/
  damperPor : Bool := false
  /-- POWER_ON [10] (02 R63). Reset: 1. -/
  powerOn : Bool := true
  /-- EXT_RESET [9] (02 R63). Reset: 0. -/
  extReset : Bool := false
  /-- FLUE_RESET [8] (02 R63). Reset: 0. -/
  flueReset : Bool := false
  /-- CMD_RESET [7] (02 R63). Reset: 0. -/
  cmdReset : Bool := false
  /-- IMAGE_FALLBACK [6] (02 R54, R63). Reset: 0. -/
  imageFallback : Bool := false
  /-- IMAGE_SEL [5], true is B (02 R63). Reset: 0. -/
  imageSel : Bool := false
  /-- PARAM_DEFAULT [4] (02 R56, R63). Reset: 0. -/
  paramDefault : Bool := false
  /-- START_STATE [3:0] (02 R63). Reset: 0x0 staged start. -/
  startState : StartState := .staged
  /-- The factory defaults were loaded and no store has been made since (02 R56). Reset: false. -/
  needStore : Bool := false
  /-- A test or the boot ROM ends this start in HOLD (02 R53, R58). Reset: false. -/
  mustHold : Bool := false
  /-- Machines that a failed start-up test or a VANA brown-out forbids (02 R57, R59). Reset: none. -/
  forbidMachine : Vector Bool 4 := Vector.replicate 4 false
  /-- Stoves whose known answer failed: the machines they serve cannot be enabled (02 R57). Reset: none. -/
  forbidStove : Vector Bool 4 := Vector.replicate 4 false
  /-- Machines that the analog checks forbid, lifted when VANA returns and the checks pass (02 R46). Reset: none. -/
  forbidAnalog : Vector Bool 4 := Vector.replicate 4 false
  /-- No axis can be enabled: auxiliary die test (02 R57). Reset: false. -/
  forbidAxes : Bool := false
  /-- Fabric links that stay down: loopback test (02 R57). Reset: none. -/
  forbidLink : Vector Bool 4 := Vector.replicate 4 false
  /-- PWRGD ball, true is high (02 R58, R60). Reset: low. -/
  pwrgd : Bool := false
  /-- A module reset waits to be taken: its cause (02 R61, R62; 23 R580). Reset: none. -/
  resetPending : Option ResetCause := none
  /-- The tick at which the pending module reset was requested (23 R580). Reset: 0. -/
  resetPendingAt : Nat := 0
  /-- Raises of 0.14 owed once the boot ROM starts: one for each module reset, one when OVF set (02 R63). Reset: 0. -/
  owed14 : Nat := 0
  /-- A Damper power-on was seen while the Flue was in reset: 0.15 is owed once the boot ROM starts (02 R62). Reset: false. -/
  owed15 : Bool := false
  /-- Header of the image whose checked SRAM copy runs (02 R54). Reset: none runs. -/
  runImage : Option Image := none
  deriving DecidableEq, Repr

/-- One copy of the parameter store in MRAM (02 R56; 22 R564). -/
structure StoreCopy where
  crcOk : Bool := true
  generation : BitVec 32 := 1
  /-- Stored values that differ from the factory defaults, in the canonical form of the parameter store. -/
  values : List (Nat × Nat) := []
  /-- Stored key slots: maximum level and key bytes, none when empty (03 R83). -/
  keys : List (Nat × Nat × List Byte) := []
  deriving DecidableEq, Repr

/-- One boot record (02 R55; 22 R563). -/
structure BootRecord where
  crcOk : Bool := true
  floor : BitVec 16 := 0
  generation : BitVec 32 := 1
  deriving DecidableEq, Repr

/-- The MRAM items that survive every loss of power, other than raw bytes (02 R53 to R56; 22 R558). -/
structure Store where
  /-- Image A. Reset: the shipped firmware 4.2, permanent (DESIGN CHOICE, log 4). -/
  imageA : Image := { headerOk := true, generation := 1, version := 0x0402, sigOk := true }
  /-- Image B. Reset: none (DESIGN CHOICE, log 4). -/
  imageB : Image := {}
  /-- Parameter store copy 0. Reset: good, factory values (DESIGN CHOICE, log 4). -/
  copy0 : StoreCopy := {}
  /-- Parameter store copy 1. Reset: as copy 0 (DESIGN CHOICE, log 4). -/
  copy1 : StoreCopy := {}
  /-- Boot record 0. Reset: floor 0 (DESIGN CHOICE, log 4). -/
  boot0 : BootRecord := {}
  /-- Boot record 1. Reset: floor 0 (DESIGN CHOICE, log 4). -/
  boot1 : BootRecord := {}
  deriving DecidableEq, Repr

end Sys2Proof.Machine
end

