-- ==== Sys2Proof/Syntax.lean ====
section
/-! DEFINITION. The commands of the block: one constructor per row of spec/opcode_table.json.
An operand `dt` is the number of 5 ns ticks that pass before the command takes place (log 1).
`tr` and `tag` name an accepted command packet by its transport and tag (03 R74). -/
namespace Sys2Proof

open Machine

/-- One command, by its row of spec/opcode_table.json. -/
inductive Instr where
  /-- TIMEBASE_WRAP, R4. The 56-bit time stamp wraps from its maximum to 0, the decision grid restarts from k = 0 and the timebase wrap event is raised. -/
  | timebaseWrap (dt : Nat)
  /-- DECISION_STROBE, R28. At a decision strobe of a machine TB latches the time stamp and the fast-filter words, and the DC-link comparators test the latched word. -/
  | decisionStrobe (dt : Nat) (m : Fin 4) (iu iv idc vdc vlow : BitVec 58) (bridges : Vector (BitVec 58 × BitVec 58) 3)
  /-- SAMPLE_BOUNDARY, R32. At a sample boundary the sealed update groups become active (the commit point), the fine words and positions are latched and the per-sample work of every block starts. -/
  | sampleBoundary (dt : Nat) (m : Fin 4) (fine : Vector (BitVec 766) 4)
  /-- TFU_DECISION, R140. The TFU runs one decision when it is free (correction, estimation, comparators, sector, table, scorer, pulse locks, frame assembly) and signals frame ready. -/
  | tfuDecision (dt : Nat) (m : Fin 4)
  /-- FRAME_LAUNCH, R38. At step 9, 120 ticks after the strobe, TB tests frame ready and loads the frame, a repeat frame or an all-off frame into the gate-link serialiser. -/
  | frameLaunch (dt : Nat) (m : Fin 4)
  /-- TRIP_FRAME_LAUNCH, R265. A trip frame or OFF frame outside the grid leaves at the character boundary at which the frame on the line ends. -/
  | tripFrameLaunch (dt : Nat) (m : Fin 4)
  /-- OVERCURRENT_TRIP, R107. A window comparator or overcurrent detector of a machine trips, reaches the frame loader at once, and the TFU stops with a latched trip. -/
  | overcurrentTrip (dt : Nat) (m : Fin 4) (c : Fin 5) (seen : BitVec 15) (level : BitVec 10)
  /-- UNOWNED_WINDOW_TRIP, R108. A window comparator on an input that no machine owns raises 3.14. -/
  | unownedWindowTrip (dt : Nat) (a : Fin 16) (level : BitVec 10)
  /-- PROFILE_REF_DEADLINE, R38. Ten ticks before the consuming Stove's commit point the profile references are tested for readiness and 2.12 is raised when late. -/
  | profileRefDeadline (dt : Nat) (i : Fin 4) (ready : Bool)
  /-- RAIL_REPORT, R23. Every 100 µs the supply die reports the rails to TB, which raises 2.13 when the region envelope is exceeded. -/
  | railReport (dt : Nat) (mv : Vector Nat 9)
  /-- TIMEBASE_REFERENCE_LOSS, R27. No reference edge for 400 ns or a frequency out of tolerance raises 2.14 and holds the PLLs. -/
  | timebaseReferenceLoss (dt : Nat)
  /-- REFERENCE_HOLDOVER_EXPIRY, R27. When the reference has not returned within 100 µs every enabled machine is stopped with all-off frames. -/
  | referenceHoldoverExpiry (dt : Nat)
  /-- REFERENCE_RETURN, R27. The reference returns and the PLLs lock to it again without a jump in the count. -/
  | referenceReturn (dt : Nat)
  /-- SUPPLY_ORDER_VIOLATION, R637. The supply die sees a ramp or order violation of R45 and records it for source 0.0. -/
  | supplyOrderViolation (dt : Nat) (supply : Supply) (kind : SupplyFault)
  /-- CORE_BROWN_OUT, R46. A brown-out of VIN_CORE or VIO removes every region rail as a power-on. -/
  | coreBrownOut (dt : Nat)
  /-- VANA_BROWN_OUT, R46. A brown-out of VANA holds the analog die in reset, raises 0.10 and fault-stops the machines that use it. -/
  | vanaBrownOut (dt : Nat)
  /-- VANA_RETURN, R46. VANA returns and the analog die runs its analog checks. -/
  | vanaReturn (dt : Nat) (ok : Bool)
  /-- DAMPER_POWER_ON, R61. A brown-out of VDAMP resets the Damper with STO active, gate enables low and safe outputs off. -/
  | damperPowerOn (dt : Nat)
  /-- DAMPER_START, R46. VDAMP has held at or above 3.00 V for 100 µs and the Damper runs its own start. -/
  | damperStart (dt : Nat) (pass : Bool)
  /-- START_REFERENCE, R48. VIN_CORE and VIO have held their levels together for 100 µs and the supply die releases the TB rail. -/
  | startReference (dt : Nat)
  /-- PLL_LOCK, R48. Both PLLs lock and the tick count starts at 0. -/
  | pllLock (dt : Nat)
  /-- STAGED_RELEASE_STEP, R48. At each 100 µs step after L the supply die releases the next region or unit. -/
  | stagedReleaseStep (dt : Nat)
  /-- RAIL_REGULATION_TIMEOUT, R51. A released rail not in regulation within 80 µs stops the sequence and removes every rail for 10 ms. -/
  | railRegulationTimeout (dt : Nat)
  /-- RAIL_OFF_PERIOD_END, R51. The 10 ms rail-off period ends and the supply die waits for a new start reference. -/
  | railOffPeriodEnd (dt : Nat)
  /-- BOOT_ROM_START, R53. The boot ROM chooses, copies and verifies an image, updates its trial count and loads a parameter store copy. -/
  | bootRomStart (dt : Nat)
  /-- STARTUP_TESTS_END, R58. The start-up tests end and the module enters READY, RESTRICTED or HOLD with PWRGD and IRQ_HOST set accordingly. -/
  | startupTestsEnd (dt : Nat) (t : StartTests)
  /-- RESET_N_ASSERT, R61. RESET_N low for 1 µs or more after the boot ROM has begun is a module reset. -/
  | resetNAssert (dt : Nat)
  /-- RESET_N_RELEASE, R52. RESET_N has been high for 10 µs and the waiting boot ROM starts. -/
  | resetNRelease (dt : Nat)
  /-- MODULE_RESET_TAKE, R61. A module reset resets the control die except TB, the analog and auxiliary dies, and runs from step 15 of the staged release. -/
  | moduleResetTake (dt : Nat)
  /-- COMMAND_PACKET_RECEIVE, R72. A whole command packet taken off its transport is checked in order and either discarded, refused with a status, or started. -/
  | commandPacketReceive (dt : Nat)
  /-- CAN_SEGMENT_RECEIVE, R80. A CAN segment of a command packet is added, or the packet in progress is discarded on a new FIRST or an out-of-count segment. -/
  | canSegmentReceive (dt : Nat) (p : Fin 6)
  /-- CAN_SEGMENT_TIMEOUT, R80. No segment for 100 ms discards the packet in progress and increments FORMAT. -/
  | canSegmentTimeout (dt : Nat) (p : Fin 6)
  /-- SESSION_IDLE_TIMEOUT, R83. A session idle beyond its timeout is closed, its berth freed and 1.4 raised. -/
  | sessionIdleTimeout (dt : Nat) (b : Fin 512)
  /-- SESSION_PROOF_TIMEOUT, R591. A berth awaiting its proof for more than 5 s is freed. -/
  | sessionProofTimeout (dt : Nat) (b : Fin 512)
  /-- LONG_COMMAND_TIMEOUT, R577. A long command not ended within its limit ends with TIMEOUT and the stated effect. -/
  | longCommandTimeout (dt : Nat) (tr : Transport) (tag : BitVec 16)
  /-- IDENTIFY, R579. Returns the UID, firmware, silicon issue, running image, IDCODE and fabric address. -/
  | identify (tr : Transport) (tag : BitVec 16)
  /-- STATUS, R579. Immediately returns the 36-byte module status taken at one tick. -/
  | status (tr : Transport) (tag : BitVec 16)
  /-- BARRIER, R76. Waits until every earlier command of its transport has ended and then replies OK. -/
  | barrier (tr : Transport) (tag : BitVec 16)
  /-- ABORT, R78. Cancels the named outstanding command before its point of no return, or replies CANCEL_LATE. -/
  | abort (tr : Transport) (tag : BitVec 16)
  /-- MODULE_RESET, R580. Requests a module reset, taken when its reply has left or 10 ms after queueing. -/
  | moduleReset (tr : Transport) (tag : BitVec 16)
  /-- BLOCK_RESET, R581. Resets one instance of a resettable block with the effects of R61. -/
  | blockReset (tr : Transport) (tag : BitVec 16)
  /-- TIME_READ, R579. Returns the time stamp, the offset from the time root and TIME_ALIGNED. -/
  | timeRead (tr : Transport) (tag : BitVec 16)
  /-- PARAM_READ, R89. Returns the active copy of 1 to 64 parameters. -/
  | paramRead (tr : Transport) (tag : BitVec 16)
  /-- PARAM_WRITE, R88. Checks every entry, seals the packet as one update group and replies at the commit point that makes it active. -/
  | paramWrite (tr : Transport) (tag : BitVec 16)
  /-- THERMAL_ACK, R490. A write of one to ACK of a replaced sensor clears FROZEN and raises 12.13 with cause 1. -/
  | thermalAck (dt : Nat) (sensor : Fin 44)
  /-- PARAM_STORE, R564. Starts writing the active parameters and both banks to the target store copy as a long command. -/
  | paramStore (tr : Transport) (tag : BitVec 16)
  /-- PARAM_STORE_COMPLETE, R564. The target copy is written, read back and the store completes with OK or EXEC_FAULT. -/
  | paramStoreComplete (dt : Nat) (bad : Bool)
  /-- PARAM_INFO, R582. Returns type, access, levels, range, default and unit of one parameter. -/
  | paramInfo (tr : Transport) (tag : BitVec 16)
  /-- ENABLE, R586. Runs the enable checks, requests GEN and answers ACCEPTED, then starts the machine. -/
  | enable (tr : Transport) (tag : BitVec 16)
  /-- ENABLE_COMPLETE, R586. The enable completes with OK when Stove references first apply, or with EXEC_FAULT or ABORTED. -/
  | enableComplete (dt : Nat) (m : Fin 4)
  /-- DISABLE, R584. Immediately starts the configured stop and disables the machine at STOPPED. -/
  | disable (tr : Transport) (tag : BitVec 16)
  /-- QUICK_STOP, R584. Immediately starts the configured fault stop and leaves the machine enabled at STOPPED. -/
  | quickStop (tr : Transport) (tag : BitVec 16)
  /-- SET_REFERENCE, R585. Writes a setpoint of the Stove that serves the machine as one update group. -/
  | setReference (tr : Transport) (tag : BitVec 16)
  /-- MACHINE_STATUS, R583. Returns start state, torque, flux, speed and the machine's status words. -/
  | machineStatus (tr : Transport) (tag : BitVec 16)
  /-- PROFILE_APPEND, R244. Checks segment records and appends them to the channel queue at its next commit point. -/
  | profileAppend (tr : Transport) (tag : BitVec 16)
  /-- PROFILE_BLEND, R247. Replaces the running segment and queue with new segments at the commit point at which it is taken. -/
  | profileBlend (tr : Transport) (tag : BitVec 16)
  /-- PROFILE_STOP, R249. Immediate stop request that starts the stop segment with a_stop at the next commit point. -/
  | profileStop (tr : Transport) (tag : BitVec 16)
  /-- PROFILE_FAULT_STOP, R249. Immediate fault-stop request that starts the stop segment with a_fault. -/
  | profileFaultStop (tr : Transport) (tag : BitVec 16)
  /-- PROFILE_STATUS, R587. Returns the five values of parameter 0x4003. -/
  | profileStatus (tr : Transport) (tag : BitVec 16)
  /-- AXIS_ENABLE, R302. Starts the bootstrap charge of an axis as a long command. -/
  | axisEnable (tr : Transport) (tag : BitVec 16)
  /-- AXIS_DISABLE, R587. Immediately disables the axis at the next commit point of the axis grid. -/
  | axisDisable (tr : Transport) (tag : BitVec 16)
  /-- AXIS_STOP, R587. Immediate stop request with a_stop on the channel of the axis. -/
  | axisStop (tr : Transport) (tag : BitVec 16)
  /-- SAFETY_STATUS, R588. Returns the safety status words, the safe input and output states and the lost connections. -/
  | safetyStatus (tr : Transport) (tag : BitVec 16)
  /-- SAFETY_CRC, R588. Returns the expected, H0 and Damper CRCs of the safety set. -/
  | safetyCrc (tr : Transport) (tag : BitVec 16)
  /-- SAFETY_VALIDATE, R588. Records validation of the safety set in force with a journal entry of kind 0x06. -/
  | safetyValidate (tr : Transport) (tag : BitVec 16)
  /-- FLUE_READ, R589. Returns FLUE_SUM, the sticky and live words and both records taken at one tick. -/
  | flueRead (tr : Transport) (tag : BitVec 16)
  /-- FAULT_CLEAR, R467. Clears the sticky bits of the named sources whose lines are inactive and counts recoveries. -/
  | faultClear (tr : Transport) (tag : BitVec 16)
  /-- RECORD_RELEASE, R589. Releases FER only if it still holds the record named. -/
  | recordRelease (tr : Transport) (tag : BitVec 16)
  /-- JOURNAL_READ, R590. Returns journal entries from a given SEQ with their DAMAGED flags. -/
  | journalRead (tr : Transport) (tag : BitVec 16)
  /-- SESSION_OPEN, R83. Takes a free berth and returns it with a module nonce. -/
  | sessionOpen (tr : Transport) (tag : BitVec 16)
  /-- SESSION_PROVE, R83. Checks the proof, derives the session key and opens the session, or frees the berth. -/
  | sessionProve (tr : Transport) (tag : BitVec 16)
  /-- SESSION_CLOSE, R591. Closes a session and frees its berth. -/
  | sessionClose (tr : Transport) (tag : BitVec 16)
  /-- BERTH_READ, R606. Returns the 32-byte berth entry taken in one tick. -/
  | berthRead (tr : Transport) (tag : BitVec 16)
  /-- CAN_OBJ_BIND, R501. Binds a free berth to a CAN port as a transmit or receive object. -/
  | canObjBind (tr : Transport) (tag : BitVec 16)
  /-- CAN_OBJ_FREE, R501. Releases a CAN object berth. -/
  | canObjFree (tr : Transport) (tag : BitVec 16)
  /-- CAN_SEND, R506. Makes a frame pending in a transmit berth as a long command. -/
  | canSend (tr : Transport) (tag : BitVec 16)
  /-- CAN_READ, R504. Returns the frame held in a receive berth and clears NEW when the last byte is read. -/
  | canRead (tr : Transport) (tag : BitVec 16)
  /-- CAN_STAGE, R592. Stages data bytes of a long frame in a transmit berth. -/
  | canStage (tr : Transport) (tag : BitVec 16)
  /-- FABRIC_TOPOLOGY, R593. Returns the modules of the topology database and their neighbours. -/
  | fabricTopology (tr : Transport) (tag : BitVec 16)
  /-- LINK_RESET, R593. Takes a fabric link DOWN at once so that it trains again. -/
  | linkReset (tr : Transport) (tag : BitVec 16)
  /-- CAL_RESTART, R593. Clears STOPPED and STOP_CAUSE of current calibration and keeps the corrections. -/
  | calRestart (tr : Transport) (tag : BitVec 16)
  /-- PORT_CAL_RESTART, R593. Resumes the resolver or sin/cos fits of a stopped port. -/
  | portCalRestart (tr : Transport) (tag : BitVec 16)
  /-- REG_READ, R595. Checks and reads 1 to 255 register words, each in one access. -/
  | regRead (tr : Transport) (tag : BitVec 16)
  /-- REG_WRITE, R595. Checks all words and writes them in ascending address order, each in one access. -/
  | regWrite (tr : Transport) (tag : BitVec 16)
  /-- REG_MODE, R547. Turns the HSPI direct register mode on or off. -/
  | regMode (tr : Transport) (tag : BitVec 16)
  /-- IMAGE_LOAD_BEGIN, R596. Opens an image load, binds it and invalidates the header of the area. -/
  | imageLoadBegin (tr : Transport) (tag : BitVec 16)
  /-- IMAGE_LOAD_DATA, R596. Writes an image block at its offset. -/
  | imageLoadData (tr : Transport) (tag : BitVec 16) (bad : Bool)
  /-- IMAGE_LOAD_END, R563. Writes the image header as a trial image and starts the signature check. -/
  | imageLoadEnd (tr : Transport) (tag : BitVec 16)
  /-- IMAGE_LOAD_END_COMPLETE, R563. The signature over the MRAM content verifies or fails and the load completes. -/
  | imageLoadEndComplete (dt : Nat) (bad : Bool)
  /-- IMAGE_LOAD_IDLE_TIMEOUT, R596. An open load idle for 60 s is closed with its area left without a valid header. -/
  | imageLoadIdleTimeout (dt : Nat)
  /-- CONFIRM_IMAGE, R597. Clears the trial flag of the running image and sets the rollback floor in both boot records. -/
  | confirmImage (tr : Transport) (tag : BitVec 16) (bad : Bool)
  /-- HEARTH_SPLIT, R441. Starts splitting H1, H2 or H3 into three unvoted cores. -/
  | hearthSplit (tr : Transport) (tag : BitVec 16)
  /-- HEARTH_REJOIN, R443. Starts rejoining a split Hearth from core A. -/
  | hearthRejoin (tr : Transport) (tag : BitVec 16)
  /-- KEY_WRITE, R597. Writes a key slot or the debug key, active at once. -/
  | keyWrite (tr : Transport) (tag : BitVec 16)
  /-- TRACE_TRIGGER, R598. Triggers the armed trace recorder. -/
  | traceTrigger (tr : Transport) (tag : BitVec 16)
  /-- TRACE_LIST, R598. Returns the list of trace records held. -/
  | traceList (tr : Transport) (tag : BitVec 16)
  /-- TRACE_READ, R598. Returns bytes of a trace record. -/
  | traceRead (tr : Transport) (tag : BitVec 16)
  /-- TRACE_PROTECT, R598. Protects or releases a trace record. -/
  | traceProtect (tr : Transport) (tag : BitVec 16)
  /-- SAR_CONVERSION_START, R176. At a window instant a SAR starts converting a machine-owned channel. -/
  | sarConversionStart (dt : Nat) (m : Fin 4) (c : Fin 6)
  /-- SAR_CONVERSION_COMPLETE, R103. A SAR conversion word crosses into the TFU 500 ns after its start. -/
  | sarConversionComplete (dt : Nat) (m : Fin 4) (c : Fin 6) (word : BitVec 16)
  /-- ABZ_EDGE, R114. An accepted A or B edge is counted and time-stamped, or an illegal transition raises 3.13. -/
  | abzEdge (dt : Nat) (p : Fin 4) (a b : Bool) (stable : Nat)
  /-- Z_INDEX_EDGE, R115. An accepted Z edge compares the count with the previous Z count. -/
  | zIndexEdge (dt : Nat) (p : Fin 4) (stable : Nat)
  /-- SSI_TRANSFER_COMPLETE, R117. An SSI transfer ends, its frame is checked and the position reaches the TFU. -/
  | ssiTransferComplete (dt : Nat) (p : Fin 4) (raw : BitVec 32) (bad : Bool)
  /-- LAT_EDGE, R120. An accepted LAT edge is captured with VALID set, or counted as an overrun, and written to the latch record of the channel. -/
  | latEdge (dt : Nat) (k : Fin 8) (rising : Bool) (stable : Nat)
  /-- SENSOR_LOSS, R121. A sensor-loss test expires and the loss is latched with its source and effect. -/
  | sensorLoss (dt : Nat) (m : Fin 4) (i : Fin 5) (port : Bool) (seen : LossTest)
  /-- CEILING_RAMP_FREEZE, R150. Drive management seals a ramp freeze, or lifts it, for the named speed-ramp stage. -/
  | ceilingRampFreeze (dt : Nat) (m : Fin 4)
  /-- CATCH_REPEAT, R189. CATCH is repeated after 100 ms. -/
  | catchRepeat (dt : Nat) (m : Fin 4)
  /-- CATCH_TIMEOUT, R190. The catch timeout expires and the start fails. -/
  | catchTimeout (dt : Nat) (m : Fin 4)
  /-- MAGNETISE_TIMEOUT, R195. MAGNETISE not ended within 4 × t_mag fails the start. -/
  | magnetiseTimeout (dt : Nat) (m : Fin 4)
  /-- OPEN_TIMEOUT, R200. OPEN lasting beyond t_low fails the start or runs the lost-rotor reaction. -/
  | openTimeout (dt : Nat) (m : Fin 4)
  /-- BANK_HOLD_EXPIRY, R205. t_hold expires without reacquisition and the lost-rotor reaction of the duty kind runs. -/
  | bankHoldExpiry (dt : Nat) (m : Fin 4)
  /-- STOVE_RUN_END, R221. A Stove run completes and places its named outputs for commit. -/
  | stoveRunEnd (dt : Nat) (i : Fin 4)
  /-- AXIS_GRID_TICK, R239. Every 10 µs the generator takes axis groups, evaluates each axis channel and issues its microsteps. -/
  | axisGridTick (dt : Nat) (late : BitVec 6)
  /-- MICROSTEP_APPLY, R257. The auxiliary die applies a microstep 20 µs after its instant. -/
  | microstepApply (dt : Nat) (k : Fin 6)
  /-- AUX_SETTING_APPLY, R295. The die applies a chopper reference or leg-mode change at its apply time. -/
  | auxSettingApply (dt : Nat) (k : Fin 6)
  /-- CHOPPER_CURRENT_REACHED, R258. The shunt comparator finds the coil current at the reference and the off phase starts. -/
  | chopperCurrentReached (dt : Nat) (l : Fin 12)
  /-- CHOPPER_FAST_DECAY_END, R258. The fast-decay part of the off phase ends and both switches turn off. -/
  | chopperFastDecayEnd (dt : Nat) (l : Fin 12)
  /-- CHOPPER_OFF_EXPIRY, R258. t_off expires and a new on phase starts. -/
  | chopperOffExpiry (dt : Nat) (l : Fin 12)
  /-- STANDSTILL_IDLE_EXPIRY, R260. The channel has been IDLE for t_idle and the standstill action is taken. -/
  | standstillIdleExpiry (dt : Nat) (k : Fin 6)
  /-- UPLINK_FRAME_RECEIVE, R282. An uplink frame is checked for DSAT, gate state, HS, LATCHED, UV and GEN, and its status item is kept. -/
  | uplinkFrameReceive (dt : Nat) (m : Fin 4) (frame : BitVec 64)
  /-- UPLINK_MISSING, R282. An uplink not complete 800 ns after its downlink counts as missing, and three in a row trip. -/
  | uplinkMissing (dt : Nat) (m : Fin 4)
  /-- CHOPPER_T_EFF_EXPIRY, R323. The voltage has stayed at or above OV_WARN for t_eff with the chopper on and cause 2 is latched. -/
  | chopperTEffExpiry (dt : Nat) (o : Fin 4)
  /-- SHUTDOWN_LINE_SET, R379. H0 sets the shutdown line of a machine and the loader sends OFF frames. -/
  | shutdownLineSet (dt : Nat) (m : Fin 4)
  /-- STOP_ZERO_TIMEOUT, R330. Zero speed not reached in time raises 10.(12 + n) and goes to BRAKE as a fault stop. -/
  | stopZeroTimeout (dt : Nat) (m : Fin 4)
  /-- ZERO_DWELL_END, R330. The speed has stayed at or below n_zero for t_zero and the stop proceeds. -/
  | zeroDwellEnd (dt : Nat) (m : Fin 4)
  /-- BRAKE_HOLD_EXPIRY, R330. t_brake after the SBC request ends and the torque ramp starts, or OFF_WAIT ends at STOPPED. -/
  | brakeHoldExpiry (dt : Nat) (m : Fin 4)
  /-- TORQUE_RAMP_END, R330. The torque reference reaches 0, OFF frames follow and the machine enters STOPPED. -/
  | torqueRampEnd (dt : Nat) (m : Fin 4)
  /-- BRAKE_RELEASE_WAIT_END, R333. t_release after the release request ends and references apply. -/
  | brakeReleaseWaitEnd (dt : Nat) (m : Fin 4)
  /-- BRAKE_RELEASE_TIMEOUT, R333. Release not reached within 500 ms of the soft start ends the enable with EXEC_FAULT. -/
  | brakeReleaseTimeout (dt : Nat) (m : Fin 4)
  /-- COMMAND_WATCHDOG_EXPIRY, R335. t_cmd runs out without an accepted command and the machine enters command HOLD. -/
  | commandWatchdogExpiry (dt : Nat) (m : Fin 4)
  /-- COMMAND_HOLD_EXPIRY, R334. t_cmd_hold runs out and the configured stop runs. -/
  | commandHoldExpiry (dt : Nat) (m : Fin 4)
  /-- RENDER_DWELL_EXPIRY, R334. Tension has been beyond T_on, or below it less hysteresis, for the dwell time and render is entered or left. -/
  | renderDwellExpiry (dt : Nat) (m : Fin 4)
  /-- RENDER_OVERSPEED, R336. Paying-out speed beyond v_render_max for 100 ms ends render in a fault stop. -/
  | renderOverspeed (dt : Nat) (m : Fin 4)
  /-- MEMBER_REPORT_RECEIVE, R344. A member report reaches the master's module. -/
  | memberReportReceive (dt : Nat)
  /-- DISTRIBUTOR_RUN, R345. When demand and reports are present the distributor computes and sends the shares. -/
  | distributorRun (dt : Nat) (m : Fin 4)
  /-- SHARE_RECEIVE, R344. A member receives its share for latching at the next boundary. -/
  | shareReceive (dt : Nat)
  /-- REPORT_SHARE_MISS, R348. A report or share missing by its step is held, and a second miss marks the partner lost. -/
  | reportShareMiss (dt : Nat) (m : Fin 4) (k : Option (Fin 8))
  /-- TRANSFER_FRAME_RECEIVE, R350. A transfer frame of the partner channel is taken and the CRCs compared every 256th frame. -/
  | transferFrameReceive (dt : Nat)
  /-- HOME_LOST_TRANSFER, R352. The standby module finds the home lost while armed and enables the standby channel. -/
  | homeLostTransfer (dt : Nat) (m : Fin 4)
  /-- TRANSFER_TIMEOUT, R352. The standby channel not in RUN within t_xfer takes its fault stop. -/
  | transferTimeout (dt : Nat) (m : Fin 4)
  /-- CAL_WINDOW_CLOSE, R363. A calibration window closes after N_win samples or 1 s. -/
  | calWindowClose (dt : Nat) (m : Fin 4) (k : Fin 3)
  /-- CAL_FIT, R364. H3 fits the window and, if accepted, seals a stepped gain and offset correction. -/
  | calFit (dt : Nat) (m : Fin 4) (k : Fin 3)
  /-- STANDSTILL_CAPTURE_START, R365. The standstill conditions have held for 100 ms and the offset capture starts. -/
  | standstillCaptureStart (dt : Nat) (m : Fin 4)
  /-- STANDSTILL_CAPTURE_END, R365. After 256 boundaries the capture sets the offsets or is rejected. -/
  | standstillCaptureEnd (dt : Nat) (m : Fin 4)
  /-- PORT_CAL_FIT, R367. A resolver or sin/cos fit over 16 cycles steps the port corrections. -/
  | portCalFit (dt : Nat) (p : Fin 4)
  /-- REPLICA_MEASURE, R369. Every 1 ms TB times each replica path and checks replica disagreement. -/
  | replicaMeasure (dt : Nat) (k : Fin 9) (m0 m1 : Int)
  /-- RAIL_MARGIN_ADJUST, R368. Every 10 ms the supply die raises, lowers or holds each region rail. -/
  | railMarginAdjust (dt : Nat)
  /-- SENSOR_CROSS_CHECK, R370. Every second each control-die sensor is compared with the others and trimmed when idle. -/
  | sensorCrossCheck (dt : Nat)
  /-- HEARTBEAT_SEND, R381. H0 and the Damper each send a heartbeat every 100 µs. -/
  | heartbeatSend (dt : Nat) (fromH0 : Bool)
  /-- DAMPER_HEARTBEAT_RECEIVE, R381. The Damper takes an H0 heartbeat and checks its counter and state. -/
  | damperHeartbeatReceive (dt : Nat) (counter : BitVec 4) (code : BitVec 8)
  /-- DAMPER_HEARTBEAT_TIMEOUT, R381. No H0 heartbeat for 500 µs sets HB_LOST, STO and SBC. -/
  | damperHeartbeatTimeout (dt : Nat)
  /-- H0_HEARTBEAT_TIMEOUT, R381. No Damper heartbeat for 500 µs sets every shutdown line and raises 13.12. -/
  | h0HeartbeatTimeout (dt : Nat)
  /-- CROSSLINK_REQUEST, R380. The Damper takes a request from H0 and carries out at once any move towards a safe state. -/
  | crosslinkRequest (dt : Nat) (m : Fin 4)
  /-- OSC_WINDOW_END, R382. The Damper checks its oscillator count over one reference window. -/
  | oscWindowEnd (dt : Nat) (count : BitVec 16)
  /-- SAFE_INPUT_CHANGE, R401. A safe input channel changes level and its filter starts. -/
  | safeInputChange (dt : Nat) (k : Fin 9) (chB : Bool) (level : Bool)
  /-- SAFE_INPUT_FILTER_EXPIRY, R401. A channel level stable for t_filter is accepted and the input goes on or off, demanding functions. -/
  | safeInputFilterExpiry (dt : Nat) (h0 : Bool) (k : Fin 9) (chB : Bool)
  /-- SAFE_INPUT_DISCREPANCY, R401. The second channel not following within t_disc sets IN_FAULT. -/
  | safeInputDiscrepancy (dt : Nat) (h0 : Bool) (k : Fin 9)
  /-- SAFE_INPUT_TEST, R402. Every 10 ms the Damper tests the input path of each channel. -/
  | safeInputTest (dt : Nat) (k : Fin 9) (pass : Bool)
  /-- SAFE_OUTPUT_TEST, R403. Once per test period a safe output channel is pulsed off and read back. -/
  | safeOutputTest (dt : Nat) (o : Fin 4) (chB : Bool) (read : Bool) (readAfter : Bool)
  /-- GEN_READBACK_FAULT, R404. A GEN readback differing for 1 µs drives both channels low and latches OUT_FAULT. -/
  | genReadbackFault (dt : Nat) (m : Fin 4) (readA readB : Bool)
  /-- GEN_RAISE, R388. The Damper raises GEN once every grant condition holds. -/
  | genRaise (dt : Nat) (m : Fin 4)
  /-- GEN_RAISE_TIMEOUT, R388. GEN not seen high within 1 ms of its request ends the enable. -/
  | genRaiseTimeout (dt : Nat) (m : Fin 4)
  /-- SS1_TIME_EXPIRY, R391. t_ss1 after the demand makes STO, or SBC first with the brake, fall. -/
  | ss1TimeExpiry (dt : Nat) (h0 : Bool) (m : Fin 4)
  /-- SBC_STO_DELAY_EXPIRY, R391. t_sbc_sto after SBC makes GEN fall. -/
  | sbcStoDelayExpiry (dt : Nat) (h0 : Bool) (m : Fin 4)
  /-- SOS_MONITOR_START, R392. t_sos after the demand each channel captures its position and monitors standstill. -/
  | sosMonitorStart (dt : Nat) (h0 : Bool) (m : Fin 4)
  /-- SLS_REACH_EXPIRY, R393. t_reach after a lower selection the new SLS limit is monitored. -/
  | slsReachExpiry (dt : Nat) (h0 : Bool) (m : Fin 4)
  /-- SP_SUBGATE_END, R399. The Damper updates its speed at the end of each sub-gate and checks its limits. -/
  | spSubgateEnd (dt : Nat) (q : Fin 2)
  /-- H0_SAFETY_CHECK, R400. Every 1 ms H0 tests speed and position against the limits and cross-checks the Damper. -/
  | h0SafetyCheck (dt : Nat)
  /-- BRAKE_RELEASE_REQUEST, R397. The Damper turns the safe output on only when every release condition holds. -/
  | brakeReleaseRequest (dt : Nat) (o : Fin 4)
  /-- BRAKE_FEEDBACK_TIMEOUT, R398. Feedback not following the output within t_fb sets OUT_FAULT. -/
  | brakeFeedbackTimeout (dt : Nat) (o : Fin 4)
  /-- SAFETY_PDU_RECEIVE, R412. H0 and the Damper each check a received safety PDU and act on it. -/
  | safetyPduReceive (dt : Nat)
  /-- SAFETY_PDU_SEND, R410. A status PDU is sent each send period or within 1 ms of a change. -/
  | safetyPduSend (dt : Nat) (c : Fin 8)
  /-- SAFETY_WATCHDOG_EXPIRY, R413. T_wd expires, the connection is lost and its NET functions are demanded. -/
  | safetyWatchdogExpiry (dt : Nat) (h0 : Bool) (c : Fin 8)
  /-- SAFETY_SET_LOAD, R417. H0 sends the safety set to the Damper and both compare its CRC. -/
  | safetySetLoad (dt : Nat)
  /-- TRANSACTION_VOTE, R429. The Trivets vote a transaction present in all lanes and issue it or retry. -/
  | transactionVote (dt : Nat) (h : Fin 4) (offers : List (Fin 3 × LaneEntry)) (misread again : Vector (Option LaneEntry) 3) (bad badAgain : Vector Bool 2)
  /-- DISAGREEMENT_CLASSIFY, R432. A disagreement surviving its retry is classified after digests. -/
  | disagreementClassify (dt : Nat) (h : Fin 4) (digests : Vector (BitVec 32) 3)
  /-- DIGEST_POINT, R431. Every 1 ms the three cores' state digests are compared. -/
  | digestPoint (dt : Nat) (h : Fin 4) (digests : Vector (BitVec 32) 3)
  /-- RESYNC_COMPLETE, R433. The copy of a minority core ends and the digests decide TRIPLEX or retirement. -/
  | resyncComplete (dt : Nat) (h : Fin 4) (digests : Vector (BitVec 32) 3)
  /-- TRIVET_ONLINE_TEST, R439. Once a second one Trivet is tested with a difference pattern. -/
  | trivetOnlineTest (dt : Nat) (h : Fin 4) (pass : Bool)
  /-- SPLIT_COMPLETE, R442. The split completes and MODE reads SPLIT. -/
  | splitComplete (dt : Nat) (h : Fin 4)
  /-- REJOIN_COMPLETE, R443. The rejoin compares digests and returns to TRIPLEX, retires a core or stays split. -/
  | rejoinComplete (dt : Nat) (h : Fin 4) (digests : Vector (BitVec 32) 3)
  /-- DEBUG_HALT, R445. A debug halt splits the Hearth, or in REPLAY halts the cores at one transaction. -/
  | debugHalt (dt : Nat) (h : Fin 4)
  /-- DEBUG_RESUME, R447. A resume or single step rejoins, or applies the REPLAY log and compares digests. -/
  | debugResume (dt : Nat) (h : Fin 4) (single : Bool) (digests : Vector (BitVec 32) 3)
  /-- REPLAY_WRITE, R448. A debugger write to core state is logged, or converts the halt when the log is full. -/
  | replayWrite (dt : Nat) (h : Fin 4) (shared : Bool) (target value : BitVec 32)
  /-- ERROR_LINE_RAISE, R457. A raise of an error line is stamped, sets its sticky bit and record, and takes its reactions. -/
  | errorLineRaise (dt : Nat) (src : Fin 256) (master : BitVec 8) (addr : BitVec 32) (kind : BitVec 3) (retry : Retry)
  /-- QUIET_CHECK, R466. At each check interval sticky sources whose timers reached Q_g recover. -/
  | quietCheck (dt : Nat) (slow : Bool)
  /-- EVENT_MESSAGE_TAKE, R460. A Hearth takes a queued event message, freeing room in the router queue. -/
  | eventMessageTake (dt : Nat) (h : Fin 4)
  /-- FER_RELEASE, R463. A write of one to VALID of FER_INFO or LEG_FER releases FER and moves NER into it. -/
  | ferRelease (dt : Nat)
  /-- STICKY_CLEAR_WRITE, R469. In W1C mode a write to FLUE_STICKY or LEG_FAULT clears inactive bits and counts recoveries. -/
  | stickyClearWrite (dt : Nat) (i : Fin 8) (w : BitVec 32)
  /-- GROUP_READ_LATCH, R601. A read of the lowest word of a register group latches the other words. -/
  | groupReadLatch (dt : Nat) (a : BitVec 32)
  /-- REGISTER_WRITE, R600. A write to a register without behaviour of its own updates its RW, W1C and W1S fields. -/
  | registerWrite (dt : Nat) (a w : BitVec 32)
  /-- THERMAL_EVALUATION, R479. A sensor reading is evaluated for failure, rate, warn, throttle, trip and band. -/
  | thermalEvaluation (dt : Nat) (sensor : Fin 44) (rd : ThermalInput)
  /-- THERMAL_FACTOR_SEAL, R483. H3 seals a changed thermal factor k as an update group. -/
  | thermalFactorSeal (dt : Nat) (m : Fin 4)
  /-- CAN_START_OF_FRAME, R505. At a start of frame the port offers its highest-ranked pending frame. -/
  | canStartOfFrame (dt : Nat) (p : Fin 6)
  /-- CAN_SOF_SAMPLE_POINT, R507. The SOF sample-point strobe races the cancel or timeout and commits the frame or withdraws it. -/
  | canSofSamplePoint (dt : Nat) (p : Fin 6)
  /-- CAN_FRAME_RECEIVE, R503. A frame received without error is placed in the first matching object. -/
  | canFrameReceive (dt : Nat) (p : Fin 6) (frame : CanFrame)
  /-- CAN_FRAME_SENT, R506. A frame is sent to the end of its EOF and CAN_SEND completes with OK. -/
  | canFrameSent (dt : Nat) (p : Fin 6) (delay : Option (BitVec 8))
  /-- CAN_ARBITRATION_LOST, R507. A transmitting port reads dominant against recessive in arbitration and becomes receiver. -/
  | canArbitrationLost (dt : Nat) (p : Fin 6)
  /-- CAN_BUS_ERROR, R508. An error updates TEC or REC and the fault state, and may count a collision. -/
  | canBusError (dt : Nat) (p : Fin 6) (err : CanErr) (tx inData heavy exempt : Bool) (delay : Option (BitVec 8))
  /-- CAN_TX_TIMEOUT, R507. T_OUT expiry races the SOF strobe and withdraws an uncommitted frame with TIMEOUT. -/
  | canTxTimeout (dt : Nat) (b : Fin 512)
  /-- CAN_RESTART_DELAY_EXPIRY, R509. The bus-off restart delay ends and the recovery sequence starts. -/
  | canRestartDelayExpiry (dt : Nat) (p : Fin 6)
  /-- CAN_BUS_OFF_RECOVERED, R509. After 128 occurrences of 11 recessive bits the port is ERROR_ACTIVE again. -/
  | canBusOffRecovered (dt : Nat) (p : Fin 6)
  /-- CAN_INTEGRATION_COMPLETE, R500. A port leaving OFF or SLEEP has integrated on 11 recessive bits. -/
  | canIntegrationComplete (dt : Nat) (p : Fin 6)
  /-- CAN_BUS_ON_REQUEST, R509. A write of 1 to REQUEST starts bus-off recovery. -/
  | canBusOnRequest (dt : Nat) (p : Fin 6)
  /-- CAN_SLEEP_REQUEST, R511. A write of 2 to REQUEST asks the port to sleep at the next bus idle. -/
  | canSleepRequest (dt : Nat) (p : Fin 6)
  /-- CAN_SLEEP_ENTRY, R512. The port enters SLEEP at bus idle. -/
  | canSleepEntry (dt : Nat) (p : Fin 6)
  /-- CAN_WAKE_REQUEST, R515. A write of 3 to REQUEST wakes the port. -/
  | canWakeRequest (dt : Nat) (p : Fin 6)
  /-- CAN_EDGE_WAKE, R513. CANn_RX low for the wake filter time wakes the port. -/
  | canEdgeWake (dt : Nat) (p : Fin 6) (low : Nat)
  /-- CAN_FRAME_WAKE, R514. A matching frame wakes the port and is offered to the objects. -/
  | canFrameWake (dt : Nat) (p : Fin 6) (frame : CanFrame) (integrated : Bool)
  /-- FABRIC_FRAME_RECEIVE, R522. A fabric frame is checked, delivered or relayed on its tree. -/
  | fabricFrameReceive (dt : Nat) (l : Fin 4) (body : List Byte)
  /-- FABRIC_ACK_RECEIVE, R524. An acknowledgement word frees frames and returns credits, or a negative one triggers resend. -/
  | fabricAckReceive (dt : Nat) (l : Fin 4) (word : BitVec 32)
  /-- FABRIC_RETRY_TIMEOUT, R524. No acknowledgement for 5 µs resends from the oldest frame, up to the retry limit. -/
  | fabricRetryTimeout (dt : Nat) (l : Fin 4) (cls : Fin 3)
  /-- FABRIC_LOCK_LOSS, R521. Loss of symbol lock for 1 µs takes the link DOWN. -/
  | fabricLockLoss (dt : Nat) (l : Fin 4)
  /-- FABRIC_HELLO_SEND, R521. A link sends HELLO every 10 µs while training and every 1 ms once UP. -/
  | fabricHelloSend (dt : Nat) (l : Fin 4)
  /-- FABRIC_HELLO_TIMEOUT, R521. No HELLO for 5 ms takes the link DOWN. -/
  | fabricHelloTimeout (dt : Nat) (l : Fin 4)
  /-- FABRIC_HELD_EXPIRY, R521. A HELD link may train again after 1 s. -/
  | fabricHeldExpiry (dt : Nat) (l : Fin 4)
  /-- LINK_STATE_SEND, R527. LINK_STATE is flooded after a link change or every 100 ms. -/
  | linkStateSend (dt : Nat)
  /-- INNKEEPER_SEND, R527. The Innkeeper floods INNKEEPER every 10 ms. -/
  | innkeeperSend (dt : Nat)
  /-- INNKEEPER_TIMEOUT, R528. 30 ms without an INNKEEPER message calls an election. -/
  | innkeeperTimeout (dt : Nat)
  /-- ELECTION_DECIDE, R528. After t_settle without change every module takes the top-ranked reachable module as Innkeeper. -/
  | electionDecide (dt : Nat)
  /-- ROUTE_COMMIT_TIMEOUT, R527. 1 ms after ROUTE the Innkeeper sends COMMIT without every acknowledgement. -/
  | routeCommitTimeout (dt : Nat)
  /-- ADDRESS_RESERVATION_EXPIRY, R529. The reserved address of a departed module is freed after 10 s. -/
  | addressReservationExpiry (dt : Nat)
  /-- TIME_EXCHANGE, R534. Every 1 ms a module measures delay and offset to its parent and trims its PLL. -/
  | timeExchange (dt : Nat) (t1 t2 t3 t4 root freq : Int)
  /-- ETH_FRAME_RECEIVE, R543. An Ethernet frame is accepted as IPv4, ARP, ICMP or UDP, or discarded. -/
  | ethFrameReceive (dt : Nat) (e : Fin 2) (frame : List Byte) (fcsOk : Bool)
  /-- ETH_PHY_POLL, R542. Every 10 ms the port reads the PHY speed and duplex and handles link changes. -/
  | ethPhyPoll (dt : Nat) (e : Fin 2) (speed : Fin 4) (full : Bool)
  /-- ARP_TIMEOUT, R544. A reply waiting 100 ms for ARP is dropped and its tag released. -/
  | arpTimeout (dt : Nat) (e : Fin 2)
  /-- ARP_ENTRY_EXPIRY, R544. An ARP cache entry expires after 60 s. -/
  | arpEntryExpiry (dt : Nat) (e : Fin 2)
  /-- HSPI_WRITE_PACKET, R546. Command 0x01 takes one command packet ending when chip select rises. -/
  | hspiWritePacket (dt : Nat) (bytes : List Byte)
  /-- HSPI_READ_REPLY, R546. Command 0x02 returns the oldest queued reply, removed only when read whole. -/
  | hspiReadReply (dt : Nat) (clocked : Nat)
  /-- HSPI_READ_STATUS, R548. Command 0x03 returns the HSPI status word and clears START. -/
  | hspiReadStatus (dt : Nat)
  /-- HSPI_REGISTER_READ, R547. Command 0x10 reads a register in direct register mode. -/
  | hspiRegisterRead (dt : Nat) (a : BitVec 32) (waits : Option (Fin 33))
  /-- HSPI_REGISTER_WRITE, R547. Command 0x11 writes a register in direct register mode. -/
  | hspiRegisterWrite (dt : Nat) (a w : BitVec 32) (waits : Option (Fin 33))
  /-- HSPI_UNKNOWN_COMMAND, R545. An unknown command byte is ignored until chip select rises and FORMAT increments. -/
  | hspiUnknownCommand (dt : Nat) (b : Byte)
  /-- SER_FRAME_RECEIVE, R549. A serial frame to the node address is taken as a command packet, or discarded. -/
  | serFrameReceive (dt : Nat) (i : Fin 2) (bytes : List Byte) (framing : Bool) (gap : Nat)
  /-- SER_REPLY_SEND, R550. After the idle time the port sends a reply with readback, resending once on mismatch. -/
  | serReplySend (dt : Nat) (i : Fin 2) (idle : Nat) (back : List Byte)
  /-- TAP_INSTRUCTION_LOAD, R551. A boundary-scan instruction is loaded, or replaced by BYPASS while enabled. -/
  | tapInstructionLoad (dt : Nat) (ir : TapIr)
  /-- DBG_CHALLENGE, R552. Shifts out a new 16-byte nonce, or zeros during lockout. -/
  | dbgChallenge (dt : Nat)
  /-- DBG_RESPONSE, R552. Checks the response and unlocks debug access or counts a wrong response. -/
  | dbgResponse (dt : Nat) (response : List Byte)
  /-- DBG_ACCESS, R551. A debug access to a Hearth while debug is unlocked. -/
  | dbgAccess (dt : Nat) (h : Fin 4) (select : Option Bool)
  /-- DEBUG_LOCKOUT_EXPIRY, R552. The 60 s lockout after three wrong responses ends. -/
  | debugLockoutExpiry (dt : Nat)
  /-- SRAM_SCRUB, R557. The scrubber reads each word once every 60 s and spares failing rows. -/
  | sramScrub (dt : Nat) (row : Fin 16384) (corrected : Nat)
  /-- MRAM_PATROL, R560. Every 24 h H3 reads images, stores and boot records and rewrites corrected words. -/
  | mramPatrol (dt : Nat) (corrected : Nat)
  /-- UNCORRECTABLE_READ, R562. A read meeting an uncorrectable word is retried and, if lasting, poisoned with its area's effect. -/
  | uncorrectableRead (dt : Nat) (sram : Bool) (a : Nat) (lasting : Bool) (h : Fin 4) (k : Nat) (entry : Bool)
  /-- JOURNAL_WRITE, R566. H3 writes the next queued journal entry to the MRAM ring. -/
  | journalWrite (dt : Nat) (bad : Bool)
  /-- TRACE_TRIGGER_CONDITION, R568. An armed trigger condition starts the post-trigger part of a capture. -/
  | traceTriggerCondition (dt : Nat) (c : TraceCause)
  /-- TRACE_RECORD_COPY, R568. When the post-trigger share is full H3 copies the capture to the trace area. -/
  | traceRecordCopy (dt : Nat)
  /-- TRACE_COPY_COMPLETE, R568. The record header is written, 15.14 is raised and the recorder arms again. -/
  | traceCopyComplete (dt : Nat) (bad : Bool)
  /-- AUX_LINK_SLOT, R292. Each 1 µs slot carries one auxiliary link frame in each direction. -/
  | auxLinkSlot (dt : Nat)
  /-- AUX_DOWNLINK_RECEIVE, R294. The die takes a STEP, SET or IDLE frame, or counts it bad and latches LINK_LOST after three. -/
  | auxDownlinkReceive (dt : Nat) (flip : Option (BitVec 92))
  /-- AUX_UPLINK_RECEIVE, R294. The control die takes a FAULT or STATUS frame, or after three bad ones disables every axis. -/
  | auxUplinkReceive (dt : Nat) (flip : Option (BitVec 92))
  /-- AUX_RESEND_TIMEOUT, R293. A downlink frame not echoed within 2 slots is resent, up to 3 times. -/
  | auxResendTimeout (dt : Nat)
  /-- AUX_SWITCH_ON, R297. The die turns a switch on once the other gate is sensed off and the dead time has passed. -/
  | auxSwitchOn (dt : Nat) (l : Fin 12)
  /-- AUX_HANDSHAKE_TIMEOUT, R298. The other switch not sensed off within 2 µs latches HS_FAULT and disables the axis. -/
  | auxHandshakeTimeout (dt : Nat) (l : Fin 12)
  /-- AUX_LOW_UVLO, R300. A low-side supply below 8.0 V turns the leg off and disables the axis. -/
  | auxLowUvlo (dt : Nat) (leg : Option (Fin 12))
  /-- AUX_BOOT_UVLO, R303. A bootstrap below 7.5 V with the high side on starts soft turn-off and refresh. -/
  | auxBootUvlo (dt : Nat) (l : Fin 12)
  /-- AUX_REFRESH_END, R303. The 2 µs low-side refresh ends. -/
  | auxRefreshEnd (dt : Nat) (l : Fin 12)
  /-- AUX_BOOT_RECOVERED, R303. The bootstrap reaches 8.3 V and the leg returns to its commanded state, or the axis enable completes. -/
  | auxBootRecovered (dt : Nat) (l : Fin 12)
  /-- AUX_BOOT_RECOVERY_TIMEOUT, R303. A bootstrap not recovered within 1 ms, or not charged within 20 ms at enable, disables the axis. -/
  | auxBootRecoveryTimeout (dt : Nat) (l : Fin 12)
  /-- AUX_OVERCURRENT_TRIP, R308. A trip or hard-trip comparator starts soft turn-off and disables the axis. -/
  | auxOvercurrentTrip (dt : Nat) (l : Fin 12) (hard : Bool)
  /-- AUX_SOFT_OFF_FULL_SINK, R309. Every joined leg has spent t_soft in step 1 and the axis goes to full sink. -/
  | auxSoftOffFullSink (dt : Nat) (k : Fin 6)
  /-- DAMPER_REFERENCE_TIMEOUT, R382. No reference edge reaches the Damper for 1 ms of its own time, so the oscillator check fails and OSC_FAULT, STO and SBC are set. -/
  | damperReferenceTimeout (dt : Nat)
  /-- SP_PORT_EDGE, R399. An accepted A or B edge of an SP port is counted by the Damper; an illegal transition sets SP_FAULT, and SOS and SDI motion is checked against its window. -/
  | spPortEdge (dt : Nat) (q : Fin 2) (a b : Bool) (stable : Nat)
  /-- FABRIC_SYMBOL_LOCK, R521. The receiver of a fabric link gains symbol lock and comma alignment, and the link leaves DOWN for TRAINING. -/
  | fabricSymbolLock (dt : Nat) (l : Fin 4)
  /-- LOW_SIDE_UVLO_RISE, R299. A low-side gate supply of a leg rises back above 8.8 V and the low-side UVLO releases, which makes the axis enable possible again. -/
  | lowSideUvloRise (dt : Nat) (l : Fin 12)
  /-- CORE_TEST_END, R443. The built-in core test on cores B and C of a split Hearth ends, and the rejoin from core A starts. -/
  | coreTestEnd (dt : Nat) (h : Fin 4)
  /-- H0_CROSSLINK_RECEIVE, R381. H0 takes a heartbeat, a safety state or a request from the Damper over the cross-link, restarts its heartbeat timer and acts on it, for example by running an SS1 stop. -/
  | h0CrosslinkReceive (dt : Nat) (usec : BitVec 32)
  /-- SINCOS_PERIOD_COUNT, R113. A zero-crossing comparator of a sin/cos port counts a whole signal period, and a count that differs from the arctangent angle by more than a quarter period raises 3.13 and is corrected. -/
  | sincosPeriodCount (dt : Nat) (p : Fin 4) (cross : Option Bool) (sn cs : BitVec 16) (fast : Bool)
  /-- RESOLVER_HALF_PERIOD, R111. At each half period of the excitation, the resolver port demodulates its windings and advances its tracking loop. -/
  | resolverHalfPeriod (dt : Nat) (p : Fin 4) (samples : List (BitVec 14 × BitVec 14))
  /-- DAMPER_WINDOW_REFRESH, R609. Once every microsecond of Damper time, the Damper rewrites the whole DMP window and increments DMP_REFRESH. -/
  | damperWindowRefresh (dt : Nat)
  deriving DecidableEq, Repr

end Sys2Proof
end

