-- ==== Sys2Proof/Decode.lean ====
section
/-! DEFINITION. The commands of this block come from pins, lines and packets: the rows of spec/opcode_table.json give no
bits, so no word spells a command. The decoding of command packets is in Machine/PorterFam.lean (03 R65). -/
namespace Sys2Proof

/-- The command that a word spells by the bits of spec/opcode_table.json: none, since no row of it has bits. -/
def decodeTableWord (_nbits _w : Nat) : Option Instr := none

end Sys2Proof
end

