-- ==== Sys2Proof/Config.lean ====
section
/-! DEFINITION. What an implementation fixes and the spec leaves open: free values without a body.
No definition here can be evaluated, so a statement that mentions one holds whatever its value is. -/
namespace Sys2Proof.Config

/-- A fresh free value: applied to the free-value counter of State (log 8). -/
opaque freeNat : Nat → Nat
opaque freeBool : Nat → Bool

/-- Direction of an unstated rounding of `num / den`: true upward (log 9). -/
opaque roundUp : Int → Int → Bool
/-- Direction of an exact tie of a stated rounding to nearest: true upward (log 9). -/
opaque tieUp : Int → Int → Bool
/-- Final rounding of an angle, a sine or a cosine (05 R136, 07): true upward, by its operands (log 9). -/
opaque trigUp : Int → Int → Bool

/-- The next value of a filter that the spec names only by its order and its constant: present value, input,
elapsed time and time constant (log 10). -/
opaque filter : Int → Int → Int → Int → Int

/-- Factory values (00 R13, 20 R541, 21 R555): UID, MAC addresses, fabric identity (log 11). -/
opaque uid : BitVec 64
opaque mac : Nat → BitVec 48

/-- The synchronous demodulation of one winding (04 R111): settings of the port, samples of a half period (log 27). -/
opaque demod : List Nat → List Int → Int

/-- The ECDSA check of an image: header bytes and the image body (02 R53, log 12). -/
opaque imageSigned : List Byte → List Byte → Bool
/-- A nonce of the module's random generator, 16 bytes by the free-value counter (03 R83, 21 R552; log 12). -/
opaque nonceByte : Nat → Nat → Byte

/-- The ports that an Innkeeper chooses for the two trees of a destination (20 R530, R532): the database with its
addresses as encoded words, the number of the module, and the destination (log 13). -/
opaque routeEntry : List Nat → Nat → Nat → Word

/-- A value a document outside this spec fixes (log 14): kind and operands. -/
opaque outside : Nat → List Nat → Nat

end Sys2Proof.Config
end

