-- ==== Sys2Proof/Machine/Numeric.lean ====
section
/-! DEFINITION. Exact integer arithmetic with explicit rounding: fixed-point quotients, square roots, angles. -/
namespace Sys2Proof.Machine

/-- Clamp to `[lo, hi]`. -/
def clampI (lo hi x : Int) : Int := if x < lo then lo else if hi < x then hi else x

/-- The quotient where the spec states no rounding: exact when it is exact, otherwise one of the two neighbours,
left free (log 9). The denominator is positive in every use. -/
def neigh (num den : Int) : Int :=
  let q := num.fdiv den
  if q * den = num then q else if Config.roundUp num den then q + 1 else q

/-- The quotient rounded to nearest; an exact tie is left free (log 9). -/
def nearest (num den : Int) : Int :=
  let q := num.fdiv den
  let r := num - q * den
  if 2 * r < den then q else if den < 2 * r then q + 1 else if Config.tieUp num den then q + 1 else q

/-- Rounded to nearest, ties away from zero (stated). -/
def nearestAway (num den : Int) : Int :=
  if 0 ≤ num then (2 * num + den).fdiv (2 * den) else -((2 * (-num) + den).fdiv (2 * den))

/-- Signed value of the low `w` bits. -/
def signed (w : Nat) (n : Nat) : Int :=
  let m := n % 2 ^ w
  if 2 ^ w ≤ 2 * m then (m : Int) - 2 ^ w else m

/-- The low `w` bits of an integer. -/
def lowBits (w : Nat) (x : Int) : Nat := (x % (2 ^ w : Nat)).toNat

/-- Bits `hi` down to `lo` of a number. -/
def bits (n hi lo : Nat) : Nat := n / 2 ^ lo % 2 ^ (hi + 1 - lo)

/-- One bit of a number. -/
def bit (n i : Nat) : Bool := n / 2 ^ i % 2 = 1

/-- Value of a flag at a bit place. -/
def flag (b : Bool) (i : Nat) : Nat := if b then 2 ^ i else 0

/-- One step of the bitwise square root. -/
def isqrtGo (n : Nat) : Nat → Nat → Nat
  | 0, r => r
  | k + 1, r => let t := r + 2 ^ k; isqrtGo n k (if t * t ≤ n then t else r)

/-- Integer square root of a number below 2^128, rounded down. -/
def isqrt (n : Nat) : Nat := isqrtGo n 64 0

/-- Magnitude of a vector: the root, with its unstated rounding free (log 9). -/
def magnitude (a b : Int) : Int :=
  let n := (a * a + b * b).toNat
  let r := isqrt n
  if r * r = n then r else if Config.roundUp n 0 then r + 1 else r

/-- atan(2^-i) in 2^-32 turn, for i = 0 to 23. -/
def atanTable : List Int :=
  [536870912, 316933406, 167458907, 85004756, 42667331, 21354465, 10679838, 5340245,
   2670163, 1335087, 667544, 333772, 166886, 83443, 41722, 20861,
   10430, 5215, 2608, 1304, 652, 326, 163, 81]

/-- Vectoring: rotates (x, y) with x positive towards the axis and sums the angle. -/
def atanGo : List Int → Nat → Int → Int → Int → Int
  | [], _, _, _, z => z
  | a :: rest, i, x, y, z =>
    if 0 ≤ y then atanGo rest (i + 1) (x + y / 2 ^ i) (y - x / 2 ^ i) (z + a)
    else atanGo rest (i + 1) (x - y / 2 ^ i) (y + x / 2 ^ i) (z - a)

/-- Angle of (x, y) in 2^-32 turn, within a few units. -/
def atan32 (y x : Int) : Int :=
  if x = 0 ∧ y = 0 then 0
  else
    let X := x * 2 ^ 32
    let Y := y * 2 ^ 32
    let z := if 0 ≤ x then atanGo atanTable 0 X Y 0 else atanGo atanTable 0 (-X) (-Y) 0 + 2 ^ 31
    z % 2 ^ 32

/-- Angle of (x, y) in 1/65,536 turn; its last rounding is free (log 9). -/
def atan16 (y x : Int) : BitVec 16 :=
  let z := atan32 y x
  let q := z / 65536
  BitVec.ofInt 16 (if Config.trigUp y x then q + 1 else q)

/-- Rotation mode: turns (x, y) through the angle z of 2^-32 turn. -/
def rotGo : List Int → Nat → Int → Int → Int → Int × Int
  | [], _, x, y, _ => (x, y)
  | a :: rest, i, x, y, z =>
    if 0 ≤ z then rotGo rest (i + 1) (x - y / 2 ^ i) (y + x / 2 ^ i) (z - a)
    else rotGo rest (i + 1) (x + y / 2 ^ i) (y - x / 2 ^ i) (z + a)

/-- Cosine and sine of an angle of 2^-32 turn, each times 2^30. -/
def cosSin30 (z : Int) : Int × Int :=
  let z := z % 2 ^ 32
  -- start vector 2^46 / gain of the 24 rotations
  let g : Int := 42731626434776
  let q := z / 2 ^ 30
  let r := z % 2 ^ 30 - 2 ^ 29
  -- rotate by r from the diagonal of quadrant q
  let (c, s) := rotGo atanTable 0 g 0 r
  let d : Int := 759250125   -- 2^30 / sqrt 2
  let cx := (c * d - s * d) / 2 ^ 46
  let sx := (c * d + s * d) / 2 ^ 46
  match q.toNat with
  | 0 => (cx, sx)
  | 1 => (-sx, cx)
  | 2 => (-cx, -sx)
  | _ => (sx, -cx)

/-- 1/√3 as a fraction of 2^40. -/
def invSqrt3 : Int := 634803334273
/-- √3 as a fraction of 2^40. -/
def sqrt3 : Int := 1904410002820

/-- Difference of two 16-bit angles as a signed number of −32,768 to 32,767 (05 R135). -/
def angleDiff (a b : BitVec 16) : Int := (a - b).toInt

end Sys2Proof.Machine
end

