-- ==== Sys2Proof/Machine/Crypto.lean ====
section
/-! DEFINITION. The checks and codes over bytes that the spec names: CRC-32C (03 R67), CRC-8 (10 R267), SHA-256
and HMAC-SHA-256 (03 R68, R83), and byte order. -/
namespace Sys2Proof.Machine

/-- Number of bytes, most significant first (03 R65). -/
def beNat (l : List Byte) : Nat := l.foldl (fun a b => a * 256 + b.toNat) 0

/-- The low `k` bytes of a number, most significant first (03 R65). -/
def beBytes : Nat → Nat → List Byte
  | 0, _ => []
  | k + 1, n => BitVec.ofNat 8 (n / 256 ^ k) :: beBytes k n

/-- Bytes `i` to `i + k − 1` of a list as a number, missing bytes as zero. -/
def field (l : List Byte) (i k : Nat) : Nat :=
  beNat ((l.drop i).take k ++ List.replicate (k - ((l.drop i).take k).length) 0)

/-- Eight shifts of the reflected CRC-32C register. -/
def crc32cShift : Nat → BitVec 32 → BitVec 32
  | 0, c => c
  | k + 1, c => crc32cShift k (if c.getLsbD 0 then (c >>> 1) ^^^ 0x82F63B78#32 else c >>> 1)

/-- The CRC-32C register after one byte. -/
def crc32cByte (c : BitVec 32) (b : Byte) : BitVec 32 := crc32cShift 8 (c ^^^ b.setWidth 32)

/-- CRC-32C with a given initial value (03 R67, 15 R408). -/
def crc32cSeed (seed : BitVec 32) (l : List Byte) : BitVec 32 := ~~~(l.foldl crc32cByte seed)

/-- CRC-32C of 03 R67. -/
def crc32c (l : List Byte) : BitVec 32 := crc32cSeed 0xFFFFFFFF#32 l

/-- Shifts of a CRC-8 register of a polynomial, most significant bit first. -/
def crc8Shift (poly : BitVec 8) : Nat → BitVec 8 → BitVec 8
  | 0, c => c
  | k + 1, c => crc8Shift poly k (if c.getLsbD 7 then (c <<< 1) ^^^ poly else c <<< 1)

/-- CRC-8 over bytes with a polynomial and an initial value, not reflected. -/
def crc8 (poly init : BitVec 8) (l : List Byte) : BitVec 8 :=
  l.foldl (fun c b => crc8Shift poly 8 (c ^^^ b)) init

/-! SHA-256 is named by the spec and not laid out in it; it is that of FIPS 180-4 (PRESUMED, log 85). Its constants are
computed from their definition: fractional parts of roots of primes. -/

/-- The primes below a bound. -/
def primesBelow (n : Nat) : List Nat :=
  (List.range n).filter (fun p => decide (2 ≤ p) && (List.range p).all (fun d => decide (d < 2) || p % d != 0))

/-- The greatest number above `r`, by its low bits from the highest on, whose `k`-th power does not exceed `n`. -/
def rootGo (k n : Nat) : Nat → Nat → Nat
  | 0, r => r
  | b + 1, r => rootGo k n b (if (r + 2 ^ b) ^ k ≤ n then r + 2 ^ b else r)

/-- The first 32 bits of the fractional part of the `k`-th root of a number below 2^8. -/
def rootWord (k p : Nat) : BitVec 32 := BitVec.ofNat 32 (rootGo k (p * 2 ^ (32 * k)) 40 0)

/-- The 64 constants of the rounds: cube roots; and the initial value: square roots. -/
def shaConsts : List (BitVec 32) := (primesBelow 312).map (rootWord 3)
def shaStart : List (BitVec 32) := (primesBelow 20).map (rootWord 2)

/-- Exclusive-or of a word turned right by three amounts. -/
def turns (x : BitVec 32) (i j k : Nat) : BitVec 32 := x.rotateRight i ^^^ x.rotateRight j ^^^ x.rotateRight k

/-- The schedule, newest word first, extended by one word at a time. -/
def shaExtend : Nat → List (BitVec 32) → List (BitVec 32)
  | 0, l => l
  | k + 1, l =>
    let back (i : Nat) : BitVec 32 := l.getD (i - 1) 0
    let mixed (x : BitVec 32) (i j n : Nat) : BitVec 32 := x.rotateRight i ^^^ x.rotateRight j ^^^ (x >>> n)
    shaExtend k ((mixed (back 2) 17 19 10 + back 7 + mixed (back 15) 7 18 3 + back 16) :: l)

/-- Bytes as words, the first word last. -/
def shaInput : Nat → List Byte → List (BitVec 32) → List (BitVec 32)
  | 0, _, acc => acc
  | k + 1, l, acc => shaInput k (l.drop 4) (BitVec.ofNat 32 (field l 0 4) :: acc)

/-- One round on the eight working words; `kw` is the sum of its constant and its schedule word. -/
def shaStep (v : List (BitVec 32)) (kw : BitVec 32) : List (BitVec 32) :=
  let x (i : Nat) : BitVec 32 := v.getD i 0
  let choice := x 6 ^^^ (x 4 &&& (x 5 ^^^ x 6))
  let majority := (x 0 &&& x 1) ||| (x 2 &&& (x 0 ||| x 1))
  let t := x 7 + turns (x 4) 6 11 25 + choice + kw
  [t + turns (x 0) 2 13 22 + majority, x 0, x 1, x 2, x 3 + t, x 4, x 5, x 6]

/-- The digest words after one block of 64 bytes. -/
def shaBlock (v : List (BitVec 32)) (block : List Byte) : List (BitVec 32) :=
  let ws := (shaExtend 48 (shaInput 16 block [])).reverse
  v.zipWith (· + ·) ((shaConsts.zipWith (· + ·) ws).foldl shaStep v)

/-- The digest words after `k` blocks. -/
def shaChain : Nat → List Byte → List (BitVec 32) → List (BitVec 32)
  | 0, _, v => v
  | k + 1, l, v => shaChain k (l.drop 64) (shaBlock v (l.take 64))

/-- SHA-256: the message, a one bit, zeros up to a whole block, and the length in bits in the last eight bytes. -/
def sha256 (m : List Byte) : List Byte :=
  let blocks := (m.length + 9 + 63) / 64
  let l := m ++ 0x80 :: List.replicate (64 * blocks - 9 - m.length) 0 ++ beBytes 8 (8 * m.length)
  (shaChain blocks l shaStart).flatMap (fun w => beBytes 4 w.toNat)

/-- HMAC-SHA-256 (03 R68, R83; 21 R552). -/
def hmac (key msg : List Byte) : List Byte :=
  let k := if key.length > 64 then sha256 key else key
  let k := k ++ List.replicate (64 - k.length) 0
  sha256 (k.map (fun b => b ^^^ 0x5C) ++ sha256 (k.map (fun b => b ^^^ 0x36) ++ msg))

end Sys2Proof.Machine
end

