-- ==== Sys2Proof/Machine/PInfo.lean ====
section
/-! DEFINITION. The parameter table of the module: for every parameter its type, access code, default and range
(03 R87, R633 and the parameter tables of every chapter). -/
namespace Sys2Proof.Machine

/-- Parameter types in the order of 23 R582. -/
inductive PTy where
  | u8 | s8 | u16 | s16 | u32 | s32 | u64 | str
  deriving DecidableEq, Repr

/-- Access codes in the order of 00 R5. -/
inductive PAcc where
  | ro | rw | wo | w1c | w1s | rc | rwl
  deriving DecidableEq, Repr

/-- Number of bytes of a type; a string has none that a PARAM opcode carries (23 R582). -/
def PTy.width : PTy → Nat
  | .u8 => 1 | .s8 => 1 | .u16 => 2 | .s16 => 2 | .u32 => 4 | .s32 => 4 | .u64 => 8 | .str => 0

def PTy.isSigned : PTy → Bool
  | .s8 => true | .s16 => true | .s32 => true | _ => false

/-- Code of a type and of an access in PARAM_INFO (23 R582). -/
def PTy.code : PTy → Nat
  | .u8 => 0 | .s8 => 1 | .u16 => 2 | .s16 => 3 | .u32 => 4 | .s32 => 5 | .u64 => 6 | .str => 7
def PAcc.code : PAcc → Nat
  | .ro => 0 | .rw => 1 | .wo => 2 | .w1c => 3 | .w1s => 4 | .rc => 5 | .rwl => 6

/-- Type, access, default, least and greatest value, and single values allowed outside that range. -/
structure PSpec where
  ty : PTy
  acc : PAcc
  dflt : Int
  lo : Int
  hi : Int
  also : List Int := []
  deriving DecidableEq, Repr

/-- One row: target kind of 03 R66 (0 module, 1 machine, 2 axis, 3 profile channel, 4 Stove, 7 event source),
first index, number of indices, and the subindices with their properties. -/
structure PRow where
  kind : Nat
  base : Nat
  count : Nat
  subs : List (Nat × Nat × PSpec)
  deriving DecidableEq, Repr

/-- Greatest value of a type. -/
def PTy.top : PTy → Int
  | .u8 => 255 | .s8 => 127 | .u16 => 65535 | .s16 => 32767 | .u32 => 4294967295 | .s32 => 2147483647
  | .u64 => 18446744073709551615 | .str => 0
def PTy.bottom : PTy → Int
  | .s8 => -128 | .s16 => -32768 | .s32 => -2147483648 | _ => 0

def pRo (ty : PTy) (d : Int := 0) : PSpec := ⟨ty, .ro, d, ty.bottom, ty.top, []⟩
def pOvf : PSpec := ⟨.u8, .w1c, 0, 0, 255, []⟩
def pRw (ty : PTy) (d lo hi : Int) (also : List Int := []) : PSpec := ⟨ty, .rw, d, lo, hi, also⟩
def pRwl (ty : PTy) (d lo hi : Int) (also : List Int := []) : PSpec := ⟨ty, .rwl, d, lo, hi, also⟩
def pAny (ty : PTy) (acc : PAcc) (d : Int) : PSpec := ⟨ty, acc, d, ty.bottom, ty.top, []⟩

/-- Consecutive subindices from `i`, one property each. -/
def subsFrom : Nat → List PSpec → List (Nat × Nat × PSpec)
  | _, [] => []
  | i, p :: ps => (i, i, p) :: subsFrom (i + 1) ps

/-- Module: timing and memory, sensing, Hearths, Flue (04 R124, 11 R316, 16 R452, 17 R474, 22 R573). -/
def rowsModuleA : List PRow := [
  ⟨0, 0x0400, 1, [(1, 8, pRw .u16 0x4400 0 65535)]⟩,
  ⟨0, 0x0401, 8, subsFrom 1 [pRo .u64, pRo .u32, ⟨.u8, .w1c, 0, 0, 255, []⟩, pRo .u8, pOvf]⟩,
  ⟨0, 0x0410, 4, subsFrom 1 [pRwl .u8 0 0 4, pRwl .u8 100 40 200, pRwl .u8 40 20 70, pRwl .u16 0 0 1800,
    pRwl .u8 1 1 2 [4], pRwl .u16 500 100 2000, pRwl .u32 4096 64 4194304, pRwl .u8 4 1 64, pRwl .u8 4 0 255,
    pRwl .u32 0x01F40019 0 4294967295, pRwl .u8 20 10 100, pRwl .u16 1024 1 65535]⟩,
  ⟨0, 0x0414, 4, subsFrom 1 [pRo .u16, pRo .u16, pOvf, pRo .u32]⟩,
  ⟨0, 0x0420, 1, subsFrom 1 [pRo .u16, pOvf]⟩,
  ⟨0, 0x0421, 1, subsFrom 1 [pRo .u8 0xFF, pRo .u8 0xFF, pRo .u16, ⟨.u8, .w1c, 0, 0, 255, []⟩]⟩,
  ⟨0, 0x0500, 4, subsFrom 1 [pRo .u32 0x07F80000, pRo .u64, pRo .u64]⟩,
  ⟨0, 0x0508, 4, subsFrom 1 [pRo .u16, pRo .u32, pRo .u8, pRo .u16, pRo .u16, pOvf]⟩,
  ⟨0, 0x0610, 1, subsFrom 1 [pRwl .u8 0 0 1]⟩,
  ⟨0, 0x0611, 1, subsFrom 1 [pRo .u32, pRo .u16, pRo .u16, pOvf]⟩,
  ⟨0, 0x0700, 1, subsFrom 1 [pRo .u32, pRo .u16, pRo .u32, pRo .u16, pRo .u16, pRo .u32, pOvf]⟩,
  ⟨0, 0x0701, 1, subsFrom 1 [pRo .u16 256, pRo .u16 2048]⟩,
  ⟨0, 0x0710, 1, subsFrom 1 [pRo .u32, pRo .u32]⟩,
  ⟨0, 0x0720, 1, [(1, 16, pAny .u64 .rw 0)] ++ subsFrom 17 [pRw .u8 0 0 255, pRw .u16 1 1 65535, pRw .u8 4 0 16,
    pRw .u8 0 0 1] ++ [(21, 24, pAny .u64 .rw 0)] ++ subsFrom 25 [pRw .u8 0 0 255, pAny .s32 .rw 0,
    pRw .u8 0xFF 0 7 [0xFF]]⟩,
  ⟨0, 0x0721, 1, subsFrom 1 [pRo .u16, pRo .u32]⟩]

/-- Module: transports (03 R86, 19 R519, 21 R555). -/
def rowsModuleB : List PRow := [
  ⟨0, 0x1100, 12, subsFrom 1 [pRo .u16, pRo .u16, pRo .u16, pRo .u16, pOvf]⟩,
  ⟨0, 0x1200, 6, subsFrom 1 [pRw .u8 1 0 2, pRw .u8 0 0 7, pRw .u8 0 0 1, pRw .u16 100 0 1000,
    pAny .u32 .rw 0x640, pAny .u32 .rw 0x6C0, pRw .u8 1 0 1, ⟨.u8, .wo, 0, 1, 3, []⟩]⟩,
  ⟨0, 0x1210, 6, subsFrom 1 [pRw .u16 2 1 64, pRw .u16 159 2 256, pRw .u16 40 1 128, pRw .u16 40 1 128,
    pRw .u16 1 1 4, pRw .u16 19 1 32, pRw .u16 5 1 16, pRw .u16 5 1 16, pRw .u16 10 0 127,
    pRw .u16 2 1 63, pRw .u16 6 1 63, pRw .u16 0 1 63 [0]]⟩,
  ⟨0, 0x1220, 6, subsFrom 1 [pRw .u8 0 0 1, pRw .u16 40 20 400, pRw .u32 0 0 0x1FFFFFFF,
    pRw .u32 0x1FFFFFFF 0 0x1FFFFFFF, pRw .u8 0 0 1, pAny .u64 .rw 0, pAny .u64 .rw 0]⟩,
  ⟨0, 0x1230, 6, subsFrom 1 [pRo .u32, pRo .u16, pRo .u8, pRo .u8]⟩,
  ⟨0, 0x1240, 6, subsFrom 1 [pRo .u16, pRo .u16, pRo .u16, pRo .u16, pOvf]⟩,
  ⟨0, 0x1300, 2, subsFrom 1 [pRo .u64, pAny .u32 .rw 0, pAny .u32 .rw 0, pAny .u32 .rw 0, pRw .u8 1 0 1,
    pRw .u8 0 0 31, pRo .u8, pRo .u32, pOvf]⟩,
  ⟨0, 0x1310, 1, subsFrom 1 [pRo .u32]⟩,
  ⟨0, 0x1320, 2, subsFrom 1 [pRw .u8 1 0 254, pRw .u32 115200 9600 10000000, pRo .u16, pOvf]⟩,
  ⟨0, 0x1330, 1, subsFrom 1 [⟨.str, .wo, 0, 0, 0, []⟩, pRo .u16, pOvf]⟩]

/-- Module: safety (15 R423). -/
def rowsModuleC : List PRow := [
  ⟨0, 0x6000, 1, subsFrom 1 [pAny .u32 .rwl 0, pRo .u32, pRo .u32, pRwl .u32 0 1 4294967295]⟩,
  ⟨0, 0x6002, 1, subsFrom 1 [pRwl .u8 0xFF 0 6 [0xFF], pRwl .u8 0 0 255]⟩,
  ⟨0, 0x6003, 1, subsFrom 1 [pRwl .u16 100 20 500, pRwl .u16 20 1 500, pRwl .u8 0x0F 0 15]⟩,
  ⟨0, 0x6010, 8, subsFrom 1 [pRwl .u8 1 0 2, pRwl .u16 100 20 500, pRwl .u16 20 1 500, pRo .u8, pOvf]⟩,
  ⟨0, 0x6020, 4, subsFrom 1 [pRwl .u8 0xFF 0 3 [0xFF], pRwl .u16 300 100 1000, pRwl .u16 100 10 1000,
    pRwl .u8 0xFF 0 6 [0xFF], pRwl .u16 200 10 1000]⟩,
  ⟨0, 0x6030, 2, subsFrom 1 [pRwl .u8 0xFF 0 3 [0xFF], pRwl .u32 4096 64 65536, pRwl .u8 4 4 64,
    pRwl .u8 2 1 2 [4, 8], pRwl .u16 50 1 200, pRwl .u16 10 1 1000, pRwl .u16 50 10 1000]⟩,
  ⟨0, 0x6040, 8, subsFrom 1 [pRwl .u8 0 0 1, pRwl .u8 0 0 1, pRwl .u8 0 0 8, pAny .u16 .rwl 0, pAny .u32 .rwl 0,
    pRwl .u16 100 5 2000, pRwl .u16 20 1 1000, pAny .u32 .rwl 0, pAny .u16 .rwl 0]⟩,
  ⟨0, 0x6050, 8, subsFrom 1 [pRo .u16, pRo .u32, pRo .u16, pRo .u16, pOvf]⟩]

/-- Module: fabric, calibration, thermal (14 R375, 18 R495, 20 R541). -/
def rowsModuleD : List PRow := [
  ⟨0, 0x8000, 1, subsFrom 1 [pRwl .u8 128 0 255, pRwl .u8 0xFF 0 62 [0xFF], pRwl .u16 2 1 100, pRwl .u8 0xF 0 15]⟩,
  ⟨0, 0x8001, 1, subsFrom 1 [pRo .u64, pRo .u8 0xFF, pRo .u8 0xFF]⟩,
  ⟨0, 0x8002, 1, subsFrom 1 [pRo .u32, pRo .u16]⟩,
  ⟨0, 0x8010, 4, subsFrom 1 [pRo .u32, pRo .u64, pRo .u16]⟩,
  ⟨0, 0x8020, 4, subsFrom 1 [pRo .u32, pRo .u16, pRo .u16, pOvf]⟩,
  ⟨0, 0x8030, 1, subsFrom 1 [pRo .s32, pRo .s32, pRo .u8]⟩,
  ⟨0, 0x8040, 1, [(1, 64, pRo .u32)]⟩,
  ⟨0, 0x8050, 1, subsFrom 1 [pRo .u16, pRo .u16, pOvf]⟩,
  ⟨0, 0x9100, 4, subsFrom 1 [pRw .u8 1 0 1, pRo .s16, pRo .s16, pRo .u32 65536, pRo .s16]⟩,
  ⟨0, 0x9200, 1, [(1, 18, pRo .u16)]⟩,
  ⟨0, 0x9300, 1, [(1, 10, pRo .s16)]⟩,
  ⟨0, 0x9307, 1, subsFrom 1 [pRo .u16, pRo .u32, pOvf]⟩,
  ⟨0, 0x9400, 44, subsFrom 1 [pRwl .u8 0 0 255, pAny .u16 .rwl 0, pAny .s16 .rw 0, pAny .s16 .rw 0, pAny .s16 .rw 0,
    pRw .u16 200 1 10000, pRw .u8 0 0 15, pAny .u32 .rw 0xFFFFFFFF, pAny .s32 .rwl 0, pAny .s32 .rwl 0]⟩,
  ⟨0, 0x9480, 44, subsFrom 1 [pRo .s16, pRo .u16, pRo .s16, ⟨.u8, .wo, 0, 0, 255, []⟩, pRo .u8, pRo .u8, pOvf]⟩,
  ⟨0, 0x94F0, 1, subsFrom 1 [pRw .u16 20 5 100, pRw .u16 50 10 10000, pRw .u16 256 0 1024]⟩,
  ⟨0, 0x94F7, 1, subsFrom 1 [pRo .u32, pOvf]⟩]

/-- Machine: sensing, torque-flux unit, stages (04 R124, 05 R155, 06 R184). -/
def rowsMachineA : List PRow := [
  ⟨1, 0x2110, 1, [(1, 2, pRw .u32 1000 0 4000)]⟩,
  ⟨1, 0x2200, 1, [(1, 4, pRwl .u8 1 0 2)]⟩,
  ⟨1, 0x2201, 1, [(1, 4, pRwl .u8 5 0 9)]⟩,
  ⟨1, 0x2202, 1, [(1, 2, pRwl .u32 10000 1 10000000)]⟩,
  ⟨1, 0x2203, 1, [(0, 0, pRwl .u32 10000 1 10000000)]⟩,
  ⟨1, 0x2204, 1, [(1, 4, pRw .u16 29491 1024 32767)]⟩,
  ⟨1, 0x2205, 1, [(1, 4, pRo .u16), (5, 5, pOvf)]⟩,
  ⟨1, 0x2210, 2, [(0, 0, pRwl .u32 20000 1 10000000)]⟩,
  ⟨1, 0x2212, 1, [(0, 0, pRwl .u32 10000 1 10000000)]⟩,
  ⟨1, 0x2220, 1, [(1, 4, pAny .u32 .rw 0x3FF)]⟩,
  ⟨1, 0x2221, 1, [(1, 3, pRw .u16 32767 1024 32767)]⟩,
  ⟨1, 0x2300, 1, [(0, 0, pRwl .u8 0 0 3 [0xFF])]⟩,
  ⟨1, 0x2301, 1, [(0, 0, pRwl .u8 2 1 64)]⟩,
  ⟨1, 0x2400, 1, [(0, 0, pRwl .u8 0 0 1)]⟩,
  ⟨1, 0x2401, 1, [(0, 0, pRwl .u32 10000 1 1000000)]⟩,
  ⟨1, 0x2402, 1, [(0, 0, pRwl .u32 10000 1 100000000)]⟩,
  ⟨1, 0x2403, 1, [(0, 0, pRwl .u32 10000 0 100000000)]⟩,
  ⟨1, 0x2404, 1, [(1, 3, pAny .u32 .rwl 0)]⟩,
  ⟨1, 0x2405, 1, [(0, 0, pRw .u16 1000 50 5000)]⟩,
  ⟨1, 0x2406, 1, [(0, 0, pRwl .u16 500 0 5000)]⟩,
  ⟨1, 0x2408, 1, subsFrom 1 [pRwl .u16 200 100 800, pRwl .u16 0 0 795, pRwl .u16 50 10 200]⟩,
  ⟨1, 0x2410, 1, [(0, 0, pRo .u32)]⟩,
  ⟨1, 0x2411, 1, subsFrom 1 [pRw .u16 40 1 512, pRw .u16 20 1 512, pRw .u16 46 0 182]⟩,
  ⟨1, 0x2412, 1, [(1, 2, pRwl .u16 30 10 1000)]⟩,
  ⟨1, 0x2413, 1, subsFrom 1 [pRw .u16 1500 500 10000, pRw .u16 200 16 4096, pRw .u16 64 0 256, pRw .u16 64 16 256,
    pRw .u16 1024 256 2048, pRo .u16 256]⟩,
  ⟨1, 0x2414, 1, subsFrom 1 [pRw .u16 512 256 1024, pRw .u16 1075 1024 1229]⟩,
  ⟨1, 0x2415, 1, subsFrom 1 [pRw .u16 591 560 650, pRw .u16 31 0 102, pRw .u16 4 1 64, pRw .u16 20 1 102,
    pRw .u16 200 1 4096]⟩,
  ⟨1, 0x2417, 1, subsFrom 1 [pRo .u32, pRo .u16, pRo .u16, pOvf]⟩,
  ⟨1, 0x2420, 1, subsFrom 1 [pRwl .u8 0 0 5, pRwl .u8 2 2 4, pRwl .u8 1 1 4]⟩,
  ⟨1, 0x2421, 1, subsFrom 1 [pRwl .u8 0xFF 0 31 [0xFF], pRw .u32 1000 1 1000000, pRw .u32 16 1 64, pRw .u32 20 1 255,
    pRw .u32 8 1 255, pRw .u32 60 1 255]⟩,
  ⟨1, 0x2422, 1, subsFrom 1 [pRw .u16 819 512 1000, pRw .u16 666 256 980]⟩,
  ⟨1, 0x2423, 1, subsFrom 1 [pRw .u16 4 0 65535, pRw .u16 256 0 65535, pRw .u16 64 0 65535, pRw .u16 64 0 65535]⟩,
  ⟨1, 0x2424, 1, [(1, 3, pRwl .u8 0xFF 0 3 [0xFF]), (4, 4, pRw .u32 100 1 100000), (5, 5, pRw .u32 64 1 512)]⟩,
  ⟨1, 0x2425, 1, subsFrom 1 [pRw .u32 200 1 100000, pRw .u32 102 1 512]⟩,
  ⟨1, 0x2430, 1, [(0, 0, pRwl .u16 0xFFFF 0 795 [0xFFFF])]⟩,
  ⟨1, 0x2431, 1, [(0, 0, pRwl .u8 0 0 15)]⟩,
  ⟨1, 0x2432, 1, subsFrom 1 [pRo .u32, pRo .u16, pRo .u16, pRo .u16, pOvf]⟩]

/-- Machine: starting, gate link, DC link (07 R209, 10 R287, 12 R340). -/
def rowsMachineB : List PRow := [
  ⟨1, 0x2500, 1, [(2, 2, pRwl .u8 1 0 1), (3, 3, pRwl .u8 0 0 1)]⟩,
  ⟨1, 0x2501, 1, subsFrom 1 [pRw .u16 307 64 512, pRw .u16 2000 10 5000, pRw .u16 500 0 10000, pRw .u16 20 1 255,
    pRw .u16 10 1 255, pRw .u16 32 1 511, pRw .u16 8 1 255, pRw .u16 3 1 3]⟩,
  ⟨1, 0x2502, 1, [(0, 0, pRwl .u16 0 0 65535)]⟩,
  ⟨1, 0x2503, 1, subsFrom 1 [pRw .u16 20 1 500, pRw .u16 205 16 512, pRw .u16 500 20 5000, pRw .u16 16 4 128,
    pRw .u16 1000 1 10000, pRw .u16 100 1 600]⟩,
  ⟨1, 0x2504, 1, subsFrom 1 [pRw .u16 410 64 1024, pRw .u16 200 1 10000]⟩,
  ⟨1, 0x2505, 1, subsFrom 1 [pRw .u16 5 1 100, pRw .u16 50 5 500, pRw .u16 30 1 1000, pRw .u16 10 1 100,
    pRw .u16 1820 91 8192, pRw .u16 154 10 512, pRw .u16 512 0 1023, pRw .u16 40 1 4096, pRw .u16 8 1 256,
    pRw .u16 5000 0 60000]⟩,
  ⟨1, 0x2506, 1, subsFrom 1 [pRw .u16 100 1 2000, pRw .u16 8 1 256, pRw .u16 300 10 2000, pRw .u16 50 1 1000]⟩,
  ⟨1, 0x2507, 1, [(1, 4, pAny .u32 .rwl 0)]⟩,
  ⟨1, 0x2510, 1, [(0, 0, pRo .u8)]⟩,
  ⟨1, 0x2511, 1, subsFrom 1 [pRo .u16, pRo .s32, pRo .u16, pRo .u32]⟩,
  ⟨1, 0x2517, 1, subsFrom 1 [pRo .u16, pRo .u16, pRo .u16, pRo .u8, pOvf]⟩,
  ⟨1, 0x2600, 1, subsFrom 1 [pRwl .u16 200 5 500, pRwl .u16 100 10 1000, pRwl .u16 20 10 80]⟩,
  ⟨1, 0x2610, 1, subsFrom 1 [pRo .u32]⟩,
  ⟨1, 0x2611, 1, [(1, 51, pRo .s16)]⟩,
  ⟨1, 0x2617, 1, subsFrom 1 [pRo .u16, pRo .u16, pRo .u16, pOvf]⟩,
  ⟨1, 0x2700, 1, subsFrom 1 [pRwl .u16 717 0 65535, pRwl .u16 819 0 65535, pRwl .u16 1167 0 65535,
    pRwl .u16 1198 0 65535, pRwl .u16 1208 0 65535, pRwl .u16 1249 0 65535, pRwl .u16 1280 0 65535]⟩,
  ⟨1, 0x2701, 1, subsFrom 1 [pRwl .u8 0 0 1, pRwl .u8 0 0 3 [0xFF], pRwl .u16 30 10 1000, pRwl .u16 200 50 10000]⟩,
  ⟨1, 0x2702, 1, subsFrom 1 [pRwl .u32 10000 100 1000000, pRwl .u32 1000000 1 100000000, pRwl .u32 120 1 3600,
    pRo .u32 500000]⟩,
  ⟨1, 0x2703, 1, subsFrom 1 [pRwl .u16 2 0 3, pRwl .u16 3 0 3, pRwl .u16 100 1 65535, pRwl .u16 50 1 1000,
    pRwl .u16 100 1 10000, pRwl .u16 1 0 1]⟩,
  ⟨1, 0x2704, 1, subsFrom 1 [pRw .u8 1 0 1, pRw .s16 0 (-4000) 4000, pRw .u16 300 10 5000, pRo .s16]⟩,
  ⟨1, 0x2705, 1, subsFrom 1 [pRwl .u8 0 0 1, pRwl .u8 0 0 1, pRwl .u16 500 100 1000]⟩,
  ⟨1, 0x2706, 1, subsFrom 1 [pRw .u16 0 10 60000 [0], pRw .u16 0x0FFF 0 0x0FFF, pRw .u16 2000 0 60000]⟩,
  ⟨1, 0x2707, 1, subsFrom 1 [pRwl .u8 0 0 1, pRwl .u8 0 0 15, pRwl .u16 26214 1 32767, pRwl .u16 1638 1 8192,
    pRwl .u16 200 1 5000, pRwl .s16 0 (-4000) 4000, pRwl .u16 1000 1 65535]⟩,
  ⟨1, 0x2710, 1, [(0, 0, pRo .u32)]⟩,
  ⟨1, 0x2717, 1, subsFrom 1 [pRo .u16, pRo .u16, pRo .u16, pRo .u16, pOvf]⟩]

/-- Machine: safety, load sharing, calibration, thermal (13 R356, 14 R375, 15 R423, 18 R495). -/
def rowsMachineC : List PRow := [
  ⟨1, 0x6100, 1, [(1, 9, pRwl .u16 0 0 65535)]⟩,
  ⟨1, 0x6101, 1, subsFrom 1 [pRwl .u8 0 0 1, pRwl .u8 1 0 1, pRwl .u16 500 0 5000]⟩,
  ⟨1, 0x6102, 1, subsFrom 1 [pRwl .u8 0 0 1, pRwl .u16 2000 10 60000, pRwl .u16 1000 1 65535, pRwl .u16 100 0 1000,
    pRwl .u16 10 1 1000]⟩,
  ⟨1, 0x6103, 1, subsFrom 1 [pRwl .u16 500 0 10000, pRwl .u16 50 1 3600]⟩,
  ⟨1, 0x6104, 1, subsFrom 1 [pRwl .u16 100 1 20000, pRwl .u16 300 1 20000, pRwl .u16 600 1 20000,
    pRwl .u16 1000 1 20000, pRwl .u16 1000 10 10000]⟩,
  ⟨1, 0x6105, 1, subsFrom 1 [pRwl .u16 50 1 20000, pRwl .u16 5 1 1000]⟩,
  ⟨1, 0x6106, 1, subsFrom 1 [pRwl .u16 100 1 3600]⟩,
  ⟨1, 0x6110, 1, [(0, 0, pRo .u32 0x80E00800)]⟩,
  ⟨1, 0x6117, 1, subsFrom 1 [pRo .u32, pOvf]⟩,
  ⟨1, 0x8200, 1, subsFrom 1 [pRwl .u8 0 0 255, pRwl .u8 1 0 2, pRwl .u8 0 0 7, pRwl .u16 1024 1 4096,
    ⟨.s32, .rwl, 65536, -2147483648, 2147483647, []⟩, pRwl .u8 0xFF 0 63 [0xFF], pRwl .u8 0xFF 0 63 [0xFF],
    pRwl .u8 0 0 1, pRwl .u16 31 0 205, pRwl .u16 1500 1 20000]⟩,
  ⟨1, 0x8201, 1, subsFrom 1 [pRwl .u8 0 0 2, pRwl .u8 0 0 62, pRwl .u8 0 0 3, pRwl .u16 20 1 100]⟩,
  ⟨1, 0x8210, 1, subsFrom 1 [pRo .u32, pRo .s16, pRo .s32]⟩,
  ⟨1, 0x8217, 1, subsFrom 1 [pRo .u32, pRo .u16, pRo .u32, pRo .u16, pOvf]⟩,
  ⟨1, 0x9000, 1, [(1, 3, pRw .u8 1 0 1)]⟩,
  ⟨1, 0x9001, 1, [(1, 4, pRwl .u32 65536 58982 72090), (5, 8, pRwl .s16 0 (-2048) 2048)]⟩,
  ⟨1, 0x9002, 1, [(1, 4, pRo .u32 65536), (5, 8, pRo .s16)]⟩,
  ⟨1, 0x9003, 1, subsFrom 1 [pRw .u16 4096 256 65535, pRw .u16 1311 0 3277, pRw .u16 256 0 512, pRw .u16 16 1 256,
    pRw .u16 4 1 64, pRw .u16 64 1 1024]⟩,
  ⟨1, 0x9004, 1, [(0, 0, pRo .u32)]⟩,
  ⟨1, 0x9007, 1, subsFrom 1 [pRo .u32, pRo .u16, pOvf]⟩,
  ⟨1, 0x9500, 1, subsFrom 1 [pRo .u16 1024, pRo .u8, pRo .u8 0xFF]⟩,
  ⟨1, 0x9507, 1, subsFrom 1 [pRo .u16, pOvf]⟩]

/-- Axis, profile channel, Stove and event source (08 R236, 09 R263, 11 R316, 17 R474). -/
def rowsOther : List PRow := [
  ⟨2, 0x5000, 1, subsFrom 1 [pRwl .u8 0xFF 0 11 [0xFF]]⟩,
  ⟨2, 0x5001, 1, subsFrom 1 [pRwl .u8 128 0 255, pRw .u8 64 0 255, pRwl .u8 20 1 40, pRwl .u8 4 0 8,
    pRw .u16 1000 1 60000, pRw .u8 0 0 2, pRwl .u8 0 0 1]⟩,
  ⟨2, 0x5002, 1, subsFrom 1 [⟨.u8, .ro, 0, 0, 3, []⟩, pRo .u32, ⟨.u8, .ro, 0, 0, 63, []⟩]⟩,
  ⟨2, 0x5007, 1, subsFrom 1 [pRo .u16, pOvf]⟩,
  ⟨2, 0x5010, 1, subsFrom 1 [pRwl .u8 6 0 15, pRwl .u8 6 0 15, pRwl .u8 4 1 16, pRwl .u8 4 1 16, pRwl .u8 1 0 2,
    pRwl .u8 200 1 255, pRwl .u8 2 1 8, pRwl .u8 1 0 1, pRwl .u32 15000 1000 1000000]⟩,
  ⟨2, 0x5011, 1, subsFrom 1 [pRo .u32, pRo .u32, pRo .u32]⟩,
  ⟨2, 0x5012, 1, [(1, 2, pRo .u16)]⟩,
  ⟨2, 0x5017, 1, subsFrom 1 [pRo .u16, pRo .u16, pRo .u16, pRo .u8, pOvf]⟩,
  ⟨3, 0x4000, 1, subsFrom 1 [pRo .u8 0xFF]⟩,
  ⟨3, 0x4001, 1, subsFrom 1 [pRw .u32 65536 1 2147483647, pRw .u32 655360 1 2147483647, pRw .u32 327680 1 2147483647,
    pRw .u32 655360 1 2147483647]⟩,
  ⟨3, 0x4002, 1, subsFrom 1 [pRw .u8 0xFF 0 7 [0xFF]]⟩,
  ⟨3, 0x4003, 1, subsFrom 1 [pRo .u8 3, ⟨.u8, .ro, 0, 0, 64, []⟩, pRo .u32, pRo .s32, pRo .u32]⟩,
  ⟨3, 0x4004, 1, subsFrom 1 [pRo .u64, pRo .u32, pRo .u32, ⟨.u8, .w1c, 0, 0, 1, []⟩]⟩,
  ⟨3, 0x4005, 1, [(0, 0, pAny .u32 .wo 0)]⟩,
  ⟨3, 0x4007, 1, subsFrom 1 [pRo .u16, pRo .u16, pRo .u16, pOvf]⟩,
  ⟨4, 0x3000, 1, [(1, 64, pAny .u64 .rw 0)]⟩,
  ⟨4, 0x3001, 1, subsFrom 1 [pRw .u8 0 0 15, pRw .u8 0 0 64, pRw .u8 0xFF 0 11 [0xFF], pAny .u32 .rw 0]⟩,
  ⟨4, 0x3002, 1, [(1, 12, pRw .u8 0xFF 0 63 [0xFF])]⟩,
  ⟨4, 0x3003, 1, [(1, 8, pAny .u32 .rw 0)]⟩,
  ⟨4, 0x3004, 1, subsFrom 1 [pRw .u8 0 0 1, ⟨.u8, .ro, 0, 0, 1, []⟩, pAny .u32 .rw 0, pAny .u32 .rw 0]⟩,
  ⟨4, 0x3005, 1, [(0, 0, pRw .u16 5000 0 60000)]⟩,
  ⟨4, 0x3010, 1, [(1, 64, pRo .u32)]⟩,
  ⟨4, 0x3011, 1, [(1, 64, pRo .u32)]⟩,
  ⟨4, 0x3017, 1, subsFrom 1 [pRo .u32, pRo .u16, pRo .u16, pRo .u16, pOvf]⟩,
  ⟨4, 0x3100, 2, [(1, 255, pAny .u32 .rw 0)]⟩,
  ⟨7, 0x7000, 1, subsFrom 1 [pAny .u16 .rw 0]⟩,
  ⟨7, 0x7001, 1, subsFrom 1 [pRo .u8, pOvf]⟩,
  ⟨7, 0x7002, 1, subsFrom 1 [pRo .u8, pRo .u8, pRo .u32]⟩,
  ⟨7, 0x7010, 1, subsFrom 1 [pRw .u16 1000 1 65535]⟩]

/-- The rows of one target kind. -/
def rowsOf (kind : Nat) : List PRow :=
  if kind = 0 then rowsModuleA ++ rowsModuleB ++ rowsModuleC ++ rowsModuleD
  else if kind = 1 then rowsMachineA ++ rowsMachineB ++ rowsMachineC
  else rowsOther

/-- The row of an index under a target kind. -/
def rowAt (kind idx : Nat) : Option PRow :=
  (rowsOf kind).find? (fun r => r.kind == kind && decide (r.base ≤ idx) && decide (idx < r.base + r.count))

/-- The target kind that an index belongs to (03 R87); none for the reserved ranges. -/
def kindOfIndex (idx : Nat) : Option Nat :=
  if idx < 0x2000 then some 0
  else if idx < 0x3000 then some 1
  else if idx < 0x4000 then some 4
  else if idx < 0x5000 then some 3
  else if idx < 0x6000 then some 2
  else if idx < 0x6100 then some 0
  else if idx < 0x7000 then some 1
  else if idx < 0x8000 then some 7
  else if idx < 0x8200 then some 0
  else if idx < 0x9000 then some 1
  else if idx < 0x9008 then some 1
  else if idx = 0x9500 ∨ idx = 0x9507 then some 1
  else if idx < 0xA000 then some 0
  else if idx < 0xF000 then none
  else some 0

/-- Highest subindex of a row (03 R87). -/
def PRow.last (r : PRow) : Nat := r.subs.foldl (fun a x => Nat.max a x.2.1) 0

/-- The properties of a parameter, subindex 0 of an array included (03 R87). -/
def pinfo (kind idx sub : Nat) : Option PSpec :=
  match rowAt kind idx with
  | none => none
  | some r =>
    match r.subs.find? (fun x => decide (x.1 ≤ sub) && decide (sub ≤ x.2.1)) with
    | some x => some x.2.2
    | none => if sub = 0 then some (pRo .u8 r.last) else none

/-- Quiet period of 17 R461 in ms. -/
def quietDefault (src : Nat) : Int :=
  match src / 16 with
  | 2 => 100 | 3 => 100 | 4 => 100 | 7 => 100 | 8 => 100 | 9 => 100 | 10 => 100
  | 12 => 10000 | 14 => 10000 | _ => 1000

/-- Reaction word of 17 R461: INT everywhere, HEARTH H1 (H0 for group 13), the ERR_PIN rows with their pin, NMI on 2.14
and HOLD on 2.4 to 2.7, 3.0 to 3.7, 4.8 to 4.12 and 8.0 to 8.11. Groups without pins name none. -/
def reactionDefault (src : Nat) : Int :=
  let g := src / 16
  let b := src % 16
  let err := (g = 2 ∧ (4 ≤ b ∧ b ≤ 7 ∨ b = 13 ∨ b = 14)) ∨ (g = 3 ∧ b ≤ 11) ∨ (g = 4 ∧ 8 ≤ b ∧ b ≤ 13)
    ∨ g = 8 ∨ (g = 10 ∧ b ≤ 7) ∨ g = 13 ∨ (g = 14 ∧ 4 ≤ b ∧ b ≤ 7)
  let pin0 := g = 2 ∨ g = 3 ∨ g = 4 ∨ g = 8 ∨ g = 10
  let pin1 := g = 13 ∨ g = 14
  let hold := (g = 2 ∧ 4 ≤ b ∧ b ≤ 7) ∨ (g = 3 ∧ b ≤ 7) ∨ (g = 4 ∧ 8 ≤ b ∧ b ≤ 12) ∨ (g = 8 ∧ b ≤ 11)
  1 + (if g = 2 ∧ b = 14 then 2 else 0) + (if err then 16 else 0) + (if g = 13 then 0 else 32)
    + (if hold then 128 else 0) + (if pin0 then 256 else 0) + (if pin1 then 512 else 0)

/-- Defaults that depend on the instance or on the place in an array. -/
def pdefault (kind inst idx sub : Nat) (d : Int) : Int :=
  if kind = 1 then
    if idx = 0x2300 then inst
    else if idx = 0x2408 ∧ sub = 2 then 50 * inst
    else if idx = 0x2431 then (2 ^ inst : Nat)
    else if idx = 0x2701 ∧ sub = 2 then inst
    else d
  else if kind = 4 then (if idx = 0x3001 ∧ sub = 1 then (2 ^ inst : Nat) else d)
  else if kind = 7 then
    if idx = 0x7000 then reactionDefault inst else if idx = 0x7010 then quietDefault inst else d
  else if kind = 0 ∧ 0x9400 ≤ idx ∧ idx < 0x942C then
    let n := idx - 0x9400
    if sub = 1 then (if n < 12 then 1 else 0)
    else if sub = 3 then (if n < 12 then 1050 else if n < 20 then 800 else 1100)
    else if sub = 4 then (if n < 12 then 1100 else if n < 20 then 900 else 1200)
    else if sub = 5 then (if n < 12 then 1220 else if n < 20 then 1000 else 1400)
    else if sub = 8 ∧ n < 10 then Config.outside 29 [n]
    else d
  else d

/-- Reserved bits are ignored on a write (00 R7): the bits that a parameter keeps. -/
def pmask (kind idx sub : Nat) (v : Nat) : Nat :=
  if kind = 0 ∧ idx = 0x0400 then v &&& 0xFF03
  else if kind = 7 ∧ idx = 0x7000 then v &&& 0x03FF
  else if kind = 1 ∧ idx = 0x6100 then v &&& 0x0F1F
  else if kind = 1 ∧ idx = 0x2220 then v &&& 0x03FF03FF
  else if kind = 0 ∧ idx = 0x0720 ∧ sub ≤ 16 then v &&& 0x8000FFFFFFFFFF00
  else if kind = 0 ∧ idx = 0x0720 ∧ (sub = 17 ∨ sub = 25) then v &&& (if sub = 17 then 0x83 else 0x8F)
  else if kind = 0 ∧ 0x1200 ≤ idx ∧ idx < 0x1206 ∧ (sub = 5 ∨ sub = 6) then v &&& 0x9FFFFFFF
  else v

/-- The key of a parameter value in the sparse store. -/
def pkey (kind inst idx sub : Nat) : Nat := ((kind * 4096 + inst) * 65536 + idx) * 256 + sub

/-- The index lies in a range that belongs to the module or to a machine (03 R87). -/
def sharedRange (idx : Nat) : Bool :=
  (decide (0x6000 ≤ idx) && decide (idx < 0x7000)) || (decide (0x8000 ≤ idx) && decide (idx < 0xA000))

/-- A target of kind `k` is of the wrong kind for an index (03 R87): its range belongs to another kind, or, in a range of
the module or a machine, the parameter exists for the other of the two only. -/
def wrongKind (k idx : Nat) : Bool :=
  if sharedRange idx then
    (k != 0 && k != 1) || ((List.range 256).all (fun j => (pinfo k idx j).isNone)
      && (List.range 256).any (fun j => (pinfo (1 - k) idx j).isSome))
  else match kindOfIndex idx with
    | some x => x != k
    | none => false

/-- Minimum level that writes a parameter (03 R633): 0xFF when it has no write level. -/
def writeLevel (kind idx sub : Nat) (acc : PAcc) : Nat :=
  if acc = .ro then 0xFF
  else if 0x6000 ≤ idx ∧ idx < 0x7000 then 3
  else if 0xF000 ≤ idx ∨ (kind = 0 ∧ idx = 0x1330 ∧ sub = 1) then 4
  else if kind = 0 ∧ 0x9480 ≤ idx ∧ idx < 0x94AC ∧ sub = 4 then 1
  else if kind = 0 ∧ 0x0401 ≤ idx ∧ idx < 0x0409 ∧ sub = 3 then 1
  else if kind = 3 ∧ ((idx = 0x4004 ∧ sub = 4) ∨ idx = 0x4005) then 1
  else 2

end Sys2Proof.Machine
end

