-- ==== Sys2Proof/Machine/StShare.lean ====
section
/-! DEFINITION. State of load sharing and of the transfer to a partner module (spec file 13_load_sharing). -/
namespace Sys2Proof.Machine

/-- What a master keeps of one member of its group, by member index (13 R344, R348). -/
structure MemberSeen where
  /-- Last report received. -/
  report : Option MemberReport := none
  /-- Fabric address it came from. -/
  addr : BitVec 8 := 0xFF
  /-- Its report of the present sample is missed and held (13 R348). -/
  heldNow : Bool := false
  /-- Its report of the present sample has arrived. -/
  arrived : Bool := false
  /-- Reports missed in a row, 0 to 2. -/
  missed : Nat := 0
  lost : Bool := false
  alive : Bool := false
  /-- Consecutive reports in RUN since it was removed (13 R348). -/
  rejoin : Nat := 0
  deriving DecidableEq, Repr

/-- Load sharing of one machine (13). -/
structure Share where
  members : Vector MemberSeen 8 := Vector.replicate 8 {}
  /-- The distributor has run for this sample (13 R344). -/
  distributed : Bool := false
  /-- Share received for the next boundary, 1/1024 (13 R344). Reset: none. -/
  received : Option Int := none
  /-- Last share latched, S16 in 1/1024 (13 R353). Reset: 0. -/
  share : Int := 0
  /-- Shares missed in a row by a follower (13 R348). -/
  missed : Nat := 0
  /-- Samples since a share last arrived, stopping at 3 (13 R343 cause 4). Reset: 3. -/
  sinceShare : Nat := 3
  /-- T_D in N·m at the drum (13 R353). Reset: 0. -/
  td : Int := 0
  /-- GROUP_SAT (13 R345). Reset: 0. -/
  sat : Bool := false
  /-- LIM_HI (true) or LIM_LO to be set in the demand stage before the next run (13 R345). -/
  satLimit : Option Bool := none
  /-- HELD: a report or share was held in the last sample; and in the present one (13 R348, R353). -/
  held : Bool := false
  heldNow : Bool := false
  masterLost : Bool := false
  droopFallback : Bool := false
  /-- The fallback stage waits for the next commit point (13 R349). -/
  droopDue : Bool := false
  /-- This machine was enabled as a master at its last boundary (13 R349). -/
  masterOn : Bool := false
  /-- Member index of the master that sends the shares (13 R349). -/
  masterIndex : Option Nat := none
  /-- The master is lost and the last share is held since this tick (13 R349). -/
  holdAt : Option Nat := none
  /-- Sender whose shares a follower accepts after a master loss: fabric address (13 R349). -/
  accepted : Option (BitVec 8) := none
  /-- XFER_ARMED, XFER_ACTIVE (13 R350, R352). Reset: 0. -/
  armed : Bool := false
  active : Bool := false
  /-- A transfer frame of the partner has been taken, and one of the present sample (13 R350, R352). -/
  partnerSeen : Bool := false
  xferArrived : Bool := false
  xferMissed : Nat := 0
  /-- The partner's channel is enabled (13 R350, R352). -/
  partnerActive : Bool := false
  /-- The standby channel is to be enabled at the next commit point (13 R352). -/
  xferDue : Bool := false
  xferAt : Nat := 0
  /-- Transfer frames sent modulo 256 (13 R350). -/
  xferCount : BitVec 8 := 0
  missedSamples : Counter := {}
  losses : Counter := {}
  saturated : Counter := {}
  transfers : Counter := {}
  deriving DecidableEq, Repr

end Sys2Proof.Machine
end

