-- ==== Sys2Proof/Machine/StStove.lean ====
section
/-! DEFINITION. State of the Stove control engines (spec file 08_stove_engines). -/
namespace Sys2Proof.Machine

/-- SAT_SRC of a stage (08 R233). -/
inductive SatSrc where
  | none' | integral | output | downstream
  deriving DecidableEq, Repr

/-- One stage of a Stove (08 R211, R222, R233). Output mantissa of 24 bits, states of 48 bits, one exponent. -/
structure Stage where
  /-- Stage exponent E (08 R211). Reset: 0 (DESIGN CHOICE, log 6: a start sets E_MIN before any run). -/
  e : Int := 0
  /-- Output mantissa of the last run, value y × 2^(E − 23). Reset: 0. -/
  y : Int := 0
  /-- States as 48-bit mantissas, value s × 2^(E − 47): the integral q, the derivative d1, z1, e_last of
  R223, or x0_1, x0_2, y_1, y_2 of the filters, in this order. Reset: 0. -/
  s0 : Int := 0
  s1 : Int := 0
  s2 : Int := 0
  s3 : Int := 0
  numSat : Bool := false
  satHi : Bool := false
  satLo : Bool := false
  limHi : Bool := false
  limLo : Bool := false
  frozen : Bool := false
  satSrc : SatSrc := .none'
  preset : Bool := false
  /-- KIND of the stage in the last run (08 R233). Reset: 0. -/
  kind : Nat := 0
  /-- Runs in which SAT_HI or SAT_LO has been set without a break (08 R234). Reset: 0. -/
  satRuns : Nat := 0
  /-- The stretch in progress has been counted (08 R234). Reset: false. -/
  satCounted : Bool := false
  deriving DecidableEq, Repr

/-- A value that the Stove hands to a machine at the commit point (08 R217). -/
structure Refs where
  torque : Int := 0
  flux : Int := 1024
  deriving DecidableEq, Repr

/-- One Stove (08 R210 to R234). -/
structure Stove where
  /-- At least one machine of the pool is enabled (08 R219). Reset: false. -/
  running : Bool := false
  /-- A run is in progress since the boundary at this tick (08 R220, R221). Reset: none. -/
  runAt : Option Nat := none
  /-- References placed for commit, per machine, by a run that completed in time (08 R220 step 6). Reset: none. -/
  placed : Vector (Option Refs) 4 := Vector.replicate 4 none
  /-- The run in progress missed its commit point: its outputs are discarded (08 R221). Reset: false. -/
  late : Bool := false
  /-- The 64 stages. -/
  stages : Vector Stage 64 := Vector.replicate 64 {}
  /-- Status words of the stages after the last completed run (08 R233). Reset: 0. -/
  shown : Vector Nat 64 := Vector.replicate 64 0
  /-- Taps latched at the boundary of the run, by tap code − 0x80: mantissa and exponent (08 R216). Reset: 0. -/
  taps : Vector (Int × Int) 64 := Vector.replicate 64 (0, 0)
  /-- Bank in use (08 R229, 0x3004 subindex 2). Reset: 0. -/
  bank : Fin 2 := 0
  /-- Bank of a sealed BANK_SELECT group that has not committed (08 R230). Reset: none. -/
  bankSealed : Option (Fin 2) := none
  /-- A bank swap taken at this boundary: counted, and transformed in step 3 where a run starts (08 R231, R232).
  Reset: none. -/
  swapDue : Bool := false
  /-- Machines whose soft start is taken at the boundary (08 R227). Reset: none. -/
  softStart : Vector Bool 4 := Vector.replicate 4 false
  /-- T_pre presets taken for the run in progress, as mantissa and exponent (08 R228). Reset: none. -/
  presets : Vector (Option (Int × Int)) 4 := Vector.replicate 4 none
  /-- Presets sealed by H1 under 07 R204. Reset: none. -/
  presetSealed : Vector (Option Int) 4 := Vector.replicate 4 none
  /-- Freeze (true) or lift (false) of the named ramp sealed under 05 R150. Reset: none. -/
  freezeSealed : Vector (Option Bool) 4 := Vector.replicate 4 none
  /-- The last run was a saturated run (08 R234). Reset: false. -/
  satRun : Bool := false
  satRuns : Counter := {}
  held : Counter := {}
  swaps : Counter := {}
  discSwaps : Counter := {}
  deriving DecidableEq, Repr

end Sys2Proof.Machine
end

