-- ==== Sys2Proof/Machine/State.lean ====
section
/-! DEFINITION. The whole state of the MDR-9640 module, block by block, and the queue of waiting commands.
The parts are described in the St*.lean files, each field with its rule and its reset value. -/
namespace Sys2Proof.Machine

/-- What the last command put out at the module's terminals. Cleared when the next command that takes time runs (log 2). -/
inductive Out where
  /-- A downlink frame on gate link `link` (10 R266, R268): the tick of its first bit, its 64 bits and its 80 line bits
  (10 R264). -/
  | gate (link : Fin 4) (first : Nat) (frame : BitVec 64) (line : BitVec 80)
  /-- A CAN frame that a port has sent to the end of its EOF (19 R506). -/
  | canFrame (port : Fin 6) (frame : CanFrame)
  /-- The characters of a fabric frame (20 R522): a byte each, with the top bit set for a control character. -/
  | fabric (link : Fin 4) (chars : List (BitVec 9))
  /-- The characters of an acknowledgement word (20 R524): K28.3, class, LSEQ, credits and CRC-8. -/
  | fabricAck (link : Fin 4) (chars : List (BitVec 9))
  /-- An Ethernet frame without its check sequence (21 R543). -/
  | eth (port : Fin 2) (frame : List Byte)
  | ser (port : Fin 2) (bytes : List Byte)
  | hspi (bytes : List Byte)
  | tap (bytes : List Byte)
  | safetyPdu (conn : Fin 8) (bytes : List Byte)
  /-- Heartbeat of H0 (`fromH0`) or of the Damper: counter and state code or microseconds (15 R381). -/
  | heartbeat (fromH0 : Bool) (counter : BitVec 4) (word : BitVec 32)
  /-- Frames of the auxiliary command link, down and up (11 R292). -/
  | auxDown (frame : AuxFrame)
  /-- A voted transaction issued to the bus by a Hearth (16 R429). -/
  | bus (hearth : Fin 4) (entry : LaneEntry)
  /-- The data of a voted read, as it is returned to one core (16 R427). -/
  | coreData (hearth : Fin 4) (core : Fin 3) (data : BitVec 64)
  | auxUp (frame : AuxFrame)
  deriving DecidableEq, Repr

/-- Why a step can stop. No command of this block stops in this model: the spec gives every command of the table an
effect, and a refused command is answered with a status, which is a next state. -/
inductive Fault where
  /-- Raised by nothing. Safe. -/
  | none'
  deriving DecidableEq, Repr

/-- Commands the model does not give a meaning. -/
inductive Refusal where
  /-- Raised by the arm of a row that has no meaning yet. Safe. -/
  | notModelled (mnemonic : String)
  deriving DecidableEq, Repr

/-- The state of the module (one field per block), its waiting commands, and the model's own fields
`clk` (physical 5 ns ticks since the model began), `freeCtr` (the free-value counter) and `out`. -/
structure State where
  /-- Physical ticks since the model began; the model's own field (log 1). -/
  clk : Nat := 0
  /-- Free values drawn so far; the model's own field (log 8). -/
  freeCtr : Nat := 0
  out : List Out := []
  tb : Timebase := {}
  start : Start := {}
  store : Store := {}
  flue : Flue := {}
  journal : Journal := {}
  trace : Trace := {}
  mem : Mem := {}
  porter : Porter := {}
  thermal : Thermal := {}
  can : Vector CanPort 6 := Vector.replicate 6 {}
  fabric : Fabric := {}
  ports : Ports := {}
  /-- Channels U, V, DC-link current, DC-link voltage of M0 to M3 (04 R94). -/
  chans : Vector (Vector Channel 4) 4 := Vector.replicate 4 (Vector.replicate 4 {})
  /-- Last word of each analog input AIN0 to AIN15 (04 R103). Reset: 0. -/
  ain : Vector Int 16 := Vector.replicate 16 0
  /-- The converters SAR0 and SAR1 (04 R103). -/
  sar : Vector Sar 2 := Vector.replicate 2 {}
  posPorts : Vector Port 4 := Vector.replicate 4 {}
  lats : Vector Lat 8 := Vector.replicate 8 {}
  tfu : Vector Tfu 4 := Vector.replicate 4 {}
  obs : Vector Observer 4 := Vector.replicate 4 {}
  startM : Vector StartMachine 4 := Vector.replicate 4 {}
  stove : Vector Stove 4 := Vector.replicate 4 {}
  prof : Vector Channel09 12 := Vector.replicate 12 {}
  axes : Vector Axis 6 := Vector.replicate 6 {}
  legs : Vector Leg 12 := Vector.replicate 12 {}
  auxLink : AuxLink := {}
  gl : Vector GateLink 4 := Vector.replicate 4 {}
  drive : Vector Drive 4 := Vector.replicate 4 {}
  share : Vector Share 4 := Vector.replicate 4 {}
  cal : Cal := {}
  safety : Safety := {}
  hearths : Vector Hearth 4 := Vector.replicate 4 {}
  /-- The commands that are waiting, first in, first out. Reset: none. -/
  pending : List Instr := []
  deriving DecidableEq, Repr

/-- The machine right after reset: VIN_CORE and VIO not yet up, every field at its reset value. -/
def State.reset : State := {}

end Sys2Proof.Machine
end

