-- ==== Sys2Proof/Machine/Ops.lean ====
section
/-! DEFINITION. The shared operations: time, counters, memory cells, parameters, and one update per block. -/
namespace Sys2Proof.Machine

/-- Ticks of a millisecond and of a microsecond (00 R3). -/
def msTicks (n : Nat) : Nat := 200000 * n
def usTicks (n : Nat) : Nat := 200 * n

/-- Replace one element of a vector by its image. -/
def vmod {α : Type} {n : Nat} (v : Vector α n) (i : Fin n) (f : α → α) : Vector α n := v.set i (f v[i])

/-- An index of four, of twelve or of any size from a number, by its remainder. -/
def finOf (n : Nat) [NeZero n] (k : Nat) : Fin n := Fin.ofNat n k

/-! ### Updates of one block -/

def State.modTb (s : State) (f : Timebase → Timebase) : State := { s with tb := f s.tb }
def State.modStart (s : State) (f : Start → Start) : State := { s with start := f s.start }
def State.modStore (s : State) (f : Store → Store) : State := { s with store := f s.store }
def State.modFlue (s : State) (f : Flue → Flue) : State := { s with flue := f s.flue }
def State.modJournal (s : State) (f : Journal → Journal) : State := { s with journal := f s.journal }
def State.modTrace (s : State) (f : Trace → Trace) : State := { s with trace := f s.trace }
def State.modMem (s : State) (f : Mem → Mem) : State := { s with mem := f s.mem }
def State.modPorter (s : State) (f : Porter → Porter) : State := { s with porter := f s.porter }
def State.modThermal (s : State) (f : Thermal → Thermal) : State := { s with thermal := f s.thermal }
def State.modSensor (s : State) (i : Fin 44) (f : Sensor → Sensor) : State :=
  { s with thermal := { s.thermal with sensors := vmod s.thermal.sensors i f } }
def State.modCan (s : State) (p : Fin 6) (f : CanPort → CanPort) : State := { s with can := vmod s.can p f }
def State.modFabric (s : State) (f : Fabric → Fabric) : State := { s with fabric := f s.fabric }
def State.modLink (s : State) (l : Fin 4) (f : FabLink → FabLink) : State :=
  { s with fabric := { s.fabric with links := vmod s.fabric.links l f } }
def State.modPorts (s : State) (f : Ports → Ports) : State := { s with ports := f s.ports }
def State.modChan (s : State) (m : Fin 4) (c : Fin 4) (f : Channel → Channel) : State :=
  { s with chans := vmod s.chans m (fun v => vmod v c f) }
def State.modPort (s : State) (p : Fin 4) (f : Port → Port) : State := { s with posPorts := vmod s.posPorts p f }
def State.modLat (s : State) (k : Fin 8) (f : Lat → Lat) : State := { s with lats := vmod s.lats k f }
def State.modTfu (s : State) (m : Fin 4) (f : Tfu → Tfu) : State := { s with tfu := vmod s.tfu m f }
def State.modObs (s : State) (m : Fin 4) (f : Observer → Observer) : State := { s with obs := vmod s.obs m f }
def State.modStartM (s : State) (m : Fin 4) (f : StartMachine → StartMachine) : State :=
  { s with startM := vmod s.startM m f }
def State.modStove (s : State) (i : Fin 4) (f : Stove → Stove) : State := { s with stove := vmod s.stove i f }
def State.modProf (s : State) (c : Fin 12) (f : Channel09 → Channel09) : State := { s with prof := vmod s.prof c f }
def State.modAxis (s : State) (k : Fin 6) (f : Axis → Axis) : State := { s with axes := vmod s.axes k f }
def State.modLeg (s : State) (l : Fin 12) (f : Leg → Leg) : State := { s with legs := vmod s.legs l f }
def State.modAux (s : State) (f : AuxLink → AuxLink) : State := { s with auxLink := f s.auxLink }
def State.modGl (s : State) (m : Fin 4) (f : GateLink → GateLink) : State := { s with gl := vmod s.gl m f }
def State.modDrive (s : State) (m : Fin 4) (f : Drive → Drive) : State := { s with drive := vmod s.drive m f }
def State.modShare (s : State) (m : Fin 4) (f : Share → Share) : State := { s with share := vmod s.share m f }
def State.modCal (s : State) (f : Cal → Cal) : State := { s with cal := f s.cal }
def State.modCalM (s : State) (m : Fin 4) (f : CalMachine → CalMachine) : State :=
  { s with cal := { s.cal with machines := vmod s.cal.machines m f } }
def State.modSafety (s : State) (f : Safety → Safety) : State := { s with safety := f s.safety }
def State.modHearth (s : State) (h : Fin 4) (f : Hearth → Hearth) : State := { s with hearths := vmod s.hearths h f }
/-- What the command puts out, in order. -/
def State.put (s : State) (o : Out) : State := { s with out := s.out ++ [o] }

/-- The indices of four machines, twelve channels, and so on, in ascending order. -/
def four : List (Fin 4) := [0, 1, 2, 3]
def six : List (Fin 6) := [0, 1, 2, 3, 4, 5]
def eight : List (Fin 8) := [0, 1, 2, 3, 4, 5, 6, 7]
def twelve : List (Fin 12) := [0, 1, 2, 3, 4, 5, 6, 7, 8, 9, 10, 11]

/-- The same change for every index of a list, in order. -/
def forAll {ι : Type} (l : List ι) (f : ι → State → State) (s : State) : State := l.foldl (fun s i => f i s) s

/-! ### Time -/

/-- The time stamp after `dt` ticks, at the physical tick `clk`, modulo 2^56; a wrap is recorded for TIMEBASE_WRAP to raise
(00 R4). The steering step of a sample boundary of M0 is made on the second tick after it, so that no point of any grid
comes twice (01 R26, log 1). -/
def Timebase.count (t : Timebase) (clk dt : Nat) : Timebase :=
  let due := decide ((t.stepAt.getD 0) + 2 ≤ clk)
  let n := (((t.now.toNat + dt : Nat) : Int) - (if due then t.stepDue else 0)).toNat
  { t with
    now := BitVec.ofNat 56 n
    wrapDue := t.wrapDue || decide (2 ^ 56 ≤ n)
    stepDue := if due then 0 else t.stepDue }

/-- `dt` ticks pass: the physical count and, once it runs, the time stamp (00 R4, 01 R24). -/
def advance (s : State) (dt : Nat) : State :=
  { s with
    clk := s.clk + dt
    out := []
    tb := if s.tb.counting then s.tb.count (s.clk + dt) dt else s.tb }

/-- At least `lim` ticks have passed since `at'`. -/
def elapsed (s : State) (at' lim : Nat) : Bool := decide (at' + lim ≤ s.clk)

/-- The same for a timer that may not run. -/
def elapsedO (s : State) (at' : Option Nat) (lim : Nat) : Bool :=
  match at' with
  | none => false
  | some a => elapsed s a lim

/-! ### Counters and free values -/

/-- Width-`w` increment of a diagnostic counter, and whether OVF stepped from 0 to 1 (00 R8). -/
def ctrInc (w : Nat) (c : Counter) : Counter × Bool :=
  if c.val + 1 < 2 ^ w then ({ c with val := c.val + 1 }, false) else ({ c with ovf := true }, !c.ovf)

/-- Clear of OVF by a written one; the count stays (00 R8). -/
def ctrClr (c : Counter) (b : Bool) : Counter := if b then { c with ovf := false } else c

/-- OVF flags of a list of counters, the first in bit 0. -/
def ovfBits : Nat → List Counter → Nat
  | _, [] => 0
  | i, c :: cs => flag c.ovf i + ovfBits (i + 1) cs

/-- A fresh free number (log 8). -/
def State.fresh (s : State) : Nat × State := (Config.freeNat s.freeCtr, { s with freeCtr := s.freeCtr + 1 })
def State.freshBool (s : State) : Bool × State := (Config.freeBool s.freeCtr, { s with freeCtr := s.freeCtr + 1 })

/-! ### Memory cells (22 R556, R558): sparse bytes, unlisted ones read as 0 -/

/-- The byte at an address. -/
def cellGet (l : List Host.Cell) (a : Nat) : Byte :=
  match l.find? (fun c => c.1 == a) with
  | some c => c.2
  | none => 0

/-- The list with a byte written, in the canonical form: rising addresses, no entry equal to 0. -/
def cellSet : List Host.Cell → Nat → Byte → List Host.Cell
  | [], a, b => if b = 0 then [] else [(a, b)]
  | c :: cs, a, b =>
    if c.1 < a then c :: cellSet cs a b
    else if c.1 = a then (if b = 0 then cs else (a, b) :: cs)
    else if b = 0 then c :: cs else (a, b) :: c :: cs

/-- The canonical form: addresses strictly rising and no entry equal to 0. -/
def cellsWf : List Host.Cell → Bool
  | [] => true
  | [c] => decide (c.2 ≠ 0)
  | c :: d :: cs => decide (c.2 ≠ 0) && decide (c.1 < d.1) && cellsWf (d :: cs)

/-- Consecutive bytes written. -/
def cellsPut : List Host.Cell → Nat → List Byte → List Host.Cell
  | l, _, [] => l
  | l, a, b :: bs => cellsPut (cellSet l a b) (a + 1) bs

/-- `k` consecutive bytes. -/
def cellsGet (l : List Host.Cell) (a : Nat) : Nat → List Byte
  | 0 => []
  | k + 1 => cellGet l a :: cellsGet l (a + 1) k

/-! ### Parameters (03 R87): sparse values over the default table -/

/-- The value stored under a key, if any. -/
def plook (l : List (Nat × Nat)) (k : Nat) : Option Nat :=
  match l.find? (fun c => c.1 == k) with
  | some c => some c.2
  | none => none

/-- Insert a value at its place among rising keys. -/
def pinsert : List (Nat × Nat) → Nat → Nat → List (Nat × Nat)
  | [], k, v => [(k, v)]
  | c :: cs, k, v => if c.1 < k then c :: pinsert cs k v else if c.1 = k then (k, v) :: cs else (k, v) :: c :: cs

/-- Remove a key. -/
def premove (l : List (Nat × Nat)) (k : Nat) : List (Nat × Nat) := l.filter (fun c => c.1 != k)

/-- The raw default of a parameter: the low bits of its default at the width of its type. -/
def pdfl (kind inst idx sub : Nat) : Nat :=
  match pinfo kind idx sub with
  | none => 0
  | some p => lowBits (8 * p.ty.width) (pdefault kind inst idx sub p.dflt)

/-- Q_g is one value for a whole group (17 R465): the instance a value is kept under. -/
def pinst (kind inst idx : Nat) : Nat := if kind = 7 ∧ idx = 0x7010 then inst / 16 * 16 else inst

/-- The raw value of a stored parameter: the active copy (03 R89). -/
def State.par (s : State) (kind inst idx sub : Nat) : Nat :=
  let inst := pinst kind inst idx
  match plook s.porter.params (pkey kind inst idx sub) with
  | some v => v
  | none => pdfl kind inst idx sub

def State.p0 (s : State) (idx sub : Nat) : Nat := s.par 0 0 idx sub
def State.pm (s : State) (m : Fin 4) (idx sub : Nat) : Nat := s.par 1 m.val idx sub
def State.pa (s : State) (k : Fin 6) (idx sub : Nat) : Nat := s.par 2 k.val idx sub
def State.pp (s : State) (c : Fin 12) (idx sub : Nat) : Nat := s.par 3 c.val idx sub
def State.ps (s : State) (i : Fin 4) (idx sub : Nat) : Nat := s.par 4 i.val idx sub
def State.pe (s : State) (src idx sub : Nat) : Nat := s.par 7 src idx sub

/-- The active value replaced; a value equal to its default is not listed. -/
def State.setPar (s : State) (kind inst idx sub v : Nat) : State :=
  let inst := pinst kind inst idx
  let k := pkey kind inst idx sub
  s.modPorter (fun p => { p with
    params := if v = pdfl kind inst idx sub then premove p.params k else pinsert p.params k v })

/-- The parts of a key. -/
def keyKind (k : Nat) : Nat := k / 68719476736
def keyInst (k : Nat) : Nat := k / 16777216 % 4096
def keyIdx (k : Nat) : Nat := k / 256 % 65536
def keySub (k : Nat) : Nat := k % 256

/-! ### The machine's own settings -/

/-- `m` is the second channel of a six-phase pair: both channels are set (06 R170). -/
def State.isSecond (s : State) (m : Fin 4) : Bool := s.pm m 0x2420 1 == 5 && s.pm (finOf 4 (m.val + 3)) 0x2420 1 == 4
/-- The channel whose grid values hold: the first of a six-phase pair for the second (06 R170). -/
def State.gridOf (s : State) (m : Fin 4) : Fin 4 := if s.isSecond m then finOf 4 (m.val + 3) else m

/-- T_dec in ticks, φ in ticks and N of a machine (01 R24, 05 0x2408). -/
def State.D (s : State) (m : Fin 4) : Nat := s.pm (s.gridOf m) 0x2408 1
def State.phi (s : State) (m : Fin 4) : Nat := s.pm (s.gridOf m) 0x2408 2
def State.N (s : State) (m : Fin 4) : Nat := s.pm (s.gridOf m) 0x2408 3
/-- T_s in ticks. -/
def State.Ts (s : State) (m : Fin 4) : Nat := s.D m * s.N m

/-- A machine is enabled (00 R6). -/
def State.en (s : State) (m : Fin 4) : Bool := s.drive[m].enabled
/-- Any machine, or any axis, is enabled. -/
def State.anyMachine (s : State) : Bool := s.en 0 || s.en 1 || s.en 2 || s.en 3
/-- An axis is enabled from the ACCEPTED of its AXIS_ENABLE on (00 R6). -/
def State.axisOn (s : State) (k : Fin 6) : Bool := s.axes[k].enabled || s.axes[k].enabling.isSome
def State.anyAxis (s : State) : Bool :=
  s.axisOn 0 || s.axisOn 1 || s.axisOn 2 || s.axisOn 3 || s.axisOn 4 || s.axisOn 5

/-- Sensors 0 to 10 throttle the module's own activity (18 R484). -/
def throttling (s : State) : Bool :=
  (List.range 11).any (fun i => decide (1 ≤ s.thermal.sensors[finOf 44 i].level))

/-- The regions of the control die run: the boot ROM has started them (02 R50). -/
def State.runs (s : State) : Bool := s.start.bootBegun

/-- READY or RESTRICTED (02 R58). -/
def State.up (s : State) : Bool := s.start.startState == .ready || s.start.startState == .restricted

/-- The first index of a list that satisfies a test. -/
def firstIdx {α : Type} (l : List α) (p : α → Bool) : Option α := l.find? p

/-- Later under 00 R9 at width `w`: the difference lies in 1 to 2^(w−1) − 1. -/
def later {w : Nat} (a b : BitVec w) : Bool :=
  let d := (a - b).toNat
  decide (1 ≤ d) && decide (d ≤ 2 ^ (w - 1) - 1)

end Sys2Proof.Machine
end

