-- ==== Sys2Proof/Machine/LineCode.lean ====
section
/-! DEFINITION. The CRC-8 and the 8b/10b line code of the gate links (spec file 10_gate_links R264, R267). The spec names the code and gives
no table of it: the characters are those of the published code (PRESUMED, log 83). A character is ten line bits, the first
on the line in the highest place. -/
namespace Sys2Proof.Machine

/-- CRC-8 of both directions (10 R267). -/
def linkCrc (l : List Byte) : BitVec 8 := crc8 0x2F 0xFF l ^^^ 0xFF

/-- The six-bit half of the low five bits of a data byte while the running disparity is negative. -/
def sixBits : Vector (BitVec 6) 32 := #v[
  0b100111, 0b011101, 0b101101, 0b110001, 0b110101, 0b101001, 0b011001, 0b111000,
  0b111001, 0b100101, 0b010101, 0b110100, 0b001101, 0b101100, 0b011100, 0b010111,
  0b011011, 0b100011, 0b010011, 0b110010, 0b001011, 0b101010, 0b011010, 0b111010,
  0b110011, 0b100110, 0b010110, 0b110110, 0b001110, 0b101110, 0b011110, 0b101011]

/-- The four-bit half of the high three bits while the running disparity is negative. -/
def fourBits : Vector (BitVec 4) 8 := #v[0b1011, 0b1001, 0b0101, 0b1100, 0b1101, 0b1010, 0b0110, 0b1110]

/-- Whether a half holds as many ones as zeros. -/
def balanced {w : Nat} (b : BitVec w) : Bool := 2 * ((List.range w).filter (fun i => b.getLsbD i)).length == w

/-- A half for a running disparity, `pos` when positive: an unbalanced one, and the two that alternate though balanced,
are inverted. The disparity after it follows. -/
def half {w : Nat} (b alternate : BitVec w) (pos : Bool) : BitVec w × Bool :=
  (if pos && (!balanced b || b == alternate) then ~~~b else b, if balanced b then pos else !pos)

/-- A data byte as a character, and the disparity after it. The last four-bit half has a second form, which keeps five
equal bits from following each other. -/
def dataChar (b : Byte) (pos : Bool) : BitVec 10 × Bool :=
  let x := b.toNat % 32
  let y := b.toNat / 32
  let six := half sixBits[(finOf 32 x)] 0b111000 pos
  let second := y == 7 && (if six.2 then x == 11 || x == 13 || x == 14 else x == 17 || x == 18 || x == 20)
  let four := half (if second then 0b0111 else fourBits[(finOf 8 y)]) 0b1100 six.2
  (six.1 ++ four.1, four.2)

/-- The comma character K28.5, which turns the disparity over. -/
def commaChar (pos : Bool) : BitVec 10 := if pos then 0b1100000101 else 0b0011111010

/-- The line bits of a frame, most significant byte first, and the disparity after it. -/
def lineBits (frame : BitVec 64) (pos : Bool) : BitVec 80 × Bool :=
  (beBytes 8 frame.toNat).foldl (fun a b =>
    let c := dataChar b a.2
    ((a.1 <<< 10) ||| c.1.setWidth 80, c.2)) (0, pos)

end Sys2Proof.Machine
end

