-- ==== Sys2Proof/Machine/EthCode.lean ====
section
/-! DEFINITION. Frames of the Ethernet ports (spec file 21_other_ports R543, R544), without the frame check sequence. The spec
names IEEE 802.3, ARP, IPv4, ICMP and UDP and gives no layout of them: their fields are those of the published protocols
(PRESUMED, log 66). -/
namespace Sys2Proof.Machine

/-- Ones' complement sum of 16-bit words, an odd last byte padded with zero; the length is the fuel. -/
def onesSum : Nat → List Byte → Nat → Nat
  | 0, _, a => a
  | k + 1, l, a =>
    match l with
    | [] => a
    | b :: c :: rest => let x := a + b.toNat * 256 + c.toNat; onesSum k rest (x % 65536 + x / 65536)
    | [b] => let x := a + b.toNat * 256; x % 65536 + x / 65536

/-- The checksum over these bytes is good. -/
def sumGood (l : List Byte) : Bool := onesSum (l.length + 1) l 0 == 0xFFFF

/-- The checksum that makes these bytes, with zero in its place, good. -/
def checksum (l : List Byte) : Nat := 0xFFFF - onesSum (l.length + 1) l 0

/-- A frame from a port to a MAC address, padded to the least length of 802.3. -/
def ethFrame (e : Fin 2) (dst kind : Nat) (payload : List Byte) : List Byte :=
  beBytes 6 dst ++ beBytes 6 (Config.mac e.val).toNat ++ beBytes 2 kind ++ payload ++ List.replicate (46 - payload.length) 0

/-- An IPv4 packet with TTL 64 and DF set (21 R544). -/
def ipPacket (id proto : Nat) (src dst : BitVec 32) (body : List Byte) : List Byte :=
  let head := [0x45, 0] ++ beBytes 2 (20 + body.length) ++ beBytes 2 id ++ [0x40, 0, 64] ++ beBytes 1 proto
  let addrs := beBytes 4 src.toNat ++ beBytes 4 dst.toNat
  head ++ beBytes 2 (checksum (head ++ [0, 0] ++ addrs)) ++ addrs ++ body

/-- The bytes that a UDP checksum covers before the datagram itself. -/
def udpPseudo (src dst : BitVec 32) (n : Nat) : List Byte := beBytes 4 src.toNat ++ beBytes 4 dst.toNat ++ [0, 17] ++ beBytes 2 n

/-- A UDP datagram with its checksum, which is always sent (21 R543). -/
def udpDatagram (src dst : BitVec 32) (srcPort dstPort : Nat) (body : List Byte) : List Byte :=
  let n := 8 + body.length
  let ports := beBytes 2 srcPort ++ beBytes 2 dstPort ++ beBytes 2 n
  let c := checksum (udpPseudo src dst n ++ ports ++ [0, 0] ++ body)
  ports ++ beBytes 2 (if c = 0 then 0xFFFF else c) ++ body

/-- An ARP packet: 1 request, 2 reply; the port's addresses and the other's. -/
def arpPacket (op : Nat) (e : Fin 2) (own : BitVec 32) (mac : Nat) (ip : BitVec 32) : List Byte :=
  beBytes 2 1 ++ beBytes 2 0x0800 ++ [6, 4] ++ beBytes 2 op ++ beBytes 6 (Config.mac e.val).toNat ++ beBytes 4 own.toNat
    ++ beBytes 6 mac ++ beBytes 4 ip.toNat

/-- An echo reply with the identifier, sequence number and data of its request (21 R543). -/
def echoReply (rest : List Byte) : List Byte := [0, 0] ++ beBytes 2 (checksum ([0, 0, 0, 0] ++ rest)) ++ rest

end Sys2Proof.Machine
end

