-- ==== Sys2Proof/Machine/FabCode.lean ====
section
/-! DEFINITION. Fabric frames and acknowledgement words as the characters of a link (spec file 20_fabric R522, R524, R527).
A character is nine bits: a byte, and the top bit set for a control character (8b/10b, R520). The header is the spec's;
it lists what the payloads of the fabric's own messages carry and gives no layout of them: their places are the model's own
(DESIGN CHOICE, log 19). -/
namespace Sys2Proof.Machine

def startChar : BitVec 9 := 0x1FB
def endChar : BitVec 9 := 0x1FD
def ackChar : BitVec 9 := 0x17C

def FabClass.code : FabClass → Nat
  | .sync => 0 | .safe => 1 | .cmd => 2 | .bulk => 3

def fabClassOf (n : Nat) : FabClass :=
  if n % 4 = 0 then .sync else if n % 4 = 1 then .safe else if n % 4 = 2 then .cmd else .bulk

def LinkState.code : LinkState → Nat
  | .down => 0 | .training => 1 | .hello => 2 | .up => 3 | .held => 4 | .disabled => 5 | .loop => 6

def linkStateOf (n : Nat) : Option LinkState :=
  [LinkState.down, .training, .hello, .up, .held, .disabled, .loop].find? (fun k => k.code == n)

/-- TYPE of a message (20 R522, R527). -/
def FabMsg.code : FabMsg → Nat
  | .packet _ => 0x0000 | .safetyPdu _ => 0x0001
  | .memberReport _ => 0x0010 | .share .. => 0x0011 | .transfer .. => 0x0012
  | .hello .. => 0x0100 | .linkState _ => 0x0101 | .innkeeper .. => 0x0102 | .assign _ => 0x0103
  | .route .. => 0x0104 | .routeAck _ => 0x0105 | .commit _ => 0x0106 | .flow .. => 0x0107
  | .bulk _ => 0x0200

/-- Fields of given byte widths, one after the other, most significant byte first (20 R522). -/
def packBytes (l : List (Nat × Nat)) : List Byte := l.flatMap (fun x => beBytes x.1 x.2)

/-- The fields of given byte widths read back; what is missing reads as 0. -/
def unpackBytes : List Nat → List Byte → List Nat
  | [], _ => []
  | w :: ws, l => beNat (l.take w) :: unpackBytes ws (l.drop w)

/-- Bytes cut into groups of `k`; the length is the fuel. -/
def groups (k : Nat) : Nat → List Byte → List (List Byte)
  | 0, _ => []
  | fuel + 1, l => if l = [] then [] else l.take k :: groups k fuel (l.drop k)

/-- Widths of a member report: group, member with master and RUN, the two torque limits, torque, w, g, T_rated, D, N, φ
and one byte of zero: the 32 bytes of a SYNC flow (20 R533; 13 R344, log 7). -/
def reportWidths : List Nat := [1, 1, 4, 4, 4, 2, 4, 4, 2, 1, 4, 1]

/-- Payload of a message (20 R527; 13 R344, R350). -/
def FabMsg.payload : FabMsg → List Byte
  | .packet b => b
  | .safetyPdu b => b
  | .bulk b => b
  | .memberReport r => packBytes (reportWidths.zip [r.group, r.member % 8 + flag r.master 3 + flag r.run 4,
      lowBits 32 r.lo, lowBits 32 r.hi, lowBits 32 r.torque, r.w, lowBits 32 r.g, r.tRated, r.d, r.n, r.phi, 0])
  | .share g sender k v last => packBytes [(1, g), (1, sender % 8 + k % 8 * 8 + flag last 6), (4, lowBits 32 v)]
  | .transfer m st en crc => packBytes [(1, m.val + flag en 4 + flag crc.isSome 5), (1, st)]
      ++ (match crc with | some c => beBytes 4 c.toNat | none => [])
  | .hello u p a n i e => packBytes [(8, u.toNat), (1, p), (1, a.toNat), (1, n), (8, i.toNat), (8, e.toNat)]
  | .linkState r => packBytes [(8, r.uid.toNat), (2, r.generation.toNat), (1, r.priority), (1, r.preferred.toNat)]
      ++ r.links.flatMap (fun k => packBytes [(1, k.state.code), (8, k.neighbour.toNat)])
  | .innkeeper u p e c => packBytes [(8, u.toNat), (1, p), (2, e.toNat), (4, c.toNat)]
  | .assign l => l.flatMap (fun x => packBytes [(8, x.1.toNat), (1, x.2.toNat)])
  | .route u e l => packBytes [(8, u.toNat), (2, e.toNat)] ++ l.flatMap (fun w => beBytes 4 w.toNat)
  | .routeAck e => beBytes 2 e.toNat
  | .commit e => beBytes 2 e.toNat
  | .flow k a b ts => packBytes [(1, k.val), (1, a.toNat), (1, b.toNat), (4, ts)]

/-- The links of a LINK_STATE payload; none where a link state does not exist. -/
def linkInfos : List (List Byte) → Option (List LinkInfo)
  | [] => some []
  | g :: gs => match linkStateOf (beNat (g.take 1)), linkInfos gs with
    | some st, some l => some (⟨st, BitVec.ofNat 64 (beNat (g.drop 1))⟩ :: l)
    | _, _ => none

/-- The message of a TYPE and a payload; none for an unknown TYPE and for a payload of another length than the message
has. The held address of a LINK_STATE's originator is the SRC of its frame. -/
def readMsg (type : Nat) (src : BitVec 8) (b : List Byte) : Option FabMsg :=
  let n := b.length
  let f (l : List Nat) (i : Nat) : Nat := (unpackBytes l b).getD i 0
  let v (w : Nat) (x : Nat) : BitVec w := BitVec.ofNat w x
  if type = 0x0000 then some (.packet b)
  else if type = 0x0001 then some (.safetyPdu b)
  else if type = 0x0200 then some (.bulk b)
  else if type = 0x0010 ∧ n = 32 then
    let x := f reportWidths
    some (.memberReport { group := x 0, member := x 1 % 8, master := bit (x 1) 3, run := bit (x 1) 4
                          lo := signed 32 (x 2), hi := signed 32 (x 3), torque := signed 32 (x 4), w := x 5
                          g := signed 32 (x 6), tRated := x 7, d := x 8, n := x 9, phi := x 10 })
  else if type = 0x0011 ∧ n = 6 then
    let x := f [1, 1, 4]
    some (.share (x 0) (x 1 % 8) (x 1 / 8 % 8) (signed 32 (x 2)) (bit (x 1) 6))
  else if type = 0x0012 ∧ (n = 2 ∨ n = 6) then
    let x := f [1, 1, 4]
    some (.transfer (finOf 4 (x 0)) (x 1) (bit (x 0) 4) (if n = 6 then some (v 32 (x 2)) else none))
  else if type = 0x0100 ∧ n = 27 then
    let x := f [8, 1, 1, 1, 8, 8]
    some (.hello (v 64 (x 0)) (x 1) (v 8 (x 2)) (x 3) (v 64 (x 4)) (v 64 (x 5)))
  else if type = 0x0101 ∧ n = 48 then
    let x := f [8, 2, 1, 1]
    (linkInfos (groups 9 4 (b.drop 12))).map (fun l => .linkState
      { uid := v 64 (x 0), generation := v 16 (x 1), priority := x 2, preferred := v 8 (x 3), addr := src, links := l })
  else if type = 0x0102 ∧ n = 15 then
    let x := f [8, 1, 2, 4]
    some (.innkeeper (v 64 (x 0)) (x 1) (v 16 (x 2)) (v 32 (x 3)))
  else if type = 0x0103 ∧ n % 9 = 0 then
    some (.assign ((groups 9 n b).map (fun g => (v 64 (beNat (g.take 8)), v 8 (beNat (g.drop 8))))))
  else if type = 0x0104 ∧ n = 266 then
    let x := f [8, 2]
    some (.route (v 64 (x 0)) (v 16 (x 1)) ((groups 4 64 (b.drop 10)).map (fun g => v 32 (beNat g))))
  else if type = 0x0105 ∧ n = 2 then some (.routeAck (v 16 (beNat b)))
  else if type = 0x0106 ∧ n = 2 then some (.commit (v 16 (beNat b)))
  else if type = 0x0107 ∧ n = 7 then
    let x := f [1, 1, 1, 4]
    if x 0 < 3 then some (.flow (finOf 3 (x 0)) (v 8 (x 1)) (v 8 (x 2)) (x 3)) else none
  else none

/-- Header and payload of a frame (20 R522). -/
def FabFrame.body (f : FabFrame) : List Byte :=
  packBytes [(1, f.cls.code * 64 + flag f.treeB 5 + flag f.dup 4), (1, f.hops), (1, f.dest.toNat), (1, f.src.toNat),
    (1, f.lseq.toNat), (1, f.flow.toNat), (2, f.msg.payload.length), (2, f.eseq.toNat), (2, f.msg.code)] ++ f.msg.payload

/-- The bytes between the start and the end character: with the CRC-32C of 03 R67 over header and payload. -/
def FabFrame.bytes (f : FabFrame) : List Byte := f.body ++ beBytes 4 (crc32c f.body).toNat

/-- The characters of a frame on a link (20 R522). -/
def FabFrame.chars (f : FabFrame) : List (BitVec 9) := startChar :: f.bytes.map (fun b => b.setWidth 9) ++ [endChar]

/-- A frame from the bytes between its start and end characters (20 R522); none for a bad CRC, a reserved bit set, a
LENGTH that is not that of the payload, an unknown TYPE, or a payload that is not its message's (log 19). -/
def readFrame (l : List Byte) : Option FabFrame :=
  let n := l.length - 4
  let h := unpackBytes [1, 1, 1, 1, 1, 1, 2, 2, 2] l
  let x (i : Nat) : Nat := h.getD i 0
  if l.length < 16 ∨ beBytes 4 (crc32c (l.take n)).toNat ≠ l.drop n ∨ x 0 % 16 ≠ 0 ∨ x 6 + 12 ≠ n then none
  else
    (readMsg (x 8) (BitVec.ofNat 8 (x 3)) ((l.take n).drop 12)).map (fun m => {
      cls := fabClassOf (x 0 / 64), treeB := bit (x 0) 5, dup := bit (x 0) 4, hops := x 1
      dest := BitVec.ofNat 8 (x 2), src := BitVec.ofNat 8 (x 3), lseq := BitVec.ofNat 8 (x 4)
      flow := BitVec.ofNat 8 (x 5), eseq := BitVec.ofNat 16 (x 7), msg := m })

/-- The bytes of an acknowledgement word after K28.3 (20 R524): the class, with bit 7 set for a negative one (log 19), LSEQ, the
credit count, and the CRC-8 of 10 R267 over the three. -/
def ackBytes (c : FabClass) (lseq : BitVec 8) (credits : Nat) (negative : Bool) : List Byte :=
  let b := packBytes [(1, c.code + flag negative 7), (1, lseq.toNat), (1, credits)]
  b ++ [linkCrc b]

/-- Class, LSEQ, credits and whether negative; none for a bad CRC-8 and for a class that is not retried. -/
def readAck (l : List Byte) : Option (FabClass × BitVec 8 × Nat × Bool) :=
  let b := l.take 3
  let c := (b.getD 0 0).toNat
  if l.length ≠ 4 ∨ l.drop 3 ≠ [linkCrc b] ∨ c % 128 = 0 ∨ 3 < c % 128 then none
  else some (fabClassOf c, b.getD 1 0, (b.getD 2 0).toNat, bit c 7)

end Sys2Proof.Machine
end

