-- ==== Sys2Proof/Machine/Raise.lean ====
section
/-! DEFINITION. Raising and recovering event sources: the Flue's records, reactions and journal entries
(spec file 17_faults, 22 R566). -/
namespace Sys2Proof.Machine

/-- Number of source g.b. -/
def srcNum (g b : Nat) : Nat := 16 * g + b

/-- The block that owns a source under 17 R461. Where the source is not one machine's, the address field names the
instance: bits [5:4] the machine of 4.12 to 4.15, bits [3:0] the transport of 1.0 to 1.5 and the port of 1.12 to 1.14. -/
def ownerOf (src addr : Nat) : Option Blk :=
  let g := src / 16
  let b := src % 16
  let n : Fin 4 := finOf 4 b
  if g = 1 then
    let t := if b < 6 then bits addr 3 0 else if b < 12 then b - 5 else if b < 14 then 7 + bits addr 4 4 else if b = 14 then 9 + bits addr 4 4 else 0
    if t = 0 then some .hspi
    else if t < 7 then some (.can (finOf 6 (t - 1)))
    else if t = 7 then some (.eth 0) else if t = 8 then some (.eth 1)
    else if t = 9 then some (.ser 0) else if t = 10 then some (.ser 1) else some .vnfAll
  else if g = 2 then
    if b < 8 then some (.tfu n) else if b < 12 then some (.stv n) else if b = 12 then some .prf else none
  else if g = 3 then
    if b < 8 then some (.tfu n) else if b < 12 then some (.sns n) else none
  else if g = 4 then some (.tfu (if b < 12 then n else finOf 4 (bits addr 5 4)))
  else if g = 5 ∨ g = 10 then some (.tfu n)
  else if g = 6 then some (.stv n)
  else if g = 7 then if b < 5 then some .prf else if 8 ≤ b ∧ b ≤ 14 then some .axd else none
  else if g = 8 then some (.glk n)
  else if g = 9 then some .axd
  else if g = 11 then some .vnfAll
  else none

/-- BLOCK_RESET has an owning block to act on (17 R456). -/
def hasOwner (src : Nat) : Bool := (ownerOf src 0).isSome

/-- MASTER of a record (17 R464): the core that a source of group 14 names (16 R451), else the TFU, Stove or profile
generator that owns the source, COMMS for the ports (01 R19), the MRAM controller for 15.10 to 15.12, else none
(log 16). -/
def masterOf (src addr : Nat) : BitVec 8 :=
  if src / 16 = 14 ∧ (src % 16 < 4 ∨ src % 16 = 12 ∨ (src % 16 < 8 ∧ bits addr 3 0 = 0)) ∧ bits addr 7 6 < 3 then
    BitVec.ofNat 8 (3 * bits addr 5 4 + bits addr 7 6)
  else match ownerOf src addr with
  | some (.tfu m) => BitVec.ofNat 8 (0x14 + m.val)
  | some (.stv i) => BitVec.ofNat 8 (0x10 + i.val)
  | some .prf => 0x18
  | some (.can _) => 0x1B
  | some (.eth _) => 0x1B
  | some (.ser _) => 0x1B
  | some .hspi => 0x1B
  | some .vnfAll => 0x1B
  | _ => if 250 ≤ src ∧ src ≤ 252 then 0x1A else 0xFF

def Retry.code : Retry → Nat
  | .none' => 0 | .transient => 1 | .lasting => 2 | .notRetried => 3

/-- INFO word of 17 R464. -/
def infoWord (valid : Bool) (r : FaultRec) : Nat :=
  flag valid 31 + flag r.sameTick 30 + flag r.moved 29 + flag r.recovered 28 + r.retry.code * 2 ^ 26
    + r.kind.toNat * 2 ^ 23 + flag r.repeated 22 + r.master.toNat * 256 + r.source.toNat

/-- The four words of FER or NER; a free record reads zero. -/
def recWords (r : Option FaultRec) : List Nat :=
  match r with
  | none => [0, 0, 0, 0]
  | some r => [infoWord true r, r.addr.toNat, r.stamp.toNat % 2 ^ 32, r.stamp.toNat / 2 ^ 32]

/-- The reaction word in force (17 R456). -/
def State.reaction (s : State) (src : Nat) : Nat := s.pe src 0x7000 1

/-- The word that a raise uses: the old one when a write of this tick replaced it (17 R456, R470). -/
def raiseWord (s : State) (src : Nat) : Nat :=
  if s.flue.wordsAt = s.clk then ((s.flue.oldWords.find? (fun x => x.1 == src)).map (·.2)).getD (s.reaction src)
  else s.reaction src

/-- A reaction word is written: the tick's first old word of the source is kept for its raises (17 R470). -/
def keepWord (s : State) (src old : Nat) : State :=
  s.modFlue (fun f =>
    let l := if f.wordsAt = s.clk then f.oldWords else []
    { f with oldWords := if l.any (fun x => x.1 == src) then l else l ++ [(src, old)], wordsAt := s.clk })

/-- The machine of a source is the one that bits [5:4] of the address field hold (06 R183, 13 R355). -/
def machineByAddr (src : Nat) : Bool := (decide (76 ≤ src) && decide (src < 80)) || (decide (180 ≤ src) && decide (src < 184))

/-- The machines that a raise names in its address field. -/
def namedBy (src addr : Nat) : BitVec 4 := if machineByAddr src then 1#4 <<< bits addr 5 4 else 0

def sticky (s : State) (src : Nat) : Bool := s.flue.sticky.getLsbD src
def live (s : State) (src : Nat) : Bool := s.flue.live.getLsbD src
def bitSet (v : BitVec 256) (i : Nat) : BitVec 256 := v ||| (1#256 <<< i)
def bitClr (v : BitVec 256) (i : Nat) : BitVec 256 := v &&& ~~~(1#256 <<< i)

/-- A journal entry is queued; with 256 queued it is lost and counted (22 R566). `again` raises. -/
def jput (again : State → Nat → Nat → State) (s : State) (kind code : Nat) (stamp : Stamp) (data : List Byte) : State :=
  if s.journal.queue.length < 256 then
    s.modJournal (fun j => { j with queue := j.queue ++ [⟨BitVec.ofNat 8 kind, BitVec.ofNat 16 code, stamp, data⟩] })
  else
    let (c, o) := ctrInc 32 s.mem.journalLost
    let s := (s.modMem (fun m => { m with journalLost := c })).modJournal (fun j => { j with lostPending := j.lostPending + 1 })
    let s := again s 253 0
    if o then again s 255 5 else s

/-- Records of 17 R462: FER, REPEAT, NER, or a lost record. -/
def latchRecord (again : State → Nat → Nat → State) (s : State) (r : FaultRec) : State :=
  match s.flue.fer with
  | none => s.modFlue (fun f => { f with fer := some r })
  | some fr =>
    if fr.source = r.source then s.modFlue (fun f => { f with fer := some { fr with repeated := true } })
    else
      match s.flue.ner with
      | none => s.modFlue (fun f => { f with ner := some { r with sameTick := r.stamp == fr.stamp } })
      | some nr =>
        if nr.source = r.source then s.modFlue (fun f => { f with ner := some { nr with repeated := true } })
        else
          let (c, o) := ctrInc 16 s.flue.lost
          let first := !s.flue.lostRaised
          let s := s.modFlue (fun f => { f with lost := c, lostRaised := true })
          let s := if first then again s 241 0 else s
          if o then again s 241 0 else s

/-- The router queue with a message added: behind every other, but before those of the same tick from a higher source (01 R36). -/
def queueInsert (m : EventMsg) : List EventMsg → List EventMsg
  | [] => [m]
  | x :: xs => if x.stamp = m.stamp ∧ m.source.toNat < x.source.toNat then m :: x :: xs else x :: queueInsert m xs

/-- An event message goes into the router queue, or is dropped and counted (17 R460). -/
def queueMsg (again : State → Nat → Nat → State) (s : State) (m : EventMsg) : State :=
  if s.flue.queue.length < 64 then s.modFlue (fun f => { f with queue := queueInsert m f.queue, lastMsg := some m })
  else
    let (c, o) := ctrInc 16 s.flue.dropped
    let s := s.modFlue (fun f => { f with dropped := c, dropOwed := true })
    if o then again s 240 0 else s

/-- MODULE_RESET of a reaction word (17 R459): the third within 60 s is replaced by 15.4 and HOLD. -/
def resetReaction (again : State → Nat → Nat → State) (s : State) : State :=
  let within := s.flue.resetStamps.filter (fun t => decide (s.clk < t + 60000 * 200000))
  if within.length ≥ 2 then (again s 244 0).modFlue (fun f => { f with holdReq := true })
  else s.modStart (fun x => if x.resetPending.isSome then x else { x with resetPending := some .flue, resetPendingAt := s.clk })

/-- The reaction mask of a source is not applied yet: 2.14 before its 100 µs have passed (01 R27). -/
def maskOff (s : State) (src : Nat) : Bool := src == 46 && s.tb.lossMasked

/-- The resets of a reaction word (17 R457 to R459). -/
def reactResets (again : State → Nat → Nat → State) (s : State) (src addr : Nat) : State :=
  let w := raiseWord s src
  let s := match ownerOf src addr with
    | some b => if bit w 2 ∧ b ∉ s.flue.resetReq then s.modFlue (fun f => { f with resetReq := f.resetReq ++ [b] }) else s
    | none => s
  if bit w 3 then resetReaction again s else s

/-- The reaction word of a source is carried out (17 R456 to R460); `was` is a sticky bit that was set before, which takes
messages only. -/
def react (again : State → Nat → Nat → State) (s : State) (src addr : Nat) (r : FaultRec) (was : Bool) : State :=
  let w := raiseWord s src
  let h : Fin 4 := finOf 4 (bits w 6 5)
  let s := if bit w 1 then queueMsg again s ⟨h, true, r.source, r.stamp⟩ else s
  let s := if bit w 0 then queueMsg again s ⟨h, false, r.source, r.stamp⟩ else s
  if was then s else reactResets again s src addr

/-- The journal entry of a raise that sets a sticky bit (22 R565, R566). -/
def jraise (again : State → Nat → Nat → State) (s : State) (r : FaultRec) : State :=
  jput again s 1 r.source.toNat s.tb.now (beBytes 4 (infoWord true r) ++ beBytes 4 r.addr.toNat ++ List.replicate 4 0)

/-- One raise (17 R453 to R462), with the raises it causes handed to `again`. -/
def raiseWith (again : State → Nat → Nat → State) (s : State) (master : BitVec 8) (src addr kind : Nat) (retry : Retry)
    (level : Bool) : State :=
  if !s.start.bootBegun then s            -- the Flue stays in reset until the boot ROM starts (02 R50)
  else if level && live s src then s      -- no change of the line: no raise (17 R453)
  else
    let was := sticky s src
    let r : FaultRec := {
      source := BitVec.ofNat 8 src, master := master, kind := BitVec.ofNat 3 kind,
      retry := retry, addr := BitVec.ofNat 32 addr, stamp := s.tb.now }
    let s := s.modFlue (fun f => { f with
      live := if level then bitSet f.live src else f.live
      sticky := bitSet f.sticky src
      named := vmod f.named (finOf 256 src) (fun v => (if was then v else 0) ||| namedBy src addr)
      quietAt := vmod f.quietAt (finOf 256 src) (fun _ => s.clk)
      raised := (if f.raisedAt = s.clk then f.raised.filter (fun x => x.1.source != r.source) else []) ++ [(r, was)]
      raisedAt := s.clk })
    let s := latchRecord again s r
    let s := if was then s else jraise again s r
    -- 17 R470: while a module reset is pending, no reaction other than ERR_PIN
    if s.start.resetPending.isSome || maskOff s src then s else react again s src addr r was

/-- Raises of the Flue's own sources caused by a raise, to a fixed depth: each sets a sticky bit that ends the chain. -/
def raiseGo : Nat → State → Nat → Nat → State
  | 0, s, _, _ => s
  | k + 1, s, src, addr => raiseWith (raiseGo k) s (masterOf src addr) src addr 0 .none' false

/-- A pulse raise with an event detail word. -/
def raise (s : State) (src addr : Nat) : State := raiseGo 6 s src addr

/-- A raise that reports an operation: pulse when TRANSIENT, level when LASTING or NOT_RETRIED (17 R454). -/
def raiseBy (s : State) (master : BitVec 8) (src addr kind : Nat) (retry : Retry) : State :=
  raiseWith (raiseGo 5) s master src addr kind retry (retry == .lasting || retry == .notRetried)

/-- The same with the master that the source itself names. -/
def raiseOp (s : State) (src addr kind : Nat) (retry : Retry) : State := raiseBy s (masterOf src addr) src addr kind retry

/-- A line becomes inactive: the quiet timer restarts (17 R465). -/
def dropLine (s : State) (src : Nat) : State :=
  if live s src then
    s.modFlue (fun f => { f with live := bitClr f.live src, quietAt := vmod f.quietAt (finOf 256 src) (fun _ => s.clk) })
  else s

/-- The reaction mask of a source whose sticky bit is set is applied after its raise (01 R27). -/
def applyMask (s : State) (src : Nat) : State :=
  if !sticky s src || s.start.resetPending.isSome then s
  else react (raiseGo 5) s src 0 {
    source := BitVec.ofNat 8 src, master := masterOf src 0, kind := 0, retry := .none', addr := 0, stamp := s.tb.now } false

/-- Raise when a condition holds. -/
def raiseIf (c : Bool) (s : State) (src addr : Nat) : State := if c then raise s src addr else s

/-- A queued journal entry from outside the Flue. -/
def journal (s : State) (kind code : Nat) (data : List Byte) : State := jput (raiseGo 5) s kind code s.tb.now data

/-- A source recovers (17 R465): sticky bit, counters, RECOVERED and a journal entry. -/
def recover (s : State) (src : Nat) : State :=
  let (c, o) := ctrInc 8 s.flue.recov[finOf 256 src]
  let (t, ot) := ctrInc 32 s.flue.total
  let mark (r : Option FaultRec) : Option FaultRec :=
    match r with
    | some x => if x.source.toNat = src then some { x with recovered := true } else some x
    | none => none
  let s := s.modFlue (fun f => { f with
    sticky := bitClr f.sticky src
    recov := vmod f.recov (finOf 256 src) (fun _ => c)
    total := t
    fer := mark f.fer
    ner := mark f.ner })
  let s := jput (raiseGo 5) s 2 src s.tb.now
    (beBytes 4 (infoWord true {
      source := BitVec.ofNat 8 src, master := masterOf src 0, kind := 0, retry := .none',
      addr := 0, stamp := s.tb.now, recovered := true }) ++ List.replicate 8 0)
  let s := raiseIf o s 243 src
  raiseIf ot s 242 0

/-- A raise of a source that was made earlier in this tick: its record, and whether the sticky bit was set before. -/
def raisedNow (s : State) (src : Nat) : Option (FaultRec × Bool) :=
  if s.flue.raisedAt = s.clk then s.flue.raised.find? (fun x => x.1.source.toNat == src) else none

/-- The clear of a sticky bit in the tick of a raise takes effect first: the raise sets the bit again and is a 0 to 1 raise
with its resets (17 R470). -/
def clearAndRaise (s : State) (src : Nat) (r : FaultRec) : State :=
  let s := (recover s src).modFlue (fun f => { f with
    sticky := bitSet f.sticky src
    named := vmod f.named (finOf 256 src) (fun _ => namedBy src r.addr.toNat)
    raised := f.raised.map (fun x => if x.1.source = r.source then (x.1, false) else x) })
  let s := jraise (raiseGo 5) s r
  if s.start.resetPending.isSome || maskOff s src then s else reactResets (raiseGo 5) s src r.addr.toNat

/-- Clear of one source by the opcode or a W1C write (17 R467, R469, R470): only while its line is inactive, or before a
raise of the same tick. -/
def clearSource (s : State) (src : Nat) : State :=
  match raisedNow s src with
  | some (r, was) => if was then clearAndRaise s src r else s
  | none => if sticky s src && !live s src then recover s src else s

/-- A counter of a State goes up by one; its overflow raises a source. -/
def bump (w : Nat) (get : State → Counter) (set : Counter → State → State) (src addr : Nat) (s : State) : State :=
  let (c, o) := ctrInc w (get s)
  raiseIf o (set c s) src addr

/-- FLUE_SUM (17 R471): bit g while any sticky bit of group g is set. -/
def flueSum (s : State) : Nat :=
  (List.range 16).foldl (fun a g => a + flag ((s.flue.sticky >>> (16 * g)).setWidth 16 != 0#16) g) 0

/-- The one machine that a source's own row of the event tables names (17 R457). -/
def sourceMachine (src : Nat) : Option (Fin 4) :=
  let g := src / 16
  let b := src % 16
  if (g = 2 ∧ b < 8) ∨ (g = 3 ∧ b < 8) ∨ (g = 4 ∧ b < 12) ∨ g = 5 ∨ g = 8 ∨ g = 10 ∨ (g = 11 ∧ b < 4)
    ∨ (g = 12 ∧ b < 4) ∨ (g = 13 ∧ b < 8) then some (finOf 4 b)
  else none

/-- The machines that a sticky source names: its own machine, or those that the address fields of its raises held (log 16). -/
def namedMachines (s : State) (src : Nat) : BitVec 4 :=
  match sourceMachine src with
  | some k => 1#4 <<< k.val
  | none => s.flue.named[finOf 256 src]

/-- The lowest sticky source with HOLD that refuses an enable of machine `m`, or of an axis when none is given (17 R457): a
source that names machines refuses theirs only, one that names none refuses every machine and axis. -/
def holdSource (s : State) (m : Option (Fin 4)) : Option Nat :=
  (List.range 256).find? (fun src => sticky s src && !maskOff s src && bit (s.reaction src) 7 &&
    (namedMachines s src == 0 ||
      (match m with
       | some k => (namedMachines s src).getLsbD k.val
       | none => false)))

/-- Level of ERR_OUT0 or ERR_OUT1: true is asserted, low (02 R60, 17 R457). -/
def errOut (s : State) (pin : Nat) : Bool :=
  if s.up then (List.range 256).any (fun src => sticky s src && !maskOff s src && bit (s.reaction src) 4 && bit (s.reaction src) (8 + pin))
  else true

/-- A record was latched by a raise of this tick. -/
def latchedNow (s : State) (r : FaultRec) : Bool :=
  decide (s.flue.raisedAt = s.clk) && s.flue.raised.any (fun x => x.1.source == r.source && x.1.stamp == r.stamp)

/-- Release of FER (17 R463): NER moves into it. A raise of the same tick is latched after the release: its record enters the
freed FER as a new one (log 64). -/
def releaseFer (s : State) : State :=
  s.modFlue (fun f => { f with
    fer := match f.ner with
      | some r => some (if latchedNow s r then { r with sameTick := false } else { r with moved := true })
      | none => none
    ner := none
    lostRaised := false })

end Sys2Proof.Machine
end

