-- ==== Sys2Proof/Machine/Packets.lean ====
section
/-! DEFINITION. Command packets, replies, tags and target order (spec file 03_command_packets R65 to R78). -/
namespace Sys2Proof.Machine

/-- Status codes of 03 R73. -/
def stOK : BitVec 16 := 0x0000
def stACCEPTED : BitVec 16 := 0x0001
def stBADVERSION : BitVec 16 := 0x0100
def stBADFORMAT : BitVec 16 := 0x0101
def stBADOPCODE : BitVec 16 := 0x0102
def stBADTARGET : BitVec 16 := 0x0103
def stTAGINUSE : BitVec 16 := 0x0104
def stBUSY : BitVec 16 := 0x0105
def stDENIED : BitVec 16 := 0x0200
def stAUTHFAILED : BitVec 16 := 0x0201
def stREPLAYED : BitVec 16 := 0x0202
def stEXPIRED : BitVec 16 := 0x0203
def stKEYABSENT : BitVec 16 := 0x0204
def stNOTREADY : BitVec 16 := 0x0300
def stREFUSED : BitVec 16 := 0x0301
def stLOCKED : BitVec 16 := 0x0302
def stBADPARAM : BitVec 16 := 0x0400
def stBADVALUE : BitVec 16 := 0x0401
def stABORTED : BitVec 16 := 0x0402
def stLATE : BitVec 16 := 0x0403
def stEXECFAULT : BitVec 16 := 0x0404
def stTIMEOUT : BitVec 16 := 0x0405

/-- Number of a transport in the order of 03 R86. -/
def Transport.index : Transport → Fin 12
  | .hspi => 0
  | .can p => finOf 12 (1 + p.val)
  | .eth e _ _ => finOf 12 (7 + e.val)
  | .ser i => finOf 12 (9 + i.val)
  | .fabric _ => 11

/-- Immediate opcodes (03 R77). -/
def immediateOp (op : BitVec 16) : Bool :=
  op.toNat ∈ [0x0001, 0x0003, 0x0201, 0x0202, 0x0302, 0x0303, 0x0401, 0x0402]

/-- What an opcode table says of a code: the target kinds it takes (0x100 for the kind of the index range of
03 R87), the lowest level, and whether it is long (23 R574). -/
structure OpInfo where
  kinds : List Nat
  level : Nat
  long : Bool := false
  deriving DecidableEq, Repr

/-- The opcode tables of 23_opcodes. -/
def opInfo (op : Nat) : Option OpInfo :=
  match op with
  | 0x0000 => some ⟨[0], 0, false⟩ | 0x0001 => some ⟨[0], 0, false⟩ | 0x0002 => some ⟨[0], 0, false⟩
  | 0x0003 => some ⟨[0], 0, false⟩ | 0x0004 => some ⟨[0], 4, false⟩ | 0x0005 => some ⟨[6], 4, false⟩
  | 0x0006 => some ⟨[0], 0, false⟩
  | 0x0100 => some ⟨[0, 1, 2, 3, 4, 7], 0, false⟩ | 0x0101 => some ⟨[0, 1, 2, 3, 4, 7], 0, false⟩
  | 0x0102 => some ⟨[0], 2, true⟩ | 0x0103 => some ⟨[0, 1, 2, 3, 4, 7], 0, false⟩
  | 0x0200 => some ⟨[1], 1, true⟩ | 0x0201 => some ⟨[1], 1, false⟩ | 0x0202 => some ⟨[1], 1, false⟩
  | 0x0203 => some ⟨[1], 1, false⟩ | 0x0204 => some ⟨[1], 0, false⟩
  | 0x0300 => some ⟨[3], 1, false⟩ | 0x0301 => some ⟨[3], 1, false⟩ | 0x0302 => some ⟨[3], 1, false⟩
  | 0x0303 => some ⟨[3], 1, false⟩ | 0x0304 => some ⟨[3], 0, false⟩
  | 0x0400 => some ⟨[2], 1, true⟩ | 0x0401 => some ⟨[2], 1, false⟩ | 0x0402 => some ⟨[2], 1, false⟩
  | 0x0500 => some ⟨[0], 0, false⟩ | 0x0501 => some ⟨[0], 0, false⟩ | 0x0502 => some ⟨[0], 3, false⟩
  | 0x0600 => some ⟨[0], 0, false⟩ | 0x0601 => some ⟨[0], 1, false⟩ | 0x0602 => some ⟨[0], 1, false⟩
  | 0x0603 => some ⟨[0], 0, false⟩
  | 0x0700 => some ⟨[0], 0, false⟩ | 0x0701 => some ⟨[5], 0, false⟩ | 0x0702 => some ⟨[5], 0, false⟩
  | 0x0703 => some ⟨[5], 0, false⟩ | 0x0710 => some ⟨[0], 2, false⟩ | 0x0711 => some ⟨[5], 2, false⟩
  | 0x0712 => some ⟨[5], 1, true⟩ | 0x0713 => some ⟨[5], 0, false⟩ | 0x0714 => some ⟨[5], 1, false⟩
  | 0x0800 => some ⟨[0], 0, false⟩ | 0x0801 => some ⟨[0], 2, false⟩
  | 0x0900 => some ⟨[1], 2, false⟩ | 0x0901 => some ⟨[0], 2, false⟩
  | 0x0A00 => some ⟨[0], 4, false⟩ | 0x0A01 => some ⟨[0], 4, false⟩ | 0x0A02 => some ⟨[0], 4, false⟩
  | 0x0A10 => some ⟨[0], 4, false⟩ | 0x0A11 => some ⟨[0], 4, false⟩ | 0x0A12 => some ⟨[0], 4, true⟩
  | 0x0A13 => some ⟨[0], 4, false⟩ | 0x0A20 => some ⟨[0], 4, false⟩ | 0x0A21 => some ⟨[0], 4, false⟩
  | 0x0A30 => some ⟨[0], 4, false⟩
  | 0x0B00 => some ⟨[0], 1, false⟩ | 0x0B01 => some ⟨[0], 0, false⟩ | 0x0B02 => some ⟨[0], 0, false⟩
  | 0x0B03 => some ⟨[0], 2, false⟩
  | _ => none

/-- Kind and index of a target (03 R66). -/
def tKind (t : BitVec 16) : Nat := t.toNat / 4096
def tIndex (t : BitVec 16) : Nat := t.toNat % 4096

/-- The index lies in the range of its kind (03 R66). -/
def targetOk (t : BitVec 16) : Bool :=
  let i := tIndex t
  match tKind t with
  | 0 => i == 0
  | 1 => decide (i < 4)
  | 2 => decide (i < 6)
  | 3 => decide (i < 12)
  | 4 => decide (i < 4)
  | 5 => decide (i < 512)
  | 6 => decide (i ≤ 0x11)
  | 7 => decide (i < 256)
  | _ => false

/-- A reply or completion as sent: header, data, authentication field and CRC (03 R65, R68, R69). Without a session key
there is no authentication field. -/
def Reply.bytes (r : Reply) : List Byte :=
  let auth := r.sv && !r.key.isEmpty
  let b0 := 0x30 + flag r.completion 3 + flag auth 2
  let hd := [BitVec.ofNat 8 b0, 0] ++ beBytes 2 (r.opcode.toNat % 32768 + 32768) ++ beBytes 2 r.tag.toNat
    ++ beBytes 2 r.status.toNat ++ beBytes 2 r.data.length
    ++ beBytes 2 (r.level.toNat * 8192 + flag r.sv 9 + r.session.toNat) ++ beBytes 4 0 ++ r.data
  let body := if auth then
      let m := hd ++ beBytes 4 r.seq.toNat
      m ++ (hmac r.key m).take 16
    else hd
  body ++ beBytes 4 (crc32c body).toNat

/-- The command outstanding under a tag of a transport. -/
def findCmd (s : State) (tr : Transport) (tag : BitVec 16) : Option Cmd :=
  s.porter.cmds.find? (fun c => c.tr == tr && c.tag == tag)

/-- Change a command. -/
def modCmd (s : State) (tr : Transport) (tag : BitVec 16) (f : Cmd → Cmd) : State :=
  s.modPorter (fun p => { p with cmds := p.cmds.map (fun c => if c.tr == tr && c.tag == tag then f c else c) })

/-- The tag is released (03 R74). -/
def releaseTag (s : State) (tr : Transport) (tag : BitVec 16) : State :=
  s.modPorter (fun p => { p with cmds := p.cmds.filter (fun c => !(c.tr == tr && c.tag == tag)) })

/-- The packet that answers a command. -/
def packetFor (s : State) (c : Cmd) (completion final : Bool) (status : BitVec 16) (data : List Byte) : Reply :=
  { tr := c.tr, completion := completion, opcode := c.opcode, tag := c.tag, status := status, level := c.level,
    sv := c.sv, session := c.session, seq := c.seq, key := c.key, data := data, final := final, queuedAt := s.clk }

/-- Queue a packet; a command without a sender to answer ends at once. -/
def queueFor (s : State) (tr : Transport) (tag : BitVec 16) (completion final : Bool) (status : BitVec 16) (data : List Byte) : State :=
  match findCmd s tr tag with
  | none => s
  | some c =>
    if c.silent then (if final then releaseTag s tr tag else s)
    else
      let s := s.modPorter (fun p => { p with replies := p.replies ++ [packetFor s c completion final status data] })
      if final then modCmd s tr tag (fun c => { c with phase := .ended }) else s

/-- The command watchdogs that a transport restarts, which ends command HOLD at once (12 R334, R335). -/
def watchdogRestart (s : State) (tr : Transport) : State :=
  forAll four (fun m s =>
    if bit (s.pm m 0x2706 2) tr.index.val then
      s.modDrive m (fun d => { d with lastCmd := s.clk, inHold := false })
    else s) s

/-- A command has passed every check of 03 R72: at OPERATE level or above it restarts the watchdogs (12 R335). -/
def passed (s : State) (c : Cmd) : State := if 1 ≤ c.level.toNat then watchdogRestart s c.tr else s

/-- A status that refuses a command under a check of 03 R72, or BAD_PARAM or BAD_VALUE. -/
def refusing (status : BitVec 16) : Bool :=
  (decide (0x0100 ≤ status.toNat) && decide (status.toNat < 0x0400)) || status == stBADPARAM || status == stBADVALUE

/-- The one reply of a command that is not long (03 R69). -/
def reply (s : State) (c : Cmd) (status : BitVec 16) (data : List Byte) : State :=
  queueFor (if refusing status then s else passed s c) c.tr c.tag false true status data

/-- ACCEPTED to a long command, which now runs (03 R70). -/
def accept (s : State) (c : Cmd) : State :=
  let s := passed s c
  modCmd (queueFor s c.tr c.tag false false stACCEPTED []) c.tr c.tag (fun c => { c with phase := .running, startedAt := s.clk })

/-- The completion of a long command (03 R70, R71). -/
def completeAt (s : State) (w : Transport × BitVec 16) (status : BitVec 16) (data : List Byte) : State :=
  queueFor s w.1 w.2 true true status data

def complete (s : State) (w : Option (Transport × BitVec 16)) (status : BitVec 16) (data : List Byte) : State :=
  match w with
  | none => s
  | some w => completeAt s w status data

/-- The reply of a command that waited for a commit point. -/
def replyAt (s : State) (w : Option (Transport × BitVec 16)) (status : BitVec 16) (data : List Byte) : State :=
  match w with
  | none => s
  | some w => queueFor s w.1 w.2 false true status data

/-- A command waits for a commit point. -/
def waitCommit (s : State) (c : Cmd) : State := modCmd (passed s c) c.tr c.tag (fun c => { c with phase := .committing })

/-- Entry header of 23 R575: element number and byte offset of the failing field. -/
def elemHeader (n off : Nat) : List Byte := beBytes 2 n ++ beBytes 2 off

/-- A waiting command may start (03 R75 to R77): `pre` holds the commands that arrived before it. A BARRIER has no effect
on other transports. -/
def mayStart (pre : List Cmd) (c : Cmd) : Bool :=
  immediateOp c.opcode ||
  pre.all (fun e =>
    immediateOp e.opcode || e.phase == .ended ||
    (if e.tr == c.tr then
       c.opcode != 0x0002#16 && e.opcode != 0x0002#16 && (e.target != c.target)
     else c.opcode == 0x0002#16 || e.opcode == 0x0002#16 || e.target != c.target || e.phase != .waiting))

/-- The commands before a command in order of arrival. -/
def before (l : List Cmd) (tr : Transport) (tag : BitVec 16) : List Cmd :=
  l.takeWhile (fun c => !(c.tr == tr && c.tag == tag))

/-- Run an opcode on the outstanding command it names, when that command waits, carries the opcode and may start;
otherwise nothing happens (log 1). -/
def onCmd (s : State) (tr : Transport) (tag : BitVec 16) (op : BitVec 16) (f : State → Cmd → State) : State :=
  match findCmd s tr tag with
  | none => s
  | some c =>
    if c.opcode = op ∧ c.phase = .waiting ∧ mayStart (before s.porter.cmds tr tag) c = true then
      f (modCmd s tr tag (fun c => { c with startedAt := s.clk })) c
    else s

/-- The parameters of a command without parameters, or of a fixed length, are valid (03 R72 check 13). -/
def needLen (s : State) (c : Cmd) (n : Nat) (f : State → State) : State :=
  if c.data.length = n then f s else reply s c stBADPARAM (elemHeader 0 0)

/-- Checks 12 and 13 of 03 R72 in their order: a state of the target that forbids the opcode, then the length. -/
def needState (s : State) (c : Cmd) (forbidden : Bool) (n : Nat) (f : State → State) : State :=
  if forbidden then reply s c stREFUSED [] else needLen s c n f

/-- The machine, axis, channel, Stove or berth that a command targets. -/
def Cmd.m (c : Cmd) : Fin 4 := finOf 4 (tIndex c.target)
def Cmd.axis (c : Cmd) : Fin 6 := finOf 6 (tIndex c.target)
def Cmd.chan (c : Cmd) : Fin 12 := finOf 12 (tIndex c.target)
def Cmd.berth (c : Cmd) : Fin 512 := finOf 512 (tIndex c.target)
def Cmd.id (c : Cmd) : Transport × BitVec 16 := (c.tr, c.tag)

/-- Count FORMAT, CRC, HOP or AUTH (0 to 3) of a transport and raise 1.0 to 1.3 (03 R85, R86). The address field
holds the transport (log 17). -/
def countTransport (s : State) (t : Fin 12) (which : Nat) : State :=
  let tc := s.porter.counters[t]
  let c := match which with | 0 => tc.format | 1 => tc.crc | 2 => tc.hop | _ => tc.auth
  let (c', o) := ctrInc 16 c
  let tc' := match which with
    | 0 => { tc with format := c' } | 1 => { tc with crc := c' } | 2 => { tc with hop := c' } | _ => { tc with auth := c' }
  let s := s.modPorter (fun p => { p with counters := vmod p.counters t (fun _ => tc') })
  let s := raise s (16 + which) t.val
  raiseIf o s (16 + which) t.val

end Sys2Proof.Machine
end

