-- ==== Sys2Proof/Machine/Stops.lean ====
section
/-! DEFINITION. What ends a run: fault stops, stopped TFUs, trips, STOPPED, disabled machines and axes, and halts of
Hearths (12 R328 to R331, R635; 04 R107; 07 R206; 09 R251; 11 R308; 16 R438; 23 R586). -/
namespace Sys2Proof.Machine

/-- The degraded mode that the status word names: a passing one before a lasting one (12 R334, R337; log 52). -/
def Drive.mode (d : Drive) : Degraded := if d.inRender then .render else if d.inHold then .hold else d.degraded

/-- A brake is fitted (12, 0x2703 subindex 6). -/
def braked (s : State) (m : Fin 4) : Bool := s.pm m 0x2703 6 == 1
/-- Hoisting duty (07, 0x2500 subindex 2). -/
def hoisting (s : State) (m : Fin 4) : Bool := s.pm m 0x2500 2 == 1

def stopKindOf : Nat → StopKind
  | 0 => .coast | 1 => .ramp | 2 => .rampBrake | _ => .brakeNow

/-- The configured stop and the configured fault stop of a machine (12 R328). -/
def stopKind (s : State) (m : Fin 4) (fault : Bool) : StopKind := stopKindOf (s.pm m 0x2703 (if fault then 2 else 1))

/-- The machine's start state is one of a start that has not reached RUN (07 R206). -/
def starting (s : State) (m : Fin 4) : Bool :=
  match s.startM[m].state with
  | .catch' => true | .locate => true | .magnetise => true | .openLoop => true | _ => false

/-- The start state changes. -/
def setRun (s : State) (m : Fin 4) (r : RunState) : State := s.modStartM m (fun x => { x with state := r })

/-- The decision status word (05 R152). -/
def tfuStatus (s : State) (m : Fin 4) : Nat :=
  let t := s.tfu[m]
  let tri (x : Int) : Nat := if x = 1 then 1 else if x = -1 then 3 else 0
  flag t.ceiling 31 + flag t.regLimit 30 + flag t.hold 29 + t.sector * 2 ^ 24 + tri t.cT * 2 ^ 22 + flag t.cPsi 21
    + tri t.d * 2 ^ 18 + t.decided.code.toNat

/-- Journal entry of kind 0x07 (23 R590): event code of machine `m`. -/
def journalMachine (s : State) (m : Fin 4) (event : Nat) : State :=
  let st := match s.startM[m].state with
    | .stopped => 0 | .catch' => 1 | .locate => 2 | .magnetise => 3 | .openLoop => 4 | .run => 5 | .banked => 6 | .stopping => 7
  let dg := match s.drive[m].mode with
    | .none' => 0 | .bridge => 1 | .set => 2 | .sensor => 3 | .hold => 4 | .render => 5
  journal s 7 event ([BitVec.ofNat 8 m.val, BitVec.ofNat 8 event, BitVec.ofNat 8 st, BitVec.ofNat 8 dg]
    ++ beBytes 4 (tfuStatus s m) ++ List.replicate 4 0)

/-- The enable in progress ends with a status and data, which its completion carries (23 R586). -/
def endEnable (s : State) (m : Fin 4) (status : BitVec 16) (data : List Byte) : State :=
  s.modDrive m (fun d => { d with enabling := match d.enabling with
    | some e => if e.result.isSome then some e else some { e with result := some (status, data) }
    | none => none })

/-- The start of `m` ends with EXEC_FAULT: data the first source that ended it, or 0xFF and 0 (23 R586). -/
def failStart (s : State) (m : Fin 4) (src : Option (Nat × Nat)) : State :=
  match src with
  | none => endEnable s m stEXECFAULT [0xFF, 0]
  | some (n, c) => endEnable s m stEXECFAULT [BitVec.ofNat 8 n, BitVec.ofNat 8 c]

/-- The bridges of a paralleled or six-phase stage: the machine channel whose link carries bridge or set `b` of `m`. -/
def bridgeLink (s : State) (m : Fin 4) (b : Nat) : Fin 4 :=
  if b = 0 then m
  else
    let v := s.pm m 0x2424 b
    if v < 4 then finOf 4 v else m

/-- Topology of a stage, its bridges (one unless it is paralleled), and the second channel of a pair (06 R157, R170). -/
def topo (s : State) (m : Fin 4) : Nat := s.pm m 0x2420 1
def isPair (s : State) (m : Fin 4) : Bool := topo s m == 4 && topo s (finOf 4 (m.val + 1)) == 5
def nBridges (s : State) (m : Fin 4) : Nat := if topo s m = 3 then s.pm m 0x2420 2 else 1
def second (m : Fin 4) : Fin 4 := finOf 4 (m.val + 1)
/-- The channel whose TFU carries the decision: the first of the pair for the second channel. -/
def lead (s : State) (m : Fin 4) : Fin 4 := if s.isSecond m then finOf 4 (m.val + 3) else m

/-- The bridge of machine `n` that channel `j` measures, if it measures one of bridges 1 to 3 (06 R167). -/
def bridgeOf (s : State) (n j : Fin 4) : Option Nat :=
  if topo s n = 3 ∧ n ≠ j then [1, 2, 3].find? (fun b => decide (b < nBridges s n) && s.pm n 0x2424 b == j.val) else none

/-- A channel that serves only as a bridge-sensing channel, with the machine it serves (06 R167, 10 R265). -/
def bridgeOwner (s : State) (j : Fin 4) : Option (Fin 4) := four.find? (fun n => (bridgeOf s n j).isSome)

/-- The machine that a channel's inputs serve: the first channel of a pair, the machine that names it, or its own. -/
def servedBy (s : State) (j : Fin 4) : Fin 4 := (bridgeOwner s j).getD (lead s j)

/-- The torque reference where no brake holds it: 0 in MAGNETISE, held in BANKED, the render torque in render, else the
committed one (07 R195, R203, R204; 12 R334). -/
def plainRef (s : State) (m : Fin 4) : Int :=
  match s.startM[m].state with
  | .magnetise => 0
  | .banked => s.startM[m].heldTorque
  | r => if s.startM[m].reacquiring then s.startM[m].heldTorque
    else if s.drive[m].inRender && r == .run then neigh (signed 16 (s.pm m 0x2707 6) * 1024) 1000 else s.drive[m].tRef

/-- SBC is requested from the Damper over the cross-link, and the torque reference is recorded as held (12 R330). -/
def requestSbc (s : State) (m : Fin 4) : State :=
  (s.modSafety (fun f => { f with sbcReq := vmod f.sbcReq m (fun _ => true), releaseReq := vmod f.releaseReq m (fun _ => false) })).modDrive m
    (fun d => { d with heldTorque := plainRef s m })

/-- A profile channel goes to OFF with its queue empty (09 R251). -/
def chanOff (s : State) (c : Fin 12) : State :=
  s.modProf c (fun p => { p with state := .off, queue := [], seg := none, latchStopDue := false, vel := 0, acc := (0, 1) })

/-- The profile channel of a Stove (09 R237). -/
def stoveChan (s : State) (i : Fin 4) : Option (Fin 12) :=
  let v := s.ps i 0x3001 3
  if v < 12 then some (finOf 12 v) else none

/-- The channel of a machine's Stove takes a fault stop at its next commit point (09 R249). -/
def chanFaultStop (s : State) (m : Fin 4) : State :=
  forAll four (fun i s =>
    match stoveChan s i with
    | none => s
    | some c => if bit (s.ps i 0x3001 1) m.val && s.stove[i].running then
        s.modProf c (fun p => { p with reqs := p.reqs ++ [(.faultStop, none)] }) else s) s

/-- CEILING clears, with its journal entry (05 R149). -/
def clearCeiling (s : State) (m : Fin 4) : State :=
  journalMachine (s.modTfu m (fun t => { t with ceiling := false, ceilRun := 0, ceilClearRun := 0 })) m 3

/-- A machine is disabled (00 R6): its start ends, its latches that last until then are released (04 R107, 01 R41).
CEILING clears with its journal entry (DESIGN CHOICE, log 82). -/
def disableMachine (s : State) (m : Fin 4) : State :=
  let s := if s.tfu[m].ceiling then clearCeiling s m else s
  let s := (s.modDrive m (fun d => { d with
      enabled := false, stop := none, tRef := 0, psiRef := 1024, degraded := .none', inHold := false, inRender := false
      overspeedAt := none, renderAt := none })).modTfu m (fun t => { t with
      stopped := false, allOff := false, tripped := false, ready := [], pairStep9 := none, lastVec := { off := true }, rescue := false })
  let s := (setRun s m .stopped).modStartM m (fun x => { x with
      catchSt := none, locateSt := none, tableAt := none, frozen := none, fluxDue := false, reachedRun := false, fallback := false,
      portHandled := false, handed := none, reacquiring := false })
  let s := (s.modSafety (fun f => { f with genReq := vmod f.genReq m (fun _ => none) })).modObs m (fun o => { o with locked := false, lostNow := false })
  -- a Stove runs while a machine of its pool is enabled (08 R219)
  let s := forAll four (fun i s =>
    let pool := s.ps i 0x3001 1
    if four.any (fun k => bit pool k.val && s.drive[k].enabled) || !s.stove[i].running then s
    else
      let s := s.modStove i (fun v => { v with running := false })
      match stoveChan s i with
      | none => s
      | some c => chanOff s c) s
  if s.anyMachine || s.anyAxis then s else s.modCal (fun c => { c with quietAt := s.clk })

/-- STOPPED is reached (12 R635): the machine stays enabled only after QUICK_STOP. -/
def reachStopped (s : State) (m : Fin 4) (quick : Bool) : State :=
  let s := (setRun s m .stopped).modDrive m (fun d => { d with stop := none, tRef := 0, inRender := false })
  let s := journalMachine s m 1
  if quick then s else disableMachine s m

/-- The source that a fault of `m` raised is kept as the first that ended a start in progress (23 R586). -/
def noteSource (s : State) (m : Fin 4) (src cause : Nat) : State :=
  s.modDrive m (fun d => { d with enabling := match d.enabling with
    | some e => if e.firstSource.isSome ∨ e.result.isSome then some e else some { e with firstSource := some (src, cause) }
    | none => none })

/-- No torque can be held any more (12 R331): with a brake, SBC is requested and STOPPED follows t_brake later;
without, the machine is STOPPED at once. An enable in progress ends. -/
def noTorque (s : State) (m : Fin 4) : State :=
  if !s.en m then s
  else
    let src := match s.drive[m].enabling with
      | some e => e.firstSource
      | none => none
    let s := failStart s m src
    if braked s m then
      if s.drive[m].stop.any (fun p => p.phase == .offWait) then s
      else
        let already := s.drive[m].stop.any (fun p => p.phase == .brake || p.phase == .torqueRamp)
        let at' := match s.drive[m].stop with
          | some p => if already then p.brakeAt.getD s.clk else s.clk
          | none => s.clk
        let s := if already then s else requestSbc s m
        let (c, o) := ctrInc 16 s.drive[m].brakeStops
        let s := (setRun (chanFaultStop s m) m .stopping).modDrive m (fun d => { d with
          brakeStops := c
          stop := some { phase := .offWait, kind := .brakeNow, fault := true, quick := false, startedAt := s.clk, speed0 := 0,
                         brakeAt := some at' } })
        raiseIf o s (172 + m.val) 4
    else reachStopped (chanFaultStop s m) m false

/-- The TFU of `m` stops and sends frames with all switch bits off until the machine is disabled (01 R41, 04 R121,
05 R131, 10 R282, 12 R319). -/
def stopTfu (s : State) (m : Fin 4) : State :=
  if !s.en m then s
  else noTorque (s.modTfu m (fun t => { t with stopped := true, allOff := true, windowSpoilt := true, ready := [] })) m

/-- A trip of `m` (04 R107): a trip frame at the next character boundary, on each link of the machine, then at every
step 9 until it is disabled. -/
def tripMachine (s : State) (m : Fin 4) : State :=
  let s := s.modTfu m (fun t => { t with tripped := true, tripFrameDue := true, stopped := true, windowSpoilt := true, ready := [] })
  let s := if isPair s m then s.modTfu (second m) (fun t => { t with tripFrameDue := true }) else s
  noTorque s m

/-- The configured fault stop of `m` is requested, for its next commit point (12 R330, R332). -/
def faultStop (s : State) (m : Fin 4) (kind : Option StopKind) : State :=
  if s.en m ∧ s.startM[m].state ≠ .stopped then
    s.modDrive m (fun d => { d with reqs := d.reqs ++ [{ fault := true, quick := false, kind := kind }] })
  else s

/-- Every enabled machine takes its fault stop. -/
def faultStopAll (s : State) : State := forAll four (fun m s => faultStop s m none) s

/-- The profile channel of an axis (09, 0x5000). -/
def axisChan (s : State) (k : Fin 6) : Option (Fin 12) :=
  let v := s.pa k 0x5000 1
  if v < 12 then some (finOf 12 v) else none

/-- The enable of an axis in progress ends with EXEC_FAULT (11 R302, 23 R587). -/
def axisEnableFails (s : State) (k : Fin 6) (src cause : Nat) : State :=
  match s.axes[k].enabling with
  | none => s
  | some e => complete (s.modAxis k (fun a => { a with enabling := none })) e.2 stEXECFAULT [BitVec.ofNat 8 src, BitVec.ofNat 8 cause]

/-- An axis is disabled (09 R251): its channel goes to OFF, and 7.(8 + k) when it was moving. The die's bridge goes off
under its own protection or by the settings that follow. -/
def disableAxis (s : State) (k : Fin 6) : State :=
  let s := axisEnableFails s k 0xFF 0
  if !s.axes[k].enabled then s
  else
    let moving : Bool := match axisChan s k with
      | some c => s.prof[c].state == .moving || s.prof[c].state == .stopping
      | none => false
    let s := match axisChan s k with
      | some c => chanOff s c
      | none => s
    let s := (s.modAxis k (fun a => { a with
        enabled := false, standstill := false, modeDue := none, idleAt := none, fresh := false, heldSteps := [] })).modAux
      (fun l => { l with outbox := l.outbox ++ [.legMode k .disabled (s.clk + 4000)] })
    let s := if moving then
        let (c, o) := ctrInc 16 s.axes[k].disables
        let s := s.modAxis k (fun a => { a with disables := c })
        raiseIf o (raise s (120 + k.val) 0) 126 k.val
      else s
    if s.anyMachine || s.anyAxis then s else s.modCal (fun c => { c with quietAt := s.clk })

def disableAllAxes (s : State) : State := forAll six (fun k s => disableAxis s k) s

/-- H0's shutdown line of a machine (15 R379); when it sets while RUN or REPEAT frames are sent, an OFF frame is due. -/
def setShutdown (s : State) (m : Fin 4) (b : Bool) : State :=
  s.modGl m (fun g => { g with
    shutdown := b
    offDue := g.offDue || (b && !g.shutdown && !g.fresh && (g.code == .run || g.code == .rep)) })

def DisClass.code : DisClass → Nat
  | .none' => 0 | .transient => 1 | .core => 2 | .lane => 3 | .trivet => 4 | .latent => 5 | .undecidable => 6
def HearthMode.code : HearthMode → Nat
  | .triplex => 0 | .duplex => 1 | .singleVoter => 2 | .split => 3 | .resync => 4 | .halted => 5

/-- HRT_STAT (16 R449). -/
def hrtStat (s : State) (h : Fin 4) : Nat :=
  let x := s.hearths[h]
  let bits3 (v : Vector Bool 3) : Nat := flag v[(0 : Fin 3)] 0 + flag v[(1 : Fin 3)] 1 + flag v[(2 : Fin 3)] 2
  x.mode.code * 2 ^ 28 + flag x.debugSplit 27 + bits3 x.coreOk * 2 ^ 24 + flag x.trivetOk[(0 : Fin 2)] 23
    + flag x.trivetOk[(1 : Fin 2)] 22 + bits3 x.laneOk * 2 ^ 19 + bits3 x.spareUsed * 2 ^ 16 + x.lastCore.val * 2 ^ 14
    + flag s.ports.unlocked 13 + flag x.replaySel 12 + x.lastClass.code * 2 ^ 8 + x.lastSeq.toNat

/-- Cores in service, and those of them that are not halted for a resynchronisation. -/
def coresIn (x : Hearth) : List (Fin 3) := [0, 1, 2].filter (fun i : Fin 3 => x.coreOk[i])
def activeCores (x : Hearth) : List (Fin 3) :=
  (coresIn x).filter (fun i => match x.resync with
    | some r => r.core != i
    | none => true)

/-- A Hearth halts (16 R438) with the actions that do not wait for the Flue. -/
def haltHearth (s : State) (h : Fin 4) (cause : Nat) (core : Nat) : State :=
  let s := s.modHearth h (fun x => { x with mode := .halted, resync := none, splitting := none, rejoining := none, disagreed := none })
  let s := raiseOp s (228 + h.val) (cause + 16 * h.val + 64 * core + 256 * s.hearths[h].lastSeq.toNat) 6 .notRetried
  if h = 0 then s
  else if h = 3 then
    if s.anyMachine || s.anyAxis then disableAllAxes (faultStopAll s) else s
  else if s.anyMachine then
    let s := forAll four (fun m s =>
      if s.en m then
        if braked s m then requestSbc s m else setShutdown s m true
      else s) s
    disableAllAxes (s.modHearth h (fun x => { x with brakeWait := some s.clk }))
  else s

end Sys2Proof.Machine
end

