-- ==== Sys2Proof/Machine/CommOps.lean ====
section
/-! DEFINITION. Shared operations of the CAN ports, the fabric and the ways a reply leaves the module
(spec files 19_can, 20_fabric, 21_other_ports, 03 R79). -/
namespace Sys2Proof.Machine

/-! ### Berths -/

def allBerths : List (Fin 512) := (List.range 512).map (fun k => finOf 512 k)

/-- The lowest free berth. -/
def freeBerth (s : State) : Option (Fin 512) := allBerths.find? (fun b => s.porter.berths[b] == .free)

def setBerth (s : State) (b : Fin 512) (x : Berth) : State :=
  s.modPorter (fun p => { p with berths := vmod p.berths b (fun _ => x) })

/-- The CAN object of a berth. -/
def canObj (s : State) (b : Fin 512) : Option CanObj :=
  match s.porter.berths[b] with
  | .can o => some o
  | _ => none

def modObj (s : State) (b : Fin 512) (f : CanObj → CanObj) : State :=
  match canObj s b with
  | some o => setBerth s b (.can (f o))
  | none => s

/-- The berths that hold an object of a port with a property, in ascending order. -/
def objsOf (s : State) (p : Fin 6) (f : CanObj → Bool) : List (Fin 512) :=
  allBerths.filter (fun b => match canObj s b with
    | some o => o.port == p && f o
    | none => false)

/-! ### CAN ports -/

/-- Mode of a port: 0 OFF, 1 NORMAL, 2 LISTEN (19 R500). -/
def canMode (s : State) (p : Fin 6) : Nat := s.p0 (0x1200 + p.val) 1

/-- Source 1.(6 + p) with a cause and a berth (19 R518). -/
def canRaise (s : State) (p : Fin 6) (cause : Nat) (berth : Nat) : State := raise s (22 + p.val) (cause + 16 * berth)

/-- Rank of an arbitration field under ISO 11898-1: lower wins. Base identifier, RTR or SRR, IDE, extension, RTR. -/
def arbRank (ide rtr : Bool) (id : BitVec 29) : Nat :=
  if ide then (id.toNat / 2 ^ 18) * 2 ^ 21 + 2 ^ 20 + 2 ^ 19 + (id.toNat % 2 ^ 18) * 2 + flag rtr 0
  else (id.toNat % 2 ^ 11) * 2 ^ 21 + flag rtr 20

def objRank (o : CanObj) : Nat := arbRank o.ide (o.rtr == 1) o.id

/-- The pending frame that ranks highest, equal ranks to the lower berth (19 R505). -/
def bestPending (s : State) (p : Fin 6) : Option (Fin 512) :=
  (objsOf s p (fun o => o.tx && o.pend.isSome)).foldl (fun best b =>
    match best, canObj s b with
    | none, _ => some b
    | some a, some o =>
      (match canObj s a with
       | some oa => if objRank o < objRank oa then some b else some a
       | none => some b)
    | some a, none => some a) none

/-- A pending frame ends: LAST_RESULT, time stamp, collision count, and the completion of its command (19 R506). -/
def endFrame (s : State) (b : Fin 512) (r : TxResult) (status : BitVec 16) (data : List Byte) : State :=
  match canObj s b with
  | none => s
  | some o =>
    match o.pend with
    | none => s
    | some f =>
      let s := modObj s b (fun o => { o with pend := none, last := r, collisions := 0, frameTime := s.tb.now })
      complete s f.cmd status data

/-- Every pending and committed frame of a port ends with EXEC_FAULT and data 4 (19 R506, R507). -/
def endAllFrames (s : State) (p : Fin 6) : State :=
  forAll (objsOf s p (fun o => o.tx && o.pend.isSome)) (fun b s => endFrame s b .fault stEXECFAULT [4]) s

/-- Formats that a port's receive objects take: Classical, and FD or XL when enabled (19 R496). -/
def portFormats (s : State) (p : Fin 6) : BitVec 3 :=
  let f := s.p0 (0x1200 + p.val) 2
  BitVec.ofNat 3 (1 + flag (bit f 0) 1 + flag (bit f 1) 2)

/-- Identifier and IDE of a transport or partner identifier word. -/
def idOfWord (w : Nat) : BitVec 29 := BitVec.ofNat 29 w

/-- A berth taken for an internal object (19 R501), when one is free. -/
def bindInternal (s : State) (o : CanObj) : State :=
  match freeBerth s with
  | some b => setBerth s b (.can { o with internal := true })
  | none => s

/-- H1 binds the internal objects of a port that starts (19 R501). -/
def bindInternals (s : State) (p : Fin 6) : State :=
  let fm := portFormats s p
  let rq := s.p0 (0x1200 + p.val) 5
  let rp := s.p0 (0x1200 + p.val) 6
  let s := if canMode s p = 1 then
      bindInternal (bindInternal s { tx := false, port := p, formats := fm, ide := bit rq 31, id := idOfWord rq, mask := 0x1FFFFFFF })
        { tx := true, port := p, ide := bit rp 31, id := idOfWord rp }
    else s
  forAll eight (fun c s =>
    if s.p0 (0x6040 + c.val) 1 = 1 ∧ s.p0 (0x6040 + c.val) 3 = 2 + p.val then
      let w := s.p0 (0x6040 + c.val) 8
      bindInternal (bindInternal s { tx := false, port := p, formats := fm, ide := bit w 31, id := idOfWord w, mask := 0x1FFFFFFF })
        { tx := true, port := p, format := if bit (s.p0 (0x1200 + p.val) 2) 0 then .fd else .xl, ide := bit w 31, id := idOfWord w }
    else s) s

/-- The internal objects of a port are released. -/
def freeInternals (s : State) (p : Fin 6) : State :=
  forAll (objsOf s p (fun o => o.internal)) (fun b s => setBerth s b .free) s

/-- A port starts in its configured mode (19 R500, R515): it integrates, with its internal objects bound. -/
def startCan (s : State) (p : Fin 6) : State :=
  let s := s.modCan p (fun c => { c with
    state := if canMode s p = 0 then .off else .integrating
    saved := .errorActive, tec := 0, recv := 0, attempt := none, sleepReq := false, wakeReq := none,
    recoveryWait := false, restartAt := none, wakeSet := none })
  if canMode s p = 0 then s else bindInternals (freeInternals s p) p

/-- The mode of a port is written (19 R500, R507): OFF and LISTEN end every frame. -/
def canSetMode (s : State) (p : Fin 6) (old : Nat) : State :=
  let m := canMode s p
  if m = old then s
  else if m = 0 then
    ((freeInternals (endAllFrames s p) p).modPorter (fun x => { x with
      canOut := vmod x.canOut p (fun _ => []), canIn := vmod x.canIn p (fun _ => none) })).modCan p (fun c => { c with
      state := .off, attempt := none, sleepReq := false, wakeReq := none, restartAt := none, recoveryWait := false })
  else if old = 0 then startCan s p
  else
    let s := if m = 2 then (endAllFrames s p).modCan p (fun c => { c with attempt := none }) else s
    (bindInternals (freeInternals s p) p).modPorter (fun x => { x with canOut := vmod x.canOut p (fun _ => []) })

/-- Data bytes of one segment after its control byte, by the format of the port's replies (03 R79). -/
def segBytes : CanFormat → Nat
  | .classical => 7 | .fd => 63 | .fdBrs => 63 | .xl => 2047

/-- A packet cut into segments with their control bytes (03 R80); the length is the fuel. -/
def segGo (k : Nat) : Nat → Nat → Bool → List Byte → List (List Byte)
  | 0, _, _, _ => []
  | fuel + 1, n, first, l =>
    if l.length ≤ k then [BitVec.ofNat 8 (flag first 7 + 64 + n % 64) :: l]
    else (BitVec.ofNat 8 (flag first 7 + n % 64) :: l.take k) :: segGo k fuel (n + 1) false (l.drop k)

def segments (f : CanFormat) (l : List Byte) : List (List Byte) := segGo (segBytes f) (l.length + 1) 0 true l

/-- The internal transmit object for command replies of a port. -/
def replyObj (s : State) (p : Fin 6) : Option (Fin 512) :=
  let rp := s.p0 (0x1200 + p.val) 6
  (objsOf s p (fun o => o.internal && o.tx && o.id == idOfWord rp && o.ide == bit rp 31)).head?

/-- The next segment of a CAN port's reply is made pending in its internal object. -/
def pumpCan (s : State) (p : Fin 6) : State :=
  let s := if s.porter.canOut[p] = [] then
      match s.porter.replies.find? (fun r => r.tr == .can p) with
      | some r => s.modPorter (fun x => { x with canOut := vmod x.canOut p (fun _ => segments x.canFmt[p] r.bytes) })
      | none => s
    else s
  match s.porter.canOut[p], replyObj s p with
  | seg :: rest, some b =>
    match canObj s b with
    | some o =>
      if o.pend.isSome then s
      else modObj s b (fun o => { o with format := s.porter.canFmt[p],
                                         pend := some { data := seg, at' := s.clk, cmd := none, lastSegment := rest == [] } })
    | none => s
  | _, _ => s

/-- The frame of a transmit object as the line carries it. -/
def txFrame (o : CanObj) (data : List Byte) : CanFrame :=
  { format := o.format, ide := o.ide, rtr := o.rtr == 1, id := o.id, xlHdr := o.xlHdr, af := o.af, data := data }

/-! ### Fabric -/

/-- Own UID (00 R13). -/
def ownUid : BitVec 64 := Config.uid

/-- The entry for a destination, and its ports (20 R532). -/
def routeEntry (s : State) (d : Nat) : Nat := s.fabric.routes[finOf 64 d].toNat
def isUp (s : State) (l : Fin 4) : Bool := s.fabric.links[l].state == .up

/-- A fabric counter overflow (20 R539): causes 0 to 4. -/
def fabOvf (c : Bool) (s : State) (cause : Nat) : State := raiseIf c s 191 cause

/-- A frame is dropped: counted and raised with its cause (20 R539, R540). -/
def dropFab (s : State) (cause : Nat) : State :=
  let (c, o) := ctrInc 16 s.fabric.dropped
  fabOvf o (raise (s.modFabric (fun f => { f with dropped := c })) 190 cause) 3

def linkClass (l : FabLink) : FabClass → LinkClass
  | .safe => l.safe | .cmd => l.cmd | _ => l.bulk

def setLinkClass (l : FabLink) (c : FabClass) (x : LinkClass) : FabLink :=
  match c with
  | .safe => { l with safe := x } | .cmd => { l with cmd := x } | _ => { l with bulk := x }

/-- The characters of a frame go out on a link (20 R522). -/
def putFrame (s : State) (l : Fin 4) (f : FabFrame) : State := s.put (.fabric l f.chars)

/-- An acknowledgement word goes out (20 R524). -/
def putAck (s : State) (l : Fin 4) (c : FabClass) (lseq : BitVec 8) (credits : Nat) (negative : Bool) : State :=
  s.put (.fabricAck l (ackChar :: (ackBytes c lseq credits negative).map (fun b => b.setWidth 9)))

/-- Send the waiting frames of one class of one link as long as places and credits allow (20 R524, R525).
This module's own BULK frames wait while the module throttles its activity (18 R484). -/
def pumpGo (l : Fin 4) (c : FabClass) : Nat → State → State
  | 0, s => s
  | k + 1, s =>
    let x := linkClass s.fabric.links[l] c
    match x.waiting with
    | [] => s
    | f :: rest =>
      if isUp s l ∧ x.unacked.length < 16 ∧ (c = .safe ∨ 0 < x.credits)
          ∧ !(c == .bulk && f.src == s.fabric.addr && throttling s) then
        let f := { f with lseq := x.txSeq }
        let x := { x with
          waiting := rest, txSeq := x.txSeq + 1, credits := if c = .safe then x.credits else x.credits - 1,
          unacked := x.unacked ++ [{ frame := f, sent := 1, at' := s.clk }] }
        pumpGo l c k (putFrame (s.modLink l (fun y => setLinkClass y c x)) l f)
      else s

def pumpLink (s : State) (l : Fin 4) (c : FabClass) : State :=
  pumpGo l c (linkClass s.fabric.links[l] c).waiting.length s

/-- A SYNC frame goes out (20 R525, R526): at once, or behind those before it, of which the queue holds 8 beside the one
on the line. A character takes 3.2 ns, 16/25 of a tick (R520). -/
def sendSyncFrame (s : State) (l : Fin 4) (f : FabFrame) : State :=
  let waiting := s.fabric.links[l].syncEnds.filter (fun e => decide (25 * s.clk < e))
  if 9 ≤ waiting.length then dropFab (s.modLink l (fun y => { y with syncEnds := waiting })) 2
  else
    let start := waiting.getLast?.getD (25 * s.clk)
    putFrame (s.modLink l (fun y => { y with syncEnds := waiting ++ [start + 16 * f.chars.length] })) l f

/-- A frame goes out on a link (20 R524 to R526): SYNC through its queue of 8; SAFE through its queue of 16; CMD and BULK
wait for credits. -/
def sendLink (s : State) (l : Fin 4) (f : FabFrame) : State :=
  if !isUp s l then dropFab s 0
  else
    match f.cls with
    | .sync => sendSyncFrame s l f
    | c =>
      let x := linkClass s.fabric.links[l] c
      if c = .safe ∧ x.waiting.length ≥ 16 then dropFab s 2
      else pumpLink (s.modLink l (fun y => setLinkClass y c { x with waiting := x.waiting ++ [f] })) l c

/-- HELLO is link-local and needs neither a place nor a credit (20 R521; log 19). -/
def sendHello (s : State) (l : Fin 4) : State :=
  let k := s.fabric.links[l]
  let ik := match s.fabric.innkeeper with
    | some (u, _) => u
    | none => 0
  putFrame (s.modLink l (fun y => { y with sentHello := s.clk })) l {
    cls := .cmd, treeB := false, dup := false, hops := 0, dest := 0xFF, src := s.fabric.addr,
    msg := .hello ownUid (s.p0 0x8000 1) s.fabric.addr l.val ik k.neighbourUid }

/-- A flooded frame goes out on every UP link but one (20 R527). -/
def floodExcept (s : State) (except : Option (Fin 4)) (f : FabFrame) : State :=
  forAll four (fun l s => if isUp s l && except != some l then sendLink s l f else s) s

def localFrame (s : State) (dest : BitVec 8) (msg : FabMsg) : FabFrame :=
  { cls := .cmd, treeB := false, dup := false, hops := 0, dest := dest, src := s.fabric.addr, msg := msg }

/-- A frame on one tree towards its destination (20 R530): dropped when the entry is not valid or its port is DOWN. -/
def sendTree (s : State) (f : FabFrame) (treeB : Bool) : State :=
  let e := routeEntry s f.dest.toNat
  if bit e (if treeB then 30 else 31) then
    let l : Fin 4 := finOf 4 (if treeB then bits e 5 4 else bits e 7 6)
    sendLink s l { f with treeB := treeB }
  else dropFab s 0

/-- The next ESEQ of a flow of this module's own (20 R522). -/
def stampEseq (s : State) (f : FabFrame) : State × FabFrame :=
  let n : BitVec 16 := match s.fabric.eseqOut.find? (fun e => e.1 == f.flow.toNat) with
    | some e => e.2
    | none => 0
  (s.modFabric (fun x => { x with eseqOut := (f.flow.toNat, n + 1) :: x.eseqOut.filter (fun e => e.1 != f.flow.toNat) }),
    { f with eseq := n })

/-- A frame of this module's own (20 R530, R531). -/
def sendFab (s : State) (f : FabFrame) : State :=
  let (s, f) := stampEseq s f
  if f.dest = 63 then
    let e := routeEntry s 63
    forAll four (fun l s => if bit e l.val then sendLink s l f else s) s
  else
    let e := routeEntry s f.dest.toNat
    match f.cls with
    | .sync | .safe =>
      if bit e 31 && bit e 30 then sendTree (sendTree s { f with dup := true } false) { f with dup := true } true
      else sendTree s f (!(bit e 31))
    | _ =>
      let b := bit e 30 && (!(bit e 31) || decide (bits e 19 16 < bits e 23 20))
      sendTree s f b

/-- A link goes DOWN (20 R521): its traffic is lost, the change is flooded, and three within 10 s hold it. -/
def linkDown (s : State) (l : Fin 4) : State :=
  let k := s.fabric.links[l]
  let wasUp := k.state == .up
  let downs := if wasUp then s.clk :: (k.downs.filter (fun t => decide (s.clk < t + 10000 * 200000))) else k.downs
  let held := wasUp && decide (downs.length ≥ 3)
  let (c, o) := ctrInc 16 k.downCount
  let s := s.modLink l (fun y => { y with
    state := if held then .held else .down
    symbolLock := false, helloRun := 0, echoSeen := false, neighbourUid := 0, neighbour := 0xFF,
    heldAt := s.clk, downs := if held then [] else downs, safe := {}, cmd := {}, bulk := {}, syncEnds := [],
    downCount := if wasUp then c else k.downCount, timeParent := false, inTree := false })
  if wasUp then
    let s := s.modFabric (fun f => { f with linkDirty := true })
    let s := fabOvf o (raise s 184 (16 * l.val)) 2
    raiseIf held s 184 (2 + 16 * l.val)
  else s

/-- Encoded topology database, for the trees that an Innkeeper computes (20 R527, R530). -/
def dbWords (f : Fabric) : List Nat :=
  f.db.flatMap (fun r => r.uid.toNat :: r.generation.toNat :: r.links.flatMap (fun k => [flag k.up 0, k.neighbour.toNat]))
    ++ f.assigned.flatMap (fun a => [a.1.toNat, a.2.toNat])

/-- A link of the database counts when both ends report it UP (20 R527). -/
def edge (db : List TopoRow) (a b : BitVec 64) : Bool :=
  (db.any (fun r => r.uid == a && r.links.any (fun k => k.up && k.neighbour == b))) &&
  (db.any (fun r => r.uid == b && r.links.any (fun k => k.up && k.neighbour == a)))

/-- UIDs within reach of those found, one hop at a time. -/
def reachGo (db : List TopoRow) : Nat → List (BitVec 64) → List (BitVec 64)
  | 0, l => l
  | k + 1, l => reachGo db k (db.foldl (fun l r => if r.uid ∈ l then l else if l.any (fun u => edge db u r.uid) then l ++ [r.uid] else l) l)

/-- The modules that can be reached, this one first. -/
def reachable (s : State) : List (BitVec 64) := reachGo s.fabric.db s.fabric.db.length [ownUid]

/-! Routes (20 R530 to R532) -/

/-- The neighbour across a link of a module, when both ends report it UP (20 R527). -/
def across (db : List TopoRow) (u : BitVec 64) (l : Nat) : Option (BitVec 64) :=
  match db.find? (fun r => r.uid == u) with
  | none => none
  | some r =>
    match r.links[l]? with
    | none => none
    | some k => if k.up && edge db u k.neighbour then some k.neighbour else none

/-- The directed links (module, port) from a module to a destination, each module forwarding on its own port. -/
def followGo (db : List TopoRow) (port : BitVec 64 → Nat) (dst : BitVec 64) : Nat → BitVec 64 → Option (List (BitVec 64 × Nat))
  | 0, u => if u = dst then some [] else none
  | k + 1, u =>
    if u = dst then some []
    else
      match across db u (port u) with
      | none => none
      | some v => (followGo db port dst k v).map (fun l => (u, port u) :: l)

/-- Modules that reach a destination with their distance from it, ring by ring. -/
def distGo (db : List TopoRow) : Nat → Nat → List (BitVec 64 × Nat) → List (BitVec 64 × Nat)
  | 0, _, l => l
  | k + 1, n, l => distGo db k (n + 1)
      (l ++ (db.filter (fun r => !(l.any (fun x => x.1 == r.uid)) && l.any (fun x => edge db r.uid x.1))).map (fun r => (r.uid, n)))

def distances (db : List TopoRow) (dst : BitVec 64) : List (BitVec 64 × Nat) := distGo db db.length 1 [(dst, 0)]

/-- Every module that can reach the destination does so along these ports within the hop limit of 20 R523. -/
def spansAll (db : List TopoRow) (port : BitVec 64 → Nat) (dst : BitVec 64) : Bool :=
  (distances db dst).all (fun x => (followGo db port dst 15 x.1).isSome)

/-- The port towards a module one link nearer to the destination. -/
def nearPort (db : List TopoRow) (dst u : BitVec 64) : Nat :=
  let d := distances db dst
  let far (x : BitVec 64) : Nat := ((d.find? (fun y => y.1 == x)).map (·.2)).getD 64
  ((List.range 4).find? (fun l => (across db u l).any (fun v => far v + 1 == far u))).getD 0

/-- Ports of a tree as the Innkeeper chooses them, free where the spec leaves the choice (20 R530; log 13). -/
def freePort (f : Fabric) (treeB : Bool) (a : Nat) (u : BitVec 64) : Nat :=
  let e := (Config.routeEntry (dbWords f) u.toNat a).toNat
  if treeB then bits e 5 4 else bits e 7 6

/-- Tree A towards a destination: the free choice where it is a tree that spans the modules, else a shortest one. -/
def portA (f : Fabric) (dst : BitVec 64) (a : Nat) : BitVec 64 → Nat :=
  if spansAll f.db (freePort f false a) dst then freePort f false a else nearPort f.db dst

/-- Tree B exists: the choice is a tree that spans the modules and is another than A (20 R530). -/
def hasB (f : Fabric) (dst : BitVec 64) (a : Nat) : Bool :=
  spansAll f.db (freePort f true a) dst && (distances f.db dst).any (fun x => x.1 != dst && freePort f true a x.1 != portA f dst a x.1)

/-- Path of a module to an address along one tree. -/
def treePath (f : Fabric) (treeB : Bool) (u : BitVec 64) (a : Nat) : Option (List (BitVec 64 × Nat)) :=
  match f.assigned.find? (fun x => x.2.toNat == a) with
  | none => none
  | some v =>
    if treeB then (if hasB f v.1 a then followGo f.db (freePort f true a) v.1 15 u else none)
    else followGo f.db (portA f v.1 a) v.1 15 u

/-- Two paths share no module and no link other than their ends. -/
def disjointPaths (x y : List (BitVec 64 × Nat)) : Bool :=
  x.all (fun p => !(y.contains p)) && (x.drop 1).all (fun p => (y.drop 1).all (fun q => p.1 != q.1))

/-- Links of a module that belong to the spanning tree: tree A of the Innkeeper as a destination (20 R531). -/
def treePorts (f : Fabric) (u : BitVec 64) : Nat :=
  let port := portA f ownUid f.addr.toNat
  let up (l : Nat) : Bool := u != ownUid && port u == l && (across f.db u l).isSome
  let down (l : Nat) : Bool := (across f.db u l).any (fun v => v != ownUid && across f.db v (port v) == some u
    && (List.range l).all (fun k => across f.db u k != some v))
  (List.range 4).foldl (fun n l => n + flag (up l || down l) l) 0

/-- The entry that the Innkeeper computes for a module and an address (20 R530, R532; log 13). -/
def entryFor (f : Fabric) (u : BitVec 64) (a : Nat) : Word :=
  if a = 63 then BitVec.ofNat 32 (treePorts f u)
  else if f.assigned.any (fun x => x.2.toNat == a && x.1 == u) then BitVec.ofNat 32 (2 ^ 28)
  else
    match treePath f false u a with
    | none => 0
    | some x =>
      let y := (treePath f true u a).getD []
      let port (l : List (BitVec 64 × Nat)) : Nat := (l.head?.map (·.2)).getD 0
      BitVec.ofNat 32 (2 ^ 31 + flag (y != []) 30 + flag (y != [] && disjointPaths x y) 29
        + x.length * 2 ^ 20 + y.length * 2 ^ 16 + port x * 64 + port y * 16)

/-- The 64 entries that the Innkeeper computes for a module (20 R530 to R532). -/
def routesFor (s : State) (u : BitVec 64) : Vector Word 64 :=
  (List.range 64).foldl (fun v i => v.set! i (entryFor s.fabric u i)) (Vector.replicate 64 0)

/-- Rank of 20 R528: higher priority, and among equals the lower UID. -/
def ranks (p : Nat) (u : BitVec 64) (q : Nat) (v : BitVec 64) : Bool := decide (q < p) || (p == q && decide (u.toNat < v.toNat))

/-! ### Ethernet -/

/-- The next hop of an address (21 R544). -/
def nextHop (s : State) (e : Fin 2) (ip : BitVec 32) : BitVec 32 :=
  let p := s.ports.eth[e]
  if ip &&& p.mask = p.ip &&& p.mask then ip else p.gateway

/-- The MAC address that the ARP cache holds for the next hop of an address (21 R544). -/
def macFor (s : State) (e : Fin 2) (ip : BitVec 32) : Option (BitVec 48) :=
  (s.ports.eth[e].arp.find? (fun a => a.ip == nextHop s e ip && decide (s.clk < a.at' + 60000 * 200000))).map (·.mac)

/-- An Ethernet destination resolved in the ARP cache. -/
def resolved (s : State) (e : Fin 2) (ip : BitVec 32) : Bool := (macFor s e ip).isSome

/-- A frame leaves a port whose link is up. -/
def putEth (s : State) (e : Fin 2) (frame : List Byte) : State :=
  if s.ports.eth[e].link = 0 then s else s.put (.eth e frame)

/-- An ARP request of the port; for its own address the gratuitous one of 21 R544. -/
def putArp (s : State) (e : Fin 2) (own ip : BitVec 32) : State :=
  putEth s e (ethFrame e 0xFFFFFFFFFFFF 0x0806 (arpPacket 1 e own 0 ip))

/-- An IPv4 packet to a MAC address; its identification is free (log 66). -/
def putIp (s : State) (e : Fin 2) (mac proto : Nat) (ip : BitVec 32) (body : List Byte) : State :=
  let (id, s) := s.fresh
  putEth s e (ethFrame e mac 0x0800 (ipPacket id proto s.ports.eth[e].ip ip body))

/-- A UDP datagram to a destination, once its next hop is resolved. -/
def putUdp (s : State) (e : Fin 2) (ip : BitVec 32) (srcPort dstPort : Nat) (body : List Byte) : State :=
  match macFor s e ip with
  | none => s
  | some mac => putIp s e mac.toNat 17 ip (udpDatagram s.ports.eth[e].ip ip srcPort dstPort body)

def modEth (s : State) (e : Fin 2) (f : EthPort → EthPort) : State := s.modPorts (fun p => { p with eth := vmod p.eth e f })
def modSer (s : State) (i : Fin 2) (f : SerPort → SerPort) : State := s.modPorts (fun p => { p with ser := vmod p.ser i f })

/-- An ARP request for a next hop, unless one is out (21 R544). -/
def askArp (s : State) (e : Fin 2) (ip : BitVec 32) : State :=
  let h := nextHop s e ip
  if s.ports.eth[e].arpWait.any (fun w => w.1 == h) then s
  else putArp (modEth s e (fun p => { p with arpWait := p.arpWait ++ [(h, s.clk)] })) e s.ports.eth[e].ip h

/-! ### Replies leave the module -/

/-- A queued packet has been sent: it leaves the queue and a final one releases its tag (03 R74). -/
def sentReply (s : State) (r : Reply) : State :=
  let s := s.modPorter (fun p => { p with replies := p.replies.erase r })
  if r.final && !r.refused then releaseTag s r.tr r.tag else s

/-- Ethernet and fabric packets leave as soon as their route is known; the others wait for their port (03 R79, 21). -/
def flushOne (s : State) (r : Reply) : State :=
  match r.tr with
  | .eth e ip udp =>
    if resolved s e ip then sentReply (putUdp s e ip 40960 udp.toNat r.bytes) r else askArp s e ip
  | .fabric src => sentReply (sendFab s (localFrame s (src.setWidth 8) (.packet r.bytes))) r
  | _ => s

def flushReplies (s : State) : State :=
  let s := s.porter.replies.foldl (fun s r => flushOne s r) s
  forAll six (fun p s => pumpCan s p) s

end Sys2Proof.Machine
end

