-- ==== Sys2Proof/Machine/Settle.lean ====
section
/-! DEFINITION. What follows a command once its own effect is made: the block resets and the HOLD that its raises
requested (02 R61, R62; 17 R457, R459), and the replies that leave at once. -/
namespace Sys2Proof.Machine

/-- Every tag of a transport ends without a reply (23 R580, R581); `keep` is the command that requested the reset. -/
def endTags (s : State) (p : Transport → Bool) (keep : Option (Transport × BitVec 16)) : State :=
  s.modPorter (fun x => { x with
    cmds := x.cmds.filter (fun c => !p c.tr || keep == some (c.tr, c.tag))
    replies := x.replies.filter (fun r => !p r.tr || keep == some (r.tr, r.tag)) })

/-- The level lines of a block's sources go inactive at its reset (17 R454). -/
def dropOwned (s : State) (b : Blk) : State :=
  (List.range 256).foldl (fun s src => if live s src && ownerOf src 0 == some b then dropLine s src else s) s

/-- The block reset of one block (02 R61, R634; 23 R581): its logic starts again, its counters and parameters stay. A
TFU, Stove or gate link of an enabled machine first sends all-off frames, and the machine takes its fault stop. -/
def resetBlock (s : State) (b : Blk) (keep : Option (Transport × BitVec 16)) : State :=
  let s := dropOwned s b
  match b with
  | .stv i =>
    let pool := s.ps i 0x3001 1
    let s := forAll four (fun m s => if bit pool m.val then stopTfu s m else s) s
    s.modStove i (fun v => { v with
      runAt := none, placed := Vector.replicate 4 none, late := false, stages := Vector.replicate 64 {}, shown := Vector.replicate 64 0,
      taps := Vector.replicate 64 (0, 0), swapDue := false, softStart := Vector.replicate 4 false,
      presets := Vector.replicate 4 none, satRun := false })
  | .tfu m =>
    let s := stopTfu s (lead s m)
    -- the windows of current calibration in progress are discarded (14 R371)
    let s := s.modCalM m (fun k => { k with win := Vector.replicate 3 { at' := s.clk }, closed := Vector.replicate 3 none })
    s.modTfu m (fun t => {
      counters := t.counters, stopped := t.stopped, allOff := t.allOff, tripped := t.tripped, tripFrameDue := t.tripFrameDue })
  | .sns p => s.modPort p (fun x => { count := x.count, pos := x.pos, countErrors := x.countErrors, frameErrors := x.frameErrors })
  | .prf => forAll twelve (fun c s => s.modProf c (fun x => {
      segmentsDone := x.segmentsDone, underruns := x.underruns, refused := x.refused, faultStops := x.faultStops })) s
  | .axd => s.modAux (fun a => { errors := a.errors })
  | .glk m =>
    let s := stopTfu s (servedBy s m)
    s.modGl m (fun g => { shutdown := g.shutdown, bad := g.bad, dsats := g.dsats, gateFaults := g.gateFaults, seq := g.seq, fresh := g.fresh })
  | .can p =>
    let s := endTags s (fun t => t == .can p) keep
    let s := s.modPorter (fun x => { x with canIn := vmod x.canIn p (fun _ => none), canOut := vmod x.canOut p (fun _ => []) })
    s.modCan p (fun c => {
      state := if canMode s p = 0 then .off else .integrating,
      busOffs := c.busOffs, clashes := c.clashes, overruns := c.overruns, lateCancels := c.lateCancels })
  | .vnf l => linkDown s l
  | .vnfAll =>
    let s := endTags s (fun t => match t with | .fabric _ => true | _ => false) keep
    forAll four (fun l s => linkDown s l) s
  | .eth e =>
    let s := endTags s (fun t => match t with | .eth e' _ _ => e' == e | _ => false) keep
    modEth s e (fun p => { discards := p.discards })
  | .ser i =>
    let s := endTags s (fun t => t == .ser i) keep
    modSer s i (fun p => { drops := p.drops })
  | .hspi =>
    let s := endTags s (fun t => t == .hspi) keep
    s.modPorter (fun p => { p with regMode := false })

/-- HOLD entered by 17 R459. Direct register mode is off in HOLD (21 R547). -/
def enterHold (s : State) : State :=
  let s := disableAllAxes (faultStopAll s)
  (s.modStart (fun x => { x with startState := .hold, pwrgd := false })).modPorter (fun p => { p with regMode := false })

/-- The reactions collected by the raises of a command are carried out: HOLD, and each block reset once, unless a
module reset is pending, which discards them (17 R470, 02 R62). -/
def settleReactions (s : State) : State :=
  let req := s.flue.resetReq
  let hold := s.flue.holdReq
  let s := s.modFlue (fun f => { f with resetReq := [], holdReq := false })
  let s := if s.start.resetPending.isSome then s else req.foldl (fun s b => resetBlock s b none) s
  let s := s.modFlue (fun f => { f with resetReq := [] })
  if hold then (enterHold s).modFlue (fun f => { f with resetReq := [], holdReq := false }) else s

/-- What follows the effect of a command: its reactions, and the replies that leave. -/
def settled (s : State) : State := flushReplies (settleReactions s)

/-- The next state of a command. -/
def done (s : State) : Host.Outcome State Fault Refusal := .next (settled s)

end Sys2Proof.Machine
end

