-- ==== Sys2Proof/Machine/Sensing.lean ====
section
/-! DEFINITION. The electrical channels and the position ports: words, corrections, counts, speed and their events
(spec file 04_sensing). -/
namespace Sys2Proof.Machine

/-! ### Sigma-delta filters (04 R97, R106) -/

/-- Triangular number: the taps of a sliding sinc filter are differences of these. -/
def tri (n : Nat) : Nat := n * (n + 1) / 2

/-- Tap `t` of a sinc3 filter at OSR `r`: the ways to write t as a sum of three numbers below r. -/
def tap3 (r t : Nat) : Nat := tri (t + 1) + 3 * tri (t + 1 - 2 * r) - 3 * tri (t + 1 - r)

/-- Tap `t` of a sinc2 filter at OSR `r`. -/
def tap2 (r t : Nat) : Nat := if t < r then t + 1 else 2 * r - 1 - t

/-- Sum of taps over modulator bits, the newest in bit 0: a bit of 1 counts as +1, a bit of 0 as −1. -/
def sinc {n : Nat} (tap : Nat → Nat) (b : BitVec n) : Int :=
  (List.range n).foldl (fun a t => if b.getLsbD t then a + tap t else a - tap t) 0

/-- The fast word of the 58 bits of its window: raw × 4.096, saturated; its rounding is free (log 9). -/
def fastWord (b : BitVec 58) : Int := clampI (-32767) 32767 (neigh (512 * sinc (tap3 20) b) 125)

/-- The fine word of the 766 bits of its window: raw / 2, saturated. The raw value is even. -/
def fineWord (b : BitVec 766) : Int := clampI (-8388607) 8388607 (sinc (tap3 256) b / 2)

/-- The word of the overcurrent detector over its 15 bits, in fast-word units (04 R106). -/
def detectorWord (b : BitVec 15) : Int := 512 * sinc (tap2 8) b

/-! ### Electrical channels -/

/-- The analog die runs: VANA is up (02 R46). -/
def analogUp (s : State) : Bool := s.start.vanaUp

/-- Source of a channel: 0 absent, 1 sigma-delta, 2 analog (04 R94). -/
def chanSource (s : State) (m c : Fin 4) : Nat := s.pm m 0x2200 (c.val + 1)

/-- The analog input of a channel (04 R94): U AIN(n), V AIN(8 + n), DC current AIN(4 + n), DC voltage AIN(12 + n). -/
def ainOf (m c : Fin 4) : Fin 16 :=
  finOf 16 ((match c.val with | 0 => 0 | 1 => 8 | 2 => 4 | _ => 12) + m.val)

/-- The AIN input that a three-level machine names for its lower half, if it is one (06 R164). -/
def npAin (s : State) (m : Fin 4) : Option (Fin 16) :=
  let v := s.pm m 0x2421 1
  if (s.pm m 0x2420 1 = 1 ∨ s.pm m 0x2420 1 = 2) ∧ 16 ≤ v ∧ v < 32 then some (finOf 16 (v - 16)) else none

/-- An analog input that some machine owns: one of its channels, or the input it names for its lower half (06 R164). -/
def ainOwned (s : State) (a : Fin 16) : Bool :=
  four.any (fun m => npAin s m == some a || four.any (fun c => chanSource s m c == 2 && ainOf m c == a))

/-- The corrected word of a channel (04 R99, 14 R360): (raw − O) × G / 65,536, with the offset held in 1/256 and its
rounding free. -/
def correct (s : State) (m c : Fin 4) (w : Int) : Int :=
  let k := s.cal.machines[m]
  neigh ((w * 256 - k.offset[c]) * (k.gain[c] : Int)) 16777216

/-- Full scale and rated value of a channel (04 R100). -/
def fullScale (s : State) (m c : Fin 4) : Nat :=
  match c.val with
  | 0 => s.pm m 0x2202 1 | 1 => s.pm m 0x2202 2 | 2 => s.pm m 0x2211 0 | _ => s.pm m 0x2210 0
def ratedOf (s : State) (m c : Fin 4) : Nat :=
  match c.val with
  | 0 => s.pm m 0x2203 0 | 1 => s.pm m 0x2203 0 | _ => s.pm m 0x2212 0

/-- A corrected word in 1/1024 of rated (04 R100). -/
def perUnit (s : State) (m c : Fin 4) (w : Int) : Int := nearest (w * fullScale s m c * 1024) (32768 * ratedOf s m c)

/-- A corrected DC-link current word in 1/1024 of rated peak phase current, the unit of 14 R361. -/
def dcAgainstPeak (s : State) (m : Fin 4) (w : Int) : Int :=
  nearest (w * s.pm m 0x2211 0 * 1024) (32768 * s.pm m 0x2203 0)

/-- The machine that names an SD input for its lower half: the input belongs to it (06 R164). -/
def namedSd (s : State) (m c : Fin 4) : Option (Fin 4) :=
  four.find? (fun k => (s.pm k 0x2420 1 == 1 || s.pm k 0x2420 1 == 2) && s.pm k 0x2421 1 == 4 * m.val + c.val)

/-- The machine that an input of channel `m` belongs to. -/
def ownerOfInput (s : State) (m c : Fin 4) : Fin 4 := (namedSd s m c).getD (servedBy s m)

/-- A window comparator at a level in DAC steps: below its low or above its high limit. The limits of AIN(a) are those of
the channel whose analog alternative it is (04 R94, R106, R124). -/
def windowTrips (s : State) (a : Fin 16) (level : BitVec 10) : Bool :=
  let c : Nat := match a.val / 4 with | 0 => 0 | 1 => 2 | 2 => 1 | _ => 3
  let w := s.pm (finOf 4 (a.val % 4)) 0x2220 (c + 1)
  analogUp s && (decide (level.toNat < bits w 25 16) || decide (bits w 9 0 < level.toNat))

/-- The comparator or detector of an input trips, and the machine it belongs to (04 R106, R107): item 4 is the
neutral-point input on AIN. A sigma-delta DC-link voltage input has no detector. -/
def tripOf (s : State) (m : Fin 4) (c : Fin 5) (seen : BitVec 15) (level : BitVec 10) : Option (Fin 4) :=
  if h : c.val < 4 then
    let c' : Fin 4 := ⟨c.val, h⟩
    let n := ownerOfInput s m c'
    match chanSource s m c' with
    | 1 => if c.val < 3 ∧ (s.pm m 0x2221 (c.val + 1) : Int) ≤ (detectorWord seen).natAbs then some n else none
    | 2 => if windowTrips s (ainOf m c') level then some n else none
    | _ => none
  else match npAin s m with
    | some a => if windowTrips s a level then some m else none
    | none => none

/-- The number n of source 3.(4 + n) for a trip on an input of channel `m`: the machine that names the input for its
lower half, else the channel itself, also for a bridge-sensing channel and the second of a pair (DESIGN CHOICE, log 51). -/
def tripSource (s : State) (m : Fin 4) (c : Fin 5) : Fin 4 :=
  if h : c.val < 4 then (namedSd s m ⟨c.val, h⟩).getD m else m

/-- OVERCURRENT_TRIP (04 R106, R107): the machine-owned comparator or detector of an input of channel `m` sees the 15
modulator bits `seen` or the input level `level` in DAC steps; a machine that is not enabled only raises its source. -/
def execOvercurrentTrip (dt : Nat) (m : Fin 4) (c : Fin 5) (seen : BitVec 15) (level : BitVec 10) (s : State) :
    Host.Outcome State Fault Refusal :=
  let s := advance s dt
  done (match tripOf s m c seen level with
    | none => s
    | some n =>
      let src := 52 + (tripSource s m c).val
      let s := raise (noteSource s n src c.val) src c.val
      if s.en n then tripMachine s n else s)

/-- UNOWNED_WINDOW_TRIP (04 R108). -/
def execUnownedWindowTrip (dt : Nat) (a : Fin 16) (level : BitVec 10) (s : State) : Host.Outcome State Fault Refusal :=
  let s := advance s dt
  done (if ainOwned s a || !windowTrips s a level then s else raise s 62 a.val)

/-! ### Sampling windows (06 R176 to R179) -/

/-- A converted item of a machine: its four channels and the neutral-point input (4). -/
def isSar (s : State) (m : Fin 4) (c : Fin 5) : Bool :=
  if h : c.val < 4 then chanSource s m ⟨c.val, h⟩ == 2 else (npAin s m).isSome

/-- The converter of an item: false SAR0, true SAR1 (04 R94). -/
def sarOf (s : State) (m : Fin 4) (c : Fin 5) : Bool :=
  match c.val with
  | 0 => false | 1 => true | 2 => false | 3 => true
  | _ => match npAin s m with
    | some a => decide (8 ≤ a.val)
    | none => false

/-- Place of an item in the order of its converter: phase current, DC-link, neutral point. -/
def sarPlace (s : State) (m : Fin 4) (c : Fin 5) : Nat :=
  (([0, 1, 2, 3, 4] : List (Fin 5)).filter (fun d => decide (d < c) && isSar s m d && sarOf s m d == sarOf s m c)).length

/-- The machine owns a window (06 R176). -/
def ownsWindow (s : State) (m : Fin 4) : Bool := ([0, 1, 2, 3, 4] : List (Fin 5)).any (fun c => isSar s m c)

/-- Ticks of the driver delay; a fraction of a tick is rounded freely (05 R128). -/
def driverTicks (s : State) (m : Fin 4) : Int := neigh (s.pm m 0x2406 0) 5

/-- Window offset in ticks (06 R176). -/
def wOff (s : State) (m : Fin 4) : Int :=
  let w := s.pm m 0x2430 0
  if w = 0xFFFF then ((184 + driverTicks s m + (s.D m / 2 : Nat)) % (s.D m : Int)) / 5 * 5 else w

/-- Ticks from t_w to the end of the window, not included. -/
def windowTail (s : State) (m : Fin 4) : Int :=
  150 + 100 * (([0, 1, 2, 3, 4] : List (Fin 5)).foldl (fun a c => if isSar s m c then Nat.max a (sarPlace s m c) else a) 0 : Nat)

/-- Physical tick on the scale of the time stamp. -/
def stampOf (s : State) (t : Int) : Int := t + (s.tb.now.toNat : Int) - s.clk

/-- A physical tick lies in a window of owner `n`. -/
def inWindow (s : State) (n : Fin 4) (t : Int) : Bool :=
  let r := (stampOf s t - s.phi n - wOff s n + 150) % (s.D n : Int)
  decide (r < 150 + windowTail s n)

/-- The edges of `m` are subject to the windows of owner `n` (06 R178). -/
def subject (s : State) (m n : Fin 4) : Bool := ownsWindow s n && bit (s.pm n 0x2431 0) m.val

/-- The sample of a conversion that started at `t` on owner `n` is disturbed: an edge that could not be moved lies in
the window of its decision period (06 R179). -/
def disturbed (s : State) (n : Fin 4) (c : Fin 5) (t : Nat) : Bool :=
  let tw : Int := (t : Int) - 100 * sarPlace s n c
  four.any (fun m => subject s m n && s.tfu[m].badEdges.any (fun e => decide (tw - 150 ≤ e) && decide (e < tw + windowTail s n)))

/-- The conversion of a machine-owned item starts at this tick plus `ahead`. -/
def startsAt (s : State) (m : Fin 4) (c : Fin 5) (ahead : Int) : Bool :=
  isSar s m c && decide ((stampOf s s.clk + ahead - s.phi m - wOff s m - 100 * sarPlace s m c) % (s.D m : Int) = 0)

/-- A machine-owned conversion of converter `k` (0 SAR0, 1 SAR1) starts within the next 500 ns. -/
def ownedSoon (s : State) (k : Fin 2) : Bool :=
  four.any (fun m => ([0, 1, 2, 3, 4] : List (Fin 5)).any (fun c =>
    isSar s m c && (sarOf s m c == decide (k.val = 1))
      && decide ((s.phi m + wOff s m + 100 * sarPlace s m c - stampOf s s.clk) % (s.D m : Int) < 100)))

/-- The inputs of a converter that no machine owns, in ascending order. -/
def scanInputs (s : State) (k : Fin 2) : List (Fin 16) :=
  ((List.range 8).map (fun i => finOf 16 (8 * k.val + i))).filter (fun a => !ainOwned s a)

/-- The next input of the scan: the one above the last scanned, else the first (04 R103). -/
def nextScan (s : State) (k : Fin 2) : Option (Fin 16) :=
  let l := scanInputs s k
  match s.sar[k].last with
  | none => l.head?
  | some a => match l.find? (fun b => decide (a < b)) with
    | some b => some b
    | none => l.head?

/-- The converter is taken for one conversion of 500 ns. -/
def takeSar (s : State) (k : Fin 2) : State := { s with sar := vmod s.sar k (fun x => { x with busyUntil := s.clk + 100 }) }

/-- SAR_CONVERSION_START (04 R103, 06 R176): at its instant the conversion of a machine-owned item starts; item 4 is
the neutral-point input. Item 5 is the scan of SAR(m modulo 2): it fills a slot in which no machine-owned conversion runs
or starts. Two machine-owned conversions that meet on one converter both run (DESIGN CHOICE, log 81). -/
def execSarConversionStart (dt : Nat) (m : Fin 4) (c : Fin 6) (s : State) : Host.Outcome State Fault Refusal :=
  let s := advance s dt
  done (if !(analogUp s && s.tb.counting) then s
    else if h : c.val < 5 then
      let c' : Fin 5 := ⟨c.val, h⟩
      if !startsAt s m c' 0 then s
      else
        let s := takeSar s (if sarOf s m c' then 1 else 0)
        if h4 : c.val < 4 then s.modChan m ⟨c.val, h4⟩ (fun x => { x with converting := some s.clk })
        else s.modTfu m (fun t => { t with npConv := some s.clk })
    else
      let k : Fin 2 := finOf 2 m.val
      if s.clk < s.sar[k].busyUntil ∨ ownedSoon s k = true then s
      else match nextScan s k with
        | none => s
        | some a =>
          let s := takeSar s k
          { s with sar := vmod s.sar k (fun x => { x with last := some a, scan := some (a, s.clk) }) })

/-- A disturbed sample: 4.14 and its counter (06 R179, R182). -/
def countDisturbed (s : State) (m : Fin 4) : State :=
  let (k, o) := ctrInc 16 s.tfu[m].counters.disturbed
  let s := raise (s.modTfu m (fun t => { t with counters := { t.counters with disturbed := k } })) 78 (16 * m.val)
  raiseIf o s 78 (16 * m.val + 2)

/-- Conversions running at an end of the 16-bit range (04 R121). -/
def endRunOf (n : Nat) (w : BitVec 16) : Nat := if w = 0x7FFF ∨ w = 0x8000 then Nat.min 3 (n + 1) else 0

/-- SAR_CONVERSION_COMPLETE (04 R103, R105; 06 R179): 500 ns later the word crosses into the TFU, unless it is disturbed;
the word of a scanned input (item 5 of SAR(m modulo 2)) is the latest conversion of that input. -/
def execSarConversionComplete (dt : Nat) (m : Fin 4) (c : Fin 6) (word : BitVec 16) (s : State) :
    Host.Outcome State Fault Refusal :=
  let s := advance s dt
  done (if h : c.val < 4 then
      let c' : Fin 4 := ⟨c.val, h⟩
      match s.chans[m][c'].converting with
      | none => s
      | some t =>
        if elapsed s t 100 then
          let s := { s.modChan m c' (fun x => { x with converting := none, endRun := endRunOf x.endRun word }) with
            ain := vmod s.ain (ainOf m c') (fun _ => word.toInt) }
          if disturbed s m ⟨c.val, Nat.lt_succ_of_lt h⟩ t then countDisturbed s m
          else s.modChan m c' (fun x => { x with sar := some (word.toInt, t), disturbedRun := 0 })
        else s
    else if c.val = 4 then
      match s.tfu[m].npConv with
      | none => s
      | some t =>
        if elapsed s t 100 then
          let s := s.modTfu m (fun x => { x with npConv := none, npEnd := endRunOf x.npEnd word })
          let s := match npAin s m with
            | some a => { s with ain := vmod s.ain a (fun _ => word.toInt) }
            | none => s
          if disturbed s m 4 t then countDisturbed s m
          else s.modTfu m (fun x => { x with npSar := some (word.toInt, t), npRun := 0 })
        else s
    else
      let k : Fin 2 := finOf 2 m.val
      match s.sar[k].scan with
      | none => s
      | some (a, t) =>
        if elapsed s t 100 then
          { s with sar := vmod s.sar k (fun x => { x with scan := none }), ain := vmod s.ain a (fun _ => word.toInt) }
        else s)

/-! ### Position ports -/

/-- Settings of a port (04 R632). -/
def portPar (s : State) (p : Fin 4) (sub : Nat) : Nat := s.p0 (0x0410 + p.val) sub
def portMode (s : State) (p : Fin 4) : Nat := portPar s p 1

/-- The port of a machine, if it uses one (04 R109). -/
def portOf (s : State) (m : Fin 4) : Option (Fin 4) :=
  let v := s.pm m 0x2300 0
  if v < 4 then some (finOf 4 v) else none

/-- First machine that a port serves. -/
def firstServed (s : State) (p : Fin 4) : Option (Fin 4) := four.find? (fun m => portOf s m == some p)

/-- The last 25 ns sample instant (04 R114, R119). -/
def at25 (s : State) : Nat := s.clk - s.tb.now.toNat % 5

/-- What is newer than a tick, and the last before it: newest first. -/
def keepFrom {α : Type} (t : Nat) : List (Nat × α) → List (Nat × α)
  | [] => []
  | x :: r => if x.1 ≤ t then [x] else x :: keepFrom t r

/-- Position from a count and the counts per turn (04 R110, R114); its rounding is free. -/
def posOfCount (count : Int) (cpt : Nat) : BitVec 32 := BitVec.ofInt 32 (neigh (count * 65536) cpt)

/-- Angle moved in `dt` ticks at a speed in 1/256 rpm, in 1/65,536 turn. -/
def moved (speed : Int) (dt : Nat) : Int := neigh (speed * dt) 46875000

/-- The position at the present tick (04 R111, R116): counts stand, the other modes extrapolate. -/
def posNow (s : State) (p : Fin 4) : BitVec 32 :=
  let x := s.posPorts[p]
  match portMode s p with
  | 1 => x.pos + BitVec.ofInt 32 (moved x.loopSpeed (s.clk - x.posTick))
  | 4 => x.pos + BitVec.ofInt 32 (moved x.speed (s.clk - x.posTick))
  | _ => x.pos

/-- The position that the Stove receives: that of an SSI port applies to the instant its transfer started (04 R116). -/
def stovePos (s : State) (p : Fin 4) : BitVec 32 := if portMode s p = 4 then s.posPorts[p].pos else posNow s p
/-- The time stamp of that instant. -/
def stoveStamp (s : State) (p : Fin 4) : Stamp :=
  if portMode s p = 4 then s.tb.now - BitVec.ofNat 56 (s.clk - s.posPorts[p].posTick) else s.tb.now

/-! ### Captures of the LAT inputs (04 R119, R120) -/

/-- The position at an earlier tick on the line between the two strobe positions that bracket it. -/
def between (t : Nat) : List (Nat × BitVec 32) → Option (BitVec 32)
  | [] => none
  | [x] => if x.1 = t then some x.2 else none
  | x :: y :: r =>
    if y.1 ≤ t then (if t ≤ x.1 then some (y.2 + BitVec.ofInt 32 (neigh ((x.2 - y.2).toInt * (t - y.1 : Nat)) (Nat.max 1 (x.1 - y.1)))) else none)
    else between t (y :: r)

/-- The count of an ABZ port at an earlier tick, as a position. -/
def countAt (s : State) (p : Fin 4) (t : Nat) : BitVec 32 :=
  match s.posPorts[p].counts.find? (fun x => decide (x.1 ≤ t)) with
  | some x => posOfCount x.2 (portPar s p 7)
  | none => s.posPorts[p].pos

/-- The position that a capture at tick `t` holds, if it is known yet: a port that serves no machine has no strobe
positions, and gives its present position (log 28). -/
def captured (s : State) (p : Fin 4) (t : Nat) : Option (BitVec 32) :=
  if portMode s p = 3 then some (countAt s p t)
  else if (firstServed s p).isNone then some (posNow s p)
  else between t s.posPorts[p].strobePos

/-- A strobe of machine `m` delivers the position of its port, and completes the captures that waited for it. -/
def portStrobe (s : State) (m : Fin 4) : State :=
  match portOf s m with
  | none => s
  | some p =>
    let here := posNow s p
    let s := s.modPort p (fun x => { x with
      strobePos := keepFrom (s.clk - 1000) ((s.clk, here) :: x.strobePos.filter (fun y => y.1 != s.clk)) })
    forAll eight (fun k s => match s.lats[k].waiting with
      | none => s
      | some t => if bits (s.p0 0x0400 (k.val + 1)) 1 0 = p.val then
          s.modLat k (fun l => { l with waiting := none, pos := (captured s p t).getD here })
        else s) s

/-- A port reports the loss of its sensor (04 R121), once until it is latched anew. -/
def portLoss (s : State) (p : Fin 4) : State :=
  if s.posPorts[p].lost then s else raise (s.modPort p (fun x => { x with lost := true })) (56 + p.val) p.val

/-- A count error (04 R113 to R115, R121): 3.13, its counter, and the loss test of ABZ ports. -/
def countError (s : State) (p : Fin 4) : State :=
  let (c, o) := ctrInc 16 s.posPorts[p].countErrors
  let l := s.clk :: (s.posPorts[p].recentErrors.filter (fun t => decide (s.clk < t + msTicks 100)))
  let s := raise (s.modPort p (fun x => { x with countErrors := c, recentErrors := l })) 61 p.val
  let s := raiseIf o s 61 p.val
  if portMode s p = 3 ∧ 8 ≤ l.length then portLoss s p else s

/-- One quadrature step: positive with A leading B (log 27); none for no change, an illegal change is 2. -/
def quadStep (a b a' b' : Bool) : Int :=
  if a = a' ∧ b = b' then 0
  else if a ≠ a' ∧ b ≠ b' then 2
  else
    -- Gray order 00, 10, 11, 01
    let n (a b : Bool) : Int := if !a && !b then 0 else if a && !b then 1 else if a && b then 2 else 3
    if (n a' b' - n a b) % 4 = 1 then 1 else -1

/-- Ticks for which the levels of A, B or Z must be stable (04 R114). -/
def portFilter (s : State) (p : Fin 4) : Nat := 5 * portPar s p 8

/-- ABZ_EDGE (04 R114, R115): A and B have stood at these levels for `stable` ticks at a sample; a change that has passed
the filter is accepted. -/
def execAbzEdge (dt : Nat) (p : Fin 4) (a b : Bool) (stable : Nat) (s : State) : Host.Outcome State Fault Refusal :=
  let s := advance s dt
  done (if portMode s p ≠ 3 ∨ stable < portFilter s p then s
    else
      let x := s.posPorts[p]
      let q := quadStep x.levelA x.levelB a b
      let s := s.modPort p (fun x => { x with levelA := a, levelB := b })
      if q = 0 then s
      else if q = 2 then countError s p
      else
        let n := x.count + q
        let t := at25 s
        s.modPort p (fun x => { x with
          count := n, lastEdge := some (n, t), posTick := t, pos := posOfCount n (portPar s p 7)
          counts := keepFrom (s.clk - 200) ((t, n) :: x.counts) }))

/-- Distance of a difference of counts from the nearest whole multiple of the counts per turn. -/
def offTurn (d : Int) (cpt : Nat) : Nat := let r := (d % cpt).toNat; Nat.min r (cpt - r)

/-- The count at a Z edge differs from the last one by more than the Z tolerance from whole turns (04 R115). -/
def zBad (s : State) (p : Fin 4) (n : Int) : Bool :=
  match s.posPorts[p].zCount with
  | some z => decide (portPar s p 9 < offTurn (n - z) (portPar s p 7))
  | none => false

/-- Z_INDEX_EDGE (04 R114, R115): an edge of Z that has passed the filter. -/
def execZIndexEdge (dt : Nat) (p : Fin 4) (stable : Nat) (s : State) : Host.Outcome State Fault Refusal :=
  let s := advance s dt
  done (if portMode s p ≠ 3 ∨ stable < portFilter s p then s
    else
      let n := s.posPorts[p].count
      let bad := zBad s p n
      let s := s.modPort p (fun x => { x with zCount := some n })
      if bad then countError s p else s)

/-- Gray code to binary. -/
def grayGo : Nat → Nat → Nat
  | 0, g => g
  | k + 1, g => g ^^^ grayGo k (g / 2)

/-- The position extrapolated to an instant with the present speed (04 R116, R117). -/
def ssiExpect (s : State) (p : Fin 4) (t : Nat) : BitVec 32 :=
  let x := s.posPorts[p]
  x.pos + BitVec.ofInt 32 (moved x.speed (t - x.posTick))

/-- A frame error of an SSI port (04 R117, R121): 3.13, its counter, the extrapolated position in place of the received
one, and the loss test. -/
def frameError (s : State) (p : Fin 4) : State :=
  let (c, o) := ctrInc 16 s.posPorts[p].frameErrors
  let t := s.posPorts[p].ssiAt.getD s.clk
  let e := ssiExpect s p t
  let s := s.modPort p (fun x => { x with
    frameErrors := c, frameRun := x.frameRun + 1, ssiAt := none, pos := e, posTick := t })
  let s := raiseIf o (raise s 61 p.val) 61 p.val
  if 3 ≤ s.posPorts[p].frameRun then portLoss s p else s

/-- Position of an SSI word of `n` bits. The data counts in units of the counts per turn; data of fewer turns than the 16
of 04 R110 goes on from the expected position, the whole range of the encoder at a time (DESIGN CHOICE, log 27). -/
def ssiPos (s : State) (p : Fin 4) (n v : Nat) (expect : Option (BitVec 32)) : BitVec 32 :=
  let cpt := portPar s p 7
  match expect with
  | none => posOfCount v cpt
  | some e =>
    let range : Int := 2 ^ n
    let k := ((e.toNat * cpt : Nat) * 2 + (range - 2 * v) * 65536).fdiv (2 * 65536 * range)
    posOfCount (v + range * k) cpt

/-- SSI_TRANSFER_COMPLETE (04 R116, R117): data bits, and `bad` for a data line low at the start, a missing start bit or
the error bit. A transfer takes (bits + 2) clock periods. The first transfer of a port that has not delivered a position
since it was reset or enabled has nothing to be compared with (DESIGN CHOICE, log 27). -/
def execSsiTransferComplete (dt : Nat) (p : Fin 4) (raw : BitVec 32) (bad : Bool) (s : State) : Host.Outcome State Fault Refusal :=
  let s := advance s dt
  done (match s.posPorts[p].ssiAt with
    | none => s
    | some t =>
      let f := portPar s p 10
      let len := bits f 5 0
      if (s.clk - t) * bits f 31 16 < (len + 2) * 200000 then s
      else
        let n := lowBits len raw.toNat
        let v := if bit f 8 then grayGo 32 n else n
        let expect := if s.posPorts[p].locked then some (ssiExpect s p t) else none
        let got := ssiPos s p len v expect
        if bad = true ∨ (expect.any (fun e => decide (portPar s p 12 < (got - e).toInt.natAbs))) = true then frameError s p
        else s.modPort p (fun x => { x with ssiAt := none, frameRun := 0, locked := true, pos := got, posTick := t }))

/-! ### Speed (04 R118) -/

/-- Speed before the filter, 1/256 rpm. -/
def rawSpeed (s : State) (m p : Fin 4) : Int :=
  let x := s.posPorts[p]
  if portMode s p = 3 then
    let cpt := portPar s p 7
    match x.lastEdge with
    | none => 0
    | some (n, t) =>
      match x.prevEdge with
      | none => 0
      | some (n0, t0) =>
        if t0 < t then neigh ((n - n0) * 3072000000000) (cpt * (t - t0))
        else
          let since := s.clk - t
          if msTicks 100 < since then 0
          else
            let lim := neigh 3072000000000 (cpt * Nat.max 1 since)
            let a := if x.lastW.natAbs < lim then (x.lastW.natAbs : Int) else lim
            if x.lastW < 0 then -a else a
  else neigh ((stovePos s p - x.posAtBoundary).toInt * 46875000) (s.Ts m)

/-- SPEED_UPDATE: the filtered speed of a port at a sample boundary of the first machine it serves, or of Mp for a port
PSp that serves none; the standstill time is 100 ms and the time constant 0.5 ms, their defaults (log 28). The position
is delivered with the time stamp of the instant it applies to (04 R110). -/
def speedUpdate (s : State) (m p : Fin 4) : State :=
  let w := rawSpeed s m p
  let f := clampI (-8388352) 8388352 (Config.filter s.posPorts[p].speed w (s.Ts m) (usTicks 500))
  let here := stovePos s p
  let stamp := stoveStamp s p
  s.modPort p (fun x => { x with lastW := w, speed := f, posAtBoundary := here, boundaryStamp := stamp, prevEdge := x.lastEdge })

/-- The machine at whose boundaries a port works (log 28). -/
def portMachine (s : State) (p : Fin 4) : Fin 4 := (firstServed s p).getD p

/-- At a sample boundary the ports that this machine serves first update their speed, and an SSI port starts its
transfer (04 R116, R118). -/
def portsBoundary (s : State) (m : Fin 4) : State :=
  forAll four (fun p s =>
    if portMachine s p == m && portMode s p != 0 then
      let s := speedUpdate s m p
      if portMode s p = 4 then s.modPort p (fun x => { x with ssiAt := some s.clk }) else s
    else s) s

/-- The machine uses a SAR input or a resolver front end (02 R46). -/
def usesAnalog (s : State) (m : Fin 4) : Bool :=
  four.any (fun j => servedBy s j == m && four.any (fun c => chanSource s j c == 2))
    || ((topo s m == 1 || topo s m == 2) && decide (16 ≤ s.pm m 0x2421 1)) || (match portOf s m with
    | some p => portMode s p == 1 || portMode s p == 2
    | none => false)

end Sys2Proof.Machine
end

