-- ==== Sys2Proof/Machine/TfuVec.lean ====
section
/-! DEFINITION. Vectors, sectors, switching tables and the vector scorer of the torque-flux units
(spec files 05_torque_flux R136 to R143, 06_stages_windows R157 to R175, R181). -/
namespace Sys2Proof.Machine

/-! ### Topology -/

def threeLevel (s : State) (m : Fin 4) : Bool := topo s m == 1 || topo s m == 2
/-- The link of `m` serves an enabled machine (06 R170). -/
def linkOn (s : State) (m : Fin 4) : Bool := s.en (lead s m)

/-! ### Vectors -/

/-- Upper-switch bits of V0 to V7: U in bit 0, V in bit 1, W in bit 2 (05 R138). -/
def vBits (k : Nat) : Nat := match k with | 0 => 0 | 1 => 1 | 2 => 3 | 3 => 2 | 4 => 6 | 5 => 4 | 6 => 5 | _ => 7
/-- Number of the vector with given upper-switch bits. -/
def vIndex (b : Nat) : Nat := match b % 8 with | 0 => 0 | 1 => 1 | 2 => 3 | 3 => 2 | 4 => 5 | 5 => 6 | 6 => 4 | _ => 7

/-- Switch field of one two-level bridge: upper at 6b + 2L, lower at 6b + 2L + 1 (06 R157). -/
def bridgeField (b up : Nat) : Nat :=
  2 ^ (6 * b) * ((if bit up 0 then 1 else 2) + (if bit up 1 then 4 else 8) + (if bit up 2 then 16 else 32))

def lvl (up L : Nat) : Int := if bit up L then 1 else -1

/-- The vector of a two-level set. -/
def vec2 (k : Nat) : Vec :=
  let b := vBits k
  { lu := lvl b 0, lv := lvl b 1, lw := lvl b 2, on := BitVec.ofNat 24 (bridgeField 0 b), code := BitVec.ofNat 16 k }

/-- The vector of a paralleled stage: bridge b′ leg L upper at bit 3b′ + L of `up`; only live bridges switch and count. -/
def vecBridges (live : List Nat) (up : Nat) : Vec :=
  let f (L : Nat) : Int := live.foldl (fun a b => a + lvl (up / 2 ^ (3 * b)) L) 0
  { lu := f 0, lv := f 1, lw := f 2, den := Nat.max 1 live.length
    on := BitVec.ofNat 24 (live.foldl (fun a b => a + bridgeField b (up / 2 ^ (3 * b) % 8)) 0)
    code := BitVec.ofNat 16 (live.foldl (fun a b => a + 2 ^ (4 * b) * vIndex (up / 2 ^ (3 * b))) 0) }

/-- Leg code of a three-level leg in the VECTOR field: 3 P, 1 O or O+, 2 O−, 0 N (06 R181). -/
def legLevel (c : Nat) : Int := match c with | 3 => 1 | 0 => -1 | _ => 0

/-- Switches on of a leg code: NPC at 4L, ANPC at 6L (06 R157, R158). -/
def legField (anpc : Bool) (c : Nat) : Nat :=
  match c with
  | 3 => 3
  | 0 => 12
  | 1 => if anpc then 18 else 6
  | _ => 36

/-- The vector of a three-level stage from its three leg codes. -/
def vec3 (anpc : Bool) (lambda : Nat) (rescue : Bool) (c : Nat × Nat × Nat) : Vec :=
  let w := if anpc then 6 else 4
  { lu := legLevel c.1, lv := legLevel c.2.1, lw := legLevel c.2.2
    on := BitVec.ofNat 24 (legField anpc c.1 + 2 ^ w * legField anpc c.2.1 + 2 ^ (2 * w) * legField anpc c.2.2)
    code := BitVec.ofNat 16 (c.1 + 4 * c.2.1 + 16 * c.2.2 + 4096 * lambda + flag rescue 14) }

/-- The leg codes of a vector sent by a three-level stage; none after an all-off frame. -/
def legCodes (v : Vec) : Option (Nat × Nat × Nat) :=
  if v.off then none else some (v.code.toNat % 4, v.code.toNat / 4 % 4, v.code.toNat / 16 % 4)

/-- The code of a leg that takes a level (06 R159). The path of a first O after an all-off frame is free. -/
def takeLevel (anpc : Bool) (last : Option Nat) (l : Int) (L : Nat) : Nat :=
  if l = 1 then 3 else if l = -1 then 0
  else if !anpc then 1
  else match last with
    | some 3 => 1
    | some 0 => 2
    | some c => c
    | none => if Config.tieUp 4 L then 1 else 2

/-! ### Sectors (05 R136, R137; 06 R161) -/

def bounds6 : List Nat := [60075, 5461, 16384, 27307, 38229, 49152]
def bounds12 : List Nat := [62805, 2731, 8192, 13653, 19115, 24576, 30037, 35499, 40960, 46421, 51883, 57344]

/-- Distance from one angle forward to another, 0 to 65,535. -/
def fwd (a b : Nat) : Nat := (b + 65536 - a % 65536) % 65536

/-- Lower bound of sector `k` of a list, counted from 1 modulo its length. -/
def lowOf (l : List Nat) (k : Nat) : Nat := l.getD ((k + l.length - 1) % l.length) 0

/-- The sector that an angle falls in. -/
def sectorOf (l : List Nat) (theta : Nat) : Nat :=
  ((List.range l.length).find? (fun k => decide (fwd (lowOf l (k + 1)) theta < fwd (lowOf l (k + 1)) (lowOf l (k + 2))))).getD 0 + 1

/-- The sector in use after an evaluation (05 R137). -/
def nextSector (l : List Nat) (cur theta h : Nat) : Nat :=
  let n := sectorOf l theta
  if cur = 0 ∨ cur = n then n
  else if (cur + l.length - 2) % l.length + 1 = n ∨ cur % l.length + 1 = n then
    if cur % l.length + 1 = n then (if h ≤ fwd (lowOf l n) theta then n else cur)
    else (if h ≤ fwd theta (lowOf l cur) then n else cur)
  else n

/-! ### Switching tables -/

/-- An index of 1 to 6 modulo 6. -/
def mod6 (k : Nat) : Nat := (k + 5) % 6 + 1

/-- The active vector of 05 R138. -/
def active2 (cPsi : Bool) (cT : Int) (sec : Nat) : Nat :=
  if cPsi then (if cT = 1 then mod6 (sec + 1) else mod6 (sec + 5))
  else (if cT = 1 then mod6 (sec + 2) else mod6 (sec + 4))

/-- Index of the λ = 2 entry of 06 R163: an L entry in odd sectors, an M entry in even ones. -/
def entry2 (cPsi : Bool) (cT : Int) (sec : Nat) : Nat :=
  mod6 ((sec - 1) / 2 + (if cPsi then (if cT = 1 then 2 else 6) else (if cT = 1 then 3 else 5)))

/-- Index of the λ = 1 entry of 06 R163. -/
def entry1 (cPsi : Bool) (cT : Int) (sec : Nat) : Nat :=
  mod6 (if cPsi then (if cT = 1 then (sec - 1) / 2 + 2 else sec / 2 + 6) else (if cT = 1 then sec / 2 + 3 else (sec - 1) / 2 + 5))

abbrev Levels := Int × Int × Int

def largeV (k : Nat) : Levels :=
  match k with | 1 => (1, -1, -1) | 2 => (1, 1, -1) | 3 => (-1, 1, -1) | 4 => (-1, 1, 1) | 5 => (-1, -1, 1) | _ => (1, -1, 1)
def mediumV (k : Nat) : Levels :=
  match k with | 1 => (1, 0, -1) | 2 => (0, 1, -1) | 3 => (-1, 1, 0) | 4 => (-1, 0, 1) | 5 => (0, -1, 1) | _ => (1, -1, 0)
/-- The P-type of a small pair; the N-type lies one level lower. -/
def smallP (k : Nat) : Levels :=
  match k with | 1 => (1, 0, 0) | 2 => (1, 1, 0) | 3 => (0, 1, 0) | 4 => (0, 1, 1) | 5 => (0, 0, 1) | _ => (1, 0, 1)
def smallPair (k : Nat) : List Levels := let p := smallP k; [p, (p.1 - 1, p.2.1 - 1, p.2.2 - 1)]

/-- The permitted set of a three-level stage (06 R163, R166). -/
def permitted3 (cPsi : Bool) (cT : Int) (sec lambda : Nat) (rescue : Bool) : List Levels :=
  if cT = 0 then [(1, 1, 1), (0, 0, 0), (-1, -1, -1)]
  else
    let small := smallPair (entry1 cPsi cT sec)
    if lambda = 1 then small
    else
      (if sec % 2 = 1 then [largeV (entry2 cPsi cT sec)] else [mediumV (entry2 cPsi cT sec)]) ++ (if rescue then small else [])

/-- The permitted set of a six-phase pair: vectors of the first and the second set (06 R171). -/
def permittedPair (cPsi : Bool) (cT : Int) (sec : Nat) : List (Nat × Nat) :=
  if cT = 0 then [(0, 0), (7, 0), (0, 7), (7, 7)]
  else
    let k := entry2 cPsi cT sec
    if sec % 2 = 1 then [(k, mod6 (k + 5)), (k, k)] else [(k, k), (mod6 (k + 1), k)]

/-! ### Scorer (06 R173, R174; 05 R139) -/

def popcount (n : Nat) : Nat := (List.range 24).foldl (fun a i => a + flag (bit n i) 0) 0

/-- Switch bits that differ from the frame last sent. -/
def nSw (v last : Vec) : Nat := popcount (v.on ^^^ last.on).toNat

/-- The zero vector that needs fewer leg changes (05 R139). -/
def zeroAfter (last : Vec) : Nat := if last.off then 0 else if last.code.toNat % 8 ∈ [1, 3, 5, 0] then 0 else 7

/-- The candidate with the lowest cost; a tie goes to the lower code. -/
def cheapest {α : Type} (dflt : α) (l : List (Int × Nat × α)) : α :=
  match l with
  | [] => dflt
  | x :: xs => (xs.foldl (fun b c => if c.1 < b.1 ∨ (c.1 = b.1 ∧ c.2.1 < b.2.1) then c else b) x).2.2

/-- A level change straight between P and N. -/
def crosses (last : Option (Nat × Nat × Nat)) (c : Levels) : Bool :=
  match last with
  | none => false
  | some l =>
    let x (a : Nat) (b : Int) := (a == 3 && b == -1) || (a == 0 && b == 1)
    x l.1 c.1 || x l.2.1 c.2.1 || x l.2.2 c.2.2

/-- Each leg that would cross is put at O (06 R174). -/
def putO (last : Option (Nat × Nat × Nat)) (c : Levels) : Levels :=
  match last with
  | none => c
  | some l =>
    let x (a : Nat) (b : Int) : Int := if (a == 3 && b == -1) || (a == 0 && b == 1) then 0 else b
    (x l.1 c.1, x l.2.1 c.2.1, x l.2.2 c.2.2)

/-- Leg codes that a level triple takes after the last frame. -/
def codesOf (anpc : Bool) (last : Option (Nat × Nat × Nat)) (c : Levels) : Nat × Nat × Nat :=
  (takeLevel anpc (last.map (·.1)) c.1 0, takeLevel anpc (last.map (·.2.1)) c.2.1 1, takeLevel anpc (last.map (·.2.2)) c.2.2 2)

/-- The choice of a three-level stage, with whether a substitution was made. `cost` gives the neutral-point term. -/
def score3 (anpc : Bool) (lambda : Nat) (rescue : Bool) (last : Vec) (wSw : Nat) (cost : Levels → Int) (set : List Levels) :
    Vec × Bool :=
  let lc := legCodes last
  let mk (c : Levels) := vec3 anpc lambda rescue (codesOf anpc lc c)
  let ok := set.filter (fun c => !crosses lc c)
  match ok with
  | [] => (mk (putO lc (set.headD (0, 0, 0))), true)
  | _ => (cheapest (mk (0, 0, 0)) (ok.map (fun c => let v := mk c; (cost c + wSw * nSw v last, v.code.toNat, v))), false)

/-- The sublists of a length, in order. -/
def chooseN : Nat → List Nat → List (List Nat)
  | 0, _ => [[]]
  | _ + 1, [] => []
  | n + 1, x :: xs => (chooseN n xs).map (x :: ·) ++ chooseN (n + 1) xs

/-- The sets of bridges, at most `w`, that change towards a target in one leg with the lowest balance term, and that term
(06 R168, R173). -/
def stageLeg (live : List Nat) (up target w : Nat) (dev : Nat → Nat → Int) (L : Nat) : List (List Nat) × Int :=
  let t := bit target L
  let term (l : List Nat) : Int := l.foldl (fun a b => if t then a + dev b L else a - dev b L) 0
  let diff := live.filter (fun b => bit up (3 * b + L) != t)
  let sets := chooseN (Nat.min w diff.length) diff
  let best := sets.foldl (fun (a : Int) l => if term l < a then term l else a) (term (sets.headD []))
  (sets.filter (fun l => term l == best), best)

/-- The bridges of a list change leg `L` towards a target. -/
def changeLeg (target L up : Nat) (l : List Nat) : Nat :=
  l.foldl (fun a b => if bit target L then a + 2 ^ (3 * b + L) else a - 2 ^ (3 * b + L)) up

/-- All three legs: the balance term is the lowest for each leg separately, and a tie goes to the lower VECTOR code
(06 R173). -/
def stageAll (live : List Nat) (up target w : Nat) (dev : Nat → Nat → Int) : Nat × Int :=
  let leg := stageLeg live up target w dev
  let all := (leg 0).1.flatMap (fun a => (leg 1).1.flatMap (fun b => (leg 2).1.map (fun c =>
    changeLeg target 2 (changeLeg target 1 (changeLeg target 0 up a) b) c)))
  (cheapest up (all.map (fun u => (0, (vecBridges live u).code.toNat, u))), (leg 0).2 + (leg 1).2 + (leg 2).2)

/-! ### Minimum pulse times (05 R141 to R143; 06 R175, R180) -/

/-- Bits of the switch field that belong to one leg. -/
def legBits (s : State) (m : Fin 4) : Nat := match topo s m with | 1 => 4 | 2 => 6 | _ => 2

/-- The last changes of the legs after the frame of strobe `k` with vector `v` has followed `last` (05 R141, R143). -/
def legsAfter (w k : Nat) (last v : Vec) (l : Vector (Option Nat) 12) : Vector (Option Nat) 12 :=
  Vector.ofFn (fun i : Fin 12 =>
    if v.off then none
    else if ((v.on ^^^ last.on) >>> (w * i.val)).toNat % 2 ^ w = 0 then l[i] else some k)

/-- The vector of the last frame before the one being decided: a frame that is ready and waits for step 9 counts as sent
(01 R30; DEDUCED, log 34). -/
def sentVec (s : State) (m : Fin 4) : Vec := (s.tfu[m].ready.getLast?.map (·.vec)).getD s.tfu[m].lastVec

/-- The last changes of the legs up to that frame. -/
def sentLegs (s : State) (m : Fin 4) : Vector (Option Nat) 12 :=
  (s.tfu[m].ready.foldl (fun (a : Vec × Vector (Option Nat) 12) r => (r.vec, legsAfter (legBits s m) r.k a.1 r.vec a.2))
    (s.tfu[m].lastVec, s.tfu[m].legAt)).2

/-- Launches for which a leg stays locked after the one that carried its change (05 R141, R143; 06 R180). -/
def lockLaunches (s : State) (m : Fin 4) : Nat :=
  let d := s.D m
  let t := 20 * Nat.max (s.pm m 0x2412 1) (s.pm m 0x2412 2) + (if four.any (fun n => subject s m n) then 300 else 0)
  (t + d - 1) / d

/-- Leg `i` may not change in the frame of strobe `k`. -/
def locked (s : State) (m : Fin 4) (i : Fin 12) (k : Nat) : Bool :=
  match (sentLegs s m)[i] with
  | none => false
  | some j => decide (k < j + lockLaunches s m)

/-- Upper bits with the locked legs kept, and whether one was kept. -/
def holdBits (lock : Nat → Bool) (n last want : Nat) : Nat × Bool :=
  (List.range n).foldl (fun (a : Nat × Bool) i =>
    if bit last i != bit want i && lock i then
      (if bit last i then a.1 + 2 ^ i else a.1 - 2 ^ i, true)
    else a) (want, false)

end Sys2Proof.Machine
end

