-- ==== Sys2Proof/Machine/TfuEst.lean ====
section
/-! DEFINITION. The estimator, the comparators, the torque limits and the observer of the torque-flux units
(spec files 05_torque_flux R125 to R135, R146; 07_starting_observer R197, R202, R203; 12 R325; 18 R483). -/
namespace Sys2Proof.Machine

/-- A parameter as the torque-flux unit uses it: the value kept by the start in progress, else the active one (07 R186). -/
def startPar (s : State) (m : Fin 4) (idx sub : Nat) : Nat :=
  match s.startM[m].frozen with
  | none => s.pm m idx sub
  | some l => (plook l (pkey 1 m.val idx sub)).getD (pdfl 1 m.val idx sub)

/-- The values that a start keeps from its first decision on (07 R186). -/
def keepPars (s : State) (m : Fin 4) : List (Nat × Nat) :=
  s.porter.params.filter (fun e => keyKind e.1 == 1 && keyInst e.1 == m.val)

/-- Values of the internal 32-bit format; a result outside it is free (05 R125, log 29). -/
def fit32 (x : Int) : Int := if -2147483648 ≤ x ∧ x < 2147483648 then x else signed 32 (Config.outside 3 [x.toNat, (-x).toNat])

/-- The value in 1/1024 that comparisons and status use (05 R125). -/
def per1024 (x : Int) : Int := nearest x 1024

def psiRated (s : State) (m : Fin 4) : Nat := s.pm m 0x2401 0
def isPm (s : State) (m : Fin 4) : Bool := s.pm m 0x2400 0 == 1
def polePairs (s : State) (m : Fin 4) : Nat := s.pm m 0x2301 0

/-- The machine runs without a position port (07 R185, R202). -/
def sensorless (s : State) (m : Fin 4) : Bool := (portOf s m).isNone || s.startM[m].fallback

/-- The port gives an absolute electrical angle (07 R187). -/
def absolutePort (s : State) (m : Fin 4) : Bool :=
  match portOf s m with
  | none => false
  | some p => portMode s p == 1 || portMode s p == 4

/-- Electrical angle of a position (04 R110, 07 R187). -/
def elecAngle (s : State) (m : Fin 4) (pos : BitVec 32) : BitVec 16 :=
  BitVec.ofNat 16 (pos.toNat % 65536 * polePairs s m + (if absolutePort s m then s.pm m 0x2502 0 else 0))

/-- Flux of an inductance in µH at a current in 1/1024 of rated, in 1/1,048,576 of rated flux. -/
def inductance (s : State) (m : Fin 4) (l : Nat) (i : Int) : Int :=
  neigh (1024 * l * i * s.pm m 0x2203 0) (1000 * psiRated s m)

/-- psi_PM in 1/1,048,576 of rated flux. -/
def psiPm (s : State) (m : Fin 4) : Int := neigh (1048576 * s.pm m 0x2404 3) (psiRated s m)

/-- A vector of given magnitude and angle of 1/65,536 turn; the rounding of its components is free. -/
def polar (r : Int) (a : BitVec 16) : Int × Int :=
  let (c, d) := cosSin30 (a.toNat * 65536)
  (neigh (r * c) (2 ^ 30), neigh (r * d) (2 ^ 30))

/-! ### Currents of one strobe -/

/-- What step 3 makes of the words of a strobe: machine currents in 1/1024 of rated (05 R125, R127; 06 R167, R171). -/
structure Sensed where
  ia : Int
  ib : Int
  iu : Int
  iv : Int
  iw : Int
  /-- Harmonic current of a pair. -/
  ix : Int
  iy : Int
  /-- Phase currents U, V of every bridge of a paralleled stage. -/
  bridges : List (Int × Int)
  vdc : Int
  /-- DC-link voltage of the second set of a pair (04 R95). -/
  vdc2 : Int
  /-- DC-link current, scaled under 04 R100. -/
  idc : Int
  /-- ΔV in 1/65,536 of rated DC-link voltage (06 R164). -/
  dV : Int
  deriving DecidableEq, Repr

def clarke (iu iv : Int) : Int × Int := (iu, neigh ((iu + 2 * iv) * invSqrt3) (2 ^ 40))

/-- A vector of the second set in the machine frame, at +30°. -/
def rot30 (v : Int × Int) : Int × Int :=
  (neigh (v.1 * sqrt3 - v.2 * 2 ^ 40) (2 ^ 41), neigh (v.1 * 2 ^ 40 + v.2 * sqrt3) (2 ^ 41))

/-- Bridges that still run (12 R334). -/
def liveBridges (s : State) (m : Fin 4) : List Nat :=
  (List.range (nBridges s m)).filter (fun b => !(s.drive[m].degraded == .bridge && s.drive[m].lostBridge == b))

def setLost (s : State) (m : Fin 4) : Bool := s.drive[m].degraded == .set

/-- Corrected phase currents of the set on channel `m`. -/
def setCurrent (s : State) (m : Fin 4) (w : StrobeWords) : Int × Int :=
  (perUnit s m 0 (correct s m 0 w.iu), perUnit s m 1 (correct s m 1 w.iv))

/-- ΔV of a three-level machine. The lower-half word has the scale of the DC-link channel of the machine, and on an SD
input the correction of that channel (log 30). -/
def deltaOf (s : State) (m : Fin 4) (w : StrobeWords) (vdcWord : Int) : Int :=
  let v := s.pm m 0x2421 1
  let low := if v < 16 then correct s (finOf 4 (v / 4)) (finOf 4 (v % 4)) w.vlow else w.vlow
  neigh ((vdcWord - 2 * low) * s.pm m 0x2210 0 * 65536) (32768 * s.pm m 0x2212 0)

/-- Step 3 (05 R140): `w2` holds the words of the second channel of a pair. -/
def senseStep (s : State) (m : Fin 4) (w : StrobeWords) (w2 : Option StrobeWords) : Sensed :=
  let vd := correct s m 3 w.vdc
  let b0 := setCurrent s m w
  let rest := (w.bridges.zipIdx 1).map (fun x =>
    let j := bridgeLink s m x.2
    (nearest (correct s j 0 x.1.1 * fullScale s j 0 * 1024) (32768 * s.pm m 0x2203 0),
     nearest (correct s j 1 x.1.2 * s.pm j 0x2202 2 * 1024) (32768 * s.pm m 0x2203 0)))
  let all := (b0 :: rest).take (nBridges s m)
  let live := liveBridges s m
  let sum := live.foldl (fun (a : Int × Int) b => let x := all.getD b (0, 0); (a.1 + x.1, a.2 + x.2)) (0, 0)
  let ab := clarke sum.1 sum.2
  let base : Sensed := {
    ia := ab.1, ib := ab.2, iu := sum.1, iv := sum.2, iw := -sum.1 - sum.2, ix := 0, iy := 0, bridges := all
    vdc := perUnit s m 3 vd, vdc2 := perUnit s m 3 vd, idc := perUnit s m 2 (correct s m 2 w.idc), dV := if threeLevel s m then deltaOf s m w vd else 0 }
  match w2 with
  | none => base
  | some x =>
    let m2 := second m
    let c2 := setCurrent s m2 x
    let i1 := if setLost s m && !s.drive[m].lostSet then (0, 0) else ab
    let i2 := if setLost s m && s.drive[m].lostSet then (0, 0) else rot30 (clarke c2.1 c2.2)
    { base with
      -- the second set has its own DC-link voltage where that channel is present (04 R95)
      vdc2 := if chanSource s m2 3 = 0 then base.vdc else perUnit s m2 3 (correct s m2 3 x.vdc)
      ia := neigh (i1.1 + i2.1) 2, ib := neigh (i1.2 + i2.2) 2
      ix := neigh (i1.1 - i2.1) 2, iy := neigh (i2.2 - i1.2) 2 }

/-! ### Vectors in force (05 R128, R129) -/

/-- Ticks for which each vector was in force between two strobes. -/
def spans : List (Nat × Vec) → Nat → Nat → List (Vec × Nat)
  | [], _, _ => []
  | [(f, v)], a, b => [(v, b - Nat.max f a)]
  | (f, v) :: (g, u) :: r, a, b => (v, Nat.min b g - Nat.max f a) :: spans ((g, u) :: r) a b

/-- Voltage of a vector, alpha and beta, in 1/2^40 of V_dc / 3 over `den` (05 R127, 06 R160). -/
def voltage (v : Vec) : Int × Int := ((2 * v.lu - v.lv - v.lw) * 2 ^ 40, (v.lv - v.lw) * sqrt3)

/-- Flux that a voltage k × V_dc / 3 and the resistive drop add over `n` ticks, in 1/1,048,576 of rated flux (05 R126,
R129). -/
def fluxStep (s : State) (m : Fin 4) (n : Nat) (vdc k : Int) (kd : Nat) (i : Int) (r : Nat) : Int :=
  neigh (5120 * n * (vdc * s.pm m 0x2212 0 * 1000000 * k - 3 * r * i * s.pm m 0x2203 0 * kd)) (3 * psiRated s m * 1000000000000 * kd)

/-- Change of the flux from one strobe to the next (05 R129 step 2). -/
def fluxDelta (s : State) (m : Fin 4) (vdc vdc2 ica icb : Int) (t0 t1 : Nat) : Int × Int :=
  let r := s.pm m 0x2403 0
  let one (vdc : Int) (part : Nat) (turn : Bool) (useR : Bool) (l : List (Nat × Vec)) : Int × Int :=
    (spans l t0 t1).foldl (fun (a : Int × Int) x =>
      if x.1.off then a
      else
        let v := voltage x.1
        let v := if turn then rot30 v else v
        let kd := 2 * x.1.den * part * 2 ^ 40
        (a.1 + fluxStep s m x.2 vdc v.1 kd ica (if useR then r else 0),
         a.2 + fluxStep s m x.2 vdc v.2 kd icb (if useR then r else 0))) (0, 0)
  if isPair s m then
    if setLost s m then
      if s.drive[m].lostSet then one vdc 1 false true s.tfu[m].inForce else one vdc2 1 true true s.tfu[second m].inForce
    else
      let a := one vdc 2 false true s.tfu[m].inForce
      let b := one vdc2 2 true false s.tfu[second m].inForce
      (a.1 + b.1, a.2 + b.2)
  else one vdc 1 false true s.tfu[m].inForce

/-! ### Observer (07 R197) -/

/-- psi_c from the stored integrator (07 R197). -/
def obsPsiC (s : State) (m : Fin 4) : Int × Int :=
  let o := s.obs[m]
  let wc : Int := startPar s m 0x2505 1 * 2 ^ 47
  let w : Int := o.omega * 1000000000
  -- ratio of omega_c to omega_pll, which is clamped to twice omega_c
  let (n, d) : Int × Int := if w.natAbs < 2 * wc.natAbs then (if w < 0 then (-1, 2) else (1, 2)) else (if w < 0 then (-wc, -w) else (wc, w))
  (o.psiA + neigh (o.psiB * n) d, o.psiB - neigh (o.psiA * n) d)

/-- The rotor flux of the observer; with no magnetising inductance it is free (log 31). -/
def obsPsiR (s : State) (m : Fin 4) (ica icb : Int) : Int × Int :=
  let c := obsPsiC s m
  if isPm s m then (c.1 - inductance s m (s.pm m 0x2404 2) ica, c.2 - inductance s m (s.pm m 0x2404 2) icb)
  else
    let l := s.pm m 0x2507 3
    let x := s.pm m 0x2507 2 * (c.1 - inductance s m l ica)
    let y := s.pm m 0x2507 2 * (c.2 - inductance s m l icb)
    if s.pm m 0x2507 1 = 0 then
      (signed 48 (Config.outside 8 [x.toNat, (-x).toNat]), signed 48 (Config.outside 8 [y.toNat, (-y).toNat]))
    else (neigh x (s.pm m 0x2507 1), neigh y (s.pm m 0x2507 1))

/-- OBSERVER_UPDATE: one step of the observer over the flux change `dA`, `dB` (07 R197). The natural frequency that
follows from the loop bandwidth is free, in 1/2^48 per tick; a critically damped loop takes k_p of twice it and k_i of its
square (log 31). -/
def obsUpdate (s : State) (m : Fin 4) (dA dB ica icb : Int) : State :=
  let o := s.obs[m]
  let d := s.D m
  let leak (x : Int) : Int := neigh (x * startPar s m 0x2505 1 * d * 314159265358979) (10 ^ 23)
  let s := s.modObs m (fun o => { o with psiA := o.psiA + dA - leak o.psiA, psiB := o.psiB + dB - leak o.psiB })
  let r := obsPsiR s m ica icb
  let e := angleDiff (atan16 r.2 r.1) o.theta
  let wn : Nat := Config.outside 5 [startPar s m 0x2505 2]
  let w := o.omega + neigh (wn * wn * d * e) (2 ^ 64)
  let raw := (o.theta.toNat * 2 ^ 32 + o.frac : Nat) + (w + neigh (2 * wn * e) 65536) * d
  let tot := raw % (2 ^ 48 : Nat)
  s.modObs m (fun o => { o with
    psiR := magnitude r.1 r.2, omega := w, theta := BitVec.ofInt 16 (tot / 2 ^ 32), frac := (tot % 2 ^ 32).toNat, turns := o.turns + raw / 2 ^ 48
    errSum := o.errSum + e.natAbs, errCount := o.errCount + 1 })

/-- Observer speed before its filter, 1/256 rpm: the tracked frequency, less the slip on an induction machine (07 R199);
with no rotor flux it is free (log 31). -/
def obsRawSpeed (s : State) (m : Fin 4) : Int :=
  let o := s.obs[m]
  let p : Int := Nat.max 1 (polePairs s m)
  let w := neigh (o.omega * 3072000000000) (2 ^ 48 * p)
  if isPm s m then w
  else
    let x := s.tfu[m].torque * s.pm m 0x2402 0 * s.pm m 0x2507 4
    if o.psiR = 0 then signed 32 (Config.outside 9 [x.toNat, (-x).toNat])
    else w - neigh (x * 51200 * 2 ^ 20 * 10 ^ 14)
      (314159265358979 * p * p * o.psiR * o.psiR * psiRated s m * psiRated s m)

/-- The position a sensorless machine hands to the Stove (07 R201). -/
def obsPos (s : State) (m : Fin 4) : BitVec 32 :=
  BitVec.ofInt 32 (neigh (s.obs[m].turns * 65536 + s.obs[m].theta.toNat) (Nat.max 1 (polePairs s m)))

/-- The measured speed of a machine, 1/256 rpm: handed over by a start, of the observer, or of its port (07 R189, R195,
R201; 04 R118). -/
def measuredSpeed (s : State) (m : Fin 4) : Int :=
  match s.startM[m].handed with
  | some v => v
  | none =>
    if sensorless s m then s.obs[m].speed
    else match portOf s m with
      | some p => s.posPorts[p].speed
      | none => 0

/-- The measured position of a machine. -/
def measuredPos (s : State) (m : Fin 4) : BitVec 32 :=
  if sensorless s m then obsPos s m
  else match portOf s m with
    | some p => stovePos s p
    | none => 0

/-- |f_pll| is at least a frequency in 0.1 Hz. -/
def obsAtLeast (s : State) (m : Fin 4) (f : Nat) : Bool := decide (f * 2 ^ 47 ≤ s.obs[m].omega.natAbs * 1000000000)

/-! ### Correction flux (05 R130) -/

/-- Present flux scaled to a magnitude in 1/1024. -/
def scaledTo (psiA psiB ref : Int) : Int × Int :=
  let r := magnitude psiA psiB
  if r = 0 then (0, 0) else (neigh (psiA * ref * 1024) r, neigh (psiB * ref * 1024) r)

/-- The current-model flux of a permanent-magnet machine at an electrical angle (05 R130). -/
def currentModel (s : State) (m : Fin 4) (a : BitVec 16) (ica icb : Int) : Int × Int :=
  let (c, d) := cosSin30 (a.toNat * 65536)
  let id := neigh (ica * c + icb * d) (2 ^ 30)
  let iq := neigh (icb * c - ica * d) (2 ^ 30)
  let pd := inductance s m (s.pm m 0x2404 1) id + psiPm s m
  let pq := inductance s m (s.pm m 0x2404 2) iq
  (neigh (pd * c - pq * d) (2 ^ 30), neigh (pd * d + pq * c) (2 ^ 30))

/-- The correction flux (05 R130): a lost port gives no angle (07 R202). -/
def psiCorr (s : State) (m : Fin 4) (w : StrobeWords) (psiA psiB ica icb ref : Int) : Int × Int :=
  let st := s.startM[m].state
  if sensorless s m ∧ (st = .run ∨ st = .stopping) then obsPsiC s m
  else if isPm s m ∧ !sensorless s m ∧ !w.portLost then currentModel s m (elecAngle s m w.pos) ica icb
  else scaledTo psiA psiB ref

/-! ### References, limits and comparators -/

/-- The torque reference on its ramp to 0 (12 R330): rate in 0.1 % per ms. -/
def rampTorque (t : Int) (rate el : Nat) : Int :=
  let dec := neigh (rate * 1024 * el) 200000000
  if t < 0 then (if -t < dec then 0 else t + dec) else (if t < dec then 0 else t - dec)

/-- The torque reference in force before its clamp (07 R195, R203; 08 R217; 12 R330, R334). -/
def torqueRef (s : State) (m : Fin 4) : Int :=
  let other := plainRef s m
  match s.drive[m].stop with
  | none => other
  | some p => match p.phase with
    | .brake => p.torque
    | .torqueRamp => rampTorque p.torque (s.pm m 0x2506 4) (s.clk - p.rampAt)
    | _ => other

/-- A BRAKE_NOW stop runs on a hoisting machine (12 R325). -/
def brakeNowHoist (s : State) (m : Fin 4) : Bool :=
  hoisting s m && s.drive[m].stop.any (fun p => p.kind == .brakeNow)

/-- The regenerative and the motoring limit in 1/1024 (18 R483, 12 R325, R334, 05 R146). -/
def torqueLimits (s : State) (m : Fin 4) (v : Int) : Int × Int :=
  let d := s.drive[m]
  let k := s.thermal.k[m]
  let w : Int := s.pm m 0x2700 5
  let z : Int := s.pm m 0x2700 6
  let (tn, td) : Int × Int := if v < w then (1, 1) else if z ≤ v then (0, 1) else (z - v, z - w)
  let (sn, sd) : Nat × Nat := match d.degraded with
    | .bridge => (nBridges s m - 1, nBridges s m)
    | .set => (s.pm m 0x2705 3, 1000)
    | _ => (1, 1)
  let reg := if d.regenRefused && !brakeNowHoist s m then 0 else neigh (startPar s m 0x2110 1 * k * sn * tn) (1000 * sd * td)
  (reg, neigh (startPar s m 0x2110 2 * k * sn) (1000 * sd))

/-- The clamp of 05 R146 with the exception of 12 R325. -/
def clampTorque (dir reg mot : Int) (refused : Bool) (t : Int) : Int :=
  let lim := if dir = 0 then (if refused then mot else if reg < mot then reg else mot) else if 0 ≤ t * dir then mot else reg
  clampI (-lim) lim t

/-- An effective band (05 R135). -/
def band (s : State) (m : Fin 4) (sub : Nat) : Int := clampI 1 512 (nearest (startPar s m 0x2411 sub * s.tfu[m].g) 256)

/-- The flux comparator (05 R132), at 1/2048. -/
def fluxCmp (c : Bool) (e h : Int) : Bool := if c then !decide (2 * e ≤ -h) else decide (h ≤ 2 * e)

/-- The torque comparator (05 R133) on 2 × e_T and 2 × H_T. -/
def torqueCmp (c e2 h2 : Int) : Int :=
  if c = 0 then (if h2 ≤ e2 then 1 else if e2 ≤ -h2 then -1 else 0)
  else if c = 1 then (if e2 ≤ 0 then 0 else 1)
  else (if 0 ≤ e2 then 0 else -1)

/-- The rotation sense (05 R134): more than 0.5 Hz over 16 decisions. -/
def sense16 (d : Nat) (hist : List (BitVec 16)) (now : BitVec 16) : Int :=
  match hist[15]? with
  | none => 0
  | some old =>
    let x := angleDiff now old
    if (d : Int) * 262144 < x * 100000000 then 1 else if x * 100000000 < -((d : Int) * 262144) then -1 else 0

/-- Torque in 1/1,048,576 of rated (05 R126). -/
def torqueOf (s : State) (m : Fin 4) (psiA psiB ica icb : Int) : Int :=
  neigh (15 * polePairs s m * psiRated s m * s.pm m 0x2203 0 * (psiA * icb - psiB * ica)) (102400000 * s.pm m 0x2402 0)

/-- CEILING clears at once when the torque reference takes the sign opposite to d, or d becomes 0 (05 R149). -/
def ceilingDrop (s : State) (m : Fin 4) : State :=
  if s.tfu[m].ceiling && (decide (torqueRef s m * s.tfu[m].d < 0) || s.tfu[m].d == 0) then clearCeiling s m else s

end Sys2Proof.Machine
end

