-- ==== Sys2Proof/Machine/TfuDec.lean ====
section
/-! DEFINITION. The decision of a torque-flux unit: table and scorer, pulse locks, window shifts, frame ready, and the
start states that run inside it (spec files 05_torque_flux R140, 06_stages_windows, 07_starting_observer R186 to R206). -/
namespace Sys2Proof.Machine

/-! ### What a decision sends -/

/-- What a decision wants to send, before the pulse locks. -/
inductive Want where
  | off
  /-- Vector of the set, and of the second set of a pair. -/
  | two (k1 k2 : Nat)
  /-- Upper-switch bits of a paralleled stage. -/
  | bridges (up : Nat)
  /-- Leg codes of a three-level stage. -/
  | three (c : Nat × Nat × Nat)
  deriving DecidableEq, Repr

/-- Upper-switch bits of every bridge as last sent; an all-off frame counts as V0 (log 32). -/
def lastUp (v : Vec) : Nat :=
  if v.off then 0
  else (List.range 4).foldl (fun a b => a + 2 ^ (3 * b) * vBits (v.code.toNat / 2 ^ (4 * b) % 8)) 0

/-- Keep the locked legs of one two-level set in the frame of strobe `n`. -/
def holdSet (s : State) (m : Fin 4) (n k : Nat) : Vec × Bool :=
  let last := sentVec s m
  if last.off then (vec2 k, false)
  else
    let (u, h) := holdBits (fun i => locked s m (finOf 12 i) n) 3 (vBits (last.code.toNat % 8)) (vBits k)
    (vec2 (vIndex u), h)

/-- Keep the locked legs of a three-level stage. -/
def holdCodes (s : State) (m : Fin 4) (n : Nat) (c : Nat × Nat × Nat) : (Nat × Nat × Nat) × Bool :=
  match legCodes (sentVec s m) with
  | none => (c, false)
  | some l =>
    let f (i a b : Nat) : Nat × Bool := if a ≠ b ∧ locked s m (finOf 12 i) n = true then (a, true) else (b, false)
    let x := f 0 l.1 c.1
    let y := f 1 l.2.1 c.2.1
    let z := f 2 l.2.2 c.2.2
    ((x.1, y.1, z.1), x.2 || y.2 || z.2)

/-- Ticks from the launch of a frame to its instant of application, without shift (05 R128). -/
def applyDelay (s : State) (m : Fin 4) : Int := 64 + driverTicks s m

/-- The instant from which the vector of a frame launched at `L` is in force, its edge (05 R128; 06 R178). -/
def edgeAt (s : State) (m : Fin 4) (L : Nat) (v : Vec) (shift : Int) : Int :=
  if v.off then (L : Int) + 64 else L + applyDelay s m + shift

/-- The frame of `v` changes a switch after that of `last`. -/
def moves (last v : Vec) : Bool := if v.off then !last.off else last.off || v.on != last.on

/-- The edge of the last frame that changed a switch, up to the frames that wait for step 9 (06 R178). -/
def sentEdge (s : State) (m : Fin 4) : Option Int :=
  (s.tfu[m].ready.foldl (fun (a : Vec × Option Int) r =>
    (r.vec, if moves a.1 r.vec then some (edgeAt s m (r.strobe + 120) r.vec r.shift) else a.2)) (s.tfu[m].lastVec, s.tfu[m].lastEdge)).2

/-- Shifts in the order of their choice: by magnitude, the advance first (06 R178). -/
def shiftList : List Int :=
  0 :: ((List.range 100).flatMap (fun (k : Nat) => [-(k : Int) - 1, (k : Int) + 1]) ++ (List.range 100).map (fun (k : Nat) => (k : Int) + 101))

/-- The shift of a frame whose nominal edge is `e`; none if no shift meets 06 R178. -/
def chooseShift (s : State) (m : Fin 4) (e : Int) : Option Int :=
  let owners := four.filter (fun n => subject s m n)
  if owners.isEmpty then some 0
  else shiftList.find? (fun x =>
    owners.all (fun n => !inWindow s n (e + x)) &&
    (match sentEdge s m with
     | none => true
     | some p => decide (p + 10 ≤ e + x)))

/-- The frame of one link is made ready, unless its step 9 has passed: a late frame is discarded, with its shift
(01 R40; 06 R179, R182); `own` completes the ready flag at once. -/
def readyLink (s : State) (m : Fin 4) (strobe k : Nat) (v : Vec) (own : Bool) : State :=
  if s.tb.waiting9[m].any (fun w => w.at' == strobe) && decide (s.clk ≤ strobe + 120) then
    let e : Int := (strobe : Int) + 120 + applyDelay s m
    let pick := if !v.off && moves (sentVec s m) v then chooseShift s m e else some 0
    let sh := pick.getD 0
    let s := if pick.isNone then s.modTfu m (fun t => { t with badEdges := (e :: t.badEdges).take 8 }) else s
    let s := if sh ≠ 0 then
        let (c, o) := ctrInc 32 s.tfu[m].counters.shifted
        raiseIf o (s.modTfu m (fun t => { t with counters := { t.counters with shifted := c } })) 78 (16 * m.val + 1)
      else s
    let s := s.modTfu m (fun t => { t with ready := t.ready ++ [{ strobe := strobe, k := k, vec := v, shift := sh, brk := s.drive[m].brk }], decided := v })
    if own then s.modTb (fun b => { b with
      waiting9 := vmod b.waiting9 m (fun l => l.map (fun w => if w.at' == strobe then { w with ready := true } else w)) })
    else s
  else s.modTfu m (fun t => { t with decided := t.lastVec })

/-- Steps 7 and 8: pulse locks, HOLD, window shifts, frame ready (05 R141, R142). -/
def emit (s : State) (m : Fin 4) (w : StrobeWords) (w2 : Option StrobeWords) (want : Want) : State :=
  let off : Vec := { off := true }
  -- the number of the strobe on the second channel of a pair
  let k2 := match w2 with
    | some y => y.k
    | none => s.tb.strobes[second m]
  let (v, v2, held) : Vec × Vec × Bool := match want with
    | .off => (off, off, false)
    | .two a b =>
      let x := holdSet s m w.k a
      if isPair s m then
        let y := holdSet s (second m) k2 b
        if setLost s m then
          if s.drive[m].lostSet then (x.1, off, x.2) else (off, y.1, y.2)
        else (x.1, y.1, x.2 || y.2)
      else (x.1, off, x.2)
    | .bridges up =>
      let last := sentVec s m
      let (u, h) := if last.off then (up, false)
        else holdBits (fun i => locked s m (finOf 12 i) w.k) 12 (lastUp last) up
      (vecBridges (liveBridges s m) u, off, h)
    | .three c =>
      let (x, h) := holdCodes s m w.k c
      (vec3 (topo s m == 2) s.tfu[m].lambda s.tfu[m].rescue x, off, h)
  let s := s.modTfu m (fun t => { t with hold := held })
  let s := if held then
      let (k, o) := ctrInc 32 s.tfu[m].counters.hold
      let s := s.modTfu m (fun t => { t with counters := { t.counters with hold := k } })
      let s := s.modStartM m (fun x => { x with
        locateSt := x.locateSt.map (fun l => if l.step ≤ 2 then { l with spoilt := true } else l) })
      raiseIf o s (68 + m.val) 1
    else s
  let s := readyLink s m w.at' w.k v true
  if isPair s m then readyLink s (second m) w.at' k2 v2 false else s

/-! ### Table run (05 R137 to R139, 06 R163 to R174) -/

/-- The neutral-point term of a candidate (06 R165, R173). -/
def npCost (s : State) (m : Fin 4) (x : Sensed) (c : Levels) : Int :=
  let i := (if c.1 = 0 then x.iu else 0) + (if c.2.1 = 0 then x.iv else 0) + (if c.2.2 = 0 then x.iw else 0)
  let d := x.dV + neigh (8 * s.pm m 0x2203 0 * s.D m * startPar s m 0x2421 3 * i) (25 * startPar s m 0x2421 2 * s.pm m 0x2212 0)
  startPar s m 0x2423 1 * clampI 0 65535 d.natAbs

/-- Deviation of a bridge in a phase, times the number of bridges (06 R167). -/
def bridgeDev (x : Sensed) (live : List Nat) (b L : Nat) : Int :=
  let cur (c : Int × Int) : Int := match L with | 0 => c.1 | 1 => c.2 | _ => -c.1 - c.2
  let tot : Int := match L with | 0 => x.iu | 1 => x.iv | _ => x.iw
  live.length * cur (x.bridges.getD b (0, 0)) - tot

/-- The stagger width (06 R168), clamped while a bridge is lost (12 R334). -/
def stagger (s : State) (m : Fin 4) : Nat :=
  if s.drive[m].degraded = .bridge then Nat.min (s.pm m 0x2420 3) (nBridges s m - 1) else s.pm m 0x2420 3

/-- The frame of a paralleled stage towards a target, with its cost (06 R168, R173). -/
def stageCost (s : State) (m : Fin 4) (x : Sensed) (k : Nat) : Int × Nat :=
  let live := liveBridges s m
  let last := sentVec s m
  let (u, b) := stageAll live (lastUp last) (vBits k) (stagger s m) (bridgeDev x live)
  (startPar s m 0x2423 2 * nSw (vecBridges live u) last + startPar s m 0x2423 3 * neigh b (Nat.max 1 live.length), u)

/-- The target of a paralleled stage (06 R168, R174): with Z permitted, V0 or V7 at the lower cost, a tie to the lower
VECTOR code; a zero vector that is the target already and is not reached in every bridge stays the target. -/
def stageTarget (s : State) (m : Fin 4) (x : Sensed) : Nat :=
  let t := s.tfu[m]
  let live := liveBridges s m
  if t.cT ≠ 0 then active2 t.cPsi t.cT t.sector
  else
    let up := lastUp (sentVec s m)
    let reached := live.all (fun b => up / 2 ^ (3 * b) % 8 == vBits t.target)
    if (t.target = 0 ∨ t.target = 7) ∧ reached = false then t.target
    else
      let c (k : Nat) : Int × Nat × Nat := let y := stageCost s m x k; (y.1, (vecBridges live y.2).code.toNat, k)
      cheapest 0 [c 0, c 7]

/-- The harmonic term of a pair candidate (06 R173). -/
def pairCost (s : State) (m : Fin 4) (x : Sensed) (k : Nat × Nat) : Int :=
  let v1 := voltage (vec2 k.1)
  let v2 := rot30 (voltage (vec2 k.2))
  -- conj(v1 − v2) / 2 in 1/2^40 of V_dc / 3 over 2
  let kx := v1.1 - v2.1
  let ky := v2.2 - v1.2
  let add (c : Int) : Int := neigh (x.vdc * s.pm m 0x2212 0 * s.D m * c) (200 * startPar s m 0x2425 1 * s.pm m 0x2203 0 * 12 * 2 ^ 40)
  let e := magnitude (x.ix + add kx) (x.iy + add ky)
  startPar s m 0x2423 4 * e + startPar s m 0x2423 2 * (nSw (vec2 k.1) (sentVec s m) + nSw (vec2 k.2) (sentVec s (second m)) : Nat)

/-- The choice of the table and the scorer for a sector (05 R138, R139; 06 R163, R168, R171, R173, R174). -/
def tableWant (s : State) (m : Fin 4) (x : Sensed) : State × Want :=
  let t := s.tfu[m]
  if t.sector = 0 then (s, .off)
  else if threeLevel s m then
    let anpc := topo s m == 2
    let (v, sub) := score3 anpc t.lambda t.rescue (sentVec s m) (startPar s m 0x2423 2) (npCost s m x)
      (permitted3 t.cPsi t.cT t.sector t.lambda t.rescue)
    let s := if sub then
        let (k, o) := ctrInc 16 t.counters.substitutions
        raiseIf o (s.modTfu m (fun t => { t with counters := { t.counters with substitutions := k } })) 79 (16 * m.val + 1)
      else s
    (s, .three (v.code.toNat % 4, v.code.toNat / 4 % 4, v.code.toNat / 16 % 4))
  else if topo s m = 3 then
    let k := stageTarget s m x
    (s.modTfu m (fun t => { t with target := k }), .bridges (stageCost s m x k).2)
  else if isPair s m && !setLost s m then
    let l := (permittedPair t.cPsi t.cT t.sector).map (fun k => (pairCost s m x k, k.1 + 8 * k.2, k))
    let k := cheapest (0, 0) l
    (s, .two k.1 k.2)
  else
    let own := if isPair s m && !s.drive[m].lostSet then second m else m
    let k := if t.cT = 0 then zeroAfter (sentVec s own) else active2 t.cPsi t.cT t.sector
    (s, .two k k)

/-- Vector V_k sent on its own by a start state, or the zero vector for 0; on a three-level stage the large vector of the
same direction, or OOO, with no leg crossing (log 33). -/
def plainWant (s : State) (m : Fin 4) (k : Nat) : Want :=
  let last := sentVec s m
  if threeLevel s m then
    let lc := legCodes last
    let c := putO lc (if k = 0 then (0, 0, 0) else largeV k)
    .three (codesOf (topo s m == 2) lc c)
  else if topo s m = 3 then
    .bridges (stageAll (liveBridges s m) (lastUp last) (vBits (if k = 0 then zeroAfter last else k)) (stagger s m) (fun _ _ => 0)).1
  else
    .two (if k = 0 then zeroAfter last else k) (if k = 0 then zeroAfter (sentVec s (second m)) else k)

/-! ### Start states (07) -/

/-- The start of `m` fails (07 R190, R193, R195, R200): source 5.n, the enable ends and the machine is disabled. -/
def startFails (s : State) (m : Fin 4) (cause : Nat) : State :=
  let s := raise (noteSource s m (80 + m.val) cause) (80 + m.val) cause
  let s := failStart s m (some (80 + m.val, cause))
  reachStopped s m false

/-- RUN is entered (07 R185): the start ends. -/
def enterRun (s : State) (m : Fin 4) : State :=
  (setRun s m .run).modStartM m (fun x => { x with
    frozen := none, reachedRun := true, catchSt := none, locateSt := none, tableAt := none })

/-- OPEN or RUN at the end of a start state (07 R186). -/
def enterOpenOrRun (s : State) (m : Fin 4) : State :=
  if sensorless s m && !obsAtLeast s m (startPar s m 0x2505 3) then
    (setRun s m .openLoop).modStartM m (fun x => { x with openAt := s.clk, catchSt := none, locateSt := none, tableAt := none })
  else enterRun s m

/-- The position count of a port without absolute angle is aligned to an electrical angle (07 R187). -/
def alignPort (s : State) (m : Fin 4) (a : BitVec 16) : State :=
  match portOf s m with
  | none => s
  | some p =>
    let x := s.posPorts[p]
    let turns := x.pos.toNat / 65536
    let ang := (neigh a.toNat (Nat.max 1 (polePairs s m))).toNat
    let pos := BitVec.ofNat 32 (turns * 65536 + ang)
    let cpt : Nat := if portMode s p = 2 then portPar s p 7 / 4 else portPar s p 7
    let n : Int := neigh ((turns * 65536 + ang) * cpt) 65536
    let shift := n - x.count
    s.modPort p (fun x => { x with
      pos := pos, posTick := s.clk, posAtBoundary := x.posAtBoundary + (pos - x.pos), count := n, angle := x.angle + 4096 * shift, counts := [], strobePos := []
      zCount := x.zCount.map (· + shift)
      lastEdge := x.lastEdge.map (fun e => (e.1 + shift, e.2))
      prevEdge := x.prevEdge.map (fun e => (e.1 + shift, e.2)) })

/-- psi = psi_PM at an angle, and the observer set to the same angle and to a speed (07 R196). -/
def setPmFlux (s : State) (m : Fin 4) (a : BitVec 16) (omega : Int) : State :=
  let p := polar (psiPm s m) a
  let v := (fit32 p.1, fit32 p.2)
  (s.modTfu m (fun t => { t with psiA := v.1, psiB := v.2, theta := a })).modObs m (fun o => { o with
    psiA := v.1, psiB := v.2, theta := a, frac := 0, omega := omega })

/-- Launches that make up a time in ticks, rounded up. -/
def launchesOf (d ticks : Nat) : Nat := (ticks + d - 1) / d

/-- A start of LOCATE (07 R191). -/
def beginLocate (s : State) (m : Fin 4) (pos : BitVec 32) (attempt : Nat) : State :=
  (setRun s m .locate).modStartM m (fun x => { x with
    catchSt := none, locateSt := some { attempt := attempt, pos0 := pos } })

/-- A fresh CATCH attempt: the first pulse begins with the next frame. -/
def beginCatch (s : State) (m : Fin 4) (enabledAt : Nat) : State :=
  (setRun s m .catch').modStartM m (fun x => { x with
    catchSt := some { phase := 0, startedAt := s.clk, pulseAt := s.clk, enabledAt := enabledAt } })

/-- The evaluation of two catch pulses (07 R189, R190); `at'` is the strobe tick. -/
def catchEval (s : State) (m : Fin 4) (c : CatchState) (i2 : Int × Int) (t2 at' : Nat) (pos : BitVec 32) : State :=
  let still : Int := startPar s m 0x2503 4
  let a1 := decide (magnitude c.i1.1 c.i1.2 < still)
  let a2 := decide (magnitude i2.1 i2.2 < still)
  let again := s.modStartM m (fun x => { x with catchSt := some { c with phase := 4, startedAt := at' } })
  if a1 && a2 then beginLocate s m pos 1
  else if a1 || a2 then again
  else
    let dt : Nat := (t2 - c.t1) / 2
    let d := angleDiff (atan16 i2.2 i2.1) (atan16 c.i1.2 c.i1.1)
    if startPar s m 0x2503 5 * 65536 * dt < d.natAbs * 10 * 200000000 then again
    else
      let sg : Int := if 0 < d then 1 else if d < 0 then -1 else 0
      let ang := atan16 i2.2 i2.1 + BitVec.ofInt 16 (16384 * sg + neigh (d * (2 * at' - t2 : Int)) (2 * Nat.max 1 dt))
      let s := setPmFlux s m ang (neigh (d * 2 ^ 32) (Nat.max 1 dt))
      let s := alignPort s m ang
      let s := s.modStartM m (fun x => { x with handed := some (neigh (d * 46875000) (Nat.max 1 dt * Nat.max 1 (polePairs s m))) })
      enterOpenOrRun s m

/-- CATCH at one decision (07 R188): pulse times t_1, t_2 are kept doubled. -/
def catchStep (s : State) (m : Fin 4) (w : StrobeWords) (x : Sensed) (c : CatchState) : State × Want :=
  let d := s.D m
  let nz := launchesOf d (usTicks (startPar s m 0x2503 1))
  let put (c : CatchState) (s : State) := s.modStartM m (fun x => { x with catchSt := some c })
  let limit := decide ((startPar s m 0x2503 2 : Int) ≤ magnitude x.ia x.ib)
  let ended (at' : Nat) : Bool := limit || decide (nz * d ≤ w.at' - at')
  -- twice the middle of the interval in force: launches at the pulse's start and at its end
  let mid (at' : Nat) : Nat := at' + w.at' + 240 + 2 * (applyDelay s m).toNat
  match c.phase with
  | 0 => (put { c with phase := 1, startedAt := w.at', pulseAt := w.at' } s, plainV0)
  | 1 =>
    if ended c.startedAt then (put { c with phase := 2, i1 := (x.ia, x.ib), t1 := mid c.startedAt } s, .off)
    else (s, plainV0)
  | 2 =>
    if usTicks (startPar s m 0x2503 3) ≤ w.at' - c.pulseAt then (put { c with phase := 3, startedAt := w.at' } s, plainV0)
    else (s, .off)
  | 3 =>
    if ended c.startedAt then (catchEval s m c (x.ia, x.ib) (mid c.startedAt) w.at' w.pos, .off) else (s, plainV0)
  | _ => (s, .off)
where
  /-- V0 on every set and bridge. -/
  plainV0 : Want :=
    if threeLevel s m then .three (0, 0, 0) else if topo s m = 3 then .bridges 0 else .two 0 0

/-- Current along V_k, for k 1 to 6 (07 R191). -/
def along (x : Sensed) (k : Nat) : Int :=
  match k with | 1 => x.iu | 2 => -x.iw | 3 => x.iv | 4 => -x.iu | 5 => x.iw | _ => -x.iv

/-- The vector nearest to an angle; between two at the same distance the choice is free (07 R193, log 33). -/
def nearestV (a : BitVec 16) : Nat :=
  let n := 6 * a.toNat + 32768
  (if n % 65536 = 0 ∧ Config.tieUp 6 a.toNat = false then n / 65536 - 1 else n / 65536) % 6 + 1

/-- A failed attempt (07 R193, R194): the next attempt, or the end of the start. -/
def locateFails (s : State) (m : Fin 4) (l : LocateState) (pos : BitVec 32) (cause : Nat) : State :=
  let (k, o) := ctrInc 16 s.tfu[m].counters.locateFailures
  let s := raiseIf o (s.modTfu m (fun t => { t with counters := { t.counters with locateFailures := k } })) (80 + m.val) 7
  if l.attempt < startPar s m 0x2501 8 then beginLocate s m pos (l.attempt + 1) else startFails s m cause

/-- The angle found stands (07 R192, R196). -/
def locateDone (s : State) (m : Fin 4) (a : BitVec 16) : State :=
  enterOpenOrRun (alignPort (setPmFlux s m a 0) m a) m

/-- The evaluation after the six test pulses (07 R192): the amplitudes times 1,024 over 3 × I0. -/
def locateEval (s : State) (m : Fin 4) (l : LocateState) (pos : BitVec 32) : State :=
  let i (k : Nat) : Int := l.readings.getD (k - 1) 0
  let tot := i 1 + i 2 + i 3 + i 4 + i 5 + i 6
  let a1r := 2 * i 1 + i 2 - i 3 - 2 * i 4 - i 5 + i 6
  let a1i := i 2 + i 3 - i 5 - i 6
  let a2r := 2 * i 1 - i 2 - i 3 + 2 * i 4 - i 5 - i 6
  let a2i := i 2 - i 3 + i 5 - i 6
  let ratio (a b : Int) : Nat :=
    if 0 < tot then (neigh (isqrt ((a * a + 3 * b * b).toNat * 1048576)) tot).toNat else Config.outside 7 [a.natAbs, b.natAbs]
  let r1 := ratio a1r a1i
  let r2 := ratio a2r a2i
  let arg1 := atan16 (a1i * sqrt3) (a1r * 2 ^ 40)
  let arg2 := atan32 (a2i * sqrt3) (a2r * 2 ^ 40)
  let pMin := startPar s m 0x2501 5
  let s := s.modStartM m (fun x => { x with
    locateResult := BitVec.ofNat 32 (Nat.min 1023 r2 * 65536 + Nat.min 1023 r1) })
  let conf (a : BitVec 16) : State :=
    if r1 < startPar s m 0x2501 6 then
      s.modStartM m (fun x => { x with locateSt := some { l with pulse := 7, step := 1, launches := 0, found := a } })
    else locateDone s m a
  if startPar s m 0x2501 4 ≤ r2 then
    if r1 < pMin then locateFails s m l pos 0
    else
      let ax := BitVec.ofInt 16 (neigh arg2 131072)
      conf (if (angleDiff ax arg1).natAbs ≤ (angleDiff (ax + 32768) arg1).natAbs then ax else ax + 32768)
  else if pMin ≤ r1 then conf arg1
  else locateFails s m l pos 0

/-- A pulse of LOCATE has ended its rest (07 R191 to R193). -/
def locateNext (s : State) (m : Fin 4) (l : LocateState) (pos : BitVec 32) : State :=
  let put (l : LocateState) := s.modStartM m (fun x => { x with locateSt := some l })
  if l.spoilt ∧ !l.disturbed then
    -- the first disturbed pulse of the attempt is discarded and repeated
    put { l with step := 1, launches := 0, spoilt := false, disturbed := true,
                 readings := if l.pulse = 0 then l.readings else l.readings.dropLast }
  else if l.pulse < 6 then put { l with pulse := l.pulse + 1, step := 1, launches := 0 }
  else if l.pulse = 6 then locateEval s m l pos
  else if l.pulse = 7 then put { l with pulse := 8, step := 1, launches := 0 }
  else
    let d := l.readings.getD 6 0 - l.readings.getD 7 0
    let dMin : Int := startPar s m 0x2501 7
    if dMin ≤ d then locateDone s m l.found
    else if dMin ≤ -d then locateDone s m (l.found + 32768)
    else locateFails s m l pos 0

/-- The vector of the pulse in progress. -/
def pulseV (l : LocateState) : Nat :=
  if l.pulse = 0 then 1 else if l.pulse ≤ 6 then l.pulse else if l.pulse = 7 then nearestV l.found else nearestV (l.found + 32768)

/-- The first frame of a pulse that begins with this decision. -/
def firstOfPulse (s : State) (m : Fin 4) : State × Want :=
  match s.startM[m].locateSt with
  | none => (s, .off)
  | some l =>
    if l.step = 1 ∧ l.launches = 0 ∧ s.startM[m].state = .locate then
      (s.modStartM m (fun y => { y with locateSt := some { l with launches := 1 } }), plainWant s m (pulseV l))
    else (s, .off)

/-- LOCATE at one decision (07 R191, R194). -/
def locateStep (s : State) (m : Fin 4) (w : StrobeWords) (x : Sensed) (l : LocateState) : State × Want :=
  let put (l : LocateState) (s : State) := s.modStartM m (fun y => { y with locateSt := some l })
  if l.spoilt && l.disturbed then (locateFails s m l w.pos 1, .off)
  else if (portOf s m).isSome ∧ 256 < (w.pos - l.pos0).toInt.natAbs * polePairs s m then (locateFails s m l w.pos 2, .off)
  else
    let d := s.D m
    let v := pulseV l
    let n := if l.pulse ≥ 7 then 2 * l.tp else l.tp
    let opp := mod6 (v + 3)
    match l.step with
    | 1 =>
      if l.pulse = 0 then
        if 0 < l.launches ∧ (startPar s m 0x2501 1 : Int) ≤ along x 1 then
          (put { l with tp := l.launches, step := 2, launches := 1 } s, plainWant s m 4)
        else if usTicks (startPar s m 0x2501 2) ≤ l.launches * d then (locateFails s m l w.pos 3, .off)
        else (put { l with launches := l.launches + 1 } s, plainWant s m 1)
      else if n ≤ l.launches then
        (put { l with readings := l.readings ++ [along x v], step := 2, launches := 1 } s, plainWant s m opp)
      else (put { l with launches := l.launches + 1 } s, plainWant s m v)
    | 2 =>
      if n ≤ l.launches then (put { l with step := 3, launches := 1 } s, plainWant s m 0)
      else (put { l with launches := l.launches + 1 } s, plainWant s m opp)
    | 3 =>
      if magnitude x.ia x.ib < (startPar s m 0x2503 4 : Int) ∨ 2 * n ≤ l.launches then
        (put { l with step := 4, launches := 0, restAt := w.at' } s, .off)
      else (put { l with launches := l.launches + 1 } s, plainWant s m 0)
    | _ =>
      if usTicks (startPar s m 0x2501 3) ≤ w.at' - l.restAt then
        firstOfPulse (locateNext s m l w.pos) m
      else (s, .off)

end Sys2Proof.Machine
end

