-- ==== Sys2Proof/Machine/StopSeq.lean ====
section
/-! DEFINITION. The stop sequences (12_braking_degraded R328 to R332, R635) and the lost-rotor reaction (07 R205, R206). -/
namespace Sys2Proof.Machine

/-- BRAKE of a stop: SBC is requested and the torque reference held (12 R330). -/
def enterBrake (s : State) (m : Fin 4) (p : Stop) : State :=
  let t := torqueRef s m
  let s := setRun (requestSbc s m) m .stopping
  s.modDrive m (fun d => { d with heldTorque := t, inRender := false, stop := some { p with phase := .brake, brakeAt := some s.clk, torque := t } })

/-- A stop of a kind starts at its commit point (12 R330); render ends with it (12 R336). -/
def startStop (s : State) (m : Fin 4) (kind : StopKind) (fault quick : Bool) : State :=
  let v := (measuredSpeed s m).natAbs
  let p : Stop := { phase := .speed, kind := kind, fault := fault, quick := quick, startedAt := s.clk, speed0 := v }
  match kind with
  | .coast => reachStopped (if fault then chanFaultStop s m else s) m quick
  | .brakeNow => enterBrake (chanFaultStop s m) m p
  | _ => (setRun (chanFaultStop s m) m .stopping).modDrive m (fun d => { d with stop := some p, inRender := false })

/-- A stop or disable that ends a start in progress: the machine sends all-off frames and enters STOPPED (07 R206). -/
def endStart (s : State) (m : Fin 4) (quick : Bool) : State := reachStopped s m quick

/-- The lost-rotor reaction of the duty kind (07 R205, 12 R328); the machine is disabled at STOPPED (12 R635). -/
def lostRotor (s : State) (m : Fin 4) (cause : Nat) : State :=
  let s := raise (noteSource s m (88 + m.val) cause) (88 + m.val) cause
  startStop s m (if hoisting s m then .brakeNow else .coast) true false

/-- The enable in progress is ended by the requests taken (23 R586). -/
def abortEnable (s : State) (m : Fin 4) (l : List StopReq) : State :=
  match s.drive[m].enabling with
  | none => s
  | some e =>
    if l.any (fun r => r.fault && !r.quick) then failStart s m e.firstSource
    else if l.any (fun r => !r.fault) then endEnable s m stABORTED [1]
    else if l.any (fun r => r.quick) then endEnable s m stABORTED [2]
    else s

/-- The stop requests of a machine are taken (12 R332; 23 R584): at a commit point, or at the next decision in a start. -/
def takeStops (s : State) (m : Fin 4) : State :=
  let l := s.drive[m].reqs
  if l.isEmpty then s
  else
    let s := s.modDrive m (fun d => { d with reqs := [] })
    let s := l.foldl (fun s r => replyAt s r.cmd stOK []) s
    if !s.en m then s
    else
      let fault := l.any (fun r => r.fault)
      let quick := l.all (fun r => r.quick)
      let kind := (l.findSome? (fun r => r.kind)).getD (stopKind s m fault)
      let s := abortEnable s m l
      match s.drive[m].stop with
      | some p =>
        let p := { p with quick := p.quick && quick }
        let s := s.modDrive m (fun d => { d with stop := some p })
        if fault && (p.phase == .speed || p.phase == .zero) then
          if kind = .brakeNow ∨ kind = .coast then startStop s m kind true p.quick
          else s.modDrive m (fun d => { d with stop := some { p with fault := true } })
        else s
      | none =>
        match s.startM[m].state with
        | .stopped => if quick then s else disableMachine s m
        | .banked => lostRotor s m 1
        | .catch' => endStart s m quick
        | .locate => endStart s m quick
        | .magnetise => endStart s m quick
        | .openLoop =>
          if s.startM[m].reachedRun then startStop s m kind fault quick else endStart s m quick
        | _ => startStop s m kind fault quick

end Sys2Proof.Machine
end

