-- ==== Sys2Proof/Machine/TfuFam.lean ====
section
/-! DEFINITION. TFU_DECISION, the timers of the start states, and what a TFU and its observer do at a sample boundary
(spec files 05_torque_flux, 06_stages_windows, 07_starting_observer). -/
namespace Sys2Proof.Machine

/-! ### Parts of a decision -/

/-- CHANNEL_CLIP (04 R102): the fourth decision running at or beyond the limit raises 3.12 and counts once. -/
def clipOne (m : Fin 4) (raw : Int) (c : Fin 4) (s : State) : State :=
  if chanSource s m c ≠ 1 then s
  else if raw.natAbs < s.pm m 0x2204 (c.val + 1) then s.modChan m c (fun x => { x with clipRun := 0 })
  else
    let n := s.chans[m][c].clipRun
    let s := s.modChan m c (fun x => { x with clipRun := Nat.min 4 (n + 1) })
    if n = 3 then
      let (k, o) := ctrInc 16 s.chans[m][c].clips
      let s := raise (s.modChan m c (fun x => { x with clips := k })) 60 (4 * m.val + c.val)
      raiseIf o s 60 (4 * m.val + c.val)
    else s

def clipCheck (s : State) (m : Fin 4) (w : StrobeWords) : State :=
  let s := clipOne m w.vdc 3 (clipOne m w.idc 2 (clipOne m w.iv 1 (clipOne m w.iu 0 s)))
  -- the phase-current channels of bridges 1 to 3 of a paralleled stage (06 R167)
  (w.bridges.zipIdx 1).foldl (fun s x => let j := bridgeLink s m x.2; clipOne j x.1.2 1 (clipOne j x.1.1 0 s)) s

/-- A degraded mode is entered (12 R334): its counter, and 10.(8 + n) where the table gives a cause. -/
def enterDegraded (s : State) (m : Fin 4) (g : Degraded) (cause : Option Nat) : State :=
  let (k, o) := ctrInc 16 s.drive[m].degradedEntries
  let s := s.modDrive m (fun d =>
    let d := { d with degradedEntries := k }
    match g with
    | .hold => { d with inHold := true }
    | .render => { d with inRender := true }
    | _ => { d with degraded := g })
  let s := match cause with
    | some c => raise s (168 + m.val) c
    | none => s
  journalMachine (raiseIf o s (168 + m.val) 6) m 4

/-- The configured fault stop taken at this decision, ahead of the requests that wait for the commit point (07 R202). -/
def faultStopNow (s : State) (m : Fin 4) : State :=
  let l := s.drive[m].reqs
  (takeStops (s.modDrive m (fun d => { d with reqs := [{ fault := true, quick := false }] })) m).modDrive m (fun d => { d with reqs := l })

/-- POSITION_FALLBACK (07 R202): the port of the machine reports its loss. A machine with speed-based functions takes none
of it (15 R400): one that an SP port serves (log 58). -/
def fallbackCheck (s : State) (m : Fin 4) (w : StrobeWords) : State :=
  let x := s.startM[m]
  if !w.portLost ∨ x.portHandled ∨ x.fallback ∨ (portOf s m).isNone ∨ x.state = .stopped
      ∨ s.p0 0x6030 1 = m.val ∨ s.p0 0x6031 1 = m.val then s
  else
    let s := s.modStartM m (fun x => { x with portHandled := true })
    let src := 92 + m.val
    if s.pm m 0x2500 3 = 1 then
      if s.obs[m].locked ∧ s.startM[m].state = .run then
        let (k, o) := ctrInc 8 s.tfu[m].counters.fallbacks
        let s := s.modTfu m (fun t => { t with counters := { t.counters with fallbacks := k } })
        let s := raiseIf o (raise (s.modStartM m (fun x => { x with fallback := true })) src 0) src 2
        enterDegraded s m .sensor none
      else faultStopNow (raise (noteSource s m src 1) src 1) m
    else faultStopNow (raise (noteSource s m src 3) src 3) m

/-- BANKED_ENTRY (07 R203). -/
def bankedCheck (s : State) (m : Fin 4) : State :=
  if s.obs[m].lostNow ∧ s.startM[m].state = .run then
    let (k, o) := ctrInc 16 s.tfu[m].counters.lockLosses
    let t := s.tfu[m]
    let s := s.modTfu m (fun t => { t with counters := { t.counters with lockLosses := k } })
    let held := torqueRef s m
    let s := (setRun s m .banked).modStartM m (fun x => { x with bankedAt := s.clk, heldTorque := held })
    -- the flux reference in force is held, with its clamp (05 R146)
    let s := s.modDrive m (fun d => { d with psiRef := clampI (s.pm m 0x2414 1) (s.pm m 0x2414 2) d.psiRef })
    let l := if isPm s m then s.pm m 0x2404 2 else s.pm m 0x2507 3
    let a := atan16 (t.psiB - inductance s m l t.icB) (t.psiA - inductance s m l t.icA)
    let s := s.modObs m (fun o => { o with
      lostNow := false, locked := false, reacqRun := 0, psiA := t.psiA, psiB := t.psiB, theta := a, frac := 0
      omega := neigh (t.dTheta * 2 ^ 32) (Nat.max 1 (s.Ts m)) })
    raiseIf o (raise s (84 + m.val) 0) (84 + m.val) 1
  else s.modObs m (fun o => { o with lostNow := false })

/-- The machine channels whose inputs serve `m`: its own, the second of a pair and those of its bridges. -/
def servingChannels (s : State) (m : Fin 4) : List (Fin 4) := four.filter (fun j => j == m || servedBy s j == m)

/-- DISTURBED_SAMPLE (06 R179): eight decisions without an undisturbed word of one channel stop the TFU. -/
def starvedCheck (s : State) (m : Fin 4) : State :=
  let js := servingChannels s m
  let s := forAll js (fun j s => forAll four (fun c s =>
    if chanSource s j c = 2 then s.modChan j c (fun x => { x with disturbedRun := x.disturbedRun + 1 }) else s) s) s
  let s := if (npAin s m).isSome then s.modTfu m (fun t => { t with npRun := t.npRun + 1 }) else s
  if js.any (fun j => four.any (fun c => chanSource s j c == 2 && decide (8 ≤ s.chans[j][c].disturbedRun)))
      || ((npAin s m).isSome && decide (8 ≤ s.tfu[m].npRun))
  then stopTfu s m else s

/-- The flux reference in force in 1/1024; none in the DC phase of MAGNETISE (05 R146; 07 R195). -/
def fluxRef (s : State) (m : Fin 4) (at' : Nat) : Option Int :=
  let r := s.drive[m].psiRef
  match s.startM[m].state with
  | .magnetise => match s.startM[m].tableAt with
    | none => none
    | some t =>
      let span := msTicks (startPar s m 0x2504 2)
      let el := Nat.min (at' - t) span
      some (s.startM[m].psi0 + neigh ((r - s.startM[m].psi0) * el) span)
  | .run => some (clampI (s.pm m 0x2414 1) (s.pm m 0x2414 2) r)
  | _ => some r

/-- The estimate of one decision (05 R129): the new flux and torque, and what the observer integrates. -/
def estimate (s : State) (m : Fin 4) (w : StrobeWords) (x : Sensed) : State × Int × Int :=
  let t := s.tfu[m]
  let d := s.D m
  let ext (i p : Int) : Int := if t.lastDecision.isNone then i else i + neigh (clampI (-64) 64 (i - p) * w.age) d
  let ica := ext x.ia t.iA
  let icb := ext x.ib t.iB
  let (dA, dB) := match t.lastDecision with
    | none => (0, 0)
    | some t0 => fluxDelta s m x.vdc x.vdc2 ica icb t0 w.at'
  let pA := fit32 (t.psiA + dA)
  let pB := fit32 (t.psiB + dB)
  let (qA, qB) := match fluxRef s m w.at' with
    | none => (pA, pB)
    | some r =>
      let c := psiCorr s m w pA pB ica icb r
      let tau := msTicks (startPar s m 0x2405 0)
      (fit32 (pA - neigh ((pA - c.1) * d) tau), fit32 (pB - neigh ((pB - c.2) * d) tau))
  let trq := fit32 (torqueOf s m qA qB ica icb)
  (s.modTfu m (fun t => { t with
    psiA := qA, psiB := qB, torque := trq, theta := atan16 qB qA, iA := x.ia, iB := x.ib, icA := ica, icB := icb, vdc := x.vdc, idc := x.idc, loopSpeed := w.loopSpeed }), dA, dB)

/-- Vectors that can still count, once a decision has used an interval. -/
def pruneGo (at' : Nat) : List (Nat × Vec) → List (Nat × Vec)
  | a :: b :: r => if b.1 ≤ at' then pruneGo at' (b :: r) else a :: b :: r
  | l => l

/-- The interval to this strobe has been used. -/
def usedTo (s : State) (m : Fin 4) (at' : Nat) : State :=
  let f (t : Tfu) : Tfu := { t with lastDecision := some at', inForce := pruneGo at' t.inForce }
  let s := s.modTfu m f
  if isPair s m then s.modTfu (second m) f else s

/-- |psi| in 1/1024. -/
def psiAbs (s : State) (m : Fin 4) : Int := per1024 (magnitude s.tfu[m].psiA s.tfu[m].psiB)

/-- ESTIMATE_OUT_OF_BOUNDS (05 R131): at the third decision running. -/
def boundsCheck (s : State) (m : Fin 4) : State :=
  let bad := decide (2048 < psiAbs s m) || decide (4096 < (per1024 s.tfu[m].torque).natAbs)
  let s := s.modTfu m (fun t => { t with boundsRun := if bad then t.boundsRun + 1 else 0 })
  if 3 ≤ s.tfu[m].boundsRun then stopTfu (raise (noteSource s m (72 + m.val) 0) (72 + m.val) 0) m else s

/-- NEUTRAL_POINT_RESCUE (06 R166). -/
def rescueCheck (s : State) (m : Fin 4) (x : Sensed) : State :=
  if !threeLevel s m then s
  else
    let a := x.dV.natAbs
    let t := s.tfu[m]
    let force := 64 * startPar s m 0x2421 4
    let release := 64 * startPar s m 0x2421 5
    let s := s.modTfu m (fun t => { t with
      deltaV := x.dV, npTripRun := if 64 * startPar s m 0x2421 6 ≤ a then t.npTripRun + 1 else 0 })
    let s := if !t.rescue && decide (force ≤ a) then
        let (k, o) := ctrInc 16 t.counters.rescue
        raiseIf o (s.modTfu m (fun t => { t with rescue := true, counters := { t.counters with rescue := k } })) 76 (16 * m.val + 1)
      else if t.rescue && decide (a ≤ release) then s.modTfu m (fun t => { t with rescue := false }) else s
    if 3 ≤ s.tfu[m].npTripRun then stopTfu (raise (noteSource s m 76 0) 76 (16 * m.val)) m else s

/-- A bridge of a paralleled stage is lost (12 R334): ride-through once, otherwise the fault stop. -/
def loseBridge (s : State) (m : Fin 4) (b : Nat) : State :=
  if s.pm m 0x2705 1 = 1 ∧ s.drive[m].degraded ≠ .bridge ∧ topo s m = 3 then
    enterDegraded (s.modDrive m (fun d => { d with lostBridge := b })) m .bridge (some (16 * b))
  else faultStop s m none

/-- A set of a six-phase pair is lost (12 R334). -/
def loseSet (s : State) (m : Fin 4) (set : Bool) : State :=
  if s.pm m 0x2705 2 = 1 ∧ s.drive[m].degraded ≠ .set ∧ isPair s m then
    enterDegraded (s.modDrive m (fun d => { d with lostSet := set })) m .set (some 1)
  else faultStop s m none

/-- Imbalance of the bridges (06 R169, 12 R334): 100 decisions running. Without ride-through the machine runs on. -/
def imbalanceCheck (s : State) (m : Fin 4) (x : Sensed) : State :=
  if topo s m ≠ 3 then s
  else
    let live := liveBridges s m
    let lim := startPar s m 0x2424 5 * live.length
    forAll four (fun b s =>
      if b.val ∈ live ∧ ([0, 1, 2].any (fun L => decide (lim < (bridgeDev x live b.val L).natAbs))) = true then
        let n := s.tfu[m].imbalanceRun[b]
        let s := s.modTfu m (fun t => { t with imbalanceRun := vmod t.imbalanceRun b (fun _ => Nat.min 100 (n + 1)) })
        if n = 99 then
          let s := raise s 77 (64 * b.val + 16 * m.val)
          if s.pm m 0x2705 1 = 1 then loseBridge s m b.val else s
        else s
      else s.modTfu m (fun t => { t with imbalanceRun := vmod t.imbalanceRun b (fun _ => 0) })) s

/-- Harmonic current of a pair (06 R172, 12 R334): 100 decisions running. The set that is then lost is not stated: free. -/
def harmonicCheck (s : State) (m : Fin 4) (x : Sensed) : State :=
  if !isPair s m then s
  else
    let s := s.modTfu m (fun t => { t with ixA := x.ix, ixB := x.iy })
    if !setLost s m && decide ((startPar s m 0x2425 2 : Int) < magnitude x.ix x.iy) then
      let n := s.tfu[m].harmonicRun
      let s := s.modTfu m (fun t => { t with harmonicRun := Nat.min 100 (n + 1) })
      if n = 99 then
        let s := raise s 79 (16 * m.val)
        if s.pm m 0x2705 2 = 1 then
          let (b, s) := s.freshBool
          loseSet s m b
        else s
      else s
    else s.modTfu m (fun t => { t with harmonicRun := 0 })

/-- The rotation sense over the last 16 decisions (05 R134): every decision since enable counts. -/
def senseTurn (s : State) (m : Fin 4) : State :=
  s.modTfu m (fun t => { t with d := sense16 (s.D m) t.thetas t.theta, thetas := (t.theta :: t.thetas).take 16 })

/-- The comparators and the sector (05 R132, R133, R136, R137). -/
def compare (s : State) (m : Fin 4) (ref : Int) : State :=
  let t := s.tfu[m]
  let d := t.d
  let p := psiAbs s m
  let hPsi := band s m 2
  let hT := band s m 1
  let (reg, mot) := torqueLimits s m t.vdc
  let tRef := clampTorque d reg mot s.drive[m].regenRefused (torqueRef s m)
  let two := !threeLevel s m && (!isPair s m || setLost s m)
  let l := if two then bounds6 else bounds12
  let th := if setLost s m && !s.drive[m].lostSet then (t.theta - 5461).toNat else t.theta.toNat
  s.modTfu m (fun t => { t with
    cPsi := fluxCmp t.cPsi (ref - p) hPsi
    cT := torqueCmp t.cT (2 * (tRef - per1024 t.torque) + d * hT) (2 * hT)
    sector := if p < 64 then t.sector else nextSector l t.sector th (startPar s m 0x2411 3) })

/-- The observer runs: on a sensorless machine in MAGNETISE and the table states, and in RUN where fall-back is enabled
(07 R197, R202). -/
def observerOn (s : State) (m : Fin 4) : Bool :=
  let st := s.startM[m].state
  (sensorless s m && (st == .openLoop || st == .run || st == .banked || st == .stopping || st == .magnetise))
    || (!sensorless s m && s.pm m 0x2500 3 == 1 && st == .run)

/-- What every decision tests on its sensed words: the neutral point, the bridges and the harmonic current
(06 R166, R169, R172). -/
def stageChecks (s : State) (m : Fin 4) (x : Sensed) : State := imbalanceCheck (harmonicCheck (rescueCheck s m x) m x) m x

/-- The observer takes the flux change of the decision, where it runs. -/
def observe (s : State) (m : Fin 4) (dA dB : Int) : State :=
  if observerOn s m then obsUpdate s m dA dB s.tfu[m].icA s.tfu[m].icB else s

/-- MAGNETISE ends when its ramp is complete and |e_psi| is at most H_psi (07 R195). -/
def magnetiseEnd (s : State) (m : Fin 4) (at' : Nat) (ref : Int) : State :=
  match s.startM[m].tableAt with
  | some t =>
    if s.startM[m].state = .magnetise ∧ msTicks (startPar s m 0x2504 2) ≤ at' - t
        ∧ (ref - psiAbs s m).natAbs ≤ (band s m 2).natAbs then enterOpenOrRun s m else s
  | none => s

/-- The table states of one decision, from the estimate to the frame. -/
def tableDecision (s : State) (m : Fin 4) (w : StrobeWords) (w2 : Option StrobeWords) (x : Sensed) : State :=
  let (s, dA, dB) := estimate s m w x
  let s := senseTurn (usedTo s m w.at') m
  let s := boundsCheck s m
  if !s.en m ∨ s.tfu[m].stopped then s
  else
    -- the DC phase of MAGNETISE ends at |psi| of 64 (07 R195)
    let s := if s.startM[m].state = .magnetise ∧ s.startM[m].tableAt = none ∧ 64 ≤ psiAbs s m then
        s.modStartM m (fun y => { y with tableAt := some w.at', psi0 := psiAbs s m })
      else s
    match fluxRef s m w.at' with
    | none =>
      let mag : Int := startPar s m 0x2504 1
      let on := if x.ia < mag - 32 then true else if mag + 32 < x.ia then false else s.tfu[m].dcOn
      let s := s.modTfu m (fun t => { t with dcOn := on })
      observe (emit s m w w2 (plainWant s m (if on then 1 else 0))) m dA dB
    | some ref =>
      let (s, want) := tableWant (ceilingDrop (compare s m ref) m) m x
      magnetiseEnd (observe (emit s m w w2 want) m dA dB) m w.at' ref

/-- A decision that runs no table: the words and the interval are used, the flux stands still. -/
def idleDecision (s : State) (m : Fin 4) (w : StrobeWords) (x : Sensed) : State :=
  senseTurn (usedTo (s.modTfu m (fun t => { t with
    iA := x.ia, iB := x.ib, icA := x.ia, icB := x.ib, vdc := x.vdc, idc := x.idc, loopSpeed := w.loopSpeed })) m w.at') m

/-- The vectors of the start state of a machine (05 R140; 07 R185). -/
def stateDecision (s : State) (m : Fin 4) (w : StrobeWords) (w2 : Option StrobeWords) (x : Sensed) : State :=
  let idle (s : State) (want : Want) : State := emit (idleDecision s m w x) m w w2 want
  match s.startM[m].state with
  | .stopped => idle s .off
  | .catch' => match s.startM[m].catchSt with
    | none => idle s .off
    | some c => let y := catchStep s m w x c; idle y.1 y.2
  | .locate => match s.startM[m].locateSt with
    | none => idle s .off
    | some l => let y := locateStep s m w x l; idle y.1 y.2
  | _ => tableDecision s m w w2 x

/-- A fault stop of kind COAST or BRAKE_NOW waits beside a stop that has not reached BRAKE: it starts at once, at the next
decision (12 R332; log 51). -/
def faultKindNow (s : State) (m : Fin 4) : Bool :=
  s.drive[m].stop.any (fun p => p.phase == .speed || p.phase == .zero)
    && s.drive[m].reqs.any (fun r => r.fault && (let k := r.kind.getD (stopKind s m true); k == .coast || k == .brakeNow))

/-- The requests that a decision takes at once: those of a start that has not reached RUN, and of BANKED (07 R206), and
a fault kind that does not wait (12 R332). -/
def stopsAtOnce (s : State) (m : Fin 4) : Bool :=
  faultKindNow s m ||
  (starting s m && !(s.startM[m].state == .openLoop && s.startM[m].reachedRun)) || s.startM[m].state == .banked

/-- One decision of a machine on the words of its strobe (05 R140; 07 R185, R186). -/
def decision (s : State) (m : Fin 4) (w : StrobeWords) (w2 : Option StrobeWords) : State :=
  let s := clipCheck s m w
  let s := match w2 with
    | some y => clipCheck s (second m) y
    | none => s
  let s := starvedCheck s m
  let s := bankedCheck (fallbackCheck s m w) m
  let s := if stopsAtOnce s m then takeStops s m else s
  if !s.en m ∨ s.tfu[m].stopped then s
  else
    let x := senseStep s m w w2
    let s := if s.startM[m].frozen.isNone && starting s m && !s.startM[m].reachedRun then
        s.modStartM m (fun y => { y with frozen := some (keepPars s m) })
      else s
    let s := stageChecks s m x
    if !s.en m ∨ s.tfu[m].stopped then s
    else
      -- RUN begins with the angle of an absolute port (07 R196)
      let s := if s.startM[m].state = .run ∧ s.startM[m].fluxDue = true then
          (setPmFlux s m (elecAngle s m w.pos) 0).modStartM m (fun y => { y with fluxDue := false })
        else s
      stateDecision s m w w2 x

/-- TFU_DECISION (05 R140, 01 R28, R30, R40): the oldest words in the input latch are decided, also while the frame of the
decision before waits for step 9. On the second channel of a pair it is that channel's frame-ready flag (log 34). -/
def execTfuDecision (dt : Nat) (m : Fin 4) (s : State) : Host.Outcome State Fault Refusal :=
  let s := advance s dt
  done (if s.isSecond m then
      s.modTb (fun b => { b with
        waiting9 := vmod b.waiting9 m (fun l => l.map (fun w =>
          if s.tfu[m].ready.any (fun r => w.at' == r.strobe && decide (s.clk ≤ r.strobe + 120)) then { w with ready := true } else w)) })
    else
      match s.tfu[m].inputs with
      | [] => s
      | w :: rest =>
        if !s.en m ∨ s.tfu[m].stopped = true ∨ s.clk < w.at' then s
        else if isPair s m then
          match s.tfu[second m].inputs.find? (fun y => y.at' == w.at') with
          | none =>
            if setLost s m then decision (s.modTfu m (fun t => { t with inputs := rest })) m w none else s
          | some y =>
            let s := s.modTfu (second m) (fun t => { t with inputs := t.inputs.filter (fun z => decide (w.at' < z.at')) })
            decision (s.modTfu m (fun t => { t with inputs := rest })) m w (some y)
        else decision (s.modTfu m (fun t => { t with inputs := rest })) m w none)

/-! ### Timers of the start states -/

/-- CATCH_REPEAT (07 R189, R190). -/
def execCatchRepeat (dt : Nat) (m : Fin 4) (s : State) : Host.Outcome State Fault Refusal :=
  let s := advance s dt
  done (match s.startM[m].catchSt with
    | none => s
    | some c =>
      if c.phase = 4 ∧ s.startM[m].state = .catch' ∧ elapsed s c.startedAt (msTicks 100) = true then beginCatch s m c.enabledAt else s)

/-- CATCH_TIMEOUT (07 R190). -/
def execCatchTimeout (dt : Nat) (m : Fin 4) (s : State) : Host.Outcome State Fault Refusal :=
  let s := advance s dt
  done (match s.startM[m].catchSt with
    | none => s
    | some c =>
      if s.startM[m].state = .catch' ∧ elapsed s c.enabledAt (msTicks (100 * startPar s m 0x2503 6)) = true then startFails s m 4 else s)

/-- MAGNETISE_TIMEOUT (07 R195). -/
def execMagnetiseTimeout (dt : Nat) (m : Fin 4) (s : State) : Host.Outcome State Fault Refusal :=
  let s := advance s dt
  done (if s.startM[m].state = .magnetise ∧ elapsed s s.startM[m].magnetiseAt (msTicks (4 * startPar s m 0x2504 2)) = true
    then startFails s m 5 else s)

/-- OPEN_TIMEOUT (07 R200). -/
def execOpenTimeout (dt : Nat) (m : Fin 4) (s : State) : Host.Outcome State Fault Refusal :=
  let s := advance s dt
  done (if s.startM[m].state = .openLoop ∧ elapsed s s.startM[m].openAt (msTicks (startPar s m 0x2505 10)) = true then
      (if s.startM[m].reachedRun then lostRotor s m 2 else startFails s m 6)
    else s)

/-- BANK_HOLD_EXPIRY (07 R205). -/
def execBankHoldExpiry (dt : Nat) (m : Fin 4) (s : State) : Host.Outcome State Fault Refusal :=
  let s := advance s dt
  done (if s.startM[m].state = .banked ∧ s.startM[m].reacquiring = false ∧ elapsed s s.startM[m].bankedAt (msTicks (s.pm m 0x2506 1)) = true
    then lostRotor s m 0 else s)

/-! ### What a TFU does at a sample boundary -/

/-- BAND_SCALE_UPDATE (05 R145, R147). A new g takes effect at the next commit point. -/
def bandScale (s : State) (m : Fin 4) : State :=
  let s := s.modTfu m (fun t => { t with g := t.gNext.getD t.g, gNext := none, windowPos := t.windowPos + 1 })
  let t := s.tfu[m]
  let w := startPar s m 0x2413 2
  if !s.en m then s
  else if t.windowPos < w then s
  else
    let s := s.modTfu m (fun t => { t with windowPos := 0, onCount := 0, windowSpoilt := false })
    -- both sets of a pair count
    let ons := t.onCount + (if isPair s m then s.tfu[second m].onCount else 0)
    let s := if isPair s m then s.modTfu (second m) (fun t => { t with onCount := 0 }) else s
    let kf := startPar s m 0x2413 3
    if t.windowSpoilt ∨ kf = 0 then s
    else
      let sw : Nat := match topo s m with | 1 => 12 | 2 => 18 | 3 => 6 * nBridges s m | 4 => 12 | _ => 6
      -- f_meas over f_target = n / den, with T_s in ticks of 5 ns
      let n : Int := ons * 200000000
      let den : Int := sw * w * s.Ts m * startPar s m 0x2413 1
      -- r = 1 + k_f × (n / den − 1), as num / (256 × den)
      let num : Int := 256 * den + kf * (n - den)
      let num := clampI (128 * den) (512 * den) num
      let lo : Int := startPar s m 0x2413 4
      let hi : Int := startPar s m 0x2413 5
      let raw := nearest (t.g * num) (256 * den)
      let out := decide (raw < lo) || decide (hi < raw)
      let s := s.modTfu m (fun t => { t with gNext := some (clampI lo hi raw).toNat, regLimit := out })
      if out && !t.regLimit then
        let (k, o) := ctrInc 16 t.counters.regLimit
        let s := raise (s.modTfu m (fun t => { t with counters := { t.counters with regLimit := k } })) (68 + m.val) 0
        raiseIf o s (68 + m.val) 0
      else s

/-- Mean DC-link voltage of the last period in 1/1024 of rated, as sum and count of scaled words (05 R148). -/
def vMean (s : State) (m : Fin 4) : Int × Nat := s.tfu[m].vdcMean

/-- The angle moved by the flux and the mean voltage of the last period (05 R148). The strobe of the boundary is the first
of the new period (01 R24). θ and |psi| at the boundary are those of the last decision completed before it
(DESIGN CHOICE, log 82). -/
def periodEnd (s : State) (m : Fin 4) : State :=
  s.modTfu m (fun t => { t with
    dTheta := angleDiff t.theta t.thetaAtBoundary, thetaAtBoundary := t.theta
    vdcMean := (t.vdcSum - t.vdcLast, t.vdcCount - 1), vdcSum := t.vdcLast, vdcCount := 1 })

/-- |omega_psi| × |psi| over V_dc mean, as a fraction (numerator, denominator), with 2π rounded to fifteen digits. -/
def voltageUse (s : State) (m : Fin 4) : Int × Int :=
  let t := s.tfu[m]
  -- |omega| = 2π |dθ| / 65,536 / (T_s × 5 ns) rad/s; |psi| in Wb = psiAbs / 1024 × psiRated × 1e-4
  let num : Int := 2 * 314159265358979 * t.dTheta.natAbs * 200000000 * psiAbs s m * psiRated s m
  let den : Int := 10 ^ 14 * 65536 * s.Ts m * 1024 * 10000
  -- over the mean voltage: words × full scale in 0.1 V / 32,768
  (num * t.vdcMean.2 * 32768 * 10, den * t.vdcMean.1 * s.pm m 0x2210 0)

/-- CEILING_SET (05 R148, R149). -/
def ceilingCheck (s : State) (m : Fin 4) : State :=
  let t := s.tfu[m]
  let (n, d) := voltageUse s m
  -- with no voltage no headroom is formed; the torque reference can still clear CEILING
  if d ≤ 0 then ceilingDrop s m
  else
    -- h = 1 − n / (d × k_v / 1024), compared in 1/1024
    let kv : Int := startPar s m 0x2415 1
    let den := d * kv
    let h := 1024 * den - 1024 * 1024 * n
    let hSet : Int := startPar s m 0x2415 2
    let hClr : Int := startPar s m 0x2415 4
    let tr := torqueRef s m
    let same := decide (0 < tr * t.d)
    let low := decide (h ≤ hSet * den) && same
    let high := decide ((hSet + hClr) * den ≤ h)
    let s := s.modTfu m (fun t => { t with
      ceilRun := if low then t.ceilRun + 1 else 0, ceilClearRun := if high then t.ceilClearRun + 1 else 0 })
    if !t.ceiling && decide (startPar s m 0x2415 3 ≤ s.tfu[m].ceilRun) then
      let (k, o) := ctrInc 16 t.counters.ceiling
      let s := s.modTfu m (fun t => { t with ceiling := true, ceilClearRun := 0, counters := { t.counters with ceiling := k } })
      let s := raiseIf o (raise s (64 + m.val) 0) (64 + m.val) 0
      journalMachine s m 2
    else if t.ceiling && decide (startPar s m 0x2415 5 ≤ s.tfu[m].ceilClearRun) then clearCeiling s m
    else ceilingDrop s m

/-- VOLTAGE_LEVEL_CHANGE (06 R162). -/
def voltageLevel (s : State) (m : Fin 4) : State :=
  let t := s.tfu[m]
  let (n, d) := voltageUse s m
  if !threeLevel s m ∨ d ≤ 0 then s
  else if t.lambda = 1 ∧ (startPar s m 0x2422 1 : Int) * d ≤ 1024 * 3 * n then s.modTfu m (fun t => { t with lambda := 2 })
  else if t.lambda = 2 ∧ 1024 * 3 * n ≤ (startPar s m 0x2422 2 : Int) * d then s.modTfu m (fun t => { t with lambda := 1 })
  else s

/-- MAGNETISE hands omega_psi over once the flux has been built for 16 samples (07 R195). -/
def magnetiseBoundary (s : State) (m : Fin 4) : State :=
  if s.startM[m].state = .magnetise then
    let n := if 256 ≤ psiAbs s m then s.startM[m].fluxRun + 1 else 0
    let s := s.modStartM m (fun x => { x with fluxRun := n })
    if n = 16 then s.modStartM m (fun x => { x with
      handed := some (neigh (s.tfu[m].dTheta * 46875000) (s.Ts m * Nat.max 1 (polePairs s m))) })
    else s
  else s

/-- The lock metric Q (07 R198); psi_ref is the flux reference in force. -/
def lockMetric (s : State) (m : Fin 4) : Nat :=
  let o := s.obs[m]
  let expR : Int := if isPm s m then psiPm s m
    else neigh ((fluxRef s m s.clk).getD s.drive[m].psiRef * 1024 * s.pm m 0x2507 1) (Nat.max 1 (s.pm m 0x2507 2))
  let ma := neigh (1024 * o.errSum) (Nat.max 1 o.errCount * startPar s m 0x2505 5)
  let dev := neigh (1024 * (o.psiR - expR).natAbs) (Nat.max 1 expR.natAbs)
  let mf := neigh (1024 * dev) (startPar s m 0x2505 6)
  Nat.min 2047 (Nat.max ma.toNat mf.toNat)

/-- H1 seals a preset with a held torque for the next commit point of the machine's Stove (07 R204, log 42). -/
def sealPreset (s : State) (m : Fin 4) (held : Int) : State :=
  forAll four (fun i s => if bit (s.ps i 0x3001 1) m.val then
    s.modStove i (fun v => { v with presetSealed := vmod v.presetSealed m (fun _ => some held) }) else s) s

/-- OBSERVER_LOCK_METRIC (07 R198 to R200, R204). -/
def observerBoundary (s : State) (m : Fin 4) : State :=
  if !observerOn s m then s
  else
    let q := lockMetric s m
    let f := startPar s m 0x2505 3
    let fast := obsAtLeast s m f
    let good := decide (q ≤ startPar s m 0x2505 7)
    let sp := clampI (-8388352) 8388352 (Config.filter s.obs[m].speed (obsRawSpeed s m) (s.Ts m) (usTicks 500))
    let s := s.modObs m (fun o => { o with
      q := q, errSum := 0, errCount := 0, speed := sp
      lockRun := if good && fast then o.lockRun + 1 else 0
      lostRun := if decide (1024 < q) && fast then o.lostRun + 1 else 0
      reacqRun := if good then o.reacqRun + 1 else 0 })
    let st := s.startM[m].state
    let o := s.obs[m]
    if st = .banked then
      if s.pm m 0x2506 2 ≤ o.reacqRun ∧ s.startM[m].reacquiring = false ∧ elapsed s s.startM[m].bankedAt (msTicks (s.pm m 0x2506 1) + 1) = false then
        let (k, ov) := ctrInc 16 s.tfu[m].counters.reacquisitions
        let s := s.modTfu m (fun t => { t with counters := { t.counters with reacquisitions := k } })
        let h := s.startM[m].heldTorque
        let s := ((setRun (sealPreset s m h) m .run).modStartM m (fun x => { x with reacquiring := true })).modObs m (fun o => { o with locked := true, lostRun := 0 })
        raiseIf ov s (84 + m.val) 2
      else s
    else
      let s :=
        if !obsAtLeast s m (f - startPar s m 0x2505 4) then
          -- the lock ends without a loss, and below the floor a sensorless machine is in OPEN
          let s := s.modObs m (fun o => { o with locked := false, lockRun := 0 })
          if st = .run ∧ sensorless s m = true then
            (setRun s m .openLoop).modStartM m (fun x => { x with openAt := s.clk })
          else s
        else if !o.locked then
          if startPar s m 0x2505 8 ≤ o.lockRun then s.modObs m (fun o => { o with locked := true, lostRun := 0 }) else s
        else if startPar s m 0x2505 9 ≤ o.lostRun then
          s.modObs m (fun o => { o with locked := false, lockRun := 0, lostNow := decide (st = .run) && sensorless s m })
        else s
      if s.startM[m].state = .openLoop ∧ s.obs[m].locked = true then enterRun s m else s

end Sys2Proof.Machine
end

