-- ==== Sys2Proof/Machine/StoveNum.lean ====
section
/-! DEFINITION. Numbers inside a Stove: block words, the accumulator and the renormalisation of a stage, the eleven
stage kinds and the derived NOTCH words (spec file 08_stove_engines R210 to R213, R222 to R226). -/
namespace Sys2Proof.Machine

/-- A binary number `m × 2^e`. -/
structure Bin where
  m : Int
  e : Int
  deriving DecidableEq, Repr

/-- Zero with the lowest exponent of a block word, −128 (log 41). -/
def Bin.zero : Bin := ⟨0, -151⟩

/-- `x × 2^k`, rounded to nearest with ties to even where `k` is negative (08 R212, R213). -/
def shiftRne (x k : Int) : Int :=
  if 0 ≤ k then x * 2 ^ k.toNat
  else
    let d : Int := 2 ^ (-k).toNat
    let q := x.fdiv d
    let r := x - q * d
    if 2 * r < d then q else if d < 2 * r then q + 1 else if q % 2 = 0 then q else q + 1

/-- Comparison: −1, 0, 1. -/
def Bin.cmp (a b : Bin) : Int :=
  let lo := if a.e < b.e then a.e else b.e
  let x := a.m * 2 ^ (a.e - lo).toNat
  let y := b.m * 2 ^ (b.e - lo).toNat
  if x < y then -1 else if y < x then 1 else 0

def Bin.lt (a b : Bin) : Bool := a.cmp b == -1
def Bin.le (a b : Bin) : Bool := a.cmp b != 1
def Bin.neg (a : Bin) : Bin := ⟨-a.m, a.e⟩
def Bin.sgn (a : Bin) : Int := if a.m < 0 then -1 else if 0 < a.m then 1 else 0
def Bin.abs (a : Bin) : Bin := ⟨a.m.natAbs, a.e⟩
def Bin.clamp (lo hi x : Bin) : Bin := if x.lt lo then lo else if hi.lt x then hi else x

/-- Value of a block word (08 R210): one with mantissa 0 reads as zero, whatever its exponent. -/
def wordBin (w : Nat) : Bin := if signed 24 w = 0 then .zero else ⟨signed 24 w, signed 8 (w / 16777216) - 23⟩

/-- A block word from a mantissa and an exponent; zero is written as 0. -/
def binWord (m e : Int) : Nat := if m = 0 then 0 else lowBits 8 e * 16777216 + lowBits 24 m

/-- Smallest exponent of a list at which a value fits `w` bits with its last bit at `2^(E − w + 1)`. -/
def fits (w : Nat) (b : Bin) (e : Int) : Bool :=
  let x := shiftRne b.m (b.e - (e - (w - 1 : Nat)))
  decide (-(2 ^ (w - 1) : Nat) ≤ x) && decide (x < (2 ^ (w - 1) : Nat))

/-- The least exponent from `lo` upward, at most `k` steps, that satisfies a test. -/
def leastExp (p : Int → Bool) : Nat → Int → Option Int
  | 0, _ => none
  | k + 1, lo => if p lo then some lo else leastExp p k (lo + 1)

/-- A signal value of 24 bits with its own exponent (08 R216, R213). -/
def toSignal (b : Bin) : Bin :=
  if b.m = 0 then .zero
  else
    match leastExp (fits 24 b) 256 (-128) with
    | some e => ⟨shiftRne b.m (b.e - (e - 23)), e - 23⟩
    | none => ⟨if b.m < 0 then -8388608 else 8388607, 104⟩

/-- A term of the accumulator: a value, and the exponent with which it enters (08 R212). -/
structure Term where
  v : Bin
  e : Int
  deriving DecidableEq, Repr

/-- A signal or coefficient as a term. -/
def sigTerm (b : Bin) : Term := ⟨b, b.e + 23⟩
/-- A 48-bit state of a stage with exponent `e`, with every bit (log 41). -/
def stateTerm (b : Bin) : Term := ⟨b, b.e + 46⟩
/-- A coefficient times a value that enters at its own exponent. -/
def mulTerm (c : Bin) (t : Term) : Term := ⟨⟨c.m * t.v.m, c.e + t.v.e⟩, c.e + 23 + t.e⟩
/-- A coefficient times a state: the exponents of the 24-bit mantissas add. -/
def mulState (c b : Bin) : Term := ⟨⟨c.m * b.m, c.e + b.e⟩, c.e + 23 + (b.e + 47)⟩
def Term.neg (t : Term) : Term := ⟨t.v.neg, t.e⟩

/-- A term clamped to two words: a limit enters at its own exponent. -/
def Term.clamp (lo hi : Bin) (t : Term) : Term := if t.v.lt lo then sigTerm lo else if hi.lt t.v then sigTerm hi else t

/-- The accumulator (08 R212): its value as a term that enters a later sum with every bit. The exponent of every term
counts, a zero's too. -/
def acc (l : List Term) : Term :=
  match l with
  | [] => ⟨⟨0, -200⟩, -154⟩
  | t :: ts =>
    let e := ts.foldl (fun a u => if a < u.e then u.e else a) t.e
    ⟨⟨(t :: ts).foldl (fun a u => if u.e ≤ e - 48 then a else a + shiftRne u.v.m (u.v.e - (e - 46))) 0, e - 46⟩, e⟩

/-- Renormalisation (08 R213): exponent, output mantissa, state mantissas, and whether anything was saturated. -/
def renorm (eMin eMax : Int) (y : Bin) (st : List Bin) : Int × Int × List Int × Bool :=
  let ok (e : Int) : Bool := fits 24 y e && st.all (fun b => fits 48 b e)
  match leastExp ok ((eMax - eMin).toNat + 1) eMin with
  | some e => (e, shiftRne y.m (y.e - (e - 23)), st.map (fun b => shiftRne b.m (b.e - (e - 47))), false)
  | none =>
    (eMax, clampI (-8388608) 8388607 (shiftRne y.m (y.e - (eMax - 23))),
     st.map (fun b => clampI (-140737488355328) 140737488355327 (shiftRne b.m (b.e - (eMax - 47)))), true)

/-! ### Stages -/

/-- A stage descriptor (08 R214). -/
structure Desc where
  kind : Nat
  opt : Nat
  ops : List Nat
  cbase : Nat
  eMax : Int
  eMin : Int
  deriving DecidableEq, Repr

def descOf (w : Nat) : Desc := {
  kind := bits w 63 60, opt := bits w 59 56
  ops := [bits w 55 48, bits w 47 40, bits w 39 32, bits w 31 24]
  cbase := bits w 23 16, eMax := signed 8 (bits w 15 8), eMin := signed 8 (bits w 7 0) }

/-- Coefficient words of a stage (08 R218 cause 3, R222). -/
def nCoef (d : Desc) : Nat :=
  match d.kind with
  | 1 => 1 | 2 => 6 | 3 => 8 | 4 => 3 | 5 => 8 | 6 => 2 | 7 => 2 | 8 => 1
  | 9 => if d.opt % 4 = 1 then 3 else 2
  | _ => 0

def Stage.out (g : Stage) : Bin := ⟨g.y, g.e - 23⟩
def stateBin (g : Stage) (s : Int) : Bin := ⟨s, g.e - 47⟩

/-- The stage with new output and states (08 R213). -/
def finStage (d : Desc) (g : Stage) (y : Bin) (a b c e : Bin) : Stage :=
  let (x, m, l, sat) := renorm d.eMin d.eMax y [a, b, c, e]
  { g with e := x, y := m, s0 := l.getD 0 0, s1 := l.getD 1 0, s2 := l.getD 2 0, s3 := l.getD 3 0, numSat := sat }

/-- PI and PID (08 R223, R228). `hold` are the downstream flags, `pre` the preset torque. -/
def piStage (d : Desc) (g : Stage) (x : List Bin) (w : Nat → Bin) (hold : Bool × Bool) (pre : Option Bin) : Stage :=
  let e := x.getD 0 .zero
  let pid := d.kind == 3
  let z := if pid then (if bit d.opt 3 then (x.getD 1 .zero).neg else e) else .zero
  let q := stateBin g g.s0
  let d1 := stateBin g g.s1
  let z1 := stateBin g g.s2
  let dv : Term := if pid then acc [mulState (w 6) d1, mulTerm (w 7) (sigTerm z), (mulState (w 7) z1).neg] else acc []
  let pe := mulTerm (w 0) (sigTerm e)
  let iLo := w 2
  let iHi := w 3
  let uLo := w 4
  let uHi := w 5
  let qc := acc [stateTerm q, mulTerm (w 1) (sigTerm e)]
  let u := (acc [pe, qc, dv]).v
  let byU := (e.sgn == 1 && uHi.lt u) || (e.sgn == -1 && u.lt uLo)
  let held := byU || (e.sgn == 1 && hold.1) || (e.sgn == -1 && hold.2)
  let held := held && pre.isNone
  let qt := Term.clamp iLo iHi (match pre with
    | some t => acc [sigTerm (toSignal t), pe.neg, dv.neg]
    | none => if held then stateTerm q else qc)
  let q' := qt.v
  let y := Bin.clamp uLo uHi (acc [pe, qt, dv]).v
  -- every row of the flag table whose condition holds sets its flag; the last of them names SAT_SRC (log 41)
  let heldHi := held && e.sgn == 1 && q'.lt iHi
  let heldLo := held && e.sgn == -1 && iLo.lt q'
  let atHi := q'.cmp iHi == 0
  let atLo := q'.cmp iLo == 0
  let src := if heldHi || heldLo then (if byU then SatSrc.output else SatSrc.downstream)
    else if atHi || atLo then SatSrc.integral else SatSrc.none'
  finStage d { g with satHi := atHi || heldHi, satLo := atLo || heldLo, satSrc := src, preset := pre.isSome } y q' dv.v z e

/-- RAMP (08 R225). `zero` replaces the target by 0 and `fast` the rate towards zero (12 R330, R333). -/
def rampStage (d : Desc) (g : Stage) (x : List Bin) (w : Nat → Bin) (zero : Bool) (fast : Option Bin) : Stage :=
  let y := stateBin g g.s0
  let x0 := if zero then .zero else x.getD 0 .zero
  let xt := if g.frozen && x0.sgn == y.sgn && y.abs.lt x0.abs then stateTerm y else sigTerm x0
  let dt := acc [xt, (stateTerm y).neg]
  let delta := dt.v
  let r := if y.sgn = 0 ∨ delta.sgn = y.sgn then w 0 else fast.getD (w 1)
  let up := r.lt delta
  let down := delta.lt r.neg
  let n := if up then (acc [stateTerm y, sigTerm r]).v else if down then (acc [stateTerm y, (sigTerm r).neg]).v
    else (acc [stateTerm y, dt]).v
  let n := if y.sgn ≠ 0 ∧ n.sgn = -y.sgn then .zero else n
  finStage d { g with limHi := up, limLo := down } n n .zero .zero .zero

/-- One run of a stage (08 R222): operands, coefficients, downstream flags, preset, and what a stop does to a ramp. -/
def runStage (d : Desc) (g : Stage) (x : List Bin) (w : Nat → Bin) (hold : Bool × Bool) (pre : Option Bin) (zero : Bool)
    (fast : Option Bin) : Stage :=
  let g := { g with numSat := false, satHi := false, satLo := false, limHi := false, limLo := false, satSrc := .none', preset := false }
  let o := Bin.zero
  let x0 := x.getD 0 o
  let x1 := x.getD 1 o
  let x2 := x.getD 2 o
  let p1 := stateBin g g.s0
  let p2 := stateBin g g.s1
  let y1 := stateBin g g.s2
  let y2 := stateBin g g.s3
  match d.kind with
  | 0 =>
    let terms := ((x.zip d.ops).zipIdx).filterMap (fun v =>
      if v.1.2 = 0xFF then none else some (sigTerm (if bit d.opt v.2 then v.1.1.neg else v.1.1)))
    finStage d g (acc terms).v o o o o
  | 1 =>
    let a := mulTerm (w 0) (sigTerm x0)
    finStage d g (acc [if bit d.opt 0 then mulTerm x1 a else a]).v o o o o
  | 2 => piStage d g x w hold (if bit d.opt 0 then pre else none)
  | 3 => piStage d g x w hold (if bit d.opt 0 then pre else none)
  | 4 =>
    let y := (acc [mulTerm (w 0) (sigTerm x0), mulState (w 1) p1, (mulState (w 2) y1).neg]).v
    finStage d g y x0 o y o
  | 5 =>
    let y := (acc [mulTerm (w 3) (sigTerm x0), mulState (w 4) p1, mulState (w 5) p2, (mulState (w 6) y1).neg, (mulState (w 7) y2).neg]).v
    finStage d g y x0 p1 y y1
  | 6 =>
    let (lo, hi) := if bit d.opt 0 then (x1, x2) else (w 0, w 1)
    if hi.lt lo then
      let s := (acc [sigTerm lo, sigTerm hi]).v
      finStage d { g with limHi := true, limLo := true } ⟨s.m, s.e - 1⟩ o o o o
    else finStage d { g with limHi := hi.le x0, limLo := x0.le lo } (Bin.clamp lo hi x0) o o o o
  | 7 => rampStage d g x w zero fast
  | 8 =>
    let k := w 0
    if x0.abs.le k then finStage d g o o o o o
    else finStage d g (acc [sigTerm x0, sigTerm (if x0.sgn = 1 then k.neg else k)]).v o o o o
  | 9 =>
    let md := d.opt % 4
    let u := if md = 0 then acc [mulTerm (w 0) (sigTerm x0), (mulState (w 0) p1).neg]
      else if md = 1 then acc [mulTerm (w 0) (sigTerm x0), (mulState (w 0) p1).neg, mulTerm (w 1) (sigTerm x0),
        (mulState (w 1) ⟨p1.m, p1.e + 1⟩).neg, mulState (w 1) p2]
      else acc [mulTerm (w 0) (sigTerm x0)]
    let af := if md = 1 then w 2 else w 1
    let y := (acc [mulState af y1, u, (mulTerm af u).neg]).v
    finStage d g y x0 p1 y o
  | _ =>
    let md := d.opt % 4
    finStage d g (if md = 0 then (if x0.le x1 then x0 else x1) else if md = 1 then (if x1.le x0 then x0 else x1)
      else (if 0 ≤ x0.sgn then x1 else x2)) o o o o

/-! ### Derived NOTCH words (08 R224) -/

/-- Sine and cosine of `x / 2^90` by their series, with the sign of the next term. -/
def sinCosGo : Nat → Int → Int → Nat → Int → Int → Int × Int
  | 0, _, _, _, a, b => (a, b)
  | k + 1, x, t, n, a, b =>
    -- t = x^n / n!, a collects the even terms, b the odd ones
    let t' := t * x / (2 ^ 90 * (n + 1 : Nat))
    let sg : Int := if (n / 2) % 2 = 0 then 1 else -1
    if n % 2 = 0 then sinCosGo k x t' (n + 1) (a + sg * t) b else sinCosGo k x t' (n + 1) a (b + sg * t)

/-- tan(π × f0 × T_s) times 2^80, for f0 as a binary number and T_s in ticks. -/
def tanFix (f0 : Bin) (ts : Nat) : Int :=
  -- π × 2^90 to thirty digits
  let pi90 : Int := 3141592653589793238462643383279 * 2 ^ 90 / 10 ^ 30
  let n := pi90 * f0.m * ts * 5
  let x := (if 0 ≤ f0.e then n * 2 ^ f0.e.toNat else n / 2 ^ (-f0.e).toNat) / 1000000000
  let (c, d) := sinCosGo 28 x (2 ^ 90) 0 0 0
  if c = 0 then 0 else d * 2 ^ 80 / c

/-- A binary number times 2^80, towards minus infinity. -/
def fix80 (b : Bin) : Int := if 0 ≤ b.e + 80 then b.m * 2 ^ (b.e + 80).toNat else b.m / 2 ^ (-(b.e + 80)).toNat

/-- Quotient to the nearest integer, ties to even. -/
def divRne (a b : Int) : Int :=
  let q := a.fdiv b
  let r := a - q * b
  if 2 * r < b then q else if b < 2 * r then q + 1 else if q % 2 = 0 then q else q + 1

/-- Design words within their ranges: f0, ζ_z, ζ_p. -/
def notchOk (f0 zz zp : Bin) (ts : Nat) : Bool :=
  (⟨1, 0⟩ : Bin).le f0 && f0.le ⟨500, 0⟩ && (⟨f0.m * 4 * ts * 5, f0.e⟩ : Bin).le ⟨1000000000, 0⟩
    && (⟨1, 0⟩ : Bin).le ⟨zp.m * 100, zp.e⟩ && zp.le ⟨2, 0⟩ && decide (0 ≤ zz.m) && zz.le zp

/-- The five derived words b0, b1, b2, a1, a2. -/
def notchWords (f0 zz zp : Bin) (ts : Nat) : List Nat :=
  let one : Int := 2 ^ 80
  let k := tanFix f0 ts
  let k2 := k * k / one
  let zk (z : Bin) : Int := 2 * fix80 z * k / one
  let dd := one + zk zp + k2
  let b0 := divRne ((one + zk zz + k2) * 4194304) dd
  let b1 := divRne (2 * (k2 - one) * 4194304) dd
  let a2 := divRne ((one - zk zp + k2) * 4194304) dd
  [binWord b0 1, binWord b1 1, binWord (4194304 + a2 - b0) 1, binWord b1 1, binWord a2 1]

end Sys2Proof.Machine
end

