-- ==== Sys2Proof/Machine/StoveFam.lean ====
section
/-! DEFINITION. The Stoves at work: pools, programs, taps, runs, soft starts, presets, freezes and coefficient banks
(spec file 08_stove_engines R214 to R236). -/
namespace Sys2Proof.Machine

/-! ### Pools and programs -/

/-- The machines of a Stove's pool, ascending (08 R217). -/
def stovePool (s : State) (i : Fin 4) : List (Fin 4) := four.filter (fun m => bit (s.ps i 0x3001 1) m.val)

/-- The Stoves whose pool names a machine, and the one that serves it. -/
def stovesOf (s : State) (m : Fin 4) : List (Fin 4) := four.filter (fun i => bit (s.ps i 0x3001 1) m.val)
def stoveOf (s : State) (m : Fin 4) : Option (Fin 4) := (stovesOf s m).head?

/-- The machine at whose boundaries a Stove serves its pool (08 R218). -/
def commitMachine (s : State) (i : Fin 4) : Fin 4 := (stovePool s i).headD i

/-- Position of a machine in a pool (08 R216). -/
def poolIndex (s : State) (i m : Fin 4) : Nat := ((stovePool s i).takeWhile (· != m)).length

def stageCount (s : State) (i : Fin 4) : Nat := Nat.min 64 (s.ps i 0x3001 2)
def descAt (s : State) (i : Fin 4) (k : Nat) : Desc := descOf (s.ps i 0x3000 (k + 1))
def descs (s : State) (i : Fin 4) : List Desc := (List.range (stageCount s i)).map (descAt s i)

/-- Stage named for machine `m` as torque (0), flux (4) or speed ramp (8) stage; 0xFF and above none. -/
def namedStage (s : State) (i m : Fin 4) (which : Nat) : Nat := s.ps i 0x3002 (poolIndex s i m + which + 1)

/-- Word `k` of a bank (08 R229). -/
def bankWord (s : State) (i : Fin 4) (b : Fin 2) (k : Nat) : Nat := if k < 255 then s.ps i (0x3100 + b.val) (k + 1) else 0

/-! ### Start of a machine as the Stove sees it -/

/-- A fraction to 200 binary places and a last place that is set where more follow, so that a rounding to 24 bits is the
one of the exact value (08 R216). -/
def ratBin (num den : Int) : Bin :=
  let q := (num * 2 ^ 200).fdiv den
  ⟨2 * q + (if q * den = num * 2 ^ 200 then 0 else 1), -201⟩

/-- T_pre of a machine, per unit (08 R227, 12 R333). -/
def tPre (s : State) (m : Fin 4) : Bin :=
  if !braked s m then .zero
  else if s.pm m 0x2704 1 = 0 then toSignal (ratBin (signed 16 (s.pm m 0x2704 2)) 1000)
  else toSignal ⟨s.drive[m].heldTorque, -10⟩

/-- The soft start of the start in progress has been applied (08 R227). -/
def softDone (s : State) (m : Fin 4) : Bool :=
  match s.drive[m].enabling with
  | some e => e.softAt.isSome
  | none => true

/-- The soft start of `m` falls due at this commit point (08 R227). -/
def softDue (s : State) (m : Fin 4) : Bool :=
  s.en m && !softDone s m && (s.startM[m].state == .openLoop || s.startM[m].state == .run)

/-- The TFU applies the references of the Stove (07 R185, R204; 08 R227; 12 R334). -/
def takesRefs (s : State) (m : Fin 4) : Bool :=
  s.en m && softDone s m && !s.startM[m].reacquiring && (match s.startM[m].state with
    | .openLoop => true | .run => true | .stopping => true | _ => false)

/-- The speed-ramp target of `m` is held at zero: a stop in SPEED or ZERO, SOS, or a start that holds the brake
(12 R330, R333; 15 R392). -/
def rampZero (s : State) (m : Fin 4) : Bool :=
  s.safety.h0.fns[m].sosAt.isSome ||
  s.drive[m].stop.any (fun p => p.phase == .speed || p.phase == .zero) ||
  (braked s m && (match s.drive[m].enabling with
    | some e => e.softAt.isSome && !e.released
    | none => false))

/-- 95 % of the SLS limit last selected in H0's view, which the speed-ramp target of `m` keeps to (15 R393). -/
def slsLimit (s : State) (m : Fin 4) : Option Bin :=
  let f := s.safety.h0.fns[m]
  if f.was[(3 : Fin 6)] then
    let k := match f.slsNext with
      | some (j, _) => j
      | none => f.slsSel
    some ⟨neigh (s.pm m 0x6104 (1 + k.val) * 24320) 100, -8⟩
  else none

/-- r_toward of a fault stop: the fault deceleration × T_s in rpm per sample (12 R330). -/
def faultRate (s : State) (m : Fin 4) : Option Bin :=
  if s.drive[m].stop.any (fun p => p.fault && (p.phase == .speed || p.phase == .zero)) then
    some (toSignal (ratBin (s.pm m 0x2703 3 * s.Ts m) 2000000))
  else none

/-! ### Taps (08 R216) -/

/-- Machine of the pool at an index, with a value computed from it; zero without one. -/
def tapOf (s : State) (i : Fin 4) (j : Nat) (f : Fin 4 → Bin) : Bin :=
  match (stovePool s i)[j]? with
  | some m => f m
  | none => .zero

/-- The droop offset in rpm (13 R347). -/
def droopOffset (s : State) (m : Fin 4) : Bin :=
  if s.pm m 0x8200 2 = 2 ∨ s.share[m].droopFallback = true then
    ⟨-((s.pm m 0x8200 9 : Int) * s.drive[m].tRef * s.pm m 0x8200 10), -20⟩
  else .zero

/-- Reference position of a channel in whole units. -/
def Channel09.whole (p : BitVec 64) : BitVec 32 := (p >>> 32).setWidth 32

/-- Value of the tap with code 0x80 + k as latched at a boundary. -/
def tapValue (s : State) (i : Fin 4) (k : Nat) : Bin :=
  if k < 4 then tapOf s i k (fun m => ⟨measuredSpeed s m, -8⟩)
  else if k < 8 then
    match stoveChan s i with
    | none => .zero
    | some c => tapOf s i (k - 4) (fun m => ⟨(Channel09.whole s.prof[c].latched.1 - measuredPos s m).toInt, -16⟩)
  else if k < 12 then tapOf s i (k - 8) (fun m => ⟨s.tfu[m].torque, -20⟩)
  else if k < 16 then tapOf s i (k - 12) (fun m => ⟨magnitude s.tfu[m].psiA s.tfu[m].psiB, -20⟩)
  else if k < 24 then wordBin (s.ps i 0x3003 (k - 15))
  else if k < 28 then tapOf s i (k - 24) (fun m => ⟨s.share[m].share, -10⟩)
  else if k < 32 then tapOf s i (k - 28) (fun m => droopOffset s m)
  else if k < 48 then ⟨s.ain[finOf 16 (k - 32)], -15⟩
  else if k = 48 ∨ k = 49 then
    match stoveChan s i with
    | none => .zero
    | some c =>
      let v := s.prof[c].latched
      -- units of 1/65,536 turn per second, kept with 16 fraction bits, to rpm
      if k = 48 then ⟨v.2.1 * 60, -32⟩ else ratBin (v.2.2.1 * 60) (v.2.2.2 * 2 ^ 32)
  else if k = 50 then
    tapOf s i 0 (fun m =>
      let x := s.cal.machines[m]
      let w := nearest ((s.chans[m][(3 : Fin 4)].fine - x.offset[(3 : Fin 4)]) * x.gain[(3 : Fin 4)]) 65536
      ratBin (w * fullScale s m 3) (8388608 * Nat.max 1 (ratedOf s m 3)))
  else if 52 ≤ k ∧ k < 56 then tapOf s i (k - 52) (fun m => tPre s m)
  else .zero

/-- Every tap as the run reads it: 24 bits with an exponent of its own, a setpoint as written. -/
def latchTaps (s : State) (i : Fin 4) : Vector (Int × Int) 64 :=
  Vector.ofFn (fun k : Fin 64 =>
    let v := tapValue s i k.val
    let b := if 16 ≤ k.val ∧ k.val < 24 then v else toSignal v
    (b.m, b.e))

/-! ### Operands -/

/-- Value of an operand code (08 R215). -/
def operand (cur prev : Vector Stage 64) (taps : Vector (Int × Int) 64) (c : Nat) : Bin :=
  if c < 0x40 then cur[finOf 64 c].out
  else if c < 0x80 then prev[finOf 64 (c - 0x40)].out
  else if c < 0xC0 then ⟨taps[finOf 64 (c - 0x80)].1, taps[finOf 64 (c - 0x80)].2⟩
  else .zero

/-- Flags of the stage that a hold operand names, of the previous run (08 R223). -/
def holdFlags (prev : Vector Stage 64) (c : Nat) : Bool × Bool :=
  if 0x40 ≤ c ∧ c < 0x80 then (prev[finOf 64 (c - 0x40)].limHi, prev[finOf 64 (c - 0x40)].limLo) else (false, false)

/-! ### Banks (08 R229 to R232) -/

/-- Word `k` of the banks of Stove `i` is derived (08 R224). -/
def isDerived (s : State) (i : Fin 4) (k : Nat) : Bool :=
  (descs s i).any (fun d => d.kind == 5 && decide (d.cbase + 3 ≤ k) && decide (k < d.cbase + 8))

/-- The design words of the NOTCH stages lie within 08 R224. -/
def notchesOk (s : State) (i : Fin 4) (b : Fin 2) : Bool :=
  let w (k : Nat) : Bin := wordBin (bankWord s i b k)
  (descs s i).all (fun d => d.kind != 5 || notchOk (w d.cbase) (w (d.cbase + 1)) (w (d.cbase + 2)) (s.Ts (commitMachine s i)))

/-- The derived words of a bank are written (08 R219, R224, R230). -/
def deriveBank (s : State) (i : Fin 4) (b : Fin 2) : State :=
  let ts := s.Ts (commitMachine s i)
  (descs s i).foldl (fun s d =>
    if d.kind = 5 then
      let w (k : Nat) : Bin := wordBin (bankWord s i b k)
      ((notchWords (w d.cbase) (w (d.cbase + 1)) (w (d.cbase + 2)) ts).zipIdx).foldl
        (fun s v => s.setPar 4 i.val (0x3100 + b.val) (d.cbase + 4 + v.2) v.1) s
    else s) s

/-- Coefficients of one stage within the ranges of 08 R223 and R226. -/
def coefOk (d : Desc) (w : Nat → Bin) : Bool :=
  let nonneg (x : Bin) : Bool := decide (0 ≤ x.m)
  match d.kind with
  | 2 => nonneg (w 0) && nonneg (w 1) && (w 2).le (w 3) && (w 4).le (w 5)
  | 3 => nonneg (w 0) && nonneg (w 1) && (w 2).le (w 3) && (w 4).le (w 5) && nonneg (w 7)
  | 9 => let a := w (nCoef d - 1); nonneg a && a.le ⟨1048575, -20⟩
  | _ => true

/-- The checks of a bank at BANK_SELECT (08 R230). -/
def bankOk (s : State) (i : Fin 4) (b : Fin 2) : Bool :=
  let bytes := (List.range 255).flatMap (fun k => beBytes 4 (if isDerived s i k then 0 else bankWord s i b k))
  decide ((crc32c bytes).toNat = s.ps i 0x3004 (3 + b.val)) && notchesOk s i b &&
    (descs s i).all (fun d => coefOk d (fun k => wordBin (bankWord s i b (d.cbase + k))))

/-- A swap is counted (08 R231, R234). -/
def countSwap (s : State) (i : Fin 4) : State :=
  let (c, o) := ctrInc 16 s.stove[i].swaps
  raiseIf o (s.modStove i (fun v => { v with swaps := c })) (104 + i.val) 2

/-- A value of BANK_SELECT becomes active (08 R229, R232): of several at one commit point the last decides whether a swap
falls due. -/
def bankCommit (s : State) (i : Fin 4) (b : Fin 2) : State :=
  s.modStove i (fun v =>
    let orig := if v.swapDue then 1 - v.bank else v.bank
    { v with bankSealed := none, bank := b, swapDue := decide (b ≠ orig) })

/-- A swap on an idle Stove: it is counted and nothing is transformed (08 R232). -/
def idleSwap (s : State) (i : Fin 4) : State :=
  if s.stove[i].swapDue && !s.stove[i].running then countSwap (s.modStove i (fun v => { v with swapDue := false })) i else s

/-- The transformation of one PI or PID stage at a swap, and whether it is discontinuous (08 R231). -/
def swapStage (d : Desc) (g : Stage) (old new : Nat → Bin) : Stage × Bool :=
  let q := stateBin g g.s0
  let d1 := stateBin g g.s1
  let e := stateBin g g.s3
  let iLo := new 2
  let iHi := new 3
  let keep (q : Bin) (g' : Stage) : Stage :=
    { finStage d g' g.out q d1 (stateBin g g.s2) e with numSat := g.numSat }
  match g.satSrc with
  | .integral => (keep (if g.satHi then iHi else iLo) g, false)
  | .output =>
    let u := if g.satHi then new 5 else new 4
    (keep (Bin.clamp iLo iHi (acc [sigTerm u, (mulState (new 0) e).neg, (stateTerm d1).neg]).v) g, false)
  | _ =>
    let x := (acc [stateTerm q, mulState (old 0) e, (mulState (new 0) e).neg]).v
    let above := iHi.lt x
    let below := x.lt iLo
    if above || below then
      let g' := if g.satHi || g.satLo then g else { g with satHi := above, satLo := below, satSrc := .integral }
      (keep (Bin.clamp iLo iHi x) g', true)
    else (keep x g, false)

/-- The transformation of every stage at a swap (08 R231). -/
def swapBanks (s : State) (i : Fin 4) : State :=
  let b := s.stove[i].bank
  ((descs s i).zipIdx).foldl (fun s v =>
    let d := v.1
    if d.kind = 2 ∨ d.kind = 3 then
      let k := finOf 64 v.2
      let (g, disc) := swapStage d s.stove[i].stages[k] (fun n => wordBin (bankWord s i (1 - b) (d.cbase + n)))
        (fun n => wordBin (bankWord s i b (d.cbase + n)))
      let s := s.modStove i (fun x => { x with stages := x.stages.set k g })
      if disc then
        let (c, o) := ctrInc 16 s.stove[i].discSwaps
        let s := raise (s.modStove i (fun x => { x with discSwaps := c })) (104 + i.val) (1 + 16 * v.2)
        raiseIf o s (104 + i.val) 3
      else s
    else s) s

/-! ### Idle to running -/

/-- A Stove goes from idle to running (08 R219): stages at E_MIN with states and flags cleared, NOTCH words derived. -/
def stoveStart (s : State) (i : Fin 4) : State :=
  if s.stove[i].running then s
  else
    let s := deriveBank s i s.stove[i].bank
    s.modStove i (fun v => { v with
      running := true, runAt := none, late := false, placed := Vector.replicate 4 none
      stages := Vector.ofFn (fun k : Fin 64 => { e := if k.val < stageCount s i then (descAt s i k.val).eMin else 0 })
      taps := Vector.replicate 64 (0, 0), swapDue := false, satRun := false
      softStart := Vector.replicate 4 false, presets := Vector.replicate 4 none
      presetSealed := Vector.replicate 4 none, freezeSealed := Vector.replicate 4 none })

/-! ### Commit and run -/

/-- Step 1 of 08 R220 at a boundary of a Stove's pool: the placed references become active; a run still in progress
misses its commit point (01 R42, 08 R221). -/
def stoveCommit (s : State) (i : Fin 4) : State :=
  let v := s.stove[i]
  if !v.running then s
  else if v.runAt.isSome then
    let (c, o) := ctrInc 16 s.tb.missStove[i]
    let n := s.tb.runStove[i] + 1
    let s := (s.modStove i (fun v => { v with late := true })).modTb (fun t => { t with
      missStove := vmod t.missStove i (fun _ => c), runStove := vmod t.runStove i (fun _ => n) })
    let s := raise s (40 + i.val) 0
    let s := raiseIf o s (40 + i.val) 0
    if n = 3 then forAll (stovePool s i) (fun m s => faultStop s m none) s else s
  else
    let s := s.modTb (fun t => { t with runStove := vmod t.runStove i (fun _ => 0) })
    let s := forAll (stovePool s i) (fun m s =>
      match v.placed[m] with
      | none => s
      | some r =>
        if takesRefs s m then
          let s := s.modDrive m (fun d => { d with tRef := r.torque, psiRef := r.flux })
          -- the enable ends with OK here when no brake holds it (23 R586)
          if s.drive[m].enabling.isSome && (!braked s m || !rampZero s m) then endEnable s m stOK [] else s
        else s) s
    s.modStove i (fun v => { v with placed := Vector.replicate 4 none })

/-- The output and state of a RAMP set to a value (08 R225, R227). -/
def setRamp (d : Desc) (g : Stage) (v : Bin) : Stage := { finStage d g v v .zero .zero .zero with numSat := g.numSat }

/-- Every RAMP stage whose track operand is a tap takes that tap (08 R227). -/
def rampsToTaps (s : State) (i : Fin 4) (taps : Vector (Int × Int) 64) : State :=
  ((descs s i).zipIdx).foldl (fun s v =>
    let d := v.1
    let x1 := d.ops.getD 1 0xFF
    if d.kind = 7 ∧ 0x80 ≤ x1 ∧ x1 < 0xC0 then
      s.modStove i (fun x => { x with stages := vmod x.stages (finOf 64 v.2) (fun g => setRamp d g (operand x.stages x.stages taps x1)) })
    else s) s

/-- A soft start or a preset of H1 is applied for a machine (08 R227, R228): `held` is the torque of 07 R204. -/
def applyPreset (s : State) (i m : Fin 4) (held : Option Int) (taps : Vector (Int × Int) 64) : State :=
  let s := rampsToTaps s i taps
  s.modStove i (fun v => { v with presets := Vector.ofFn (fun k : Fin 4 =>
    let b := match held with
      | some h => if k = m then toSignal ⟨h, -10⟩ else tPre s k
      | none => tPre s k
    some (b.m, b.e)) })

/-- Steps 3 and 4 of 08 R220: swap, presets, freezes, and the taps of the run, which is then in progress. -/
def stoveBegin (s : State) (i : Fin 4) : State :=
  let v := s.stove[i]
  if !v.running ∨ v.runAt.isSome = true then s
  else
    let taps := latchTaps s i
    let pool := stovePool s i
    let soft := pool.filter (fun m => softDue s m)
    -- a machine enabled into a running Stove resets no state (08 R219)
    let fresh := soft.filter (fun m => !s.startM[m].joins)
    let s := if v.swapDue then countSwap (if fresh.isEmpty then swapBanks s i else s) i else s
    let s := forAll fresh (fun m s => applyPreset s i m none taps) s
    let s := forAll soft (fun m s => s.modDrive m (fun d => { d with
        enabling := d.enabling.map (fun e => { e with softAt := some s.clk }) })) s
    let s := forAll soft (fun m s => s.modStartM m (fun x => { x with handed := none })) s
    let s := forAll pool (fun m s => match v.presetSealed[m] with
      | none => s
      | some h =>
        -- the held reference is released here, and stays the value in force until the run's output commits
        ((applyPreset s i m (some h) taps).modDrive m (fun d => { d with
          tRef := if s.startM[m].reacquiring then s.startM[m].heldTorque else d.tRef })).modStartM m
            (fun x => { x with reacquiring := false })) s
    let s := forAll pool (fun m s => match v.freezeSealed[m] with
      | none => s
      | some f =>
        let k := namedStage s i m 8
        if k < stageCount s i then
          let d := descAt s i k
          s.modStove i (fun x => { x with stages := vmod x.stages (finOf 64 k) (fun g =>
            { setRamp d g (operand x.stages x.stages taps (d.ops.getD 1 0xFF)) with frozen := f }) })
        else s) s
    -- the distributor's limit on the demand stage (13 R345)
    let s := forAll pool (fun m s => match s.share[m].satLimit with
      | none => s
      | some hi =>
        let k := s.pm m 0x8200 6
        let s := s.modShare m (fun x => { x with satLimit := none })
        if k < 64 then s.modStove i (fun x => { x with stages := vmod x.stages (finOf 64 k) (fun g =>
          { g with limHi := g.limHi || hi, limLo := g.limLo || !hi }) })
        else s) s
    s.modStove i (fun v => { v with
      swapDue := false, presetSealed := Vector.replicate 4 none, freezeSealed := Vector.replicate 4 none
      softStart := Vector.ofFn (fun k : Fin 4 => decide (k ∈ fresh)), taps := taps, runAt := some s.clk, late := false })

/-- The stages of one run in index order (08 R220 step 5). -/
def runStages (s : State) (i : Fin 4) : Vector Stage 64 :=
  let v := s.stove[i]
  let prev := v.stages
  let pool := stovePool s i
  let presetting := v.presets.toList.any Option.isSome
  ((descs s i).zipIdx).foldl (fun cur x =>
    let d := x.1
    let k := finOf 64 x.2
    let ops := d.ops.map (operand cur prev v.taps)
    let w (n : Nat) : Bin := wordBin (bankWord s i v.bank (d.cbase + n))
    let pre : Option Bin := match pool[d.opt / 2 % 4]? with
      | some m => v.presets[m].map (fun b => (⟨b.1, b.2⟩ : Bin))
      | none => if presetting then some .zero else none
    let owner := pool.find? (fun m => namedStage s i m 8 == x.2)
    let zero : Bool := owner.any (fun m => rampZero s m)
    let ops := match (if d.kind = 7 then owner.bind (fun m => slsLimit s m) else none), ops with
      | some lim, x0 :: rest => Bin.clamp lim.neg lim x0 :: rest
      | _, l => l
    let fast : Option Bin := owner.bind (fun m => faultRate s m)
    let hold : Bool × Bool := if d.kind = 2 ∨ d.kind = 3 then holdFlags prev (d.ops.getD 2 0xFF) else (false, false)
    let g := { runStage d prev[k] ops w hold pre zero fast with kind := d.kind }
    let sat := g.satHi || g.satLo
    cur.set k { g with satRuns := if sat then g.satRuns + 1 else 0, satCounted := sat && g.satCounted }) prev

/-- A named output times 1,024, rounded and saturated (08 R217). -/
def outScaled (b : Bin) (round : Int → Int → Int) (lo hi : Int) : Int :=
  let e := b.e + 10
  clampI lo hi (if 0 ≤ e then b.m * 2 ^ e.toNat else round b.m (2 ^ (-e).toNat))

/-- The references that a run computes for a machine (08 R217). -/
def refsOf (s : State) (i m : Fin 4) (st : Vector Stage 64) : Refs :=
  let t := namedStage s i m 0
  let f := namedStage s i m 4
  { torque := if t < 64 then outScaled st[finOf 64 t].out nearest (-4095) 4095 else 0
    flux := if f < 64 then outScaled st[finOf 64 f].out neigh 0 2047 else 1024 }

/-- Counters of a run (08 R234): saturated runs, and integrators held at a limit for t_sat. -/
def runCounters (s : State) (i : Fin 4) : State :=
  let st := s.stove[i].stages
  let n := stageCount s i
  let first := (List.range n).find? (fun k => st[finOf 64 k].numSat)
  let s := match first with
    | none => s.modStove i (fun v => { v with satRun := false })
    | some k =>
      let was := s.stove[i].satRun
      let (c, o) := ctrInc 32 s.stove[i].satRuns
      let s := s.modStove i (fun v => { v with satRuns := c, satRun := true })
      let s := if was then s else raise s (96 + i.val) (16 * k)
      raiseIf o s (96 + i.val) 1
  let ts := s.Ts (commitMachine s i)
  let lim := msTicks (s.ps i 0x3005 0)
  if lim = 0 then s
  else (List.range n).foldl (fun s k =>
    let r := st[finOf 64 k].satRuns
    if 1 ≤ r ∧ lim ≤ r * ts ∧ st[finOf 64 k].satCounted = false then
      let (c, o) := ctrInc 16 s.stove[i].held
      let s := raise (s.modStove i (fun v => { v with
        held := c, stages := vmod v.stages (finOf 64 k) (fun g => { g with satCounted := true }) })) (100 + i.val) (16 * k)
      raiseIf o s (100 + i.val) 1
    else s) s

/-! ### Status (08 R233) -/

def SatSrc.code : SatSrc → Nat
  | .none' => 0 | .integral => 1 | .output => 2 | .downstream => 3

/-- The status word of a stage (08 R233). -/
def stageWord (g : Stage) : Nat :=
  flag g.numSat 31 + flag g.satHi 30 + flag g.satLo 29 + flag g.limHi 28 + flag g.limLo 27 + flag g.frozen 26
    + g.satSrc.code * 2 ^ 24 + lowBits 8 g.e * 2 ^ 16 + flag g.preset 4 + g.kind

/-- The output of a stage as a block word (08 R210). -/
def stageOutput (g : Stage) : Nat := binWord g.y g.e

/-! ### The end of a run -/

/-- STOVE_RUN_END (08 R220 steps 5 and 6, R221): the stages run and the named outputs are placed for commit, or are
discarded when the run missed its commit point. -/
def execStoveRunEnd (dt : Nat) (i : Fin 4) (s : State) : Host.Outcome State Fault Refusal :=
  let s := advance s dt
  done (if s.stove[i].runAt.isSome then
      let st := runStages s i
      let pool := stovePool s i
      let late := s.stove[i].late
      let s := s.modStove i (fun v => { v with
        stages := st, shown := st.map stageWord, runAt := none, late := false, presets := Vector.replicate 4 none, softStart := Vector.replicate 4 false
        placed := if late then Vector.replicate 4 none else Vector.ofFn (fun m : Fin 4 =>
          if m ∈ pool ∧ s.en m = true then some (refsOf s i m st) else none) })
      runCounters s i
    else s)

/-- CEILING_RAMP_FREEZE (05 R150): H1 seals a freeze of the speed ramp named for `m` while a machine of the pool for which
the same stage is named has CEILING set, and its lifting. -/
def execCeilingRampFreeze (dt : Nat) (m : Fin 4) (s : State) : Host.Outcome State Fault Refusal :=
  let s := advance s dt
  done (match stoveOf s m with
    | none => s
    | some i =>
      let k := namedStage s i m 8
      let now := s.stove[i].freezeSealed[m].getD (decide (k < 64) && s.stove[i].stages[finOf 64 k].frozen)
      let want := (stovePool s i).any (fun n => namedStage s i n 8 == k && s.tfu[n].ceiling)
      if s.en m ∧ now ≠ want then
        s.modStove i (fun v => { v with freezeSealed := vmod v.freezeSealed m (fun _ => some want) })
      else s)

/-! ### Program checks at enable (08 R218) -/

/-- An operand of stage `k` is valid in a program of `n` stages (08 R215). -/
def operandOk (n k c : Nat) : Bool :=
  if c < 0x40 then decide (c < k) && decide (c < n)
  else if c < 0x80 then decide (c - 0x40 < n)
  else if c < 0xC0 then !(c == 0xB3 || decide (0xB8 ≤ c))
  else c == 0xFF

/-- KIND, OPT and operands of a stage are valid (08 R218 cause 1). -/
def descOk (s : State) (i : Fin 4) (n k : Nat) (d : Desc) : Bool :=
  let o := d.opt
  decide (d.kind ≤ 10) && d.ops.all (operandOk n k) &&
  (match d.kind with
   | 0 => true
   | 1 => decide (o < 2)
   | 2 => decide (o < 8)
   | 3 => true
   | 6 => decide (o < 2)
   | 9 => decide (o < 3)
   | 10 => decide (o < 3)
   | _ => o == 0) &&
  (if d.kind = 2 ∨ d.kind = 3 then
     let c := d.ops.getD 2 0xFF
     c == 0xFF || (decide (0x40 ≤ c) && decide (c < 0x80) &&
       (let t := (descAt s i (c - 0x40)).kind; t == 6 || t == 7))
   else true)

/-- NOTCH stages on the longest chain from a tap to each stage; none when no tap reaches it (08 R218 cause 4). -/
def notchDepths (l : List Desc) : List (Option Nat) :=
  l.foldl (fun acc d =>
    let best := d.ops.foldl (fun (b : Option Nat) c =>
      let x : Option Nat := if c < 0x40 then (acc.getD c none) else if 0x80 ≤ c ∧ c < 0xC0 then some 0 else none
      match b, x with
      | some p, some q => some (Nat.max p q)
      | some p, none => some p
      | none, q => q) none
    acc ++ [best.map (· + (if d.kind = 5 then 1 else 0))]) []

/-- Worst-case time of a kind in ns (08 R220). -/
def kindTime : Nat → Nat
  | 0 => 100 | 1 => 140 | 2 => 300 | 3 => 400 | 4 => 240 | 5 => 360 | 6 => 100 | 7 => 220 | 8 => 100 | 9 => 280 | _ => 100

/-- Σ of a program in ns (08 R220). -/
def runTime (s : State) (i : Fin 4) : Nat := (descs s i).foldl (fun a d => a + kindTime d.kind) 0

/-- The rule of 08 R220 for a sample period in ticks. -/
def runTimeOk (s : State) (i : Fin 4) (ts : Nat) : Bool := decide (1800 + runTime s i + 2000 ≤ 5 * ts)

/-- CRC-32C over the descriptors (08 R218 cause 0). -/
def programCrc (s : State) (i : Fin 4) : Nat :=
  (crc32c ((List.range (stageCount s i)).flatMap (fun k => beBytes 8 (s.ps i 0x3000 (k + 1))))).toNat

/-- Index of the first stage that fails a test. -/
def firstStage (l : List Desc) (bad : Nat → Desc → Bool) : Option Nat :=
  ((List.range l.length).zip l).findSome? (fun x => if bad x.1 x.2 then some x.1 else none)

/-- The design words of one NOTCH stage of a bank lie outside 08 R224. -/
def notchBad (s : State) (i : Fin 4) (b : Fin 2) (d : Desc) : Bool :=
  let w (k : Nat) : Bin := wordBin (bankWord s i b k)
  d.kind == 5 && !notchOk (w d.cbase) (w (d.cbase + 1)) (w (d.cbase + 2)) (s.Ts (commitMachine s i))

/-- The first program check that fails when `m` is enabled, with the index of its stage in bits [9:4] where it concerns
one stage (08 R218, R235). -/
def programFault (s : State) (i m : Fin 4) : Option Nat :=
  let n := stageCount s i
  let l := descs s i
  let pool := stovePool s i
  let named := pool.flatMap (fun k => [namedStage s i k 0, namedStage s i k 4, namedStage s i k 8])
  let depths := notchDepths l
  if programCrc s i ≠ s.ps i 0x3001 4 then some 0
  else match firstStage l (fun k d => !descOk s i n k d) with
  | some k => some (1 + 16 * k)
  | none => match firstStage l (fun _ d => decide (d.eMax < d.eMin)) with
  | some k => some (2 + 16 * k)
  | none => match firstStage l (fun _ d => decide (255 < d.cbase + nCoef d)) with
  | some k => some (3 + 16 * k)
  | none => match named.find? (fun k => match depths.getD k none with | some c => decide (4 < c) | none => false) with
  | some k => some (4 + 16 * k)
  | none =>
    if !runTimeOk s i (s.Ts (commitMachine s i)) then some 5
    else if !(named.all (fun k => k == 0xFF || decide (k < n)) && pool.all (fun k => decide (namedStage s i k 0 < n))) then some 6
    else if (stovesOf s m).length ≠ 1 ∨ !pool.all (fun k => s.D k == s.D m && s.N k == s.N m) then some 7
    else match firstStage l (fun _ d => notchBad s i s.stove[i].bank d) with
    | some k => some (8 + 16 * k)
    | none => none

end Sys2Proof.Machine
end

