-- ==== Sys2Proof/Machine/ProfFam.lean ====
section
/-! DEFINITION. The profile channels: segments, evaluation, commit points, stops, latching and the profile opcodes
(spec file 09_profiles_aux_axes R237 to R254, R587 of 23; the LAT captures of 04 R119, R120). -/
namespace Sys2Proof.Machine

/-! ### Consumers (09 R237) -/

/-- The Stove, and the axis, that takes a channel. -/
def stoveOfChan (s : State) (c : Fin 12) : Option (Fin 4) := four.find? (fun i => stoveChan s i == some c)
def axisOfChan (s : State) (c : Fin 12) : Option (Fin 6) := six.find? (fun k => axisChan s k == some c)

/-- Consumer code of parameter 0x4000 (09 R263). -/
def consumerCode (s : State) (c : Fin 12) : Nat :=
  match stoveOfChan s c, axisOfChan s c with
  | some i, _ => i.val
  | none, some k => 0x10 + k.val
  | none, none => 0xFF

/-! ### Positions, velocities and segments (09 R238, R241) -/

/-- A whole number of units as a position. -/
def unitPos (u : BitVec 32) : BitVec 64 := u.setWidth 64 <<< 32

/-- Signed difference of two positions in 1/2^32 unit (09 R238). -/
def posDiff (a b : BitVec 64) : Int := (a - b).toInt

/-- The two coefficients of a segment: A2 = a2 × D²/2·10⁸ and A3 = a3 × D³/(2·10⁸)², in 1/2^32 unit, with D ticks. -/
def segCoef (delta v0 v1 : Int) (d : Nat) : Int × Int :=
  (3 * delta * 200000000 - (2 * v0 + v1) * 65536 * d, -2 * delta * 200000000 + (v0 + v1) * 65536 * d)

/-- End tick of a segment. -/
def RunSeg.endAt (g : RunSeg) : Nat := g.startAt + g.durTicks

/-- Position, velocity and acceleration of a segment at a tick, for t from 0 to T; past its end the end state (09 R241).
The acceleration is an exact fraction (08 R216). -/
def evalSeg (g : RunSeg) (t : Nat) : BitVec 64 × Int × (Int × Int) :=
  if g.endAt < t then (g.p1, g.v1, (0, 1))
  else
    let e : Int := (t - g.startAt : Nat)
    let d : Int := g.durTicks
    let (a2, a3) := segCoef (posDiff g.p1 g.p0) g.v0 g.v1 g.durTicks
    let p := neigh (g.v0 * 65536 * e * d ^ 3 + a2 * e ^ 2 * d + a3 * e ^ 3) (200000000 * d ^ 3)
    let v := neigh (g.v0 * 65536 * d ^ 3 + 2 * a2 * e * d + 3 * a3 * e ^ 2) (65536 * d ^ 3)
    (g.p0 + BitVec.ofInt 64 p, v, (200000000 * (2 * a2 * d + 6 * a3 * e), 65536 * d ^ 3))

/-- The stop segment from a state at a tick (09 R248); none at rest. -/
def stopSeg (p : BitVec 64) (v : Int) (rate : Nat) (t : Nat) (fault : Bool) : Option RunSeg :=
  if v = 0 then none
  else
    -- duration in µs, rounded up; v is in 1/65,536 unit per second
    let us : Nat := (v.natAbs * 1000000 + 65536 * rate - 1) / (65536 * rate)
    let us := Nat.max 1 us
    let x := nearest ((p.toNat : Int) * 2000000 + v * 65536 * us) (2000000 * 2 ^ 32)
    some { startAt := t, p0 := p, v0 := v, durTicks := 200 * us, p1 := unitPos (BitVec.ofInt 32 x), v1 := 0, stop := true, fault := fault }

/-- End position of a segment from its start. -/
def Segment.target (g : Segment) (p : BitVec 64) : BitVec 64 := if g.rel then p + unitPos g.endPos else unitPos g.endPos

/-- A queued segment put in force. -/
def Segment.begin (g : Segment) (t : Nat) (p : BitVec 64) (v : Int) : RunSeg := {
  startAt := t, p0 := p, v0 := v, durTicks := 200 * g.duration, p1 := g.target p, v1 := g.endVel * 65536, latchStop := g.latchStop }

/-- Keep the segments that ended within the last millisecond (09 R252). -/
def keepEnded (now : Nat) (l : List (Nat × RunSeg)) : List (Nat × RunSeg) := l.filter (fun x => decide (now ≤ x.1 + msTicks 1))

/-- Joints up to a tick: a segment that has ended gives way to the next of the queue, at its end. -/
def seekGo : Nat → Nat → Channel09 → Channel09
  | 0, _, x => x
  | k + 1, t, x =>
    match x.seg, x.queue with
    | some g, n :: q =>
      if g.endAt ≤ t then
        seekGo k t { x with
          seg := some (n.begin g.endAt g.p1 g.v1), queue := q, kept := (g.endAt, g) :: x.kept, segmentsDone := x.segmentsDone + 1 }
      else x
    | _, _ => x

def seek (t : Nat) (x : Channel09) : Channel09 := seekGo 65 t x

/-- State of the reference at a tick. Past the end of the last segment, with velocity left, it follows the stop segment
that an underrun would start there (log 43). -/
def stateAt (x : Channel09) (aStop : Nat) (t : Nat) : BitVec 64 × Int × (Int × Int) :=
  match x.seg with
  | none => (x.pos, 0, (0, 1))
  | some g =>
    if g.endAt < t ∧ g.v1 ≠ 0 then
      match stopSeg g.p1 g.v1 aStop g.endAt false with
      | some h => evalSeg h t
      | none => (g.p1, 0, (0, 1))
    else evalSeg g t

/-- State at the end of everything queued, for the checks of 09 R242. -/
def queueEnd (x : Channel09) : BitVec 64 × Int :=
  let start : BitVec 64 × Int := match x.seg with
    | some g => (g.p1, g.v1)
    | none => (x.pos, 0)
  x.queue.foldl (fun a g => (g.target a.1, g.endVel * 65536)) start

/-- Byte offset of the field of a record that fails 09 R242, from a start state. -/
def segFault (p : BitVec 64) (v : Int) (g : Segment) (vMax aMax : Nat) : Option Nat :=
  if g.duration < 20 ∨ 100000000 < g.duration then some 0
  else
    let d : Int := 200 * g.duration
    let delta := posDiff (g.target p) p
    let v1 := g.endVel * 65536
    let (a2, a3) := segCoef delta v v1 (200 * g.duration)
    let lim : Int := vMax
    if delta = -(2 ^ 63) then some 4
    else if lim * 65536 < v.natAbs ∨ lim * 65536 < v1.natAbs then some 8
    else
      -- extremum at −a2 / (3 a3), when it lies within the segment
      let inside := decide (a3 ≠ 0) && (if 0 < a3 then decide (a2 ≤ 0 ∧ -a2 ≤ 3 * a3) else decide (0 ≤ a2 ∧ a2 ≤ -(3 * a3)))
      if inside && decide (lim * 2 ^ 32 * (3 * a3 * d).natAbs < (v * 65536 * 3 * a3 * d - a2 * a2).natAbs) then some 8
      else
        let top := Nat.max (2 * a2).natAbs (2 * a2 + 6 * a3).natAbs
        if (aMax : Int) * 2 ^ 32 * d * d < 200000000 * top then some 0 else none

/-- v_max of a channel: an axis channel goes no faster than 200,000 microsteps per second (09 R242). -/
def chanVmax (s : State) (c : Fin 12) : Nat :=
  let v := s.pp c 0x4001 1
  if (axisOfChan s c).isSome then Nat.min v 200000 else v

/-- The first record that fails, with its field; `known` false leaves out the checks that need a start position that is
not known yet (09 R247). -/
def segsFault (vMax aMax : Nat) : Nat → BitVec 64 → Int → Bool → List Segment → Option (Nat × Nat)
  | _, _, _, _, [] => none
  | n, p, v, known, g :: rest =>
    let can := known || g.rel
    match (if can then segFault p v g vMax aMax else if g.duration < 20 ∨ 100000000 < g.duration then some 0 else none) with
    | some f => some (n, f)
    | none => segsFault vMax aMax (n + 1) (g.target p) (g.endVel * 65536) (known || !g.rel) rest

/-! ### Stops and commit points (09 R239, R244 to R250) -/

/-- A counter of a channel: 0 underruns, 1 refused blends, 2 fault stops (09 R261), with its source. -/
def chanCount (s : State) (c : Fin 12) (which : Nat) : State :=
  let x := s.prof[c]
  let (k, o) := ctrInc 16 (match which with | 0 => x.underruns | 1 => x.refused | _ => x.faultStops)
  let s := s.modProf c (fun x => match which with
    | 0 => { x with underruns := k } | 1 => { x with refused := k } | _ => { x with faultStops := k })
  let s := raise s (112 + which) c.val
  raiseIf o s 116 (c.val + 16 * which)

/-- Segments completed once the running segment is replaced at a tick: one more where it had ended by then (09 R261). -/
def Channel09.countEnded (x : Channel09) (t : Nat) : BitVec 32 :=
  if x.seg.any (fun g => decide (g.endAt ≤ t) && !g.stop) then x.segmentsDone + 1 else x.segmentsDone

/-- A stop segment takes over at a tick; without velocity the channel is IDLE at once (09 R248). -/
def beginStop (s : State) (c : Fin 12) (rate : Nat) (t : Nat) (fault : Bool) : State × Bool :=
  let x := s.prof[c]
  let (p, v, _) := stateAt x (s.pp c 0x4001 3) t
  let kept : List (Nat × RunSeg) := match x.seg with
    | some g => (Nat.min g.endAt t, g) :: x.kept
    | none => x.kept
  match stopSeg p v rate t fault with
  | some g => (s.modProf c (fun x => { x with
      state := .stopping, seg := some g, queue := [], kept := kept, segmentsDone := x.countEnded t }), true)
  | none => (s.modProf c (fun x => { x with
      state := .idle, seg := none, queue := [], kept := kept, segmentsDone := x.countEnded t
      pos := p, vel := 0, acc := (0, 1) }), false)

/-- The stop requests of a commit point (09 R249, R250 steps 1 and 2). -/
def takeChanStops (s : State) (c : Fin 12) (fault stop latch : Bool) : State :=
  let x := s.prof[c]
  let s :=
    if fault then
      match x.state with
      | .moving =>
        let (s, b) := beginStop s c (s.pp c 0x4001 4) s.clk true
        if b then chanCount s c 2 else s
      | .stopping =>
        if x.seg.any (fun g => !g.fault) && decide (s.pp c 0x4001 3 < s.pp c 0x4001 4) then
          let (s, b) := beginStop s c (s.pp c 0x4001 4) s.clk true
          if b then chanCount s c 2 else s
        else s
      | _ => s
    else s
  if (stop || latch) && s.prof[c].state == .moving then
    let (s, _) := beginStop s c (s.pp c 0x4001 3) s.clk false
    if latch then raise s 115 c.val else s
  else s

/-- New segments put into a channel that may take them (09 R244, R247); the status of the reply. -/
def takeSegs (s : State) (c : Fin 12) (segs : List Segment) (blend : Bool) : State × BitVec 16 × List Byte :=
  let x := s.prof[c]
  match x.state with
  | .idle =>
    match segs with
    | [] => (s, stOK, [])
    | g :: rest =>
      (s.modProf c (fun x => seek s.clk { x with state := .moving, seg := some (g.begin s.clk x.pos 0), queue := rest }), stOK, [])
  | .moving =>
    if blend then
      match segs with
      | [] => (s, stOK, [])
      | g :: rest =>
        let (p, v, _) := stateAt x (s.pp c 0x4001 3) s.clk
        match segsFault (chanVmax s c) (s.pp c 0x4001 2) 0 p v true segs with
        | some f => (chanCount s c 1, stBADVALUE, elemHeader f.1 f.2)
        | none =>
          (s.modProf c (fun x => { x with
            seg := some (g.begin s.clk p v), queue := rest, segmentsDone := x.countEnded s.clk
            kept := match x.seg with
              | some o => (Nat.min o.endAt s.clk, o) :: x.kept
              | none => x.kept }), stOK, [])
    else if 64 < segs.length + x.queue.length + 1 then (s, stREFUSED, [])
    else (s.modProf c (fun x => seek s.clk { x with queue := x.queue ++ segs }), stOK, [])
  | _ => (s, stREFUSED, [])

/-- The end of the last segment (09 R245, R246): IDLE at rest, or an underrun. -/
def underrunTest (s : State) (c : Fin 12) : State :=
  let x := s.prof[c]
  match x.seg with
  | none => s
  | some g =>
    if s.clk < g.endAt ∨ x.queue ≠ [] then s
    else if g.v1 = 0 then
      s.modProf c (fun x => { x with
        state := .idle, seg := none, pos := g.p1, vel := 0, acc := (0, 1), kept := (g.endAt, g) :: x.kept
        segmentsDone := if g.stop then x.segmentsDone else x.segmentsDone + 1 })
    else
      let s := s.modProf c (fun x => { x with segmentsDone := x.segmentsDone + 1, kept := (g.endAt, g) :: x.kept })
      let s := chanCount s c 0
      match stopSeg g.p1 g.v1 (s.pp c 0x4001 3) g.endAt false with
      | none => s
      | some h =>
        if h.endAt ≤ s.clk then s.modProf c (fun x => { x with
          state := .idle, seg := none, pos := h.p1, vel := 0, acc := (0, 1), kept := (h.endAt, h) :: x.kept })
        else s.modProf c (fun x => { x with state := .stopping, seg := some h })

/-- The append and blend groups of a commit point, in order; those that meet a pending stop are refused (09 R250 step 3). -/
def takeGroups (s : State) (c : Fin 12) (stops : Bool) (l : List (ChanReq × Option (Transport × BitVec 16))) : State :=
  l.foldl (fun s r =>
    let run (segs : List Segment) (blend : Bool) : State :=
      if stops then replyAt s r.2 stREFUSED []
      else
        let (s, st, data) := takeSegs s c segs blend
        replyAt s r.2 st data
    match r.1 with
    | .append segs => run segs false
    | .blend segs => run segs true
    | _ => s) s

/-- PROFILE_EVALUATION (09 R239, R250): what a channel does at its commit point, for the reference one period later. -/
def chanCommit (s : State) (c : Fin 12) (period : Nat) : State :=
  let reqs := s.prof[c].reqs
  let latch := s.prof[c].latchStopDue
  let s := s.modProf c (fun x => { seek s.clk x with latchStopDue := false, reqs := [] })
  let fault := reqs.any (fun r => r.1 == .faultStop)
  let stop := reqs.any (fun r => r.1 == .stop)
  let s := takeChanStops s c fault stop latch
  let s := reqs.foldl (fun s r => if r.1 = .stop ∨ r.1 = .faultStop then replyAt s r.2 stOK [] else s) s
  let s := takeGroups s c (fault || stop || latch) reqs
  let s := underrunTest s c
  let s := s.modProf c (fun x => { x with kept := keepEnded s.clk x.kept })
  let x := s.prof[c]
  if x.state = .off then s
  else
    let (p, v, a) := stateAt (seek (s.clk + period) x) (s.pp c 0x4001 3) (s.clk + period)
    s.modProf c (fun x => { x with pos := p, vel := v, acc := a, refReady := true })

/-- The reference of a Stove's channel is latched at the boundary (09 R239); one that was not ready is not (01 R38). -/
def profLatch (s : State) (i : Fin 4) : State :=
  match stoveChan s i with
  | none => s
  | some c =>
    let x := s.prof[c]
    if x.refReady then s.modProf c (fun x => { x with latched := (x.pos, x.vel, x.acc), refReady := false }) else s

/-- A channel comes to IDLE at its consumer's present position when the consumer is enabled (09 R245). -/
def chanOn (s : State) (c : Fin 12) (p : BitVec 32) : State :=
  if s.prof[c].state = .off then
    s.modProf c (fun x => { x with state := .idle, seg := none, queue := [], kept := [], pos := unitPos p, vel := 0, acc := (0, 1)
                                   latched := (unitPos p, 0, (0, 1)), latchStopDue := false })
  else s

/-- A miss of a profile deadline (01 R38, R43). -/
def profMiss (s : State) (c : Fin 12) : State :=
  let (k, o) := ctrInc 16 s.tb.missProf
  let s := raise (s.modTb (fun t => { t with missProf := k })) 44 c.val
  raiseIf o s 44 c.val

/-- PROFILE_REF_DEADLINE (01 R38): ten ticks before the commit point of Stove `i`; `ready` is whether the generator has
finished the reference of its channel. -/
def execProfileRefDeadline (dt : Nat) (i : Fin 4) (ready : Bool) (s : State) : Host.Outcome State Fault Refusal :=
  let s := advance s dt
  let m := commitMachine s i
  done (match stoveChan s i with
    | none => s
    | some c =>
      if s.tb.counting ∧ s.phi m ≤ s.tb.now.toNat + 10 ∧ (s.tb.now.toNat + 10 - s.phi m) % s.Ts m = 0 ∧ s.prof[c].state ≠ .off then
        if ready && s.prof[c].refReady then s
        else profMiss (s.modProf c (fun x => { x with refReady := false })) c
      else s)

/-! ### Latching (04 R119, R120; 09 R252, R253) -/

/-- Reference position at an earlier tick, and whether a LATCH_STOP segment was in force there (09 R252), from a channel
that has passed its joints (`seek`). -/
def refAt (x : Channel09) (aStop t : Nat) : BitVec 64 × Bool :=
  match x.seg with
  | some g =>
    if g.startAt ≤ t then ((stateAt x aStop t).1, g.latchStop && decide (t < g.endAt))
    else
      match x.kept.find? (fun k => decide (k.2.startAt ≤ t)) with
      | some k => ((evalSeg k.2 (Nat.min t k.1)).1, k.2.latchStop && decide (t < k.1))
      | none => match x.kept.getLast? with
        | some k => (k.2.p0, false)
        | none => (g.p0, false)
  | none =>
    match x.kept.find? (fun k => decide (k.2.startAt ≤ t)) with
    | some k => if t < k.1 then ((evalSeg k.2 t).1, k.2.latchStop) else (x.pos, false)
    | none => match x.kept.getLast? with
      | some k => (k.2.p0, false)
      | none => (x.pos, false)

/-- The applied count of an axis as it stood at a tick: before the first microstep applied after it (09 R252). -/
def Axis.appliedAt (a : Axis) (t : Nat) : BitVec 32 :=
  match a.history.find? (fun h => decide (t < h.1)) with
  | some h => h.2
  | none => a.applied

/-- A capture seen by the profile generator (09 R252, R253): the reference and the applied count at the capture tick. -/
def chanLatch (s : State) (c : Fin 12) (stamp : Stamp) (at' : Nat) : State :=
  let x := s.prof[c]
  if x.recValid then s
  else
    let y := seek s.clk x
    let (p, stop) := refAt { y with kept := keepEnded s.clk y.kept } (s.pp c 0x4001 3) at'
    let applied : BitVec 32 := match axisOfChan s c with
      | some k => s.axes[k].appliedAt at'
      | none => 0
    s.modProf c (fun x => { x with
      recStamp := stamp, recPos := Channel09.whole p, recApplied := applied, recValid := true
      latchStopDue := x.latchStopDue || (stop && x.state == .moving) })

/-- LAT_EDGE (04 R119, R120): the level of LAT input `k` has stood for `stable` ticks at a sample, after an edge. The
capture is VALID at once; the position of a port that is not ABZ is completed by the strobe that brackets it (log 28). -/
def execLatEdge (dt : Nat) (k : Fin 8) (rising : Bool) (stable : Nat) (s : State) : Host.Outcome State Fault Refusal :=
  let s := advance s dt
  let w := s.p0 0x0400 (k.val + 1)
  let taken := if rising then bit w 14 else bit w 15
  let f := 5 * bits w 13 8
  let t := at25 s - f
  let stamp : Stamp := s.tb.now - BitVec.ofNat 56 (s.clk - t)
  let p := finOf 4 (bits w 1 0)
  let x := captured s p t
  let s := if stable < f then s else s.modLat k (fun l => { l with edgeAt := some s.clk })
  done (if !taken || decide (stable < f) then s
    else if s.lats[k].valid then
      let was := s.lats[k].overruns
      let (c, o) := ctrInc 8 was
      raiseIf o (raise (s.modLat k (fun l => { l with
        overruns := c, missed := some (s.clk, stamp, x.getD (posNow s p), was) })) 63 k.val) 63 k.val
    else
      let s := s.modLat k (fun l => { l with
        stamp := stamp, pos := x.getD (posNow s p), valid := true, waiting := if x.isSome then none else some t })
      forAll twelve (fun c s => if s.pp c 0x4002 1 = k.val then chanLatch s c stamp t else s) s)

/-! ### Position set (09 R254) -/

/-- A write of parameter 0x4005 is refused: REFUSED_STATE, or BAD_VALUE where μ does not agree. -/
def posSetFault (s : State) (c : Fin 12) (v : Nat) : Option (BitVec 16) :=
  if s.prof[c].state ≠ .idle then some stREFUSED
  else match axisOfChan s c with
    | some k => if v % 64 = s.axes[k].mu.toNat then none else some stBADVALUE
    | none => none

/-- POSITION_SET. -/
def posSet (s : State) (c : Fin 12) (v : Nat) : State :=
  let p := BitVec.ofNat 32 v
  let s := s.modProf c (fun x => { x with pos := unitPos p, kept := [] })
  match axisOfChan s c with
  | some k =>
    -- a microstep applied in the same access counts on from the written value (00 R11)
    s.modAxis k (fun a => { a with history := [], applied := p + (match a.stepped with
      | some (at', n) => if at' = s.clk then BitVec.ofInt 32 n else 0
      | none => 0) })
  | none => s

/-! ### Profile opcodes (23 R587) -/

/-- One record of 09 R240. -/
def recordOf (l : List Byte) : Segment :=
  let f := beNat ((l.drop 12).take 2)
  { duration := beNat (l.take 4), endPos := BitVec.ofNat 32 (beNat ((l.drop 4).take 4))
    endVel := signed 32 (beNat ((l.drop 8).take 4)), rel := bit f 0, latchStop := bit f 1 }

def recordsGo : Nat → List Byte → List Segment
  | 0, _ => []
  | k + 1, l => if l.length < 16 then [] else recordOf l :: recordsGo k (l.drop 16)

/-- Where a channel stands once the groups already sealed have been taken: position and velocity, whether the position is
known yet, and the queue fill, the running segment included. A blend taken while MOVING replaces what runs, from a place
known only then (09 R243, R247). -/
structure Sealed where
  pos : BitVec 64
  vel : Int
  known : Bool
  fill : Nat
  deriving DecidableEq, Repr

def Sealed.add (x : Sealed) (g : Segment) : Sealed := {
  pos := g.target x.pos, vel := g.endVel * 65536, known := x.known || !g.rel, fill := x.fill + 1 }

def sealedEnd (s : State) (c : Fin 12) : Sealed :=
  let x := s.prof[c]
  let e := queueEnd x
  let start : Sealed := { pos := e.1, vel := e.2, known := true, fill := x.queue.length + (if x.seg.isSome then 1 else 0) }
  x.reqs.foldl (fun (y : Sealed) r => match r.1 with
    | .append l => l.foldl Sealed.add y
    | .blend l => l.foldl Sealed.add (if y.fill = 0 then y else { y with known := false, fill := 0 })
    | _ => y) start

/-- PROFILE_APPEND and PROFILE_BLEND up to their seal. -/
def sealSegs (s : State) (c : Cmd) (blend : Bool) : State :=
  let n := c.data.length
  let ch := c.chan
  if n = 0 ∨ 1024 < n ∨ n % 16 ≠ 0 then reply s c stBADPARAM (elemHeader 0 0)
  else if consumerCode s ch = 0xFF ∨ s.prof[ch].state = .off ∨ s.prof[ch].state = .stopping then reply s c stREFUSED []
  else
    let segs := recordsGo 64 c.data
    let z := sealedEnd s ch
    let vm := chanVmax s ch
    let am := s.pp ch 0x4001 2
    let asBlend := blend && decide (z.fill ≠ 0)
    let bad : Option (Nat × Nat) :=
      if asBlend then
        match segs with
        | [] => none
        | g :: rest => segsFault vm am 1 (g.target z.pos) (g.endVel * 65536) (!g.rel) rest
      else segsFault vm am 0 z.pos z.vel z.known segs
    match bad with
    | some f => reply s c stBADVALUE (elemHeader f.1 f.2)
    | none =>
      if !asBlend && decide (64 < z.fill + segs.length) then reply s c stREFUSED []
      else
        let s := waitCommit s c
        s.modProf ch (fun x => { x with reqs := x.reqs ++ [(if blend then .blend segs else .append segs, some c.id)] })

def execProfileAppend (tr : Transport) (tag : BitVec 16) (s : State) : Host.Outcome State Fault Refusal :=
  done (onCmd s tr tag 0x0300 fun s c => sealSegs s c false)

def execProfileBlend (tr : Transport) (tag : BitVec 16) (s : State) : Host.Outcome State Fault Refusal :=
  done (onCmd s tr tag 0x0301 fun s c => sealSegs s c true)

/-- A stop request for a channel (09 R249): it waits for the channel's commit point; a channel without one answers at once. -/
def chanStopReq (s : State) (c : Cmd) (ch : Option (Fin 12)) (r : ChanReq) : State :=
  match ch with
  | none => reply s c stOK []
  | some k =>
    if consumerCode s k = 0xFF then reply s c stOK []
    else (waitCommit s c).modProf k (fun x => { x with reqs := x.reqs ++ [(r, some c.id)] })

def execProfileStop (tr : Transport) (tag : BitVec 16) (s : State) : Host.Outcome State Fault Refusal :=
  done (onCmd s tr tag 0x0302 fun s c => needLen s c 0 fun s => chanStopReq s c (some c.chan) .stop)

def execProfileFaultStop (tr : Transport) (tag : BitVec 16) (s : State) : Host.Outcome State Fault Refusal :=
  done (onCmd s tr tag 0x0303 fun s c => needLen s c 0 fun s => chanStopReq s c (some c.chan) .faultStop)

def execAxisStop (tr : Transport) (tag : BitVec 16) (s : State) : Host.Outcome State Fault Refusal :=
  done (onCmd s tr tag 0x0402 fun s c => needLen s c 0 fun s => chanStopReq s c (axisChan s c.axis) .stop)

def ChanState.code : ChanState → Nat
  | .idle => 0 | .moving => 1 | .stopping => 2 | .off => 3

/-- Queue fill, the running segment included (09 R243). -/
def Channel09.fill (x : Channel09) : Nat := x.queue.length + (if x.seg.isSome then 1 else 0)
/-- Reference velocity in whole units per second. -/
def Channel09.speedUnits (x : Channel09) : Int := neigh x.vel 65536

/-- PROFILE_STATUS: the values of parameter 0x4003. -/
def execProfileStatus (tr : Transport) (tag : BitVec 16) (s : State) : Host.Outcome State Fault Refusal :=
  done (onCmd s tr tag 0x0304 fun s c => needLen s c 0 fun s =>
    let x := s.prof[c.chan]
    reply s c stOK (beBytes 1 x.state.code ++ beBytes 1 x.fill ++ beBytes 4 (Channel09.whole x.pos).toNat
      ++ beBytes 4 (lowBits 32 x.speedUnits) ++ beBytes 4 x.segmentsDone.toNat))

end Sys2Proof.Machine
end

