-- ==== Sys2Proof/Machine/AuxCode.lean ====
section
/-! DEFINITION. The frames of the auxiliary command link as bits (spec file 11_aux_drive R292 to R295). The spec gives
what the frames carry and their sizes and no bit places: the places and what the CRC covers are the model's own (DESIGN
CHOICE, log 84). -/
namespace Sys2Proof.Machine

def AxisState.code : AxisState → Nat
  | .disabled => 0 | .driven => 1 | .off => 2 | .short => 3

def axisStateOf (n : Nat) : AxisState :=
  if n % 4 = 0 then .disabled else if n % 4 = 1 then .driven else if n % 4 = 2 then .off else .short

/-- Fields of given widths packed one below the other from the top bit of 80; fields that pass the end are cut. -/
def pack80 (l : List (Nat × Nat)) : BitVec 80 :=
  let r := l.foldl (fun (a : Nat × Nat) x => (a.1 * 2 ^ x.1 + x.2 % 2 ^ x.1, a.2 + x.1)) (0, 0)
  BitVec.ofNat 80 (r.1 * 2 ^ (80 - r.2))

/-- The fields of given widths read back from the top bit of 80. -/
def unpack80 (d : BitVec 80) : Nat → List Nat → List Nat
  | _, [] => []
  | top, w :: ws => d.toNat / 2 ^ (top - w) % 2 ^ w :: unpack80 d (top - w) ws

/-- The die's count of 25 ns units, locked to TB and aligned at every slot boundary, modulo 2^16 (11 R292). -/
def dieUnits (s : State) : Nat := s.tb.now.toNat / 5 % 65536

/-- An apply tick in 25 ns units modulo 2^16, and the tick nearest to now that such a field names (11 R292). -/
def applyUnits (s : State) (t : Nat) : Nat := lowBits 16 (stampOf s t / 5)
def applyTick (s : State) (u : Nat) : Nat := ((at25 s : Int) + 5 * signed 16 (65536 + u - dieUnits s)).toNat

/-- Widths of the twelve settings of an axis: the nine of 0x5010, t_off, f, coil B reversed (11 R295, R316). -/
def settingWidths : List Nat := [4, 4, 5, 5, 2, 8, 4, 1, 20, 6, 4, 1]

/-- Data bits of a downlink frame: IDLE, STEP with axis, direction and apply time, or SET (11 R292, R295). -/
def downData (s : State) : Option AuxItem → BitVec 80
  | none => 0
  | some (.step k forward t) => pack80 [(2, 1), (3, k.val), (1, flag forward 0), (16, applyUnits s t)]
  | some (.reference k i t) => pack80 [(2, 2), (3, 0), (3, k.val), (8, i), (16, applyUnits s t)]
  | some (.legMode k md t) => pack80 [(2, 2), (3, 1), (3, k.val), (2, md.code), (16, applyUnits s t)]
  | some (.setting k l) => pack80 ([(2, 2), (3, 2), (3, k.val)] ++ settingWidths.zip l)
  | some (.hysteresis h t) => pack80 [(2, 2), (3, 3), (16, h), (16, t)]

/-- What the die reads from the data bits of a downlink frame; none for IDLE. -/
def downItem (s : State) (d : BitVec 80) : Option AuxItem :=
  let f (l : List Nat) (i : Nat) : Nat := (unpack80 d 80 l).getD i 0
  let kind := f [2] 0
  let sub := f [2, 3] 1
  let axis := finOf 6 (f [2, 3, 3] 2)
  if kind = 1 then some (.step (finOf 6 sub) (f [2, 3, 1] 2 == 1) (applyTick s (f [2, 3, 1, 16] 3)))
  else if kind ≠ 2 then none
  else if sub = 0 then some (.reference axis (f [2, 3, 3, 8] 3) (applyTick s (f [2, 3, 3, 8, 16] 4)))
  else if sub = 1 then some (.legMode axis (axisStateOf (f [2, 3, 3, 2] 3)) (applyTick s (f [2, 3, 3, 2, 16] 4)))
  else if sub = 2 then some (.setting axis ((unpack80 d 80 ([2, 3, 3] ++ settingWidths)).drop 3))
  else if sub = 3 then some (.hysteresis (f [2, 3, 16] 2) (f [2, 3, 16, 16] 3))
  else none

/-- Data bits of an uplink frame: FAULT with the report, or STATUS, whose content the spec does not give (free); the last
good downlink sequence number is echoed in both (11 R292, R293). -/
def upData (s : State) (r : Option AuxReport) (echo : Option (BitVec 4)) : BitVec 80 :=
  let e : List (Nat × Nat) := [(1, flag echo.isSome 0), (4, (echo.getD 0).toNat)]
  match r with
  | some r => pack80 ([(1, 1)] ++ e ++ [(4, match r.leg with | some l => l.val | none => 15), (3, r.axis.val), (3, r.kind.val)
      , (1, flag r.coincident 0)])
  | none => pack80 ([(1, 0)] ++ e ++ [(74, Config.outside 44 [s.clk])])

/-- The report and the echo of an uplink frame. -/
def upReport (d : BitVec 80) : Option AuxReport :=
  let f (i : Nat) : Nat := (unpack80 d 80 [1, 1, 4, 4, 3, 3, 1]).getD i 0
  if f 0 = 1 then
    some { leg := if f 3 < 12 then some (finOf 12 (f 3)) else none, axis := finOf 6 (f 4), kind := finOf 8 (f 5), coincident := f 6 == 1 }
  else none
def upEchoOf (d : BitVec 80) : Option (BitVec 4) :=
  let l := unpack80 d 80 [1, 1, 4]
  if l.getD 1 0 = 1 then some (BitVec.ofNat 4 (l.getD 2 0)) else none

/-- The CRC-8 of a frame, over its data bytes and its sequence number. -/
def auxCrc (data : BitVec 80) (seq : BitVec 4) : BitVec 8 := linkCrc (beBytes 10 data.toNat ++ [seq.setWidth 8])

def auxFrame (data : BitVec 80) (seq : BitVec 4) : AuxFrame := { data := data, seq := seq, crc := auxCrc data seq }

/-- A frame as it arrives with line errors `flip` over its 92 bits; none where it is missing or its CRC fails (11 R294). -/
def auxReceived (line : Option AuxFrame) (flip : Option (BitVec 92)) : Option AuxFrame :=
  match line, flip with
  | some x, some e =>
    let w : BitVec 92 := (x.data ++ x.seq ++ x.crc) ^^^ e
    let y : AuxFrame := { data := (w >>> 12).setWidth 80, seq := (w >>> 8).setWidth 4, crc := w.setWidth 8 }
    if y.crc = auxCrc y.data y.seq then some y else none
  | _, _ => none

end Sys2Proof.Machine
end

