-- ==== Sys2Proof/Machine/AuxFam.lean ====
section
/-! DEFINITION. The auxiliary axes, their command link and the drive die (spec files 09_profiles_aux_axes R255 to R261,
11_aux_drive R288 to R316). -/
namespace Sys2Proof.Machine

/-! ### Coil references (09 R256, 11 R305) -/

def axisOfLeg (l : Fin 12) : Fin 6 := finOf 6 (l.val / 2)
def legOf (k : Fin 6) (b : Bool) : Fin 12 := finOf 12 (2 * k.val + (if b then 1 else 0))
def otherLeg (l : Fin 12) : Fin 12 := legOf (axisOfLeg l) (l.val % 2 = 0)

/-- S(r) of 09 R256. -/
def microS (r : Nat) : Int :=
  ([0, 25, 50, 74, 98, 120, 142, 162, 180, 197, 212, 225, 236, 244, 250, 254, 255] : List Int).getD r 0

/-- Signed S of coils A and B for a microstep index. -/
def coilS (mu : Nat) : Int × Int :=
  let q := mu / 16
  let r := mu % 16
  if q = 0 then (microS (16 - r), microS r)
  else if q = 1 then (-microS r, microS (16 - r))
  else if q = 2 then (-microS (16 - r), -microS r)
  else (microS r, -microS (16 - r))

/-- Settings of an axis as sent to the die: the nine of 0x5010, t_off, f, coil B reversed (11 R295). -/
def axisSettings (s : State) (k : Fin 6) : List Nat :=
  (List.range 9).map (fun i => s.pa k 0x5010 (i + 1)) ++ [s.pa k 0x5001 3, s.pa k 0x5001 4, s.pa k 0x5001 7]

/-- A setting as the die holds it; before any SET frame, its default. -/
def dieSet (s : State) (k : Fin 6) (i : Nat) : Nat :=
  (s.axes[k].dieSet)[i]?.getD (([6, 6, 4, 4, 1, 200, 2, 1, 15000, 20, 4, 0] : List Nat).getD i 0)

/-- The signed reference of a leg for the present μ and set current, in 1/256 of I_fs. -/
def legRef (s : State) (l : Fin 12) : Int :=
  let k := axisOfLeg l
  let (a, b) := coilS s.axes[k].mu.toNat
  let x := if l.val % 2 = 0 then a else if dieSet s k 11 = 1 then -b else b
  nearestAway (x * s.axes[k].iSet) 255

/-! ### Switches of a leg (11 R297, R303, R307, R309) -/

/-- A leg is told which switch to have on; the one that is on otherwise begins to turn off now. -/
def wantSw (s : State) (l : Fin 12) (w : LegSw) : State :=
  s.modLeg l (fun g =>
    if g.sw = w then { g with wanted := w, waiting := false }
    else
      { g with
        wanted := w, sw := .bothOff, waiting := decide (w ≠ .bothOff)
        turnOffAt := if g.sw = .bothOff then g.turnOffAt else s.clk })

/-- The polarity of a reference as a switch. -/
def polarity (r : Int) : LegSw := if 0 < r then .highOn else if r < 0 then .lowOn else .bothOff

/-- A phase of the chopper begins (09 R258); a leg with reference 0 keeps both switches off (R259). -/
def beginPhase (s : State) (l : Fin 12) (p : Phase) : State :=
  let g := s.legs[l]
  let p := if g.ref = 0 then Phase.none' else p
  let w : LegSw := match p with
    | .on => polarity g.ref
    | .fast => polarity (-g.ref)
    | _ => .bothOff
  wantSw (s.modLeg l (fun g => { g with phase := p, phaseAt := s.clk })) l w

/-- The leg may be driven: not latched, no trip sequence and no lost link (11 R294, R303, R308). -/
def legFree (s : State) (l : Fin 12) : Bool :=
  let g := s.legs[l]
  !g.latched && !g.softOff && g.boot == .none' && !s.auxLink.linkLost && s.axes[axisOfLeg l].state == .driven

/-- A new reference reaches a leg (09 R258 item 3, 11 R304). -/
def takeRef (s : State) (l : Fin 12) : State :=
  let r := legRef s l
  let g := s.legs[l]
  if r = g.ref ∧ g.refHeld = none then s
  else
    let early := (g.phase == .fast || g.phase == .slow) && decide (s.clk < g.phaseAt + usTicks 1)
    if g.boot = .softOff ∨ g.boot = .refresh ∨ early = true then s.modLeg l (fun g => { g with refHeld := some r })
    else
      let s := s.modLeg l (fun g => { g with ref := r, refHeld := none })
      if legFree s l then beginPhase s l .on else s

/-- A held reference change that may now be applied. -/
def releaseRef (s : State) (l : Fin 12) : State :=
  let g := s.legs[l]
  match g.refHeld with
  | none => s
  | some r =>
    if (g.phase == .fast || g.phase == .slow) && decide (s.clk < g.phaseAt + usTicks 1) || g.boot != .none' then s
    else
      let s := s.modLeg l (fun g => { g with ref := r, refHeld := none })
      if legFree s l then beginPhase s l .on else s

/-- A leg joins the soft turn-off sequence of its axis (11 R307, R309). -/
def joinSoft (s : State) (l : Fin 12) : State :=
  let k := axisOfLeg l
  let s := wantSw s l .bothOff
  let s := s.modLeg l (fun g => { g with softOff := true, phase := .none', phaseAt := s.clk })
  s.modAxis k (fun a => { a with
    softLegs := if a.softLegs.any (fun x => x.1 == l) then a.softLegs else a.softLegs ++ [(l, s.clk)], fullSink := false })

/-- A leg is turned off by the normal path. -/
def normalOff (s : State) (l : Fin 12) : State :=
  (wantSw s l .bothOff).modLeg l (fun g => { g with phase := .none', phaseAt := s.clk })

/-- A report of the die waits for a FAULT frame (11 R292). -/
def report (s : State) (leg : Option (Fin 12)) (k : Fin 6) (kind : Fin 8) (co : Bool) : State :=
  s.modAux (fun a => { a with reports := a.reports ++ [{ leg := leg, axis := k, kind := kind, coincident := co, foundAt := s.clk }] })

/-- A protection of the die disables an axis: an enable in progress ends with the source it will raise. -/
def dieDisables (s : State) (k : Fin 6) (src cause : Nat) : State :=
  let s := disableAxis (axisEnableFails s k src cause) k
  s.modAxis k (fun a => { a with state := .disabled })

/-- The minimum dead time of an axis in ticks with the offset of the die's band (11 R297, 18 R486). -/
def deadTime (s : State) (k : Fin 6) : Nat :=
  let off : Nat := match s.thermal.sensors[(11 : Fin 44)].band with
    | 0 => 20 | 1 => 10 | 4 => 10 | 5 => 20 | _ => 0
  Nat.min 160 (10 * dieSet s k 2 + off)

/-- AUX_SWITCH_ON (11 R297): the other gate is sensed off and the dead time has passed. -/
def execAuxSwitchOn (dt : Nat) (l : Fin 12) (s : State) : Host.Outcome State Fault Refusal :=
  let s := advance s dt
  let g := s.legs[l]
  done (if g.waiting ∧ g.wanted ≠ .bothOff ∧ g.latched = false ∧ g.softOff = false ∧ g.lowOk = true
      ∧ (g.wanted = .lowOn ∨ g.bootOk = true) ∧ elapsed s g.turnOffAt (deadTime s (axisOfLeg l)) = true then
      s.modLeg l (fun g => { g with
        sw := g.wanted, waiting := false, blankAt := s.clk, refresh := g.refresh || g.boot == .refresh })
    else s)

/-- AUX_HANDSHAKE_TIMEOUT (11 R298). -/
def execAuxHandshakeTimeout (dt : Nat) (l : Fin 12) (s : State) : Host.Outcome State Fault Refusal :=
  let s := advance s dt
  let g := s.legs[l]
  done (if g.waiting ∧ elapsed s g.turnOffAt (usTicks 2) = true then
      let s := joinSoft s l
      let s := s.modLeg l (fun g => { g with hsFault := true, latched := true, boot := .none' })
      let s := normalOff s (otherLeg l)
      report (dieDisables s (axisOfLeg l) 152 0) (some l) (axisOfLeg l) 6 false
    else s)

/-- Both switches of a leg off on a low-side UVLO (11 R300). -/
def lowUvlo (s : State) (l : Fin 12) : State :=
  (normalOff s l).modLeg l (fun g => { g with uvLow := true, latched := true, lowOk := false, boot := .none' })

/-- AUX_LOW_UVLO (11 R300): the supply of one leg, or VAUX_GATE at every leg, falls below 8.0 V. -/
def execAuxLowUvlo (dt : Nat) (leg : Option (Fin 12)) (s : State) : Host.Outcome State Fault Refusal :=
  let s := advance s dt
  done (match leg with
    | some l =>
      if s.legs[l].lowOk then
        let s := normalOff (lowUvlo s l) (otherLeg l)
        report (dieDisables s (axisOfLeg l) 151 0) (some l) (axisOfLeg l) 5 false
      else s
    | none =>
      if twelve.all (fun l => !s.legs[l].lowOk) then s
      else
        let s := forAll twelve (fun l s => lowUvlo s l) s
        report (forAll six (fun k s => dieDisables s k 151 0) s) none 0 7 false)

/-- LOW_SIDE_UVLO_RISE (11 R299). -/
def execLowSideUvloRise (dt : Nat) (l : Fin 12) (s : State) : Host.Outcome State Fault Refusal :=
  done ((advance s dt).modLeg l (fun g => { g with lowOk := true }))

/-- AUX_BOOT_UVLO (11 R303, R304). -/
def execAuxBootUvlo (dt : Nat) (l : Fin 12) (s : State) : Host.Outcome State Fault Refusal :=
  let s := advance s dt
  let g := s.legs[l]
  done (if !g.bootOk then s
    else
      let s := s.modLeg l (fun g => { g with bootOk := false, uvBoot := true })
      let s := if g.sw = .highOn then
          (joinSoft s l).modLeg l (fun g => { g with boot := .softOff, bootAt := s.clk })
        else s
      report s (some l) (axisOfLeg l) 2 false)

/-- A leg whose bootstrap trip has ended returns to its commanded state (11 R303 step 4). -/
def bootReturn (s : State) (l : Fin 12) : State :=
  let s := s.modLeg l (fun g => { g with boot := .none', ref := g.refHeld.getD g.ref, refHeld := none })
  if legFree s l then beginPhase s l .on else s

/-- AUX_REFRESH_END (11 R303): the low side has been on for 2 µs. -/
def execAuxRefreshEnd (dt : Nat) (l : Fin 12) (s : State) : Host.Outcome State Fault Refusal :=
  let s := advance s dt
  let g := s.legs[l]
  done (if g.boot = .refresh ∧ g.sw = .lowOn ∧ elapsed s g.blankAt (usTicks 2) = true then
      let s := (wantSw s l .bothOff).modLeg l (fun g => { g with boot := .wait })
      if s.legs[l].bootOk then bootReturn s l else s
    else s)

/-- The enable of an axis completes (11 R302): its channel comes to IDLE at the applied count. -/
def axisEnabled (s : State) (k : Fin 6) : State :=
  match s.axes[k].enabling with
  | none => s
  | some e =>
    if s.legs[legOf k false].bootOk && s.legs[legOf k true].bootOk then
      let s := s.modAxis k (fun a => { a with enabled := true, enabling := none, fresh := true, idleAt := none, standstill := false })
      let s := match axisChan s k with
        | some c => chanOn s c s.axes[k].applied
        | none => s
      complete s e.2 stOK []
    else s

/-- AUX_BOOT_RECOVERED (11 R302, R303): the bootstrap of a leg is at or above 8.3 V. -/
def execAuxBootRecovered (dt : Nat) (l : Fin 12) (s : State) : Host.Outcome State Fault Refusal :=
  let s := (advance s dt).modLeg l (fun g => { g with bootOk := true })
  let s := if s.legs[l].boot = .wait then bootReturn s l else s
  done (axisEnabled s (axisOfLeg l))

/-- AUX_BOOT_RECOVERY_TIMEOUT (11 R302, R303). -/
def execAuxBootRecoveryTimeout (dt : Nat) (l : Fin 12) (s : State) : Host.Outcome State Fault Refusal :=
  let s := advance s dt
  let k := axisOfLeg l
  let g := s.legs[l]
  done (match s.axes[k].enabling with
    | some e =>
      if !g.bootOk && elapsed s e.1 (msTicks 20) then
        raise (axisEnableFails s k 150 2) 150 (l.val + 32)
      else s
    | none =>
      if g.boot ≠ .none' ∧ g.bootOk = false ∧ elapsed s g.bootAt (msTicks 1) = true then
        let s := normalOff (normalOff s l) (otherLeg l)
        let s := s.modLeg l (fun g => { g with boot := .none' })
        report (dieDisables s k 150 1) (some l) k 3 false
      else s)

/-- A trip report goes behind the earlier ones; within 25 ns the lower leg comes first (11 R310). -/
def putTrip (l : List AuxReport) (r : AuxReport) : List AuxReport :=
  let after (q : AuxReport) : Bool :=
    (q.kind == 0 || q.kind == 1) && decide (r.foundAt ≤ q.foundAt + 5) && decide ((r.leg.map Fin.val).getD 15 < (q.leg.map Fin.val).getD 15)
  let back := l.reverse.takeWhile after
  l.take (l.length - back.length) ++ [r] ++ back.reverse

/-- The report of the first of two coincident trips says so too, where it has not been sent (11 R310). -/
def markCoincident (l : List AuxReport) (first : Nat × Fin 12) : List AuxReport :=
  l.map (fun q => if q.leg = some first.2 ∧ q.foundAt = first.1 then { q with coincident := true } else q)

/-- Whether a comparator of leg l trips: the leg carries current, or its coil is in a soft off it has not joined, its
blanking has ended and no trip is latched (11 R306). -/
def legTrips (s : State) (l : Fin 12) (hard : Bool) : Bool :=
  let k := axisOfLeg l
  let g := s.legs[l]
  let blank := if hard then 16 else 50 * dieSet s k 3
  let joined := s.axes[k].softLegs.any (fun x => x.1 == l)
  let carries := g.sw != .bothOff || (!s.axes[k].softLegs.isEmpty && !joined)
  carries && elapsed s g.blankAt blank && !g.scTrip && !g.scHard

/-- The first of the trips within 25 ns of now (log 45). -/
def nearTrip (s : State) : Option (Nat × Fin 12) := s.auxLink.burst.filter (fun b => decide (s.clk ≤ b.1 + 5))

/-- The tripped leg joins the soft off and latches; its coil's other leg goes off unless it has joined. -/
def latchTrip (s : State) (l : Fin 12) (hard : Bool) (first : Option (Nat × Fin 12)) : State :=
  let s := (joinSoft s l).modLeg l (fun g => { g with
    scTrip := g.scTrip || !hard, scHard := g.scHard || hard, latched := true, boot := .none', coincident := first.isSome })
  let s := match first with
    | some b => (s.modLeg b.2 (fun g => { g with coincident := true })).modAux (fun a => { a with
        reports := markCoincident a.reports b })
    | none => s.modAux (fun a => { a with burst := some (s.clk, l) })
  if s.axes[axisOfLeg l].softLegs.any (fun x => x.1 == otherLeg l) then s else normalOff s (otherLeg l)

/-- The trip record after a trip of leg l now (11 R307; log 45): its first trip, its second, and no other. -/
def tripRecord (a : AuxLink) (now : Nat) (l : Fin 12) (first : Option (Nat × Fin 12)) : AuxLink :=
  if !a.recValid then { a with
    recValid := true, recFirst := l.val, recSecond := 0xFF, recDiff := 0, recCoincident := false, recAt := now }
  else if a.recSecond = 0xFF then
    let d := Nat.min 65535 ((now - a.recAt) / 5)
    let both := decide (first = some (a.recAt, finOf 12 a.recFirst))
    if both && decide (l.val < a.recFirst) then { a with recSecond := a.recFirst, recFirst := l.val, recDiff := d, recCoincident := true }
    else { a with recSecond := l.val, recDiff := d, recCoincident := both }
  else a

/-- AUX_OVERCURRENT_TRIP (11 R306 to R310): the trip or the hard-trip comparator of a leg. -/
def execAuxOvercurrentTrip (dt : Nat) (l : Fin 12) (hard : Bool) (s : State) : Host.Outcome State Fault Refusal :=
  let s := advance s dt
  let k := axisOfLeg l
  done (if legTrips s l hard then
      let first := nearTrip s
      let s := (latchTrip s l hard first).modAux (fun a => tripRecord a s.clk l first)
      let s := s.modAux (fun a => { a with
        reports := putTrip a.reports { leg := some l, axis := k, kind := if hard then 1 else 0, coincident := first.isSome, foundAt := s.clk } })
      dieDisables s k (144 + k.val) (if hard then 1 else 0)
    else s)

/-- The end of a leg's soft off: a bootstrap trip goes on to its refresh (11 R302, R309). -/
def softOffEnds (s : State) (k : Fin 6) (l : Fin 12) : State :=
  let s := s.modLeg l (fun g => { g with softOff := false, turnOffAt := s.clk })
  if s.legs[l].boot = .softOff then
    if dieSet s k 7 = 1 then wantSw (s.modLeg l (fun g => { g with boot := .refresh })) l .lowOn
    else
      let s := s.modLeg l (fun g => { g with boot := .wait })
      if s.legs[l].bootOk then bootReturn s l else s
  else s

/-- AUX_SOFT_OFF_FULL_SINK (11 R309): every joined leg has spent t_soft in step 1. -/
def execAuxSoftOffFullSink (dt : Nat) (k : Fin 6) (s : State) : Host.Outcome State Fault Refusal :=
  let s := advance s dt
  let a := s.axes[k]
  done (if !a.softLegs.isEmpty && a.softLegs.all (fun x => elapsed s x.2 (usTicks (dieSet s k 6))) then
      a.softLegs.foldl (fun s x => softOffEnds s k x.1) (s.modAxis k (fun a => { a with softLegs := [], fullSink := true }))
    else s)

/-! ### The chopper (09 R258) -/

/-- CHOPPER_CURRENT_REACHED: the shunt comparator finds the coil current at the reference, after the blanking time. -/
def execChopperCurrentReached (dt : Nat) (l : Fin 12) (s : State) : Host.Outcome State Fault Refusal :=
  let s := advance s dt
  let g := s.legs[l]
  let k := axisOfLeg l
  done (if g.phase = .on ∧ g.sw = polarity g.ref ∧ elapsed s g.blankAt (50 * dieSet s k 3) = true ∧ legFree s l = true then
      beginPhase s l (if dieSet s k 10 = 0 then .slow else .fast)
    else s)

/-- CHOPPER_FAST_DECAY_END: f/8 of t_off have passed. -/
def execChopperFastDecayEnd (dt : Nat) (l : Fin 12) (s : State) : Host.Outcome State Fault Refusal :=
  let s := advance s dt
  let g := s.legs[l]
  let k := axisOfLeg l
  done (if g.phase = .fast ∧ dieSet s k 10 < 8 ∧ elapsed s g.phaseAt (25 * dieSet s k 9 * dieSet s k 10) = true ∧ legFree s l = true then
      -- the off phase keeps its start tick
      releaseRef ((wantSw s l .bothOff).modLeg l (fun g => { g with phase := .slow })) l
    else s)

/-- CHOPPER_OFF_EXPIRY: t_off has passed and an on phase begins; in SHORT the leg takes the other side of its 20 kHz
cycle after 25 µs (09 R260). -/
def execChopperOffExpiry (dt : Nat) (l : Fin 12) (s : State) : Host.Outcome State Fault Refusal :=
  let s := advance s dt
  let g := s.legs[l]
  let k := axisOfLeg l
  done (if (g.phase = .fast ∨ g.phase = .slow) ∧ elapsed s g.phaseAt (usTicks (dieSet s k 9)) = true ∧ legFree s l = true then
      beginPhase (s.modLeg l (fun g => { g with ref := g.refHeld.getD g.ref, refHeld := none })) l .on
    else if s.axes[k].state = .short ∧ g.latched = false ∧ g.softOff = false ∧ s.auxLink.linkLost = false ∧ g.boot = .none' ∧ elapsed s g.phaseAt (usTicks 25) = true then
      (wantSw s l (if g.wanted = .highOn then .lowOn else .highOn)).modLeg l (fun g => { g with phaseAt := s.clk })
    else s)

/-! ### Microsteps and settings at the die (09 R257, 11 R292, R295) -/

/-- Apply time and axis of an item that waits at the die. -/
def AuxItem.due : AuxItem → Option (Fin 6 × Nat)
  | .step k _ t => some (k, t)
  | .reference k _ t => some (k, t)
  | .legMode k _ t => some (k, t)
  | _ => none

/-- The first item of an axis at the die that satisfies a test, and the rest. -/
def takeItem (p : AuxItem → Bool) : List AuxItem → Option (AuxItem × List AuxItem)
  | [] => none
  | x :: xs => if p x then some (x, xs) else (takeItem p xs).map (fun r => (r.1, x :: r.2))

def dueItem (s : State) (k : Fin 6) (step : Bool) (x : AuxItem) : Bool :=
  match x.due with
  | some (j, t) => j == k && decide (t ≤ s.clk) && (match x with | .step _ _ _ => step | _ => !step)
  | none => false

/-- Both legs of an axis take their references. -/
def takeRefs (s : State) (k : Fin 6) : State := takeRef (takeRef s (legOf k false)) (legOf k true)

/-- MICROSTEP_APPLY: the die applies the next microstep of an axis that is due, and reference changes that were held
back and may now pass. -/
def execMicrostepApply (dt : Nat) (k : Fin 6) (s : State) : Host.Outcome State Fault Refusal :=
  let s := advance s dt
  let s := releaseRef (releaseRef s (legOf k false)) (legOf k true)
  done (if s.auxLink.linkLost then s
    else match takeItem (dueItem s k true) s.auxLink.dieQueue with
    | some (.step _ forward _, rest) =>
      let s := s.modAux (fun a => { a with dieQueue := rest })
      let s := s.modAxis k (fun a => { a with
        history := (a.history ++ [(s.clk, a.applied)]).drop (a.history.length - 7)
        applied := if forward then a.applied + 1 else a.applied - 1, mu := if forward then a.mu + 1 else a.mu - 1
        stepped := some (s.clk, (match a.stepped with
          | some (at', n) => if at' = s.clk then n else 0
          | none => 0) + (if forward then 1 else -1)) })
      takeRefs s k
    | _ => s)

/-- A leg mode takes effect at the die (09 R260). -/
def applyMode (s : State) (k : Fin 6) (md : AxisState) : State :=
  let s := s.modAxis k (fun a => { a with state := md })
  let each (f : State → Fin 12 → State) : State := f (f s (legOf k false)) (legOf k true)
  match md with
  | .driven => each (fun s l =>
      let s := s.modLeg l (fun g => { g with ref := legRef s l, refHeld := none })
      if legFree s l then beginPhase s l .on else s)
  | .short => each (fun s l => if s.legs[l].latched || s.legs[l].softOff then s
      else (wantSw s l .lowOn).modLeg l (fun g => { g with phase := .none', phaseAt := s.clk }))
  | _ => each normalOff

/-- AUX_SETTING_APPLY: the die applies the next reference or leg mode of an axis that is due. -/
def execAuxSettingApply (dt : Nat) (k : Fin 6) (s : State) : Host.Outcome State Fault Refusal :=
  let s := advance s dt
  done (if s.auxLink.linkLost then s
    else match takeItem (dueItem s k false) s.auxLink.dieQueue with
    | some (.reference _ i _, rest) =>
      takeRefs ((s.modAux (fun a => { a with dieQueue := rest })).modAxis k (fun a => { a with iSet := i })) k
    | some (.legMode _ md _, rest) => applyMode (s.modAux (fun a => { a with dieQueue := rest })) k md
    | _ => s)

/-! ### The command link (11 R292 to R294, R310, R314) -/

/-- AUX_LINK_SLOT: each 1 µs slot carries one frame each way; frames sent again go first. -/
def execAuxLinkSlot (dt : Nat) (s : State) : Host.Outcome State Fault Refusal :=
  let s := advance s dt
  done (if s.tb.counting ∧ s.runs = true ∧ s.tb.now.toNat % 200 = 0 ∧ s.auxLink.slotAt ≠ some s.clk then
      let a := s.auxLink
      let a := { a with slotAt := some s.clk }
      let a := match a.again, a.outbox with
        | x :: xs, _ => { a with
            again := xs, downLine := some (auxFrame x.1 x.2.1), unechoed := a.unechoed ++ [(x.1, x.2.1, s.clk, x.2.2)] }
        | [], l =>
          let d := downData s l.head?
          { a with
            outbox := l.drop 1, seq := a.seq + 1, downLine := some (auxFrame d (a.seq + 1))
            unechoed := a.unechoed ++ [(d, a.seq + 1, s.clk, 0)] }
      let up := auxFrame (upData s a.reports.head? a.lastGood) (a.upSeq + 1)
      let a := { a with upSeq := a.upSeq + 1, upLine := some (up, a.reports.head?), reports := a.reports.drop 1 }
      let s := s.modAux (fun _ => a)
      let s := match a.downLine with
        | some x => s.put (.auxDown x)
        | none => s
      s.put (.auxUp up)
    else s)

/-- The die takes an item of a good frame. -/
def dieTake (s : State) (x : AuxItem) : State :=
  match x with
  | .setting k l => s.modAxis k (fun a => { a with dieSet := l })
  | .hysteresis h t => s.modAux (fun a => { a with hyst := some (h, t) })
  | _ => s.modAux (fun a => { a with dieQueue := a.dieQueue ++ [x] })

/-- The die loses its downlink (11 R294): every switch that is on goes off by the soft sequence of its axis. A refresh in
progress ends, and the legs of an axis that was not disabled stay in the mode OFF (log 45). -/
def dieLost (s : State) : State :=
  let s := forAll twelve (fun l s => (if s.legs[l].sw = .bothOff then normalOff s l else joinSoft s l).modLeg l
    (fun g => { g with boot := .none', refHeld := none })) s
  let s := forAll six (fun k s => s.modAxis k (fun a => { a with state := if a.state = .disabled then .disabled else .off })) s
  s.modAux (fun a => { a with linkLost := true, goodDown := 0, dieQueue := [] })

/-- AUX_DOWNLINK_RECEIVE: the frame of the slot reaches the die with the line errors `flip`, or does not (none). -/
def execAuxDownlinkReceive (dt : Nat) (flip : Option (BitVec 92)) (s : State) : Host.Outcome State Fault Refusal :=
  let s := advance s dt
  let line := s.auxLink.downLine
  let s := s.modAux (fun a => { a with downLine := none })
  done (match auxReceived line flip with
    | some x =>
      let dup := s.auxLink.taken.contains x.seq
      let s := s.modAux (fun a => { a with
        badDown := 0, lastGood := some x.seq, taken := (x.seq :: a.taken).take 8
        goodDown := if s.anyAxis then 0 else Nat.min 16 (a.goodDown + 1) })
      if s.auxLink.linkLost then
        if 16 ≤ s.auxLink.goodDown then s.modAux (fun a => { a with linkLost := false }) else s
      else match downItem s x.data with
        | some y => if dup then s else dieTake s y
        | none => s
    | none =>
      let s := s.modAux (fun a => { a with badDown := Nat.min 3 (a.badDown + 1), goodDown := 0 })
      if 3 ≤ s.auxLink.badDown ∧ s.auxLink.linkLost = false then dieLost s else s)

/-- A drive counter of an axis: 0 trips, 1 and 2 bootstrap trips of coils A and B, 3 handshake faults (11 R314). -/
def driveCount (s : State) (k : Fin 6) (which : Nat) : State :=
  let a := s.axes[k]
  let (c, o) := ctrInc (if which = 3 then 8 else 16)
    (match which with | 0 => a.trips | 1 => a.bootA | 2 => a.bootB | _ => a.handshakes)
  let s := s.modAxis k (fun a => match which with
    | 0 => { a with trips := c } | 1 => { a with bootA := c } | 2 => { a with bootB := c } | _ => { a with handshakes := c })
  raiseIf o s 154 which

/-- A FAULT report raises its source (11 R310, R315). -/
def takeDieReport (s : State) (r : AuxReport) : State :=
  let leg : Nat := match r.leg with | some l => l.val | none => 15
  let addr (cause : Nat) : Nat := leg + 16 * cause + flag r.coincident 6
  match r.kind.val with
  | 0 => if s.axes[r.axis].scRaised then s
      else driveCount (raise (s.modAxis r.axis (fun a => { a with scRaised := true })) (144 + r.axis.val) (addr 0)) r.axis 0
  | 1 => if s.axes[r.axis].scRaised then s
      else driveCount (raise (s.modAxis r.axis (fun a => { a with scRaised := true })) (144 + r.axis.val) (addr 1)) r.axis 0
  | 2 => driveCount (raise s 150 (addr 0)) r.axis (1 + leg % 2)
  | 3 => raise s 150 (addr 1)
  | 4 => raise s 150 (addr 2)
  | 6 => driveCount (raise s 152 (addr 0)) r.axis 3
  | _ => raise s 151 (addr 0)

/-- AUX_UPLINK_RECEIVE: the frame of the slot reaches the control die with the line errors `flip`, or does not (none). -/
def execAuxUplinkReceive (dt : Nat) (flip : Option (BitVec 92)) (s : State) : Host.Outcome State Fault Refusal :=
  let s := advance s dt
  let line := s.auxLink.upLine
  let s := s.modAux (fun a => { a with upLine := none })
  done (match auxReceived (line.map (fun x => x.1)) flip with
    | some x =>
      let other (q : BitVec 4) : Bool := match upEchoOf x.data with | some e => q != e | none => true
      let s := s.modAux (fun a => { a with
        badUp := 0
        unechoed := a.unechoed.filter (fun y => other y.2.1)
        again := a.again.filter (fun y => other y.2.1) })
      match upReport x.data with
      | some r => takeDieReport s r
      | none => s
    | none =>
      -- a report on a lost frame is kept for the next one (log 45)
      let s := s.modAux (fun a => { a with
        badUp := a.badUp + 1
        reports := match line with | some (_, some r) => r :: a.reports | _ => a.reports })
      if s.auxLink.badUp = 3 then
        let (c, o) := ctrInc 16 s.auxLink.errors
        let s := raise (s.modAux (fun a => { a with errors := c })) 153 0
        let s := raiseIf o s 154 4
        forAll six (fun k s => disableAxis (axisEnableFails s k 153 0) k) s
      else s)

/-- AUX_RESEND_TIMEOUT (11 R293): frames not echoed within 2 slots go again, up to 3 times. -/
def execAuxResendTimeout (dt : Nat) (s : State) : Host.Outcome State Fault Refusal :=
  let s := advance s dt
  let old := s.auxLink.unechoed.filter (fun x => elapsed s x.2.2.1 (usTicks 2))
  done (s.modAux (fun a => { a with
    unechoed := a.unechoed.filter (fun x => !elapsed s x.2.2.1 (usTicks 2))
    again := a.again ++ (old.filter (fun x => decide (x.2.2.2 < 3))).map (fun x => (x.1, x.2.1, x.2.2.2 + 1)) }))

/-! ### The axis grid (09 R239, R257, R260) -/

/-- Microsteps of the interval from t_g to t_g + 10 µs (09 R257): the floor of the position crosses whole units at
instants of the linear interpolation, rounded to 25 ns; each is applied 20 µs after its instant. -/
def stepsOf (k : Fin 6) (clk : Nat) (p q : BitVec 64) : List AuxItem :=
  let d := posDiff q p
  let f : Int := (p.toNat : Int) % 2 ^ 32
  let item (up : Bool) (n d : Int) : AuxItem := .step k up (clk + (nearest n d).toNat * 5 + 4000)
  (List.range 8).filterMap (fun (j : Nat) =>
    let u : Int := if 0 < d then 2 ^ 32 * ((j : Int) + 1) else -(2 ^ 32 * (j : Int))
    if 0 < d ∧ u ≤ f + d then some (item true (400 * (u - f)) d)
    else if d < 0 ∧ f + d < u then some (item false (400 * (f - u)) (-d))
    else none)

/-- The standstill action SHORT is taken as OFF (18 R484). -/
def shortAsOff (s : State) : Bool := decide (1 ≤ s.thermal.sensors[(11 : Fin 44)].level)

/-- What an axis does at a commit point of the axis grid; `late` is an evaluation that was not complete in time. -/
def axisCommit (s : State) (k : Fin 6) (late : Bool) : State :=
  let s := match s.axes[k].disableReq with
    | none => s
    | some w => replyAt (disableAxis (s.modAxis k (fun a => { a with disableReq := none })) k) w stOK []
  match axisChan s k with
  | none => s
  | some c =>
    let was := s.prof[c].state
    let p := s.prof[c].pos
    let s := chanCommit s c 2000
    let now := s.prof[c].state
    if !s.axes[k].enabled then s
    else
      let send (s : State) (l : List AuxItem) : State := s.modAux (fun a => { a with outbox := a.outbox ++ l })
      let at' := s.clk + 4000
      let s :=
        if now = .idle ∧ (was ≠ .idle ∨ s.axes[k].fresh = true) then
          let set := (s.pa k 0x5001 2, s.pa k 0x5001 5, s.pa k 0x5001 6)
          let fresh := s.axes[k].fresh
          let s := s.modAxis k (fun a => { a with idleSet := set, idleAt := some s.clk, standstill := false, fresh := false })
          send s (AuxItem.reference k set.1 at' :: (if fresh then [AuxItem.legMode k .driven at'] else []))
        else s
      let s :=
        if (now = .moving ∨ now = .stopping) ∧ (was = .idle ∨ s.axes[k].fresh = true) then
          let ax := s.axes[k]
          let wake := ax.fresh || (ax.standstill && decide (ax.idleSet.2.2 ≠ 0))
          let s := s.modAxis k (fun a => { a with idleAt := none, standstill := false, modeDue := none, fresh := false })
          send s (AuxItem.reference k (s.pa k 0x5001 1) at' :: (if wake then [AuxItem.legMode k .driven at'] else []))
        else s
      let s := match s.axes[k].modeDue with
        | some md => send (s.modAxis k (fun a => { a with modeDue := none })) [AuxItem.legMode k md at']
        | none => s
      let fresh := stepsOf k s.clk p s.prof[c].pos
      let held := s.axes[k].heldSteps
      if late then profMiss (s.modAxis k (fun a => { a with heldSteps := a.heldSteps ++ fresh })) c
      else send (s.modAxis k (fun a => { a with heldSteps := [] })) (held ++ fresh)

/-- AXIS_GRID_TICK: every 2,000 ticks; bit k of `late` is an axis whose evaluation took more than 2 µs (09 R239). -/
def execAxisGridTick (dt : Nat) (late : BitVec 6) (s : State) : Host.Outcome State Fault Refusal :=
  let s := advance s dt
  done (if s.tb.counting ∧ s.runs = true ∧ s.tb.now.toNat % 2000 = 0 ∧ s.tb.lastGrid ≠ some s.clk then
      forAll six (fun k s => axisCommit s k (late.getLsbD k.val)) (s.modTb (fun t => { t with lastGrid := some s.clk }))
    else s)

/-- STANDSTILL_IDLE_EXPIRY (09 R260): t_idle has run out since the axis entered IDLE. -/
def execStandstillIdleExpiry (dt : Nat) (k : Fin 6) (s : State) : Host.Outcome State Fault Refusal :=
  let s := advance s dt
  let a := s.axes[k]
  done (if a.enabled ∧ a.standstill = false ∧ elapsedO s a.idleAt (msTicks a.idleSet.2.1) = true then
      let s := s.modAxis k (fun a => { a with standstill := true })
      let md : Option AxisState := match a.idleSet.2.2 with
        | 1 => some .off
        | 2 => if shortAsOff s then some .off else some .short
        | _ => none
      -- sent at a commit point of the axis grid (11 R295): this one, or the next
      match md with
      | some md =>
        if s.tb.lastGrid = some s.clk then s.modAux (fun l => { l with outbox := l.outbox ++ [.legMode k md (s.clk + 4000)] })
        else s.modAxis k (fun a => { a with modeDue := some md })
      | none => s
    else s)

/-! ### Axis opcodes (23 R587) -/

/-- What the start of the module and its Hearths, the faults and the temperatures forbid (02 R56, R59; 16 R441; 17 R457;
18 R485). `m` is the machine, none for an axis. -/
def enableForbidden (s : State) (m : Option (Fin 4)) : Bool :=
  let split (h : Fin 4) : Bool := s.hearths[h].mode == .split
  let hot (t : Fin 44) : Bool := s.thermal.sensors[t].trip
  let die : Bool := (List.range 11).any (fun t => hot (finOf 44 t))
  !s.up || s.start.needStore || split 1 || split 3 || (holdSource s m).isSome || die ||
  (match m with
   | some k => s.start.forbidMachine[k] || four.any (fun i => s.start.forbidStove[i] && bit (s.ps i 0x3001 1) k.val) || s.start.forbidAnalog[k] || split 2 ||
       (List.range 32).any (fun j => hot (finOf 44 (12 + j)) && bit (s.p0 (0x9400 + 12 + j) 7) k.val)
   | none => s.start.forbidAxes || hot 11)

/-- Reply of a refused enable: the source and cause of the check, or 0xFF and 0 (23 R583). -/
def refuseEnable (s : State) (c : Cmd) (src : Option (Nat × Nat)) : State :=
  match src with
  | some (n, a) => reply s c stREFUSED [BitVec.ofNat 8 n, BitVec.ofNat 8 a]
  | none => reply s c stREFUSED [0xFF, 0]

/-- A leg as AXIS_ENABLE leaves it: its latches and records cleared, both switches off (11 R311). -/
def clearedLeg (g : Leg) : Leg := { g with
  latched := false, scTrip := false, scHard := false, uvLow := false, uvBoot := false, hsFault := false
  coincident := false, refresh := false, boot := .none', softOff := false, wanted := .bothOff, waiting := false }

/-- AXIS_ENABLE (11 R302, R311). -/
def execAxisEnable (tr : Transport) (tag : BitVec 16) (s : State) : Host.Outcome State Fault Refusal :=
  done (onCmd s tr tag 0x0400 fun s c =>
    let k := c.axis
    let a := legOf k false
    let b := legOf k true
    if enableForbidden s none || s.axes[k].enabled || s.axes[k].enabling.isSome || (axisChan s k).isNone
        || s.auxLink.linkLost || !s.legs[a].lowOk || !s.legs[b].lowOk then refuseEnable s c none
    else needLen s c 0 fun s =>
      let s := accept ((s.modLeg a clearedLeg).modLeg b clearedLeg) c
      let s := s.modAxis k (fun x => { x with enabling := some (s.clk, some c.id), scRaised := false, softLegs := [], fullSink := false })
      let hy : List AuxItem := if s.auxLink.hyst.isNone then [.hysteresis (s.p0 0x94F0 1) (s.p0 0x94F0 2)] else []
      let s := s.modAux (fun l => { l with outbox := l.outbox ++ hy ++ [.setting k (axisSettings s k)] })
      axisEnabled s k)

/-- AXIS_DISABLE: at the next commit point of the axis grid. -/
def execAxisDisable (tr : Transport) (tag : BitVec 16) (s : State) : Host.Outcome State Fault Refusal :=
  done (onCmd s tr tag 0x0401 fun s c => needLen s c 0 fun s =>
    let k := c.axis
    -- an earlier request of another command is answered with this one
    let s := match s.axes[k].disableReq with
      | some w => replyAt s w stOK []
      | none => s
    (waitCommit s c).modAxis k (fun a => { a with disableReq := some (some c.id) }))

/-! ### Status (09 R263, 11 R313, R316) -/

/-- Axis state of parameter 0x5002. -/
def axisCode (s : State) (k : Fin 6) : Nat := if s.axes[k].enabled then s.axes[k].state.code else 0

/-- The leg status word (11 R313). -/
def legWord (g : Leg) : Nat :=
  flag g.latched 15 + flag g.scTrip 14 + flag g.scHard 13 + flag g.uvLow 12 + flag g.uvBoot 11 + flag g.hsFault 10
    + flag g.coincident 9 + flag g.refresh 8
    + 4 * (match g.sw with | .bothOff => 0 | .lowOn => 1 | .highOn => 2)
    + (match g.phase with | .none' => 0 | .on => 1 | .fast => 2 | .slow => 3)

/-- I_fs, trip and hard-trip current in mA (11 R305, R306, R316); the rounding is free. -/
def axisCurrents (s : State) (k : Fin 6) : Nat × Nat × Nat :=
  let g := 10 * 2 ^ (s.pa k 0x5010 5)
  let den : Int := g * Nat.max 1 (s.pa k 0x5010 9)
  -- 1 V / (G × R) in mA with R in µΩ
  ((neigh (10 ^ 9) den).toNat, (neigh (5 * 10 ^ 6 * s.pa k 0x5010 6) den).toNat, (neigh (10 ^ 7 * s.pa k 0x5010 6) den).toNat)

end Sys2Proof.Machine
end

