-- ==== Sys2Proof/Machine/DriveOps.lean ====
section
/-! DEFINITION. The brake chopper, its faults and the refusal of regeneration (spec file 12_braking_degraded R317 to
R327). -/
namespace Sys2Proof.Machine

/-- The machine that a DC link names as the owner of its chopper (12 R320). -/
def chopOwner (s : State) (m : Fin 4) : Option (Fin 4) :=
  let v := s.pm m 0x2701 2
  if v < 4 then some (finOf 4 v) else none

/-- A chopper switch is fitted on the driver board of `o`, and a DC link names it as its owner (12 R320). -/
def chopFitted (s : State) (o : Fin 4) : Bool := s.pm o 0x2701 1 == 1 && four.any (fun m => chopOwner s m == some o)

/-- An enabled machine that is not STOPPED. -/
def running (s : State) (m : Fin 4) : Bool := s.en m && s.startM[m].state != .stopped

/-- A BRAKE_NOW stop is taken at once (12 R326, R332): a stop already in BRAKE or later runs on. -/
def brakeNowAtOnce (s : State) (m : Fin 4) (src cause : Nat) : State :=
  if !running s m then s
  else
    let s := noteSource s m src cause
    let s := failStart s m (s.drive[m].enabling.bind (fun e => e.firstSource))
    match s.drive[m].stop with
    | some p =>
      if p.phase = .speed ∨ p.phase = .zero then startStop s m .brakeNow true false
      else s.modDrive m (fun d => { d with stop := some { p with quick := false } })
    | none =>
      if starting s m && !(s.startM[m].state == .openLoop && s.startM[m].reachedRun) then endStart s m false
      else startStop s m .brakeNow true false

/-- REGEN_REFUSED of one machine follows the causes of its owner, and its setting has the effect of its duty kind
(12 R323, R326). -/
def regenCheck (s : State) (m : Fin 4) : State :=
  let now : Bool := match chopOwner s m with
    | none => false
    | some o => chopFitted s o && s.drive[o].chop.toList.any (fun b => b)
  let was := s.drive[m].regenRefused
  let s := s.modDrive m (fun d => { d with regenRefused := now })
  if now && !was && running s m then
    if hoisting s m then brakeNowAtOnce (raise (noteSource s m (172 + m.val) 2) (172 + m.val) 2) m (172 + m.val) 2
    else raise s (172 + m.val) 1
  else s

/-- The machines of a DC-link group test their refusal. -/
def regenGroup (s : State) (o : Fin 4) : State :=
  forAll four (fun m s => if chopOwner s m = some o then regenCheck s m else s) s

/-- CHOPPER_FAULT (12 R323): a cause of owner `o` becomes present or goes. -/
def setChop (s : State) (o : Fin 4) (c : Fin 5) (present : Bool) : State :=
  if !chopFitted s o ∨ s.drive[o].chop[c] = present then s
  else
    let s := s.modDrive o (fun d => { d with chop := vmod d.chop c (fun _ => present) })
    let s := if present then
        let (k, ov) := ctrInc 16 s.drive[o].chopFaults
        raiseIf ov (raise (s.modDrive o (fun d => { d with chopFaults := k })) (164 + o.val) c.val) (164 + o.val) 5
      else s
    regenGroup s o

/-- A latched fault or an overload holds the bit off (12 R321). -/
def heldOff (s : State) (o : Fin 4) : Bool :=
  s.drive[o].chop[0] || s.drive[o].chop[1] || s.drive[o].chop[2] || s.drive[o].chop[3]

/-- Launches for which a changed bit holds (12 R321). -/
def chopHold (s : State) (o : Fin 4) : Nat := (20 * s.pm o 0x2701 3 + s.D o - 1) / s.D o

/-- CHOPPER_BIT_DECISION (12 R321): the bit at one strobe of the owner, and the timer of cause 2. -/
def chopperBit (s : State) (o : Fin 4) : State :=
  if !chopFitted s o then s.modDrive o (fun d => { d with brk := false, effAt := none })
  else
    let d := s.drive[o]
    let v := d.v
    let on : Int := s.pm o 0x2700 4
    let off : Int := s.pm o 0x2700 3
    let want := if heldOff s o then false else if on ≤ v then true else if v ≤ off then false else d.brk
    let may := heldOff s o || (match d.brkLaunches with
      | none => true
      | some n => decide (chopHold s o ≤ n + 1))
    let b := if want != d.brk && may then want else d.brk
    let warn : Int := s.pm o 0x2700 5
    s.modDrive o (fun d => { d with
      brk := b
      brkLaunches := if b != d.brk then some 0 else d.brkLaunches.map (fun n => Nat.min (chopHold s o) (n + 1))
      effAt := if b && decide (warn ≤ v) then some (d.effAt.getD s.clk) else none })

/-- The bit goes off as soon as a fault holds it off. -/
def chopperOff (s : State) (o : Fin 4) : State :=
  if heldOff s o && s.drive[o].brk then
    s.modDrive o (fun d => { d with brk := false, brkLaunches := some 0, effAt := none })
  else s

/-- CHOPPER_T_EFF_EXPIRY (12 R323 cause 2). -/
def execChopperTEffExpiry (dt : Nat) (o : Fin 4) (s : State) : Host.Outcome State Fault Refusal :=
  let s := advance s dt
  done (if elapsedO s s.drive[o].effAt (usTicks (s.pm o 0x2701 4)) then chopperOff (setChop s o 2 true) o else s)

/-- Cause 4 after a frame of the owner has been launched with a code: absent only while RUN, REPEAT or TRIP frames are
sent with LATCHED clear; it goes with a RUN frame (12 R323). -/
def chopUnavail (s : State) (o : Fin 4) (c : FrameCode) : State :=
  let latched := s.gl[o].up.getLsbD 25
  if latched then setChop s o 4 true
  else match c with
    | .run => setChop s o 4 false
    | .rep => s
    | .trip => s
    | _ => setChop s o 4 true

/-- BRAKE_ENERGY_UPDATE (12 R322) in mJ, its rounding free: E(1 − T_s/tau) + V²/R × t_on. V is the mean of the corrected
words in 1/32,768 of full scale in 0.1 V, R in mΩ. -/
def brakeEnergy (s : State) (o : Fin 4) : State :=
  if !chopFitted s o then s
  else
    let d := s.drive[o]
    let ts := s.Ts o
    let decay := neigh ((d.energy : Int) * ts) (200000000 * Nat.max 1 (s.pm o 0x2702 3))
    let mean := s.tfu[o].vdcMean
    let n : Int := Nat.max 1 mean.2
    let fs : Int := s.pm o 0x2210 0
    -- volts = sum × fs / (n × 32,768 × 10); mJ = V² × 10^6 / R_mΩ × t_on, t_on = launches × D × 5 ns
    let gain := neigh ((mean.1 * fs) * (mean.1 * fs) * (d.brkOn * s.D o * 5 : Nat))
      (n * n * 327680 * 327680 * 1000 * Nat.max 1 (s.pm o 0x2702 1))
    let e := ((d.energy : Int) - decay + gain).toNat
    let eMax := 1000 * s.pm o 0x2702 2
    let s := s.modDrive o (fun d => { d with energy := e, brkOn := 0 })
    if eMax ≤ e then chopperOff (setChop s o 3 true) o
    else if 2 * e ≤ eMax then setChop s o 3 false else s

/-- DC_LINK_WARNING (12 R318). -/
def dcWarnings (s : State) (m : Fin 4) : State :=
  let d := s.drive[m]
  let th (k : Nat) : Int := s.pm m 0x2700 k
  let s := if !d.ovWarn && decide (th 5 ≤ d.v) then
      let (k, o) := ctrInc 16 d.ovWarns
      raiseIf o (raise (s.modDrive m (fun d => { d with ovWarn := true, ovWarns := k })) (160 + m.val) 0) (160 + m.val) 4
    else if d.ovWarn && decide (d.v < th 4) then s.modDrive m (fun d => { d with ovWarn := false }) else s
  if !d.uvWarn && decide (d.v < th 2) then raise (s.modDrive m (fun d => { d with uvWarn := true })) (160 + m.val) 2
  else if d.uvWarn && decide (th 2 + 20 ≤ d.v) then s.modDrive m (fun d => { d with uvWarn := false }) else s

/-- DC_LINK_TRIP (12 R319): two consecutive strobes, while the TFU runs. -/
def dcTrips (s : State) (m : Fin 4) : State :=
  let d := s.drive[m]
  let on := running s m && !s.tfu[m].stopped
  let ov := decide ((s.pm m 0x2700 7 : Int) ≤ d.v)
  let uv := decide (d.v ≤ (s.pm m 0x2700 1 : Int))
  let s := s.modDrive m (fun d => { d with
    ovRun := if ov && on then d.ovRun + 1 else 0, uvRun := if uv && on then d.uvRun + 1 else 0 })
  if 2 ≤ s.drive[m].ovRun then
    tripMachine ((raise (noteSource s m (160 + m.val) 1) (160 + m.val) 1).modDrive m (fun d => { d with ovRun := 0 })) m
  else if 2 ≤ s.drive[m].uvRun then
    stopTfu ((raise (noteSource s m (160 + m.val) 3) (160 + m.val) 3).modDrive m (fun d => { d with uvRun := 0 })) m
  else s

/-- The DC-link comparators at one strobe of `m`, on its corrected word (12 R317 to R321, R327). -/
def dcStrobe (s : State) (m : Fin 4) (word : Int) : State :=
  if chanSource s m 3 = 0 then s
  else
    let s := s.modDrive m (fun d => { d with v := perUnit s m 3 (correct s m 3 word) })
    let s := dcWarnings s m
    let s := dcTrips s m
    let s := chopperBit s m
    regenCheck s m

end Sys2Proof.Machine
end

