-- ==== Sys2Proof/Machine/GateLinkFam.lean ====
section
/-! DEFINITION. The gate links: downlink frames, the uplink checks, TRIP_FRAME_LAUNCH, UPLINK_FRAME_RECEIVE and
UPLINK_MISSING (spec file 10_gate_links). -/
namespace Sys2Proof.Machine

/-! ### Downlink frames (10 R265 to R268) -/

def FrameCode.num : FrameCode → Nat
  | .run => 0 | .rep => 1 | .trip => 2 | .off => 3 | .standby => 4 | .config => 5

/-- The downlink frame of 10 R266. -/
def downFrame (sw : BitVec 24) (brk : Bool) (code : FrameCode) (shift : Int) (link : Fin 4) (seq : BitVec 8) (align : Nat) :
    BitVec 64 :=
  let hi : BitVec 56 := sw ++ BitVec.ofBool brk ++ BitVec.ofNat 4 code.num ++ BitVec.ofInt 9 shift ++ BitVec.ofNat 2 link.val
    ++ seq ++ BitVec.ofNat 3 align ++ 0#5
  hi ++ linkCrc (beBytes 7 hi.toNat)

/-- The five configuration values of a link (10 R280). -/
def cfgValues (s : State) (m : Fin 4) : List Nat :=
  [s.D m, s.pm m 0x2600 1, s.pm m 0x2600 2, s.pm m 0x2600 3, s.pm m 0x2420 1 % 256 + s.pm m 0x2420 2 % 16 * 256]

/-- The module's own configuration checksum (10 R280). -/
def cfgCheck (s : State) (m : Fin 4) : BitVec 8 := linkCrc ((cfgValues s m).flatMap (fun v => beBytes 2 v))

/-- Item 0x32 equals the module's checksum and was reported since the items last changed (10 R281). -/
def cfgMatch (s : State) (m : Fin 4) : Bool :=
  let g := s.gl[m]
  g.checkReported && g.cfgItems == cfgValues s m && g.items[50].setWidth 8 == cfgCheck s m

/-- A change of the items awaits a new report (10 R281). -/
def noteItems (s : State) (m : Fin 4) : State :=
  if s.gl[m].cfgItems = cfgValues s m then s
  else s.modGl m (fun g => { g with cfgItems := cfgValues s m, checkReported := false })

/-- SEQ of the next frame of a link: the first frame carries the reset value (log 50). -/
def nextSeq (g : GateLink) : BitVec 8 := if g.fresh then g.seq else g.seq + 1

/-- The running disparity at the tick `first` of a frame: every comma character since the end of the frame before turns
it over; one character fills eight ticks (10 R264, R265; log 83). -/
def disparityAt (s : State) (g : GateLink) (first : Int) : Bool :=
  g.disparity != ((stampOf s first / 8 - (stampOf s g.busyUntil + 7) / 8) % 2 == 1)

/-- The switch fields that a check can still need: those in force within the longest window of 10 R282 and one older. -/
def trimChanges (t : Nat) (l : List (Nat × BitVec 24)) : List (Nat × BitVec 24) :=
  l.takeWhile (fun c => decide (t < c.1 + 4000)) ++ (l.dropWhile (fun c => decide (t < c.1 + 4000))).take 1

/-- A frame is loaded at launch tick `L` (10 R265): its place on the line, its fields, and what the module takes the
board to do with it (10 R269; 12 R323 for the chopper bit). -/
def sendFrame (s : State) (m : Fin 4) (L : Int) (code : FrameCode) (sw : BitVec 24) (brk : Bool) (shift : Int) : State :=
  let g := s.gl[m]
  let wait := decide (L + 2 < (g.busyUntil : Int))
  let align : Nat := if wait then 0 else ((-(stampOf s L) - 2) % 8).toNat
  let first : Int := if wait then g.busyUntil else L + 2 + align
  let seq := nextSeq g
  let w := downFrame sw brk code shift m seq align
  let line := lineBits w (disparityAt s g first)
  let moves := code == .run || code == .rep
  let at' : Int := if moves then L + applyDelay s m + shift else L + 64
  let field : BitVec 24 := if moves then sw else 0
  let s := if g.brk != brk then s.modDrive m (fun d => { d with brkApplyAt := at'.toNat }) else s
  let s := s.modGl m (fun g => { g with
    seq := seq, down := w, code := code, fresh := false, sw := field, brk := brk
    busyUntil := (first + 64).toNat, disparity := line.2
    awaits := ((g.awaits ++ [(seq, code, (first + 64).toNat)]).reverse.take 4).reverse
    changeAt := trimChanges s.clk ((at'.toNat, field) :: g.changeAt.filter (fun c => decide (c.1 < at'.toNat))) })
  s.put (.gate m first.toNat w line.1)

/-- The frame of a link whose machine is not enabled (10 R268, R280): STANDBY, and in READY or RESTRICTED every fourth
frame CONFIG with the items in turn; a bridge-sensing channel sends STANDBY only. CONFIG_FRAME. -/
def idleFrame (s : State) (m : Fin 4) (L : Int) : State :=
  let s := noteItems s m
  let g := s.gl[m]
  if s.up && (bridgeOwner s m).isNone && g.frameMod == 3 then
    let v := (cfgValues s m).getD g.configItem 0
    let s := sendFrame s m L .config (BitVec.ofNat 24 ((g.configItem + 1) * 65536 + v % 65536)) false 0
    s.modGl m (fun g => { g with frameMod := 0, configItem := (g.configItem + 1) % 5 })
  else (sendFrame s m L .standby 0 false 0).modGl m (fun g => { g with frameMod := (g.frameMod + 1) % 4 })

/-- TRIP_FRAME_LAUNCH (10 R265, 04 R107, 15 R379): at a character boundary, with the line free, the trip frame that is
due leaves, or else the OFF frame. -/
def execTripFrameLaunch (dt : Nat) (m : Fin 4) (s : State) : Host.Outcome State Fault Refusal :=
  let s := advance s dt
  let g := s.gl[m]
  let free := decide (stampOf s s.clk % 8 = 0) && decide (g.busyUntil ≤ s.clk)
  done (if !free then s
    else if s.tfu[m].tripFrameDue then
      sendFrame ((s.modTfu m (fun t => { t with tripFrameDue := false })).modGl m (fun g => { g with offDue := false })) m
        ((s.clk : Int) - 2) .trip 0 s.drive[m].brk 0
    else if g.offDue then
      sendFrame (s.modGl m (fun g => { g with offDue := false })) m ((s.clk : Int) - 2) .off 0 false 0
    else s)

/-! ### Uplink (10 R275 to R283) -/

/-- Bit `i` of an uplink frame. -/
def upBit (f : BitVec 64) (i : Nat) : Bool := f.getLsbD i
/-- GS, or ITEM and VALUE of a status frame. -/
def upGs (f : BitVec 64) : BitVec 24 := f.extractLsb' 40 24
def upDsat (f : BitVec 64) : BitVec 12 := f.extractLsb' 28 12
def upEcho (f : BitVec 64) : BitVec 8 := f.extractLsb' 16 8
/-- The CRC of an uplink frame is correct (10 R267). -/
def upGood (f : BitVec 64) : Bool := linkCrc (beBytes 7 (f.toNat / 256)) == f.setWidth 8

/-- The action TRIP of 10 R282 on the machine of a link. -/
def actTrip (s : State) (m : Fin 4) : State :=
  let n := lead s m
  if running s n && !s.tfu[n].stopped then tripMachine s n else s

/-- The link serves the set that has been lost (12 R334). -/
def onLostSet (s : State) (m : Fin 4) : Bool :=
  let n := lead s m
  setLost s n && (s.drive[n].lostSet == decide (m ≠ n))

/-- The action OFF of 10 R282: with `b`, every switch of the row lies in bridge `b`. Ride-through of 12 R334 takes its
place where it is on. -/
def actOff (s : State) (m : Fin 4) (b : Option Nat) : State :=
  let n := lead s m
  if !running s n || s.tfu[n].stopped then s
  else if isPair s n then
    if onLostSet s m then s
    else if s.pm n 0x2705 2 = 1 ∧ !setLost s n then loseSet s n (decide (m ≠ n)) else stopTfu s n
  else match b with
    | none => stopTfu s n
    | some b =>
      if s.drive[n].degraded = .bridge ∧ s.drive[n].lostBridge = b then s
      else if topo s n = 3 ∧ s.pm n 0x2705 1 = 1 ∧ s.drive[n].degraded ≠ .bridge then loseBridge s n b
      else stopTfu s n

/-- A bad or missing uplink frame (10 R282 row 1, R285). A bridge-sensing link may be left unconnected (R265). -/
def uplinkBad (s : State) (m : Fin 4) : State :=
  if (bridgeOwner s m).isSome then s
  else
    let (k, o) := ctrInc 16 s.gl[m].bad
    let third := s.gl[m].missRun == 2
    let s := s.modGl m (fun g => { g with bad := k, upOk := false, missRun := Nat.min 3 (g.missRun + 1) })
    let s := raiseIf o s (128 + m.val) 1
    if third then actTrip (raise (noteSource s (lead s m) (128 + m.val) 0) (128 + m.val) 0) m else s

/-- UPLINK_MISSING (10 R282): 800 ns after the end of its downlink frame the uplink is not complete. -/
def execUplinkMissing (dt : Nat) (m : Fin 4) (s : State) : Host.Outcome State Fault Refusal :=
  let s := advance s dt
  done (match s.gl[m].awaits with
    | [] => s
    | w :: rest => if elapsed s w.2.2 160 then uplinkBad (s.modGl m (fun g => { g with awaits := rest })) m else s)

/-- Switch state in force at tick `t`, and the switches that had no change for `win` ticks before it (10 R282). -/
def expectedGs (l : List (Nat × BitVec 24)) (t win : Nat) : BitVec 24 × BitVec 24 :=
  let past := l.filter (fun c => decide (c.1 ≤ t))
  let now := (past.head?.map (·.2)).getD 0
  let moved := (past.zip (past.drop 1)).foldl (fun (a : BitVec 24) x => if t < x.1.1 + win then a ||| (x.1.2 ^^^ x.2.2) else a) 0
  let only := match past with
    | [c] => if t < c.1 + win then c.2 else 0
    | _ => 0
  (now, ~~~(moved ||| only))

/-- The one bridge that holds every switch of a field, if there is one (12 R334, 06 R157). -/
def oneBridge (f : BitVec 24) : Option Nat :=
  [0, 1, 2, 3].find? (fun b => f != 0 && (f &&& ~~~(BitVec.ofNat 24 (63 * 2 ^ (6 * b)))) == 0)

/-- A counter of gate-state faults, with its source (10 R285). -/
def gateFault (s : State) (m : Fin 4) (cause : Nat) : State :=
  let (k, o) := ctrInc 16 s.gl[m].gateFaults
  let s := raise ((noteSource s (lead s m) (136 + m.val) cause).modGl m (fun g => { g with gateFaults := k })) (136 + m.val) cause
  raiseIf o s (136 + m.val) 3

/-- A counter of desaturation reports (10 R285). -/
def dsatReport (s : State) (m : Fin 4) (addr : Nat) : State :=
  let (k, o) := ctrInc 16 s.gl[m].dsats
  let s := raise (s.modGl m (fun g => { g with dsats := k })) (132 + m.val) addr
  raiseIf o s (132 + m.val) 2

/-- GENn A and B of the DMP window (24 R609). -/
def dmpGen (s : State) (m : Fin 4) : Bool := s.safety.dmp[9].getLsbD (8 + m.val) && s.safety.dmp[9].getLsbD (12 + m.val)

/-- Number of the lowest flag set. -/
def lowestFlag (f : BitVec 12) : Nat := ((List.range 12).find? (fun i => f.getLsbD i)).getD 0

/-- The chopper faults that an uplink frame of an owner shows (12 R323 causes 0 and 1). -/
def uplinkChopper (s : State) (m : Fin 4) (f : BitVec 64) (start : Nat) : State :=
  let d := s.drive[m]
  let differs := upBit f 14 != s.gl[m].brk
  let run := if d.brkApplyAt + 200 ≤ start then (if differs then Nat.min 2 (d.gsRun + 1) else 0) else 0
  let s := s.modDrive m (fun d => { d with gsRun := run })
  let s := if upBit f 13 then setChop s m 0 true else s
  let s := if run = 2 then setChop s m 1 true else s
  let s := if upBit f 25 then setChop s m 4 true else s
  chopperOff s m

/-- The checks of 10 R282 and R283 on one good frame that answers a downlink frame of code `code`; `start` is the tick
at which it started. Each row is taken at the first checked frame in which its condition is met; sources rise in the
order of their numbers, TRIP prevails over OFF. -/
def uplinkChecks (s : State) (m : Fin 4) (f : BitVec 64) (code : FrameCode) (start : Nat) : State :=
  let g := s.gl[m]
  let moves := code == .run || code == .rep
  let status := upBit f 15
  let dsat := upDsat f != 0 && moves
  let brkDsat := upBit f 13
  let win := 2 * s.pm m 0x2600 1 + 2 * s.pm m 0x2600 2 + 40
  let e := expectedGs g.changeAt start win
  let checked := if status then 0 else e.2
  let diff := (upGs f ^^^ e.1) &&& checked
  -- a switch that differed at the last frame that checked it, and again
  let twice := diff &&& g.gsDiffer
  let gs := if status then g.met.gs else twice != 0
  let hs := upBit f 26
  let latched := upBit f 25 && moves && upDsat f == 0 && !upBit f 27
  let uv := upBit f 27 && s.en (lead s m)
  let genAt := if upBit f 24 != dmpGen s m then some (g.genAt.getD s.clk) else none
  let gen := match genAt with
    | some t => decide (t + msTicks 1 < s.clk)
    | none => false
  let new (now was : Bool) := now && !was
  let s := s.modGl m (fun g => { g with
    gsDiffer := diff ||| (g.gsDiffer &&& ~~~checked), genAt := genAt
    met := { dsat := dsat, brkDsat := brkDsat, gs := gs, hs := hs, latched := latched, uv := uv, gen := gen } })
  -- sources, in the order of their numbers (01 R36)
  let nDsat := new dsat g.met.dsat
  let s := if nDsat then dsatReport (noteSource s (lead s m) (132 + m.val) 0) m (16 * lowestFlag (upDsat f)) else s
  let s := if new brkDsat g.met.brkDsat then dsatReport s m 1 else s
  let nGs := new gs g.met.gs
  let s := if nGs then gateFault s m 0 else s
  let nHs := new hs g.met.hs
  let s := if nHs then gateFault s m 1 else s
  let nLat := new latched g.met.latched
  let s := if nLat then gateFault s m 2 else s
  let nUv := new uv g.met.uv
  let s := if nUv then raise (noteSource s (lead s m) (140 + m.val) 0) (140 + m.val) 0 else s
  let s := if new gen g.met.gen then raise s (140 + m.val) 1 else s
  -- the chopper's sources have the higher numbers
  let s := uplinkChopper s m f start
  -- actions: one TRIP, else OFF
  if nDsat then actTrip s m
  else if nHs || nLat || nUv then actOff s m none
  else if nGs then actOff s m (oneBridge twice)
  else s

/-- UPLINK_FRAME_RECEIVE (10 R275, R276, R282, R283): `frame` is whole at this tick. A frame whose SEQ_ECHO answers no
frame that is awaited is ignored (log 50). -/
def execUplinkFrameReceive (dt : Nat) (m : Fin 4) (frame : BitVec 64) (s : State) : Host.Outcome State Fault Refusal :=
  let s := advance s dt
  done (if !upGood frame then
      match s.gl[m].awaits with
      | [] => s
      | _ :: rest => uplinkBad (s.modGl m (fun g => { g with awaits := rest })) m
    else match s.gl[m].awaits.find? (fun w => w.1 == upEcho frame) with
      | none => s
      | some w =>
        let s := s.modGl m (fun g => { g with awaits := g.awaits.filter (fun x => x.1 != w.1) })
        if w.2.2 + 160 < s.clk then uplinkBad s m
        else
          let s := s.modGl m (fun g => { g with up := frame, upOk := true, missRun := 0 })
          let item := (upGs frame).toNat / 65536
          let s := if upBit frame 15 ∧ item < 51 then
              s.modGl m (fun g => { g with
                items := vmod g.items (finOf 51 item) (fun _ => (upGs frame).setWidth 16)
                checkReported := g.checkReported || item == 50 })
            else s
          uplinkChecks s m frame w.2.1 (s.clk - 64))

/-! ### Enable (10 R281) -/

/-- The cause that refuses an enable of the machine on link `m`: 2 checksum, 3 latched. -/
def linkRefuses (s : State) (m : Fin 4) : Option Nat :=
  if !cfgMatch s m then some 2 else if upBit s.gl[m].up 25 then some 3 else none

/-- The checks of a link count afresh from the enable (10 R283). -/
def glEnabled (s : State) (m : Fin 4) : State := s.modGl m (fun g => { g with met := {}, gsDiffer := 0, missRun := 0 })

end Sys2Proof.Machine
end

