-- ==== Sys2Proof/Machine/DriveFam.lean ====
section
/-! DEFINITION. The timers of stops, of the brake at a start, of the command watchdog and of render, and what the drive
does at a sample boundary (spec file 12_braking_degraded R328 to R337). -/
namespace Sys2Proof.Machine

/-! ### Stops (12 R330, R331) -/

/-- |speed| ≤ n_zero of a machine; the speed in 1/256 rpm, n_zero in 0.1 rpm. -/
def atZero (s : State) (m : Fin 4) : Bool := decide ((measuredSpeed s m).natAbs * 10 ≤ s.pm m 0x2703 4 * 256)

/-- The SPEED and ZERO phases at a sample boundary: t_zero counts while the speed stays at or below n_zero. -/
def zeroCheck (s : State) (m : Fin 4) : State :=
  match s.drive[m].stop with
  | none => s
  | some p =>
    if p.phase = .speed ∨ p.phase = .zero then
      let z := atZero s m
      s.modDrive m (fun d => { d with stop := some { p with
        phase := if z then .zero else .speed, zeroAt := if z then some (p.zeroAt.getD s.clk) else none } })
    else s

/-- The torque reference goes on its ramp to 0 (12 R330). -/
def enterTorqueRamp (s : State) (m : Fin 4) (p : Stop) (t : Int) : State :=
  s.modDrive m (fun d => { d with stop := some { p with phase := .torqueRamp, torque := t, rampAt := s.clk } })

/-- STOP_ZERO_TIMEOUT (12 R330): 2 × |speed at start| / fault deceleration + 1 s. -/
def execStopZeroTimeout (dt : Nat) (m : Fin 4) (s : State) : Host.Outcome State Fault Refusal :=
  let s := advance s dt
  done (match s.drive[m].stop with
    | none => s
    | some p =>
      let fd := Nat.max 1 (s.pm m 0x2703 3)
      if (p.phase = .speed ∨ p.phase = .zero) ∧ elapsed s p.startedAt ((15625 * p.speed0 + fd - 1) / fd + msTicks 1000) = true then
        enterBrake (raise (noteSource s m (172 + m.val) 0) (172 + m.val) 0) m { p with fault := true, quick := false }
      else s)

/-- ZERO_DWELL_END (12 R330): BRAKE of a RAMP_BRAKE stop, the torque ramp of a RAMP stop. -/
def execZeroDwellEnd (dt : Nat) (m : Fin 4) (s : State) : Host.Outcome State Fault Refusal :=
  let s := advance s dt
  done (match s.drive[m].stop with
    | none => s
    | some p =>
      if p.phase = .zero ∧ elapsedO s p.zeroAt (msTicks (s.pm m 0x2703 5)) = true then
        if p.kind = .ramp then enterTorqueRamp s m p (torqueRef s m) else enterBrake s m p
      else s)

/-- BRAKE_HOLD_EXPIRY (12 R330, R331): t_brake after the request. -/
def execBrakeHoldExpiry (dt : Nat) (m : Fin 4) (s : State) : Host.Outcome State Fault Refusal :=
  let s := advance s dt
  done (match s.drive[m].stop with
    | none => s
    | some p =>
      if elapsedO s p.brakeAt (msTicks (s.pm m 0x2506 3)) then
        if p.phase = .brake then enterTorqueRamp s m p p.torque
        else if p.phase = .offWait then reachStopped s m false else s
      else s)

/-- TORQUE_RAMP_END (12 R330, R338): the reference is 0; a stop that went through BRAKE counts as a brake stop. -/
def execTorqueRampEnd (dt : Nat) (m : Fin 4) (s : State) : Host.Outcome State Fault Refusal :=
  let s := advance s dt
  done (match s.drive[m].stop with
    | none => s
    | some p =>
      if p.phase = .torqueRamp ∧ rampTorque p.torque (s.pm m 0x2506 4) (s.clk - p.rampAt) = 0 then
        let s := if p.brakeAt.isSome then
            let (c, o) := ctrInc 16 s.drive[m].brakeStops
            raiseIf o (s.modDrive m (fun d => { d with brakeStops := c })) (172 + m.val) 4
          else s
        reachStopped s m p.quick
      else s)

/-! ### The brake at a start (12 R333) -/

/-- |torque estimate − T_pre| ≤ H_T, in 1/1024. -/
def nearTPre (s : State) (m : Fin 4) : Bool :=
  let t := per1024 s.tfu[m].torque
  let h := band s m 1
  if s.pm m 0x2704 1 = 0 then decide ((1000 * t - 1024 * signed 16 (s.pm m 0x2704 2)).natAbs ≤ (1000 * h).natAbs)
  else decide ((t - s.drive[m].heldTorque).natAbs ≤ h.natAbs)

/-- BRAKE_RELEASE_CONDITION (12 R333) at a sample boundary: at the sixteenth boundary running H0 requests the release, which
waits for RUN (07 R187). -/
def releaseCheck (s : State) (m : Fin 4) : State :=
  match s.drive[m].enabling with
  | none => s
  | some e =>
    if !braked s m || e.softAt.isNone || e.releaseAt.isSome || e.result.isSome then s
    else
      let n := if nearTPre s m then Nat.min 16 (e.inBand + 1) else 0
      if n = 16 ∧ s.startM[m].state = .run then
        (s.modDrive m (fun d => { d with enabling := some { e with inBand := n, releaseAt := some s.clk } })).modSafety
          (fun f => { f with releaseReq := vmod f.releaseReq m (fun _ => true), sbcReq := vmod f.sbcReq m (fun _ => false) })
      else s.modDrive m (fun d => { d with enabling := some { e with inBand := n } })

/-- BRAKE_RELEASE_WAIT_END (12 R333): t_release after the request the speed-ramp target is released. -/
def execBrakeReleaseWaitEnd (dt : Nat) (m : Fin 4) (s : State) : Host.Outcome State Fault Refusal :=
  let s := advance s dt
  done (match s.drive[m].enabling with
    | none => s
    | some e =>
      if elapsedO s e.releaseAt (msTicks (s.pm m 0x2704 3)) && !e.released then
        s.modDrive m (fun d => { d with enabling := some { e with released := true } })
      else s)

/-- BRAKE_RELEASE_TIMEOUT (12 R333): 500 ms after the soft start without the request. -/
def execBrakeReleaseTimeout (dt : Nat) (m : Fin 4) (s : State) : Host.Outcome State Fault Refusal :=
  let s := advance s dt
  done (match s.drive[m].enabling with
    | none => s
    | some e =>
      if braked s m && e.releaseAt.isNone && e.result.isNone && elapsedO s e.softAt (msTicks 500) then
        let s := raise (noteSource s m (172 + m.val) 3) (172 + m.val) 3
        reachStopped (failStart s m (s.drive[m].enabling.bind (fun e => e.firstSource))) m false
      else s)

/-! ### Command watchdog (12 R334, R335) -/

/-- COMMAND_WATCHDOG_EXPIRY: command HOLD, with a stop request to the profile channel of the Stove. -/
def execCommandWatchdogExpiry (dt : Nat) (m : Fin 4) (s : State) : Host.Outcome State Fault Refusal :=
  let s := advance s dt
  let t := s.pm m 0x2706 1
  done (if t ≠ 0 ∧ s.en m = true ∧ s.drive[m].stop = none ∧ s.drive[m].inHold = false ∧ elapsed s s.drive[m].lastCmd (msTicks t) = true then
      let s := (enterDegraded s m .hold (some 2)).modDrive m (fun d => { d with holdAt := s.clk })
      forAll four (fun i s =>
        if bit (s.ps i 0x3001 1) m.val then
          match stoveChan s i with
          | none => s
          | some c => s.modProf c (fun p => { p with reqs := p.reqs ++ [(.stop, none)] })
        else s) s
    else s)

/-- COMMAND_HOLD_EXPIRY: the configured stop runs and the machine is disabled at STOPPED. -/
def execCommandHoldExpiry (dt : Nat) (m : Fin 4) (s : State) : Host.Outcome State Fault Refusal :=
  let s := advance s dt
  done (if s.drive[m].inHold = true ∧ s.en m = true ∧ s.drive[m].stop = none ∧ s.drive[m].reqs = []
        ∧ elapsed s s.drive[m].holdAt (msTicks (s.pm m 0x2706 3)) = true then
      (raise (noteSource s m (168 + m.val) 3) (168 + m.val) 3).modDrive m (fun d => { d with
        inHold := false, reqs := d.reqs ++ [{ fault := false, quick := false }] })
    else s)

/-! ### Render (12 R334, R336) -/

/-- The tension word is one of the tension input; T_on and the hysteresis are in 1/32,768 of full scale. -/
def tensionOf (s : State) (m : Fin 4) : Int := s.ain[finOf 16 (s.pm m 0x2707 2)]

/-- Speed in the paying-out sense is beyond v_render_max: hauling in is positive (log 37). -/
def payingOutFast (s : State) (m : Fin 4) : Bool := decide ((s.pm m 0x2707 7 : Int) * 256 < -(measuredSpeed s m) * 10)

/-- The tension and speed conditions of render at a sample boundary. -/
def renderCheck (s : State) (m : Fin 4) : State :=
  if s.pm m 0x2707 1 = 0 ∨ s.startM[m].state ≠ .run ∨ s.drive[m].stop.isSome = true then
    s.modDrive m (fun d => { d with renderAt := none, overspeedAt := none })
  else
    let t := tensionOf s m
    let on : Int := s.pm m 0x2707 3
    let inRender := s.drive[m].inRender
    let met := if inRender then decide (t ≤ on - s.pm m 0x2707 4) else decide (on ≤ t)
    let fast := inRender && payingOutFast s m
    s.modDrive m (fun d => { d with
      renderAt := if met then some (d.renderAt.getD s.clk) else none
      overspeedAt := if fast then some (d.overspeedAt.getD s.clk) else none })

/-- The render torque in 1/1024. -/
def renderTorque (s : State) (m : Fin 4) : Int := neigh (signed 16 (s.pm m 0x2707 6) * 1024) 1000

/-- RENDER_DWELL_EXPIRY (12 R334): render is entered, or left through the return of 07 R204. -/
def execRenderDwellExpiry (dt : Nat) (m : Fin 4) (s : State) : Host.Outcome State Fault Refusal :=
  let s := advance s dt
  done (if s.startM[m].state = .run ∧ s.drive[m].stop = none ∧ elapsedO s s.drive[m].renderAt (msTicks (s.pm m 0x2707 5)) = true then
      let s := s.modDrive m (fun d => { d with renderAt := none })
      if s.drive[m].inRender then
        let h := renderTorque s m
        ((sealPreset s m h).modStartM m (fun x => { x with heldTorque := h, reacquiring := true })).modDrive m
          (fun d => { d with inRender := false, overspeedAt := none })
      else enterDegraded s m .render (some 4)
    else s)

/-- RENDER_OVERSPEED (12 R336): for 100 ms; SBC is requested and the fault stop runs, which ends render. -/
def execRenderOverspeed (dt : Nat) (m : Fin 4) (s : State) : Host.Outcome State Fault Refusal :=
  let s := advance s dt
  done (if s.drive[m].inRender = true ∧ running s m = true ∧ elapsedO s s.drive[m].overspeedAt (msTicks 100) = true then
      let s := raise (noteSource s m (168 + m.val) 5) (168 + m.val) 5
      let s := requestSbc (s.modDrive m (fun d => { d with overspeedAt := none })) m
      faultStop s m none
    else s)

/-! ### Enable and status -/

/-- Why an enable of `m` is refused by this chapter: UV_WARN, the chopper of its owner, the brake of a hoisting machine,
or a stop that needs the speed ramp the Stove does not name (12 R318, R320, R329). -/
def driveRefuses (s : State) (m : Fin 4) : Bool :=
  let ramp := four.any (fun i => bit (s.ps i 0x3001 1) m.val && decide (namedStage s i m 8 < stageCount s i))
  s.drive[m].uvWarn
    || (match chopOwner s m with
        | none => false
        | some o => !chopFitted s o)
    || (hoisting s m && !braked s m)
    || (([1, 2] : List Nat).any (fun k => s.pm m 0x2703 1 == k || s.pm m 0x2703 2 == k) && !ramp)

/-- Latched chopper faults of an owner clear at its enable (12 R323). -/
def chopEnabled (s : State) (o : Fin 4) : State := setChop (setChop (setChop s o 0 false) o 1 false) o 2 false

def Degraded.num : Degraded → Nat
  | .none' => 0 | .bridge => 1 | .set => 2 | .sensor => 3 | .hold => 4 | .render => 5

def StopPhase.num : StopPhase → Nat
  | .none' => 0 | .speed => 1 | .zero => 2 | .brake => 3 | .torqueRamp => 4 | .offWait => 5

/-- The DC-link and degraded status word (12 R337). -/
def driveWord (s : State) (m : Fin 4) : Nat :=
  let d := s.drive[m]
  let ch : Vector Bool 5 := match chopOwner s m with
    | none => Vector.replicate 5 false
    | some o => if chopFitted s o then s.drive[o].chop else Vector.replicate 5 false
  let ph := match d.stop with
    | some p => p.phase.num
    | none => 0
  flag d.ovWarn 31 + flag d.regenRefused 30 + flag (ch[0] || ch[1] || ch[2]) 29 + flag ch[3] 28 + flag ch[4] 27 + flag d.uvWarn 26
    + flag d.brk 25 + d.mode.num * 2 ^ 20 + (if d.degraded = .bridge then d.lostBridge % 4 else 0) * 2 ^ 18
    + flag (d.degraded == .set && d.lostSet) 17 + ph * 2 ^ 12 + (clampI 0 4095 d.v).toNat

end Sys2Proof.Machine
end

