-- ==== Sys2Proof/Machine/CalFam.lean ====
section
/-! DEFINITION. Calibration under live traffic of the phase currents and of the resolver and sin/cos ports, the
resolver's tracking loop, and the loss of sensors (spec files 14_live_calibration R357 to R367, R371; 04_sensing R111,
R121; 12 R334). -/
namespace Sys2Proof.Machine

/-! ### Bases and state (14 R360, R371) -/

def baseGain (s : State) (m c : Fin 4) : Int := s.pm m 0x9001 (c.val + 1)
/-- Base offset in 1/256 of a fast-word unit. -/
def baseOffset (s : State) (m c : Fin 4) : Int := 256 * signed 16 (s.pm m 0x9001 (c.val + 5))

/-- H3 runs as a voted Hearth, past the start-up tests (14 R358). -/
def h3Voted (s : State) : Bool := s.up && s.hearths[3].mode != .split && s.hearths[3].mode != .halted

/-- The active correction of a channel is its base, and its window in progress is discarded (14 R375). -/
def calToBase (s : State) (m c : Fin 4) : State :=
  s.modCalM m (fun k => { k with
    atLimit := k.atLimit &&& ~~~(1#3 <<< c.val)
    gain := vmod k.gain c (fun _ => (baseGain s m c).toNat), offset := vmod k.offset c (fun _ => baseOffset s m c)
    pending := k.pending.map (fun l => l.filter (fun x => x.1 != c.val))
    win := if c.val < 3 then vmod k.win (finOf 3 c.val) (fun _ => { at' := s.clk }) else k.win
    closed := if c.val < 3 then vmod k.closed (finOf 3 c.val) (fun _ => none) else k.closed })

/-- Calibration of the module takes the bases of the parameters loaded. -/
def calLoad (s : State) : State := forAll four (fun m s => forAll four (fun c s => calToBase s m c) s) s

/-- A stop of current calibration holds every correction (14 R371). -/
def calStop (s : State) (m : Fin 4) (cause : Nat) : State :=
  if s.cal.machines[m].stopped then s
  else raise (s.modCalM m (fun k => { k with
    stopped := true, stopCause := BitVec.ofNat 4 cause, pending := none, calRun := false
    win := Vector.replicate 3 { at' := s.clk }, closed := Vector.replicate 3 none })) (192 + m.val) cause

/-- The machine whose start state and mode govern the current channels of `m`. -/
def calSuspended (s : State) (m : Fin 4) : Bool :=
  let n := lead s m
  let st := s.startM[n].state
  !(s.en n && (st == .run || st == .openLoop)) || s.drive[n].mode != .none' || !h3Voted s || s.cal.machines[m].h3Lost
    || (s.pm m 0x9000 1 == 0 && s.pm m 0x9000 2 == 0)

/-! ### CAL_ACCUMULATE (14 R361, R362) -/

/-- Large or zero vector in force throughout the 580 ticks that end at `t`: 0 for a zero vector, k for V_k or L_k. -/
def calVector (l : List (Nat × Vec)) (t : Nat) : Option Nat :=
  match (l.filter (fun x => decide (x.1 ≤ t))).getLast? with
  | none => none
  | some x =>
    let v := x.2
    if v.off ∨ t < x.1 + 580 ∨ v.den ≠ 1 then none
    else if v.lu = v.lv ∧ v.lv = v.lw then some 0
    else if v.lu = 0 ∨ v.lv = 0 ∨ v.lw = 0 then none
    else
      let b (x : Int) (i : Nat) : Nat := flag (x == 1) i
      some (vIndex (b v.lu 0 + b v.lv 1 + b v.lw 2))

/-- A channel's word may be used: not clipped, disturbed or lost. -/
def calWordOk (s : State) (m c : Fin 4) (raw : Int) : Bool :=
  let x := s.chans[m][c]
  !x.lost && (match chanSource s m c with
    | 0 => false
    | 1 => decide (raw.natAbs < s.pm m 0x2204 (c.val + 1))
    | _ => x.disturbedRun == 0)

/-- A stage whose phase currents can be calibrated against the DC link (14 R361). -/
def calStage (s : State) (m : Fin 4) : Bool := topo s m != 3 && chanSource s m 2 != 0

/-- One sample of a phase channel against its reference; `big` is y in 1/1024 of rated peak current. -/
def CalSums.add (c : CalSums) (x y big : Int) : CalSums :=
  { n := c.n + 1, sx := c.sx + x, sy := c.sy + y, sxx := c.sxx + x * x, sxy := c.sxy + x * y, syy := c.syy + y * y
    above := c.above + flag (decide (256 < big)) 0, below := c.below + flag (decide (big < -256)) 0 }

/-- A window takes a sample while it has fewer than N_win. -/
def calAdd (s : State) (m : Fin 4) (k : Fin 3) (f : CalWindow → CalWindow) : State :=
  if s.cal.machines[m].win[k].sums.n < s.pm m 0x9003 1 then s.modCalM m (fun c => { c with win := vmod c.win k f }) else s

/-- CAL_ACCUMULATE: one strobe of channel `m` with its raw words and the age of its current words in ticks. -/
def calStrobe (s : State) (m : Fin 4) (w : StrobeWords) : State :=
  let k := s.cal.machines[m]
  if k.stopped then s.modCalM m (fun c => { c with calRun := false })
  else if calSuspended s m then
    s.modCalM m (fun c => { c with
      calRun := false, suspended := true, h3Lost := c.h3Lost || !h3Voted s, win := Vector.replicate 3 { at' := s.clk }, closed := Vector.replicate 3 none })
  else if chanSource s m 2 = 0 ∨ s.chans[m][(2 : Fin 4)].lost = true then calStop (s.modCalM m (fun c => { c with suspended := false })) m 1
  else
    let s := s.modCalM m (fun c => { c with
      suspended := false, calRun := calStage s m
      win := if c.suspended then Vector.replicate 3 { at' := s.clk } else c.win })
    let ok := calStage s m && calWordOk s m 0 w.iu && calWordOk s m 1 w.iv && calWordOk s m 2 w.idc && calWordOk s m 3 w.vdc
    let last := w.at' - (w.age - 285)
    if !ok then s
    else match calVector s.tfu[m].inForce last with
      | none => s
      | some v =>
        let idc := correct s m 2 w.idc
        let sgn : Int := if v = 1 ∨ v = 3 ∨ v = 2 then 1 else -1
        if v = 0 then
          if s.pm m 0x9000 2 = 1 then calAdd s m 2 (fun x => { x with sums := { x.sums with n := x.sums.n + 1, sx := x.sums.sx + w.idc } }) else s
        else if s.pm m 0x9000 1 = 0 then s
        else if v = 2 ∨ v = 5 then
          -- V2 puts -i_W = i_U + i_V on the upper rail, V5 the same negated
          let d := perUnit s m 0 (correct s m 0 w.iu) + perUnit s m 1 (correct s m 1 w.iv) - sgn * dcAgainstPeak s m idc
          let f (x : CalWindow) : CalWindow := { x with cons := (x.cons.1 + d, x.cons.2 + 1) }
          calAdd (calAdd s m 0 f) m 1 f
        else
          let c : Fin 4 := if v = 1 ∨ v = 4 then 0 else 1
          let raw := if v = 1 ∨ v = 4 then w.iu else w.iv
          let y := neigh (sgn * idc * fullScale s m 2) (Nat.max 1 (fullScale s m c))
          calAdd s m (if v = 1 ∨ v = 4 then 0 else 1) (fun x => { x with sums := x.sums.add raw y (sgn * dcAgainstPeak s m idc) })

/-! ### Windows and fits (14 R363, R364, R371) -/

/-- CAL_WINDOW_CLOSE (14 R363): after N_win usable samples or 1 s the sums are frozen and a new window starts. -/
def execCalWindowClose (dt : Nat) (m : Fin 4) (k : Fin 3) (s : State) : Host.Outcome State Fault Refusal :=
  let s := advance s dt
  let c := s.cal.machines[m]
  let w := c.win[k]
  done (if !c.stopped ∧ !c.suspended ∧ (s.pm m 0x9003 1 ≤ w.sums.n ∨ elapsed s w.at' (msTicks 1000) = true) then
      s.modCalM m (fun c => { c with closed := vmod c.closed k (fun _ => some w), win := vmod c.win k (fun _ => { at' := s.clk }) })
    else s)

/-- A correction moves towards a target by at most a step. -/
def stepTo (cur target step : Int) : Int := cur + clampI (-step) step (target - cur)

/-- A counter of limit hits, with AT_LIMIT and its source (14 R364, R373). -/
def limitHit (s : State) (m : Fin 4) (ch : Fin 4) (hit : Bool) : State :=
  let b : BitVec 3 := 1#3 <<< ch.val
  if !hit then s.modCalM m (fun c => { c with atLimit := c.atLimit &&& ~~~b })
  else
    let was := s.cal.machines[m].atLimit != 0
    let (k, o) := ctrInc 16 s.cal.machines[m].limitHits
    let s := s.modCalM m (fun c => { c with atLimit := c.atLimit ||| b, limitHits := k })
    raiseIf o (if was then s else raise s (192 + m.val) 0) (192 + m.val) 4

/-- An accepted window counts (14 R373). -/
def countAccepted (s : State) (m : Fin 4) : State :=
  let (k, o) := ctrInc 32 s.cal.machines[m].accepted
  raiseIf o (s.modCalM m (fun c => { c with accepted := k })) (192 + m.val) 4

/-- A gain and an offset are sealed for the next commit point (14 R357). -/
def sealCal (s : State) (m c : Fin 4) (g : Nat) (o : Int) : State :=
  s.modCalM m (fun k => { k with pending := some ((k.pending.getD []).filter (fun x => x.1 != c.val) ++ [(c.val, g, o)]) })

/-- The least-squares fit x = b·y + a of a window: n, det, slope numerator, offset numerator. -/
def fitOf (x : CalSums) : Int × Int × Int :=
  let n : Int := x.n
  let det := n * x.syy - x.sy * x.sy
  let num := n * x.sxy - x.sx * x.sy
  (det, num, x.sx * det - x.sy * num)

/-- The fit of one phase channel (14 R363, R364, R371). -/
def fitPhase (s : State) (m : Fin 4) (c : Fin 2) (w : CalWindow) : State :=
  let x := w.sums
  let nWin := s.pm m 0x9003 1
  let rMax : Int := s.pm m 0x9003 6
  let (det, num, off) := fitOf x
  let n : Int := x.n
  -- RSS × n × det = (n·Sxx − Sx²)·det − num²; the RMS is the root of RSS / n
  let rss := (n * x.sxx - x.sx * x.sx) * det - num * num
  if x.n < nWin ∨ 8 * x.above < nWin ∨ 8 * x.below < nWin ∨ det ≤ 0 ∨ rMax * rMax * n * n * det < rss then s
  else
    let ch : Fin 4 := finOf 4 c.val
    let s := countAccepted s m
    let rms := Nat.min 255 (isqrt (neigh rss (n * n * det)).toNat)
    let s := s.modCalM m (fun k => { k with residual := BitVec.ofNat 8 rms })
    let gBase := baseGain s m ch
    let oBase := baseOffset s m ch
    let gLim : Int := s.pm m 0x9003 2
    let oLim : Int := 256 * s.pm m 0x9003 3
    -- a slope that is not positive has no gain within any limit
    let gFit : Int := if num ≤ 0 then gBase + 4 * gLim + 4 else neigh (65536 * det) num
    let oFit := neigh (256 * off) (n * det)
    let gT := clampI (gBase - gLim) (gBase + gLim) gFit
    let oT := clampI (oBase - oLim) (oBase + oLim) oFit
    let beyond := decide (2 * gLim < (gFit - gBase).natAbs) || decide (2 * oLim < (oFit - oBase).natAbs)
    -- the consistency mean over the same window
    let bad := decide (10 * (w.cons.2 : Int) < w.cons.1.natAbs)
    let s := if w.cons.2 = 0 then s
      else s.modCalM m (fun k => { k with consRun := vmod k.consRun c (fun r => if bad then r + 1 else 0) })
    let s := limitHit s m ch (gT != gFit || oT != oFit)
    let s := s.modCalM m (fun k => { k with beyondRun := vmod k.beyondRun c (fun r => if beyond then r + 1 else 0) })
    if 3 ≤ s.cal.machines[m].beyondRun[c] then
      calStop (s.modCalM m (fun k => { k with beyondRun := vmod k.beyondRun c (fun _ => 0) })) m 1
    else if 3 ≤ s.cal.machines[m].consRun[c] then
      calStop (s.modCalM m (fun k => { k with consRun := vmod k.consRun c (fun _ => 0) })) m 2
    else
      let k := s.cal.machines[m]
      sealCal s m ch (stepTo k.gain[ch] gT (s.pm m 0x9003 4)).toNat (stepTo k.offset[ch] oT (256 * s.pm m 0x9003 5))

/-- The DC-link current offset from the zero vectors (14 R364). -/
def fitZero (s : State) (m : Fin 4) (w : CalWindow) : State :=
  if w.sums.n < s.pm m 0x9003 1 ∨ w.sums.n = 0 then s
  else
    let base := baseOffset s m 2
    let lim : Int := 256 * s.pm m 0x9003 3
    let mean := neigh (256 * w.sums.sx) w.sums.n
    let t := clampI (base - lim) (base + lim) mean
    let s := limitHit (countAccepted s m) m 2 (t != mean)
    let k := s.cal.machines[m]
    sealCal s m 2 k.gain[(2 : Fin 4)] (stepTo k.offset[(2 : Fin 4)] t (256 * s.pm m 0x9003 5))

/-- CAL_FIT (14 R363, R364): H3 fits a closed window within 1 ms; a window not accepted changes nothing. -/
def execCalFit (dt : Nat) (m : Fin 4) (k : Fin 3) (s : State) : Host.Outcome State Fault Refusal :=
  let s := advance s dt
  done (match s.cal.machines[m].closed[k] with
    | none => s
    | some w =>
      let s := s.modCalM m (fun c => { c with closed := vmod c.closed k (fun _ => none) })
      if s.cal.machines[m].stopped ∨ !h3Voted s then s
      else if k = 0 then fitPhase s m 0 w
      else if k = 1 then fitPhase s m 1 w
      else fitZero s m w)

/-- Corrections sealed become active at the commit point of the machine, and calibration resumes there once H3 is voted
again (14 R357, R358, R360). -/
def calCommit (s : State) (m : Fin 4) : State :=
  let s := s.modCalM m (fun k => { k with h3Lost := !h3Voted s })
  match s.cal.machines[m].pending with
  | none => s
  | some l =>
    l.foldl (fun s x => s.modCalM m (fun k => { k with
      gain := vmod k.gain (finOf 4 x.1) (fun _ => x.2.1), offset := vmod k.offset (finOf 4 x.1) (fun _ => x.2.2) }))
      (s.modCalM m (fun k => { k with pending := none }))

/-! ### Standstill capture (14 R365) -/

/-- The standstill conditions of `m` now. -/
def standstill (s : State) (m : Fin 4) : Bool :=
  let g := s.gl[m]
  !s.en (lead s m) && s.pm m 0x9000 3 == 1 && h3Voted s && !g.fresh && (g.code == .standby || g.code == .config)
    && g.upOk && (g.up.getLsbD 15 || g.up.extractLsb' 40 24 == 0#24)
    && decide ((s.chans[m][(2 : Fin 4)].fine).natAbs * 100 < 8388608)

/-- STANDSTILL_CAPTURE_START (14 R365): the conditions have held for 100 ms. -/
def execStandstillCaptureStart (dt : Nat) (m : Fin 4) (s : State) : Host.Outcome State Fault Refusal :=
  let s := advance s dt
  let c := s.cal.machines[m]
  done (if elapsedO s c.stillAt (msTicks 100) && c.capture.isNone && !c.captured then
      s.modCalM m (fun k => { k with capture := some (0, [(0, 0, 0), (0, 0, 0), (0, 0, 0)]) })
    else s)

/-- The standstill at a sample boundary: its timer, and one sample of a capture in progress. -/
def stillBoundary (s : State) (m : Fin 4) : State :=
  if !standstill s m then s.modCalM m (fun k => { k with stillAt := none, capture := none, captured := false })
  else
    let s := s.modCalM m (fun k => { k with stillAt := some (k.stillAt.getD s.clk) })
    match s.cal.machines[m].capture with
    | none => s
    | some (n, l) =>
      if 256 ≤ n then s
      else
        let l := (l.zipIdx).map (fun x =>
          let f := s.chans[m][finOf 4 x.2].fine
          if n = 0 then (f, f, f)
          else (x.1.1 + f, if f < x.1.2.1 then f else x.1.2.1, if x.1.2.2 < f then f else x.1.2.2))
        s.modCalM m (fun k => { k with capture := some (n + 1, l) })

/-- STANDSTILL_CAPTURE_END (14 R365): after 256 boundaries the averages become the offsets, or nothing changes. -/
def execStandstillCaptureEnd (dt : Nat) (m : Fin 4) (s : State) : Host.Outcome State Fault Refusal :=
  let s := advance s dt
  done (match s.cal.machines[m].capture with
    | none => s
    | some (n, l) =>
      if n < 256 then s
      else
        let lim : Int := 256 * s.pm m 0x9003 3
        let used := (l.zipIdx).filter (fun x => chanSource s m (finOf 4 x.2) != 0)
        let ok := used.all (fun x =>
          let avg := neigh x.1.1 256
          decide ((avg - baseOffset s m (finOf 4 x.2)).natAbs ≤ lim) && decide (x.1.2.2 - x.1.2.1 ≤ 16384))
        let s := s.modCalM m (fun k => { k with capture := none, captured := true })
        if ok then
          used.foldl (fun s x => sealCal s m (finOf 4 x.2) s.cal.machines[m].gain[finOf 4 x.2] (neigh x.1.1 256)) s
        else raise s (192 + m.val) 3)

/-- An enable ends the capture in progress and a stop of calibration (14 R365, R371). -/
def calEnabled (s : State) (m : Fin 4) : State :=
  s.modCalM m (fun k => { k with
    capture := none, stillAt := none, captured := false, stopped := false, stopCause := 0, consRun := Vector.replicate 2 0
    beyondRun := Vector.replicate 2 0 })

/-- CAL_RESTART (23 R593). -/
def execCalRestart (tr : Transport) (tag : BitVec 16) (s : State) : Host.Outcome State Fault Refusal :=
  done (onCmd s tr tag 0x0900 fun s c => needState s c (!s.cal.machines[c.m].stopped) 0 fun s =>
    reply (s.modCalM c.m (fun k => { k with stopped := false, stopCause := 0, consRun := Vector.replicate 2 0, beyondRun := Vector.replicate 2 0 })) c stOK [])

/-! ### Ports (14 R366, R367) -/

/-- A_s of a port: of the last fit, or free before the first (log 55). -/
def ampOf (s : State) (p : Fin 4) : Int :=
  match s.cal.ports[p].amp with
  | some a => a
  | none => Config.outside 26 [p.val] + 1

/-- The corrected pair of signals: s − o_s and ((c − o_c) / k_a + s′ sin φ) / cos φ, offsets in 1/1024 of A_s. -/
def portCorrect (s : State) (p : Fin 4) (x y : Int) : Int × Int :=
  let k := s.cal.ports[p]
  let a := ampOf s p
  let s' := x - neigh (k.os * a) 1024
  let (c, d) := cosSin30 (lowBits 32 (neigh (k.phi * 2 ^ 32) 36000))
  let y' := neigh ((y - neigh (k.oc * a) 1024) * 65536) (Nat.max 1 k.ka)
  (s', neigh (y' * 2 ^ 30 + s' * d) c)

/-- sin² + cos² of a pair of signals lies outside 0.25 to 2.25 of its value at commissioning, which has no parameter and
is free (04 R121, log 27). -/
def ampBad (p : Fin 4) (sn cs : Int) : Bool :=
  let a : Int := Config.outside 43 [p.val] + 1
  let r := sn * sn + cs * cs
  decide (4 * r < a * a) || decide (9 * a * a < 4 * r)

/-- One winding demodulated over a half period of the excitation, by the frequency, the amplitude, the phase lag and the
gain of the port; the demodulation itself is free (04 R111, log 27). -/
def demodulated (s : State) (p : Fin 4) (samples : List (BitVec 14)) : Int :=
  Config.demod [portPar s p 2, portPar s p 3, portPar s p 4, portPar s p 5] (samples.map (fun x => x.toInt))

/-- Port calibration collects the uncorrected signals of a port with their corrected angle and the tracked speed; after 16
whole cycles the sums wait for their fit and new ones begin (14 R366). -/
def portCollect (s : State) (p : Fin 4) (sn cs : Int) (angle : BitVec 16) (speed : Int) : State :=
  s.modCal (fun k => { k with ports := vmod k.ports p (fun y =>
    let z := y.sums
    let first := decide (z.n = 0)
    let z : PortSums := {
      n := z.n + 1, ss := z.ss + sn, cs := z.cs + cs, s2 := z.s2 + sn * sn, c2 := z.c2 + cs * cs, sc := z.sc + sn * cs
      turned := if first then 0 else z.turned + angleDiff angle z.last, last := angle
      startAt := if first then s.clk else z.startAt, span := if first then 0 else s.clk - z.startAt
      speeds := z.speeds + speed
      least := if first || decide (speed < z.least) then speed else z.least
      greatest := if first || decide (z.greatest < speed) then speed else z.greatest }
    if 16 * 65536 ≤ z.turned.natAbs then { y with sums := {}, closed := some z } else { y with sums := z }) })

/-- The tracked speed stayed within ±5 % of its mean, and the cycle frequency of 16 cycles lay from 0.5 Hz to one
twentieth of the excitation frequency in 100 Hz; a sin/cos port has no excitation (14 R366). -/
def PortSums.steady (z : PortSums) (excitation : Option Nat) : Bool :=
  let n : Int := z.n
  let near (v : Int) : Bool := decide (20 * (v * n - z.speeds).natAbs ≤ z.speeds.natAbs)
  near z.least && near z.greatest && decide (z.span ≤ 32 * 200000000)
    && (match excitation with
        | some f => decide (16 * 200000000 ≤ z.span * (5 * f))
        | none => true)

/-- RESOLVER_HALF_PERIOD (04 R111, R112; 14 R366): the samples of both windings over one half period are demodulated and
advance the tracking loop, whose coefficients follow freely from its bandwidth (log 10); the pole pairs of the resolver
are free (log 27). -/
def execResolverHalfPeriod (dt : Nat) (p : Fin 4) (samples : List (BitVec 14 × BitVec 14)) (s : State) : Host.Outcome State Fault Refusal :=
  let s := advance s dt
  done (if portMode s p ≠ 1 ∨ analogUp s = false then s
    else
      let r := 1 + Config.outside 2 [p.val] % 8
      let sn := demodulated s p (samples.map (·.1))
      let cs := demodulated s p (samples.map (·.2))
      let s := s.modPort p (fun x => { x with ampRun := if ampBad p sn cs then Nat.min 4 (x.ampRun + 1) else 0 })
      let (a, b) := portCorrect s p sn cs
      let th := atan16 a b
      let x := s.posPorts[p]
      let s := portCollect s p sn cs th x.loopSpeed
      let now := posNow s p
      if !x.locked then
        s.modPort p (fun x => { x with pos := BitVec.ofInt 32 (neigh th.toNat r), posTick := s.clk, locked := true })
      else
        let e := angleDiff th (BitVec.ofNat 16 (now.toNat * r))
        let h := s.clk - x.posTick
        let bw := portPar s p 6
        s.modPort p (fun x => { x with
          pos := now + BitVec.ofInt 32 (neigh (Config.filter 0 e h bw) r), posTick := s.clk
          loopSpeed := clampI (-8388352) 8388352 (x.loopSpeed + Config.filter 1 e h bw) }))

/-- SINCOS_PERIOD_COUNT (04 R113): a sample of the corrected signals, at a zero crossing that counts one signal period up
or down (`cross`), or between crossings. The angle is interpolated by arctangent to 1/4,096 of the period, unless the
signal is above 200 kHz (`fast`). A period is one line, four counts per turn (log 27). -/
def execSincosPeriodCount (dt : Nat) (p : Fin 4) (cross : Option Bool) (sn cs : BitVec 16) (fast : Bool) (s : State) :
    Host.Outcome State Fault Refusal :=
  let s := advance s dt
  done (if portMode s p ≠ 2 ∨ analogUp s = false then s
    else
      let s := s.modPort p (fun x => { x with
        ampAt := if ampBad p sn.toInt cs.toInt then some (x.ampAt.getD s.clk) else none })
      let x := s.posPorts[p]
      let n : Int := match cross with | some true => x.count + 1 | some false => x.count - 1 | none => x.count
      -- the angle that the count stands for: the crossing itself, or the last angle
      let ref : Int := match cross with | some true => 4096 * n | some false => 4096 * (n + 1) | none => x.angle
      let (a, b) := portCorrect s p sn.toInt cs.toInt
      let s := portCollect s p sn.toInt cs.toInt (atan16 a b) x.loopSpeed
      let frac := neigh (atan16 a b).toNat 16
      let ang : Int := if fast then 4096 * n else ref + ((frac - ref + 2048) % 4096 - 2048)
      let off := !fast && (if cross.isSome then decide (1024 < (ang - ref).natAbs)
        else decide (ang < 4096 * n - 1024) || decide (4096 * (n + 1) + 1024 < ang))
      let s := if off then countError s p else s
      let h := s.clk - x.posTick
      let e := (ang - x.angle) - neigh (x.loopSpeed * h * 4096 * portPar s p 7) (4 * 65536 * 46875000)
      s.modPort p (fun x => { x with
        count := if off then ang / 4096 else n
        angle := ang, interpOff := fast, pos := BitVec.ofInt 32 (neigh (ang * 4 * 65536) (4096 * portPar s p 7)), posTick := s.clk
        loopSpeed := clampI (-8388352) 8388352 (x.loopSpeed + Config.filter 1 e h (portPar s p 6)) }))

/-- A correction of a port moved towards its fit by at most a step and clamped: value, clamped, beyond twice the limit. -/
def portStep (cur fit base lim step : Int) : Int × Bool × Bool :=
  let t := clampI (base - lim) (base + lim) fit
  (stepTo cur t step, t != fit, decide (2 * lim < (fit - base).natAbs))

/-- A rejected fit counts (14 R373). -/
def portRejected (s : State) (p : Fin 4) : State :=
  let (k, o) := ctrInc 16 s.cal.ports[p].rejections
  raiseIf o (s.modCal (fun c => { c with ports := vmod c.ports p (fun x => { x with rejections := k }) })) 196 (64 * p.val + 2)

/-- The fit over the sums of one collection (14 R366): the amplitude of the sine, and the two offsets, the ratio of the
amplitudes and the phase error that it finds, in the units of their terms. None where an amplitude is 0. -/
def portFitOf (x : PortSums) : Option (Int × Int × Int × Int × Int) :=
  let n : Int := x.n
  -- n² × variance of s and of c, n² × covariance
  let vs := (n * x.s2 - x.ss * x.ss).toNat
  let vc := (n * x.c2 - x.cs * x.cs).toNat
  let cov := n * x.sc - x.ss * x.cs
  -- as / n and ac / n are the amplitudes; sin φ = −2 cov / (as × ac)
  let as := isqrt (2 * vs)
  let ac := isqrt (2 * vc)
  if as = 0 ∨ ac = 0 then none
  else
    let sp := -2 * cov
    let cp := isqrt (as * as * ac * ac - (sp.natAbs) * sp.natAbs)
    some (neigh as n, neigh (x.ss * 1024) as, neigh (x.cs * 1024) as, neigh (65536 * ac) as, neigh (((atan16 sp cp).toInt) * 36000) 65536)

/-- A fit is taken (14 R366, R367): each term steps towards it within its limits, and three fits in a row beyond twice a
limit stop the calibration of the port. -/
def takePortFit (s : State) (p : Fin 4) (f : Int × Int × Int × Int × Int) : State :=
  let k := s.cal.ports[p]
  let (os, b1, t1) := portStep k.os f.2.1 0 51 1
  let (oc, b2, t2) := portStep k.oc f.2.2.1 0 51 1
  let (ka, b3, t3) := portStep k.ka f.2.2.2.1 65536 6553 64
  let (ph, b4, t4) := portStep k.phi f.2.2.2.2 0 300 5
  let run := if t1 || t2 || t3 || t4 then k.beyondRun + 1 else 0
  let stop := decide (3 ≤ run)
  let s := s.modCal (fun c => { c with ports := vmod c.ports p (fun y => { y with
    amp := some f.1.toNat, beyondRun := if stop then 0 else run, stopped := stop
    pending := if stop then none else some (os, oc, ka.toNat, ph) }) })
  let s := if b1 || b2 || b3 || b4 then raise s 196 (64 * p.val) else s
  if stop then raise s 196 (64 * p.val + 1) else s

/-- PORT_CAL_FIT (14 R366, R367): H3 fits the signals of 16 whole cycles. A fit over more than 10 s, or with the speed or
the frequency outside its range, is rejected (log 55). -/
def execPortCalFit (dt : Nat) (p : Fin 4) (s : State) : Host.Outcome State Fault Refusal :=
  let s := advance s dt
  let k := s.cal.ports[p]
  done (match k.closed with
  | none => s
  | some x =>
    let s := s.modCal (fun c => { c with ports := vmod c.ports p (fun y => { y with closed := none }) })
    if k.stopped ∨ s.p0 (0x9100 + p.val) 1 = 0 ∨ !h3Voted s ∨ ¬(portMode s p = 1 ∨ portMode s p = 2) then s
    else if !x.steady (if portMode s p = 1 then some (portPar s p 2) else none) ∨ msTicks 10000 < x.span then portRejected s p
    else
      match portFitOf x with
      | none => portRejected s p
      | some f => takePortFit s p f)

/-- Port corrections commit at the boundaries of the first machine that the port serves (14 R367). -/
def portCalCommit (s : State) (m : Fin 4) : State :=
  forAll four (fun p s => if firstServed s p = some m then
    match s.cal.ports[p].pending with
    | none => s
    | some (a, b, c, d) => s.modCal (fun k => { k with ports := vmod k.ports p (fun y => { y with os := a, oc := b, ka := c, phi := d, pending := none }) })
    else s) s

/-- PORT_CAL_RESTART (23 R593): its parameter is the port. -/
def execPortCalRestart (tr : Transport) (tag : BitVec 16) (s : State) : Host.Outcome State Fault Refusal :=
  done (onCmd s tr tag 0x0901 fun s c => needLen s c 1 fun s =>
    let p := (c.data.headD 0).toNat
    if 4 ≤ p then reply s c stBADPARAM (elemHeader 0 0)
    else if s.cal.ports[finOf 4 p].stopped then
      reply (s.modCal (fun k => { k with ports := vmod k.ports (finOf 4 p) (fun y => { y with stopped := false, beyondRun := 0 }) })) c stOK []
    else reply s c stREFUSED [])

/-- The calibration status word (14 R372). -/
def calWord (s : State) (m : Fin 4) : Nat :=
  let k := s.cal.machines[m]
  flag k.calRun 31 + flag k.suspended 30 + flag k.stopped 29 + flag (k.atLimit != 0) 28 + k.stopCause.toNat * 2 ^ 24 + k.residual.toNat * 256

/-! ### Loss of a sensor (04 R121) -/

/-- What the loss of channel `c` of `m` does: the channel named as the lower-half input of a three-level machine stops
that machine (06 R164); U, V and the DC-link voltage stop the TFU or lose a bridge or a set; the DC-link current stops
calibration alone. -/
def channelLost (s : State) (m c : Fin 4) : State :=
  if s.chans[m][c].lost then s
  else
    let n := ownerOfInput s m c
    let src := 48 + ((namedSd s m c).getD m).val
    let s := raise (noteSource (s.modChan m c (fun x => { x with lost := true })) n src c.val) src c.val
    if (namedSd s m c).isSome then stopTfu s n
    else if c = 2 then
      if calSuspended s m || s.cal.machines[m].stopped then s else calStop s m 1
    else if c = 3 then stopTfu s n
    else if topo s n = 3 ∧ s.pm n 0x2705 1 = 1 ∧ s.drive[n].degraded ≠ .bridge then loseBridge s n ((bridgeOf s n m).getD 0)
    else if isPair s n ∧ s.pm n 0x2705 2 = 1 ∧ !setLost s n then loseSet s n (decide (m ≠ n))
    else stopTfu s n

/-- The test of 04 R121 for channel `c` of `m`: no bit change for 64 modulator clocks, or three conversions running at an
end of the range, on an analog channel other than the DC-link current. -/
def channelTest (s : State) (m c : Fin 4) (seen : LossTest) : Bool :=
  match chanSource s m c with
  | 1 => seen.bits == 0 || seen.bits == BitVec.allOnes 64
  | 2 => c != 2 && decide (3 ≤ s.chans[m][c].endRun)
  | _ => false

/-- The test of 04 R121 for a port; those of ABZ and SSI are made where their errors are counted. -/
def portTest (s : State) (p : Fin 4) (seen : LossTest) : Bool :=
  let x := s.posPorts[p]
  match portMode s p with
  | 1 => decide (4 ≤ x.ampRun) || seen.excitation
  | 2 => elapsedO s x.ampAt 400
  | 3 => decide (8 ≤ (x.recentErrors.filter (fun t => decide (s.clk < t + msTicks 100))).length)
  | 4 => decide (3 ≤ x.frameRun)
  | _ => false

/-- SENSOR_LOSS (04 R121): the loss test of channel `i` of machine `m` expires; item 4 is its neutral-point input on
AIN. With `port`, `m` is a position port. -/
def execSensorLoss (dt : Nat) (m : Fin 4) (i : Fin 5) (port : Bool) (seen : LossTest) (s : State) : Host.Outcome State Fault Refusal :=
  let s := advance s dt
  done (if port then (if portTest s m seen then portLoss s m else s)
    else if h : i.val < 4 then
      if channelTest s m ⟨i.val, h⟩ seen then channelLost s m ⟨i.val, h⟩ else s
    else if (npAin s m).isNone ∨ s.tfu[m].npLost = true ∨ s.tfu[m].npEnd < 3 then s
    else stopTfu (raise (noteSource (s.modTfu m (fun t => { t with npLost := true })) m (48 + m.val) 3) (48 + m.val) 3) m)

end Sys2Proof.Machine
end

