-- ==== Sys2Proof/Machine/Can.lean ====
section
/-! DEFINITION. The commands of the CAN ports: bus events, requests, and the object opcodes (spec file 19_can, 23 R591, R592). -/
namespace Sys2Proof.Machine

/-! ### Counters, fault states, status -/

/-- A port counter (19 R517) after a count: bus-offs 0, clashes 1, overruns 2, late cancels 3. OVF raises cause 7. -/
def canCount (s : State) (p : Fin 6) (which : Nat) : State :=
  let c := s.can[p]
  let old := match which with | 0 => c.busOffs | 1 => c.clashes | 2 => c.overruns | _ => c.lateCancels
  let (n, o) := ctrInc 16 old
  let s := s.modCan p (fun c => match which with
    | 0 => { c with busOffs := n } | 1 => { c with clashes := n } | 2 => { c with overruns := n } | _ => { c with lateCancels := n })
  raiseIf o s (22 + p.val) (7 + which * 8192)

/-- The fault state that TEC and REC give (19 R508). -/
def faultState (tec recv : Nat) : CanState :=
  if 255 < tec then .busOff else if 128 ≤ tec ∨ 128 ≤ recv then .errorPassive else .errorActive

/-- New TEC and REC in ERROR_ACTIVE or ERROR_PASSIVE, with the events of the change (19 R508, R509). -/
def canTally (s : State) (p : Fin 6) (tec recv : Nat) : State :=
  let old := s.can[p].state
  let st := faultState tec recv
  let s := s.modCan p (fun c => { c with tec := Nat.min tec 256, recv := Nat.min recv 255, state := st })
  if st = old then s
  else
    match st with
    | .errorPassive => canRaise s p 0 0
    | .errorActive => canRaise s p 1 0
    | _ =>
      let onRequest := s.p0 (0x1200 + p.val) 3 == 1
      let s := s.modCan p (fun c => { c with
        attempt := none, sleepReq := false, wakeReq := none, recoveryWait := onRequest
        restartAt := if onRequest then none else some s.clk })
      canRaise (canCount s p 0) p 2 0

/-- The port takes part in bus traffic. -/
def canActive (s : State) (p : Fin 6) : Bool := s.can[p].state == .errorActive || s.can[p].state == .errorPassive

/-- Transmit berths of a port that hold a pending or committed frame. -/
def canPending (s : State) (p : Fin 6) : Nat := (objsOf s p (fun o => o.tx && o.pend.isSome)).length

def CanState.code : CanState → Nat
  | .off => 0 | .integrating => 1 | .errorActive => 2 | .errorPassive => 3 | .busOff => 4 | .recovering => 5 | .sleep => 6
def CanErr.code : CanErr → Nat
  | .none' => 0 | .stuff => 1 | .form => 2 | .ack => 3 | .bitRecessive => 4 | .bitDominant => 5 | .crc => 6

/-- Status word of a port (19 R516). -/
def canStatusWord (s : State) (p : Fin 6) : Nat :=
  let c := s.can[p]
  c.state.code * 2 ^ 28 + c.wakeCause.toNat * 2 ^ 26 + flag c.recoveryWait 25 + flag (canMode s p == 2) 24
    + c.lastError.code * 2 ^ 16 + canPending s p

/-! ### Requests (19 R509, R511, R515) -/

/-- REQUEST 1: bus-off recovery starts. -/
def canBusOn (s : State) (p : Fin 6) : State :=
  if s.can[p].state = .busOff then
    s.modCan p (fun c => { c with state := .recovering, recoveryWait := false, restartAt := none })
  else s

/-- REQUEST 2 is refused (19 R511). -/
def canSleepRefused (s : State) (p : Fin 6) : Bool :=
  decide (0 < canPending s p)
  || eight.any (fun c => s.p0 (0x6040 + c.val) 1 == 1 && s.p0 (0x6040 + c.val) 3 == 2 + p.val)
  || s.porter.canIn[p].isSome || s.porter.canOut[p] != []
  || s.porter.replies.any (fun r => r.tr == .can p)
  || (objsOf s p (fun o => o.internal && !o.tx && o.new)) != []
  || canMode s p == 0 || s.can[p].state == .off || s.can[p].state == .busOff || s.can[p].state == .sleep

/-- REQUEST 2: the port will sleep at the next bus idle. -/
def canSleep (s : State) (p : Fin 6) : State := s.modCan p (fun c => { c with sleepReq := true, wakeReq := none })

/-- A wake (19 R515): 1 edge, 2 frame, 3 request. -/
def wakeCan (s : State) (p : Fin 6) (cause : BitVec 2) : State :=
  canRaise (s.modCan p (fun c => { c with state := .integrating, wakeCause := cause, wakeSet := none, wakeReq := none })) p 6 0

/-- REQUEST 3: the port wakes; one that waits to sleep keeps the tick of the request. -/
def canWake (s : State) (p : Fin 6) : State :=
  if s.can[p].state = .sleep then wakeCan s p 3
  else if s.can[p].sleepReq then s.modCan p (fun c => { c with wakeReq := some s.clk })
  else s

/-! ### Reception (19 R503, R504) -/

def formatBit : CanFormat → Nat
  | .classical => 0 | .fd => 1 | .fdBrs => 1 | .xl => 2

/-- A frame matches a receive object. -/
def objTakes (o : CanObj) (f : CanFrame) : Bool :=
  !o.tx && (f.id ^^^ o.id) &&& o.mask == 0 && f.ide == o.ide && o.formats.getLsbD (formatBit f.format)
    && (o.rtr == 2 || (o.rtr == 1) == f.rtr)

/-- The first object that takes a frame: the internal ones, then the user's, each in ascending berth order. -/
def takerOf (s : State) (p : Fin 6) (f : CanFrame) : Option (Fin 512) :=
  match objsOf s p (fun o => o.internal && objTakes { o with mask := 0x1FFFFFFF } f) with
  | b :: _ => some b
  | [] => (objsOf s p (fun o => !o.internal && objTakes o f)).head?

/-- The frame goes into its object, or is an overrun, or is discarded. A frame of a safety connection goes to
the connection at once. -/
def placeFrame (s : State) (p : Fin 6) (f : CanFrame) : State :=
  match takerOf s p f with
  | none => s
  | some b =>
    match canObj s b with
    | none => s
    | some o =>
      let store (s : State) : State := modObj s b (fun o => { o with frame := some f, new := true, frameTime := s.can[p].sofStamp })
      let safetyObj := o.internal && eight.any (fun c => s.p0 (0x6040 + c.val) 1 == 1 && s.p0 (0x6040 + c.val) 3 == 2 + p.val
        && idOfWord (s.p0 (0x6040 + c.val) 8) == o.id && bit (s.p0 (0x6040 + c.val) 8) 31 == o.ide)
      if safetyObj then
        let s := modObj s b (fun o => { o with frame := some f, frameTime := s.can[p].sofStamp })
        s.modSafety (fun x => { x with pduIn := x.pduIn ++ [(2 + p.val, f.data)] })
      else if o.new then
        let s := if o.overwrite then store s else s
        canRaise (canCount s p 2) p 5 b.val
      else store s

/-! ### Bus events -/

/-- CAN_START_OF_FRAME (19 R505): the port offers its highest-ranked pending frame. -/
def execCanStartOfFrame (dt : Nat) (p : Fin 6) (s : State) : Host.Outcome State Fault Refusal :=
  let s := advance s dt
  done (if canActive s p && canMode s p == 1 then s.modCan p (fun c => { c with attempt := bestPending s p }) else s)

/-- CAN_SOF_SAMPLE_POINT (19 R507): the frame offered is committed, when it has not been withdrawn. -/
def execCanSofSamplePoint (dt : Nat) (p : Fin 6) (s : State) : Host.Outcome State Fault Refusal :=
  let s := advance s dt
  let s := s.modCan p (fun c => { c with sofStamp := s.tb.now })
  done (match s.can[p].attempt with
    | none => s
    | some b =>
      if (canObj s b).any (fun o => o.pend.isSome) then
        modObj s b (fun o => { o with pend := match o.pend with
          | some f => some { f with committed := true }
          | none => none })
      else s.modCan p (fun c => { c with attempt := none }))

/-- CAN_FRAME_RECEIVE (19 R496, R503, R508): a frame received without error, of a format that the port is enabled for. -/
def execCanFrameReceive (dt : Nat) (p : Fin 6) (frame : CanFrame) (s : State) : Host.Outcome State Fault Refusal :=
  let s := advance s dt
  done (if canActive s p && (portFormats s p).getLsbD (formatBit frame.format) then
      let r := s.can[p].recv
      let (v, s) := if 128 ≤ r then (fun x : Nat × State => (119 + x.1 % 9, x.2)) s.fresh else (r - 1, s)
      placeFrame (canTally s p s.can[p].tec v) p frame
    else s)

/-- An attempt of a berth ended otherwise than by a collision; a single one ends its frame (19 R507, R510). -/
def attemptEnds (s : State) (p : Fin 6) (b : Fin 512) (cause : BitVec 8) : State :=
  let s := (modObj s b (fun o => { o with collisions := 0 })).modCan p (fun c => { c with attempt := none })
  if (canObj s b).any (fun o => o.single) then endFrame s b .fault stEXECFAULT [cause] else s

/-- An attempt met a bit error in the data field (19 R510). -/
def collide (s : State) (p : Fin 6) (b : Fin 512) : State :=
  let s := (modObj s b (fun o => { o with collisions := o.collisions + 1 })).modCan p (fun c => { c with attempt := none })
  let s := if (canObj s b).any (fun o => decide (3 ≤ o.collisions)) then
      let s := canRaise (canCount (modObj s b (fun o => { o with collisions := 0 })) p 1) p 4 b.val
      if s.p0 (0x1200 + p.val) 7 = 1 then endFrame s b .fault stEXECFAULT [3] else s
    else s
  if (canObj s b).any (fun o => o.single) then endFrame s b .fault stEXECFAULT [2] else s

/-- The frame of the attempt in progress, when it is committed. -/
def onAttempt (s : State) (p : Fin 6) (f : Fin 512 → State → State) : State :=
  match s.can[p].attempt with
  | none => s
  | some b => if (canObj s b).any (fun o => o.pend.any (fun x => x.committed)) then f b s else s

/-- An error on the bus (19 R508): TEC by 8 for a transmitter, REC by 1 or 8 for a receiver, by ISO 11898-1. -/
def canError (s : State) (p : Fin 6) (err : CanErr) (tx inData heavy exempt : Bool) : State :=
  if !canActive s p then s
  else
    let s := s.modCan p (fun c => { c with lastError := err })
    let s := if tx then
        onAttempt s p (fun b s =>
          if inData && (err == .bitRecessive || err == .bitDominant) then collide s p b else attemptEnds s p b 2)
      else s
    let c := s.can[p]
    if tx then canTally s p (if exempt then c.tec else c.tec + 8) c.recv
    else canTally s p c.tec (c.recv + if heavy then 8 else 1)

/-- CAN_BUS_ERROR. `tx` the port transmits, `inData` in the data field, `heavy` and `exempt` the cases of ISO 11898-1
in which REC rises by 8 and TEC does not rise; `delay` the loop delay when it was measured (19 R499). -/
def execCanBusError (dt : Nat) (p : Fin 6) (err : CanErr) (tx inData heavy exempt : Bool) (delay : Option (BitVec 8)) (s : State) :
    Host.Outcome State Fault Refusal :=
  let s := advance s dt
  let s := match delay with
    | some d => if tx && canActive s p then s.modCan p (fun c => { c with loopDelay := d.toNat }) else s
    | none => s
  done (canError s p err tx inData heavy exempt)

/-- The frame of a berth has been sent to the end of its EOF (19 R506). -/
def frameSent (s : State) (p : Fin 6) (b : Fin 512) : State :=
  match canObj s b with
  | none => s
  | some o =>
    match o.pend with
    | none => s
    | some f =>
      let s := s.put (.canFrame p (txFrame o f.data))
      let s := endFrame s b (if f.late then .lateSent else .sent) stOK []
      let c := s.can[p]
      let s := canTally (s.modCan p (fun c => { c with attempt := none })) p (c.tec - 1) c.recv
      if some b = replyObj s p ∧ o.internal = true then
        let s := s.modPorter (fun x => { x with canOut := vmod x.canOut p (fun l => l.drop 1) })
        if f.lastSegment then
          match s.porter.replies.find? (fun r => r.tr == .can p) with
          | some r => sentReply s r
          | none => s
        else s
      else s

/-- CAN_FRAME_SENT. In a data phase the loop delay is checked against 127 periods (19 R499). -/
def execCanFrameSent (dt : Nat) (p : Fin 6) (delay : Option (BitVec 8)) (s : State) : Host.Outcome State Fault Refusal :=
  let s := advance s dt
  done (if !canActive s p then s
    else onAttempt s p (fun b s =>
      let dataPhase := (canObj s b).any (fun o => o.format == .fdBrs || o.format == .xl)
      match (if dataPhase then delay else none) with
      | none => frameSent s p b
      | some d =>
        let s := s.modCan p (fun c => { c with loopDelay := d.toNat })
        if 127 < d.toNat ∨ 127 < d.toNat + s.p0 (0x1210 + p.val) 9 then
          let (e, s) := s.freshBool
          canError s p (if e then .bitRecessive else .bitDominant) true true false false
        else frameSent s p b))

/-- CAN_ARBITRATION_LOST (19 R507): the port becomes a receiver. -/
def execCanArbitrationLost (dt : Nat) (p : Fin 6) (s : State) : Host.Outcome State Fault Refusal :=
  let s := advance s dt
  done (onAttempt s p (fun b s => attemptEnds s p b 1))

/-- A pending frame that is not committed is withdrawn (19 R507). -/
def withdraw (s : State) (b : Fin 512) (r : TxResult) (status : BitVec 16) : State :=
  match canObj s b with
  | none => s
  | some o =>
    (endFrame s b r status []).modCan o.port (fun c => if c.attempt = some b then { c with attempt := none } else c)

/-- CAN_TX_TIMEOUT (19 R507): T_OUT has run out; without effect on a committed frame. -/
def execCanTxTimeout (dt : Nat) (b : Fin 512) (s : State) : Host.Outcome State Fault Refusal :=
  let s := advance s dt
  done (match canObj s b with
    | none => s
    | some o =>
      if o.pend.any (fun f => !f.committed && o.tOut != 0 && elapsed s f.at' (msTicks o.tOut)) then
        withdraw s b .timeout stTIMEOUT
      else s)

/-- CAN_RESTART_DELAY_EXPIRY (19 R509). -/
def execCanRestartDelayExpiry (dt : Nat) (p : Fin 6) (s : State) : Host.Outcome State Fault Refusal :=
  let s := advance s dt
  done (if s.can[p].state = .busOff ∧ elapsedO s s.can[p].restartAt (msTicks (s.p0 (0x1200 + p.val) 4)) = true then
      s.modCan p (fun c => { c with state := .recovering, restartAt := none })
    else s)

/-- CAN_BUS_OFF_RECOVERED (19 R509). -/
def execCanBusOffRecovered (dt : Nat) (p : Fin 6) (s : State) : Host.Outcome State Fault Refusal :=
  let s := advance s dt
  done (if s.can[p].state = .recovering then
      canRaise (s.modCan p (fun c => { c with state := .errorActive, tec := 0, recv := 0 })) p 3 0
    else s)

/-- CAN_INTEGRATION_COMPLETE (19 R500, R515): the port reaches the fault state it had. -/
def execCanIntegrationComplete (dt : Nat) (p : Fin 6) (s : State) : Host.Outcome State Fault Refusal :=
  let s := advance s dt
  done (if s.can[p].state = .integrating then s.modCan p (fun c => { c with state := c.saved }) else s)

/-- CAN_BUS_ON_REQUEST (19 R509): 1 written to REQUEST. -/
def execCanBusOnRequest (dt : Nat) (p : Fin 6) (s : State) : Host.Outcome State Fault Refusal :=
  done (canBusOn (advance s dt) p)

/-- CAN_SLEEP_REQUEST (19 R511): 2 written to REQUEST, with no effect when it is refused. -/
def execCanSleepRequest (dt : Nat) (p : Fin 6) (s : State) : Host.Outcome State Fault Refusal :=
  let s := advance s dt
  done (if canSleepRefused s p then s else canSleep s p)

/-- CAN_SLEEP_ENTRY (19 R512, R515, R519): bus idle with a sleep request. -/
def execCanSleepEntry (dt : Nat) (p : Fin 6) (s : State) : Host.Outcome State Fault Refusal :=
  let s := advance s dt
  done (if s.can[p].sleepReq && canActive s p then
      let again := s.can[p].wakeReq == some s.clk
      let set := (List.range 7).map (fun k => s.p0 (0x1220 + p.val) (k + 1))
      let s := s.modCan p (fun c => { c with
        state := .sleep, saved := c.state, wakeSet := some set, sleepAt := s.clk, sleepReq := false, wakeReq := none, attempt := none })
      if again then wakeCan s p 3 else s
    else s)

/-- CAN_WAKE_REQUEST (19 R515): 3 written to REQUEST. -/
def execCanWakeRequest (dt : Nat) (p : Fin 6) (s : State) : Host.Outcome State Fault Refusal :=
  done (canWake (advance s dt) p)

/-- CAN_EDGE_WAKE (19 R513): CANn_RX has been low for `low` ticks, counted from the entry into SLEEP on. -/
def execCanEdgeWake (dt : Nat) (p : Fin 6) (low : Nat) (s : State) : Host.Outcome State Fault Refusal :=
  let s := advance s dt
  done (match s.can[p].wakeSet with
    | some (0 :: filter :: _) =>
      if s.can[p].state = .sleep ∧ 5 * filter ≤ low ∧ s.can[p].sleepAt + 5 * filter ≤ s.clk then wakeCan s p 1 else s
    | _ => s)

/-- Data byte `k` of a U64 pattern, byte 0 most significant. -/
def patByte (w k : Nat) : Nat := w / 2 ^ (8 * (7 - k)) % 256

/-- A frame meets the wake settings (19 R514): identifier, mask, IDE, pattern, data mask. -/
def wakesOn (id mask ide pat dmask : Nat) (f : CanFrame) : Bool :=
  (f.id.toNat ^^^ id) &&& mask == 0 && f.ide == (ide == 1) && !f.rtr
    && (List.range 8).all (fun k => patByte dmask k == 0 ||
        (match f.data[k]? with
         | some b => (b.toNat ^^^ patByte pat k) &&& patByte dmask k == 0
         | none => false))

/-- CAN_FRAME_WAKE (19 R514): a frame with a good CRC, of a format that the port receives; `integrated` when it began after the port had integrated in SLEEP. -/
def execCanFrameWake (dt : Nat) (p : Fin 6) (frame : CanFrame) (integrated : Bool) (s : State) : Host.Outcome State Fault Refusal :=
  let s := advance s dt
  done (match s.can[p].wakeSet with
    | some [1, _, id, mask, ide, pat, dmask] =>
      if s.can[p].state = .sleep ∧ integrated = true ∧ (portFormats s p).getLsbD (formatBit frame.format) = true ∧
          wakesOn id mask ide pat dmask frame = true then
        placeFrame (wakeCan s p 2) p frame
      else s
    | _ => s)

/-! ### Opcodes of the CAN objects -/

/-- Byte `i` of the parameters, and big-endian fields. -/
def fld (c : Cmd) (i k : Nat) : Nat := beNat ((c.data.drop i).take k)

/-- First field of CAN_OBJ_BIND that lies outside 19 R502, by byte offset. -/
def badBind (c : Cmd) : Option Nat :=
  let tx := fld c 1 1 == 0
  let ide := fld c 4 1
  let idOk := if ide = 1 then fld c 8 4 < 2 ^ 29 else fld c 8 4 < 2 ^ 11
  let xl := tx && fld c 2 1 == 3
  if 5 < fld c 0 1 then some 0
  else if 1 < fld c 1 1 then some 1
  else if tx ∧ 3 < fld c 2 1 then some 2
  else if !tx ∧ 7 < fld c 3 1 then some 3
  else if 1 < ide ∨ (xl ∧ ide = 1) then some 4
  else if (if tx then 1 else 2) < fld c 5 1 then some 5
  else if tx ∧ 1 < fld c 6 1 then some 6
  else if !tx ∧ 1 < fld c 7 1 then some 7
  else if !decide idOk then some 8
  else if !tx ∧ 2 ^ 29 ≤ fld c 12 4 then some 12
  else if tx ∧ fld c 16 4 &&& 0x00FE00FF ≠ 0 then some 16
  else if tx ∧ 60000 < fld c 24 2 then some 24
  else none

def formatOf : Nat → CanFormat
  | 0 => .classical | 1 => .fd | 2 => .fdBrs | _ => .xl

/-- CAN_OBJ_BIND (19 R501, R502; 23 R591). DIR 0 is transmit and 1 receive (log 20). -/
def execCanObjBind (tr : Transport) (tag : BitVec 16) (s : State) : Host.Outcome State Fault Refusal :=
  done (onCmd s tr tag 0x0710 fun s c => needLen s c 26 fun s =>
    match badBind c with
    | some off => reply s c stBADVALUE (elemHeader 0 off)
    | none =>
      let p : Fin 6 := finOf 6 (fld c 0 1)
      match freeBerth s with
      | none => reply s c stBUSY []
      | some b =>
        if 64 ≤ (objsOf s p (fun _ => true)).length then reply s c stBUSY []
        else
          let tx := fld c 1 1 == 0
          let o : CanObj := {
            tx := tx, port := p, format := if tx then formatOf (fld c 2 1) else .classical
            formats := if tx then 0 else BitVec.ofNat 3 (fld c 3 1), ide := fld c 4 1 == 1
            id := BitVec.ofNat 29 (fld c 8 4), mask := if tx then 0 else BitVec.ofNat 29 (fld c 12 4)
            rtr := BitVec.ofNat 2 (fld c 5 1), xlHdr := if tx then BitVec.ofNat 32 (fld c 16 4) else 0
            af := if tx then BitVec.ofNat 32 (fld c 20 4) else 0, single := tx && fld c 6 1 == 1
            overwrite := !tx && fld c 7 1 == 1, tOut := if tx then fld c 24 2 else 0 }
          reply (setBerth s b (.can o)) c stOK (beBytes 2 b.val))

/-- The user's CAN object of the berth that a command targets. -/
def userObj (s : State) (c : Cmd) : Option CanObj :=
  match canObj s c.berth with
  | some o => if o.internal then none else some o
  | none => none

/-- CAN_OBJ_FREE (19 R501). -/
def execCanObjFree (tr : Transport) (tag : BitVec 16) (s : State) : Host.Outcome State Fault Refusal :=
  done (onCmd s tr tag 0x0711 fun s c => needState s c ((userObj s c).all (fun o => o.pend.isSome)) 0 fun s =>
    reply (setBerth s c.berth .free) c stOK [])

/-- Greatest and least data length of a format (19 R496). -/
def maxData : CanFormat → Nat
  | .classical => 8 | .fd => 64 | .fdBrs => 64 | .xl => 2048
def minData : CanFormat → Nat
  | .xl => 1 | _ => 0

/-- CAN_SEND (19 R506; 23 R592). -/
def execCanSend (tr : Transport) (tag : BitVec 16) (s : State) : Host.Outcome State Fault Refusal :=
  done (onCmd s tr tag 0x0712 fun s c =>
    if c.data.length < 2 then reply s c stBADPARAM (elemHeader 0 0)
    else
      match userObj s c with
      | none => reply s c stREFUSED []
      | some o =>
        if !o.tx || o.pend.isSome || canMode s o.port != 1 || s.can[o.port].state == .sleep || s.can[o.port].sleepReq then
          reply s c stREFUSED []
        else if o.staged.length < fld c 0 2 then reply s c stBADVALUE (elemHeader 0 0)
        else
          let data := o.staged.take (fld c 0 2) ++ c.data.drop 2
          if maxData o.format < data.length ∨ data.length < minData o.format then reply s c stBADVALUE (elemHeader 0 2)
          else
            accept (modObj s c.berth (fun o => { o with staged := [], pend := some { data := data, at' := s.clk, cmd := some c.id } })) c)

/-- CAN_READ (19 R504; 23 R591, R592). -/
def execCanRead (tr : Transport) (tag : BitVec 16) (s : State) : Host.Outcome State Fault Refusal :=
  done (onCmd s tr tag 0x0713 fun s c => needLen s c 2 fun s =>
    match userObj s c with
    | none => reply s c stBADVALUE (elemHeader 0 0)
    | some o =>
      let f : CanFrame := o.frame.getD { format := .classical, ide := false, rtr := false, id := 0, data := [] }
      let off := fld c 0 2
      if o.tx ∨ f.data.length < off then reply s c stBADVALUE (elemHeader 0 0)
      else
        let part := (f.data.drop off).take 1000
        let flags := flag f.ide 0 + flag f.rtr 1 + flag (f.format == .fd || f.format == .fdBrs) 2
          + flag (f.format == .fdBrs) 3 + flag (f.format == .xl) 4
        let s := if off + part.length = f.data.length then modObj s c.berth (fun o => { o with new := false }) else s
        reply s c stOK (beBytes 1 (flag o.new 0) ++ beBytes 8 o.frameTime.toNat ++ beBytes 4 f.id.toNat ++ beBytes 1 flags
          ++ beBytes 2 f.data.length ++ part))

/-- Bytes of a gap that nothing has staged: free values (log 21). -/
def gapBytes (s : State) (n : Nat) : List Byte := (List.range n).map (fun i => BitVec.ofNat 8 (Config.freeNat (s.freeCtr + i)))

/-- CAN_STAGE (23 R591, R592). -/
def execCanStage (tr : Transport) (tag : BitVec 16) (s : State) : Host.Outcome State Fault Refusal :=
  done (onCmd s tr tag 0x0714 fun s c =>
    if c.data.length < 3 ∨ 1020 < c.data.length then reply s c stBADPARAM (elemHeader 0 0)
    else
      match userObj s c with
      | none => reply s c stREFUSED []
      | some o =>
        let off := fld c 0 2
        let b := c.data.drop 2
        if !o.tx || o.pend.isSome then reply s c stREFUSED []
        else if 2048 < off + b.length then reply s c stBADVALUE (elemHeader 0 0)
        else
          let gap := off - o.staged.length
          let head := o.staged.take off ++ gapBytes s gap
          let s := { s with freeCtr := s.freeCtr + gap }
          reply (modObj s c.berth (fun o => { o with staged := head ++ b ++ o.staged.drop (off + b.length) })) c stOK [])

/-- ABORT of a CAN_SEND (19 R507, 03 R78): true when it came before the point of no return. -/
def abortCanSend (s : State) (w : Transport × BitVec 16) : Option (State × Bool) :=
  match allBerths.find? (fun b => (canObj s b).any (fun o => o.pend.any (fun f => f.cmd == some w))) with
  | none => none
  | some b =>
    match canObj s b with
    | none => none
    | some o =>
      if o.pend.any (fun f => f.committed) then
        some (canCount (modObj s b (fun o => { o with pend := match o.pend with
          | some f => some { f with late := true }
          | none => none })) o.port 3, false)
      else some (withdraw s b .aborted stABORTED, true)

end Sys2Proof.Machine
end

