-- ==== Sys2Proof/Machine/FabricFam.lean ====
section
/-! DEFINITION. The commands of the Vornan fabric: links, discovery, election, routes and time (spec file 20_fabric). -/
namespace Sys2Proof.Machine

/-! ### Frames of this module's own -/

/-- A flooded message of this module's own. -/
def floodOwn (s : State) (msg : FabMsg) : State :=
  let (s, f) := stampEseq s (localFrame s 0xFF msg)
  floodExcept s none f

/-- Number of the sample period of `ts` ticks that the time stamp lies in (20 R533). -/
def periodOf (s : State) (ts : Nat) : Nat := s.tb.now.toNat / ts

/-- UID that holds an address. -/
def uidOf (s : State) (a : BitVec 8) : Option (BitVec 64) := (s.fabric.assigned.find? (fun x => x.2 == a)).map (·.1)

/-- Directed links of a flow on both of its trees; none when it has no tree or one longer than 4 hops (20 R533). -/
def flowLinks (s : State) (src dest : BitVec 8) : Option (List (BitVec 64 × Nat)) :=
  match uidOf s src with
  | none => none
  | some u =>
    match treePath s.fabric false u dest.toNat with
    | none => none
    | some a =>
      let b := (treePath s.fabric true u dest.toNat).getD []
      if a.length ≤ 4 ∧ b.length ≤ 4 then some (a ++ b) else none

/-- The Innkeeper admits a flow (20 R533). -/
def admits (s : State) (src dest : BitVec 8) : Bool :=
  match flowLinks s src dest with
  | none => false
  | some l => l.all (fun k =>
      decide ((s.fabric.flows.filter (fun f => f.state == .granted &&
        (match flowLinks s f.source f.dest with
         | some m => m.contains k
         | none => false))).length < 8))

/-- The Innkeeper's answer to a flow request: granted or refused, with 11.13. -/
def judgeFlow (s : State) (src dest flow : BitVec 8) (ts : Nat) : State × Bool :=
  if admits s src dest then
    (s.modFabric (fun f => { f with flows := f.flows ++ [{ source := src, dest := dest, flow := flow, ts := ts, state := .granted }] }), true)
  else
    (raise (s.modFabric (fun f => { f with flows := f.flows ++ [{ source := src, dest := dest, flow := flow, ts := ts, state := .refused }] })) 189 0, false)

/-- A flow is asked of the Innkeeper once (20 R533; log 24). -/
def askFlow (s : State) (dest flow : BitVec 8) (ts : Nat) : State :=
  if s.fabric.flows.any (fun f => f.source == s.fabric.addr && f.dest == dest && f.flow == flow) then s
  else if s.fabric.state = .innkeeper then (judgeFlow s s.fabric.addr dest flow ts).1
  else if s.fabric.innkeeperAddr = 0xFF then s
  else
    sendFab (s.modFabric (fun f => { f with flows := f.flows ++ [{ source := f.addr, dest := dest, flow := flow, ts := ts }] }))
      (localFrame s s.fabric.innkeeperAddr (.flow 0 s.fabric.addr dest ts))

/-- A SYNC frame of this module's own (20 R533, R535): nothing while it is not aligned; beyond the reservation dropped. -/
def sendSync (s : State) (dest flow : BitVec 8) (ts : Nat) (msg : FabMsg) : State :=
  if !s.tb.aligned ∨ s.fabric.addr = 0xFF then s
  else
    let s := askFlow s dest flow ts
    match s.fabric.flows.find? (fun f => f.source == s.fabric.addr && f.dest == dest && f.flow == flow && f.state == .granted) with
    | none => s
    | some f =>
      if f.lastUse = some (periodOf s f.ts) then dropFab s 2
      else
        let s := s.modFabric (fun x => { x with flows := x.flows.map (fun g => if g = f then { g with lastUse := some (periodOf s f.ts) } else g) })
        sendFab s { localFrame s dest msg with cls := .sync, flow := flow }

/-! ### Discovery -/

/-- This module's row of the database. -/
def ownRow (s : State) : TopoRow := {
  uid := ownUid, generation := s.fabric.ownGen, priority := s.p0 0x8000 1
  preferred := BitVec.ofNat 8 (s.p0 0x8000 2)
  addr := s.fabric.addr
  links := four.map (fun l => ⟨s.fabric.links[l].state, s.fabric.links[l].neighbourUid⟩) }

/-- A row goes into the database at its place by rising UID. -/
def putRow : List TopoRow → TopoRow → List TopoRow
  | [], r => [r]
  | x :: xs, r => if x.uid.toNat < r.uid.toNat then x :: putRow xs r else if x.uid = r.uid then r :: xs else r :: x :: xs

/-- A free address for `uid`: held or reserved, preferred, or the lowest (20 R529). -/
def takenAddrs (asg : List (BitVec 64 × BitVec 8)) (res : List (BitVec 64 × BitVec 8 × Nat)) : List Nat :=
  asg.map (fun a => a.2.toNat) ++ res.map (fun a => a.2.1.toNat)

/-- One module's address by a rule (20 R529): 0 the one it holds or that is reserved for it, where free; 1 its preferred
one, where free and it holds none that another has; 2 the lowest free one. -/
def assignStep (rule : Nat) (res : List (BitVec 64 × BitVec 8 × Nat)) (asg : List (BitVec 64 × BitVec 8)) (r : TopoRow) :
    List (BitVec 64 × BitVec 8) :=
  if asg.any (fun a => a.1 == r.uid) then asg
  else
    let taken := takenAddrs asg (res.filter (fun a => a.1 != r.uid))
    let free (a : BitVec 8) : Bool := decide (a.toNat < 63) && !(taken.contains a.toNat)
    if rule = 0 then
      if free r.addr then asg ++ [(r.uid, r.addr)]
      else
        match res.find? (fun a => a.1 == r.uid) with
        | some a => asg ++ [(r.uid, a.2.1)]
        | none => asg
    else if rule = 1 then
      if r.addr = 0xFF ∧ free r.preferred = true then asg ++ [(r.uid, r.preferred)] else asg
    else
      match (List.range 63).find? (fun a => a ∉ taken) with
      | some a => asg ++ [(r.uid, BitVec.ofNat 8 a)]
      | none => asg

/-- Rows in the order of 20 R528, highest rank first. -/
def rankInsert (r : TopoRow) : List TopoRow → List TopoRow
  | [] => [r]
  | x :: xs => if ranks r.priority r.uid x.priority x.uid then r :: x :: xs else x :: rankInsert r xs
def byRank (l : List TopoRow) : List TopoRow := l.foldl (fun acc r => rankInsert r acc) []

/-- The addresses of the modules of the database (20 R529). -/
def assignAll (s : State) : List (BitVec 64 × BitVec 8) :=
  let f := s.fabric
  let kept := f.assigned.filter (fun a => f.db.any (fun r => r.uid == a.1))
  let a := f.db.foldl (assignStep 0 f.reserved) kept
  let a := (byRank f.db).foldl (assignStep 1 f.reserved) a
  f.db.foldl (assignStep 2 f.reserved) a

/-- An ASSIGN reaches this module (20 R529). -/
def takeAssign (s : State) (pairs : List (BitVec 64 × BitVec 8)) (merged : Bool) : State :=
  let old := s.fabric.addr
  let s := s.modFabric (fun f => { f with assigned := pairs })
  match pairs.find? (fun a => a.1 == ownUid) with
  | none =>
    let s := s.modFabric (fun f => { f with addr := 0xFF })
    raiseIf (decide (63 ≤ pairs.length)) s 186 1
  | some a =>
    let s := s.modFabric (fun f => { f with addr := a.2 })
    if old = a.2 then s
    else if old ≠ 0xFF then raiseIf merged s 186 2
    else raiseIf (s.p0 0x8000 2 != 0xFF && s.p0 0x8000 2 != a.2.toNat) s 186 0

/-- The link of the spanning tree that leads to the Innkeeper. -/
def rootPort (s : State) : Option (Fin 4) :=
  if s.fabric.state = .innkeeper ∨ s.fabric.innkeeperAddr = 0xFF then none
  else
    let e := routeEntry s s.fabric.innkeeperAddr.toNat
    if bit e 31 then some (finOf 4 (bits e 7 6)) else none

/-- A COMMIT takes effect (20 R532): the shadow table is in force. -/
def takeCommit (s : State) (epoch : BitVec 16) : State :=
  match s.fabric.shadow with
  | none => s
  | some (e, t) =>
    if e ≠ epoch then s
    else
      let lost := (List.range 63).filter (fun a =>
        let o := routeEntry s a
        let n := t[finOf 64 a].toNat
        (bit o 31 || bit o 30) && !(bit n 31) && !(bit n 30))
      let s := s.modFabric (fun f => { f with
        routes := t, epoch := epoch, shadow := none, routing := none
        state := if f.state = .innkeeper then .innkeeper else .member })
      let s := forAll four (fun l s => s.modLink l (fun k => { k with
        inTree := bit t[finOf 64 63].toNat l.val, timeParent := rootPort s == some l })) s
      let hops := match rootPort s with
        | some _ => bits (routeEntry s s.fabric.innkeeperAddr.toNat) 23 20
        | none => 0
      let s := s.modFabric (fun f => { f with hopsRoot := hops })
      let s := lost.foldl (fun s a => raise s 187 (1 + 256 * a)) s
      raiseIf (decide (8 < hops)) s 187 2

/-- The Innkeeper's ROUTE phase ends (20 R527): COMMIT is flooded and taken. -/
def commitRoutes (s : State) : State :=
  match s.fabric.routing with
  | none => s
  | some (e, _, _) => takeCommit (floodOwn s (.commit e)) e

/-- A valid entry of a table, other than a module's own, has DISJOINT clear (20 R530). -/
def notDisjoint (t : Vector Word 64) : Option Nat :=
  (List.range 63).find? (fun a =>
    let e := t[finOf 64 a].toNat
    (bit e 31 || bit e 30) && !(bit e 29) && !(bit e 28))

/-- The Innkeeper assigns addresses and sends new routes (20 R529, R530, R527). -/
def assignAndRoute (s : State) (merged : Bool) : State :=
  let asg := assignAll s
  let changed := decide (asg ≠ s.fabric.assigned)
  let s := s.modFabric (fun f => { f with reserved := f.reserved.filter (fun a => !(asg.any (fun b => b.1 == a.1))) })
  let s := takeAssign s asg merged
  let s := if changed then floodOwn s (.assign asg) else s
  let s := s.modFabric (fun f => { f with innkeeperAddr := f.addr })
  let epoch := s.fabric.epoch + 1
  let s := s.modFabric (fun f => { f with shadow := some (epoch, routesFor s ownUid), routing := some (epoch, s.clk, [ownUid]) })
  let s := asg.foldl (fun s a => if a.1 = ownUid then s else floodOwn s (.route a.1 epoch (routesFor s a.1).toList)) s
  let bad := asg.findSome? (fun a => notDisjoint (routesFor s a.1))
  let s := match bad with
    | some d => if s.fabric.disjointRaised = some epoch then s
        else raise (s.modFabric (fun f => { f with disjointRaised := some epoch })) 187 (256 * d)
    | none => s
  if asg.all (fun a => a.1 == ownUid) then commitRoutes s else s

/-- The database has changed (20 R527 to R529): unreachable modules leave it; a lost Innkeeper calls an election;
the Innkeeper itself assigns and routes again. -/
def topologyChanged (s : State) : State :=
  let up := reachable s
  let gone := s.fabric.db.filter (fun r => r.uid ∉ up)
  let isIk := decide (s.fabric.state = .innkeeper)
  let res := if isIk then
      gone.filterMap (fun r => (s.fabric.assigned.find? (fun a => a.1 == r.uid)).map (fun a => (a.1, a.2, s.clk)))
    else []
  let s := s.modFabric (fun f => { f with
    db := f.db.filter (fun r => r.uid ∈ up), dbAt := s.clk, reserved := f.reserved ++ res
    seen := f.seen.filter (fun x => !(x.1 == 0x101 && gone.any (fun r => r.uid == x.2.1))) })
  if isIk then assignAndRoute s false
  else
    match s.fabric.innkeeper with
    | some (u, _) => if u ∈ up then s else s.modFabric (fun f => { f with state := .electing })
    | none => s

/-- STATE of the module when its links change: no link UP, or discovering. -/
def linkCensus (s : State) : State :=
  let any := isUp s 0 || isUp s 1 || isUp s 2 || isUp s 3
  if s.fabric.state = .noLink then (if any then s.modFabric (fun f => { f with state := .discovering }) else s)
  else if any then s
  else s.modFabric (fun f => { f with state := .noLink, innkeeper := none, innkeeperAddr := 0xFF, timeRoot := false })

/-- A link goes DOWN, and what follows from it. -/
def fabLinkDown (s : State) (l : Fin 4) : State := linkCensus (linkDown s l)

/-- A link goes UP (20 R521). The credits that its neighbour grants at first are free values (log 19). -/
def fabLinkUp (s : State) (l : Fin 4) : State :=
  let (a, s) := s.fresh
  let (b, s) := s.fresh
  let s := s.modLink l (fun k => { k with
    state := .up, lastHello := s.clk, safe := {}, cmd := { credits := a }, bulk := { credits := b } })
  linkCensus (raise (s.modFabric (fun f => { f with linkDirty := true })) 184 (1 + 16 * l.val))

/-- A HELLO arrives (20 R521). -/
def takeHello (s : State) (l : Fin 4) (uid : BitVec 64) (addr : BitVec 8) (echo : BitVec 64) : State :=
  let k := s.fabric.links[l]
  match k.state with
  | .down => s
  | .held => s
  | .disabled => s
  | .loop => s
  | _ =>
    if uid = ownUid then
      let s := if k.state = .up then fabLinkDown s l else s
      raise (s.modLink l (fun y => { y with state := .loop })) 184 (3 + 16 * l.val)
    else if k.state = .up then
      if uid ≠ k.neighbourUid then fabLinkDown s l
      else s.modLink l (fun y => { y with lastHello := s.clk, neighbour := addr })
    else
      let same := decide (uid = k.neighbourUid) && decide (0 < k.helloRun)
      let run := if same then k.helloRun + 1 else 1
      let ech := (same && k.echoSeen) || echo == ownUid
      let s := s.modLink l (fun y => { y with
        state := .hello, neighbourUid := uid, neighbour := addr, helloRun := run, echoSeen := ech, lastHello := s.clk })
      if 3 ≤ run ∧ ech = true then fabLinkUp s l else s

/-- The Innkeeper known changes: counted, with 11.9 (20 R528, R539). -/
def innkeeperChange (s : State) (cause : Nat) : State :=
  let (c, o) := ctrInc 16 s.fabric.innkeeperChanges
  fabOvf o (raise (s.modFabric (fun f => { f with innkeeperChanges := c })) 185 cause) 4

/-- This module takes another as its Innkeeper. -/
def adopt (s : State) (uid : BitVec 64) (prio : Nat) (cause : Nat) : State :=
  let wasRoot := s.fabric.timeRoot
  innkeeperChange (s.modFabric (fun f => { f with
    innkeeper := some (uid, prio), lastInnkeeper := s.clk, timeRoot := false
    newParent := true
    reserved := if wasRoot then [] else f.reserved
    routing := none
    innkeeperAddr := match f.assigned.find? (fun a => a.1 == uid) with
      | some a => a.2
      | none => 0xFF
    state := if f.routes.toList.any (fun e => bit e.toNat 31 || bit e.toNat 30) then .member else .discovering })) cause

/-- An INNKEEPER message (20 R528). -/
def takeInnkeeper (s : State) (uid : BitVec 64) (prio : Nat) (src : BitVec 8) : State :=
  if uid = ownUid then s
  else
    let s := if s.fabric.state = .innkeeper then
        if ranks prio uid (s.p0 0x8000 1) ownUid then adopt s uid prio 3 else s
      else
        match s.fabric.innkeeper with
        | none => adopt s uid prio 1
        | some (u, p) =>
          if u = uid then s.modFabric (fun f => { f with
            lastInnkeeper := s.clk
            state := if f.state = .electing then (if f.epoch = 0 then .discovering else .member) else f.state })
          else if s.fabric.state = .electing ∨ ranks prio uid p u then adopt s uid prio 1
          else s
    if s.fabric.innkeeper.any (fun k => k.1 == uid) then
      s.modFabric (fun f => { f with lastInnkeeper := s.clk, innkeeperAddr := if src = 0xFF then f.innkeeperAddr else src })
    else s

/-- A ROUTE for this module (20 R527, R532): the shadow table, and the acknowledgement, by the new table where the one
in force does not reach the Innkeeper. -/
def takeRoute (s : State) (epoch : BitVec 16) (entries : List Word) : State :=
  let t : Vector Word 64 := (List.range 64).foldl (fun v i => v.set! i (entries.getD i 0)) (Vector.replicate 64 0)
  let s := s.modFabric (fun f => { f with shadow := some (epoch, t) })
  let ik := s.fabric.innkeeperAddr
  let e := routeEntry s ik.toNat
  let f := localFrame s ik (.routeAck epoch)
  if bit e 31 || bit e 30 then sendFab s f
  else
    let n := t[finOf 64 ik.toNat].toNat
    if bit n 31 then
      let (s, f) := stampEseq s f
      sendLink s (finOf 4 (bits n 7 6)) f
    else s

/-- A ROUTE_ACK at the Innkeeper, from the module that holds its SRC. -/
def takeRouteAck (s : State) (src : BitVec 8) (epoch : BitVec 16) : State :=
  match s.fabric.routing, uidOf s src with
  | none, _ => s
  | _, none => s
  | some (e, at', l), some uid =>
    if e ≠ epoch then s
    else
      let l := if uid ∈ l then l else l ++ [uid]
      let s := s.modFabric (fun f => { f with routing := some (e, at', l) })
      if s.fabric.assigned.all (fun a => a.1 ∈ l) then commitRoutes s else s

/-- A FLOW message (20 R533): 0 request, 1 grant, 2 refusal. -/
def takeFlow (s : State) (kind : Fin 3) (src dest : BitVec 8) (ts : Nat) (from' : BitVec 8) : State :=
  if kind = 0 then
    if s.fabric.state = .innkeeper then
      let (s, ok) := judgeFlow s src dest 0 ts
      sendFab s (localFrame s from' (.flow (if ok then 1 else 2) src dest ts))
    else s
  else if src = s.fabric.addr then
    let st : FlowState := if kind = 1 then .granted else .refused
    -- the answer settles the first request that waits for it (log 24)
    let s := match s.fabric.flows.find? (fun g => g.source == src && g.dest == dest && g.ts == ts && g.state == .asked) with
      | none => s
      | some g => s.modFabric (fun f => { f with flows := f.flows.map (fun h => if h == g then { h with state := st } else h) })
    raiseIf (decide (kind = 2)) s 189 0
  else s

/-- Kind, originator and generation of a flooded message (20 R527); messages without a generation of their own go by
the ESEQ of their sender (log 19). -/
def floodKey (f : FabFrame) : Option (Nat × BitVec 64 × BitVec 16) :=
  match f.msg with
  | .linkState r => some (0x101, r.uid, r.generation)
  | .innkeeper u _ _ _ => some (0x102, u, f.eseq)
  | .assign _ => some (0x103, f.src.setWidth 64, f.eseq)
  | .route .. => some (0x104, f.src.setWidth 64, f.eseq)
  | .commit _ => some (0x106, f.src.setWidth 64, f.eseq)
  | _ => none

/-- The flooded message has been seen. -/
def floodSeen (s : State) (k : Nat × BitVec 64 × BitVec 16) : Bool :=
  match s.fabric.seen.find? (fun x => x.1 == k.1 && x.2.1 == k.2.1) with
  | some x => !later k.2.2 x.2.2
  | none => false

/-- What a module does with the message of a frame that is for it. -/
def takeMsg (s : State) (f : FabFrame) : State :=
  match f.msg with
  | .packet b => s.modPorter (fun p => { p with ready := p.ready ++ [{ tr := .fabric (f.src.setWidth 6), bytes := b }] })
  | .safetyPdu b => s.modSafety (fun x => { x with pduIn := x.pduIn ++ [(8, b)] })
  | .memberReport _ => s.modFabric (fun x => { x with inbox := x.inbox ++ [f] })
  | .share .. => s.modFabric (fun x => { x with inbox := x.inbox ++ [f] })
  | .transfer .. => s.modFabric (fun x => { x with inbox := x.inbox ++ [f] })
  | .bulk _ => s.modFabric (fun x => { x with inbox := x.inbox ++ [f] })
  | .linkState r =>
    let old := s.fabric.db.find? (fun x => x.uid == r.uid)
    let s := s.modFabric (fun x => { x with db := putRow x.db r })
    if old.any (fun o => o.links.map (fun k => (k.up, k.neighbour)) == r.links.map (fun k => (k.up, k.neighbour))
        && o.priority == r.priority && o.preferred == r.preferred) then s else topologyChanged s
  | .innkeeper u p _ _ => takeInnkeeper s u p f.src
  | .assign a => if s.fabric.state = .innkeeper then s else takeAssign s a true
  | .route u e l => if u = ownUid ∧ s.fabric.state ≠ .innkeeper then takeRoute s e l else s
  | .routeAck e => takeRouteAck s f.src e
  | .commit e => takeCommit s e
  | .flow k a b ts => takeFlow s k a b ts f.src
  | .hello .. => s

/-- A frame passed on by this relay (20 R523): HOPS, and HOP, FORWARDED and the trailer of a command packet. -/
def relayed (f : FabFrame) : Option FabFrame :=
  let f := { f with hops := f.hops + 1 }
  match f.msg with
  | .packet b =>
    let n := b.length - 4
    if b.length < 4 ∨ beBytes 4 (crc32c (b.take n)).toNat ≠ b.drop n then none
    else
      let b0 := (b.headD 0) ||| 2
      let h := (b.getD 1 0) + 1
      let body := b0 :: h :: (b.take n).drop 2
      some { f with msg := .packet (body ++ beBytes 4 (crc32c body).toNat) }
  | _ => some f

/-- A frame is passed on by a function, within the hop limit. -/
def passOn (s : State) (f : FabFrame) (go : State → FabFrame → State) : State :=
  if 15 < f.hops + 1 then dropFab s 1
  else
    match relayed f with
    | none => dropFab s 3
    | some f => go s f

/-- A SYNC frame is delivered unless its ESEQ is not later than the last one (20 R530). -/
def syncFresh (s : State) (f : FabFrame) : Bool :=
  let k := f.src.toNat * 256 + f.flow.toNat
  match s.fabric.eseqIn.find? (fun e => e.1 == k) with
  | some e => later f.eseq e.2
  | none => true

def deliver (s : State) (f : FabFrame) : State :=
  if f.cls = .sync then
    if syncFresh s f then
      let k := f.src.toNat * 256 + f.flow.toNat
      takeMsg (s.modFabric (fun x => { x with eseqIn := (k, f.eseq) :: x.eseqIn.filter (fun e => e.1 != k) })) f
    else s
  else takeMsg s f

/-- A good frame that has passed its link (20 R527, R530, R531): flooded, broadcast, delivered or relayed. -/
def routeFrame (s : State) (l : Fin 4) (f : FabFrame) : State :=
  match floodKey f with
  | some k =>
    if floodSeen s k then s
    else
      let s := s.modFabric (fun x => { x with seen := k :: x.seen.filter (fun y => !(y.1 == k.1 && y.2.1 == k.2.1)) })
      takeMsg (passOn s f (fun s f => floodExcept s (some l) f)) f
  | none =>
    if f.cls = .sync ∧ !s.tb.aligned then s
    else if f.dest = 0xFF then deliver s f
    else if f.dest = 63 then
      let e := routeEntry s 63
      deliver (passOn s f (fun s f => forAll four (fun m s => if bit e m.val && m != l then sendLink s m f else s) s)) f
    else if f.dest = s.fabric.addr then deliver s f
    else passOn s f (fun s f => sendTree s f f.treeB)

/-- A good frame reaches its class on a link (20 R524): HELLO and SYNC at once; another only in LSEQ order, and
acknowledged. -/
def takeFrame (s : State) (l : Fin 4) (f : FabFrame) : State :=
  let k := s.fabric.links[l]
  match f.msg with
  | .hello u _ a _ _ e => takeHello s l u a e
  | _ =>
    if k.state ≠ .up then s
    else if f.cls = .sync then routeFrame s l f
    else
      let x := linkClass k f.cls
      if f.lseq ≠ x.rxSeq then putAck s l f.cls x.rxSeq 0 true
      else
        let s := s.modLink l (fun y => setLinkClass y f.cls { x with rxSeq := x.rxSeq + 1 })
        routeFrame (putAck s l f.cls f.lseq (if f.cls = .safe then 0 else 1) false) l f

/-- A frame that is discarded at its link is counted (20 R522, R539). -/
def badFrame (s : State) (l : Fin 4) : State :=
  let (c, o) := ctrInc 16 s.fabric.links[l].crcErrors
  fabOvf o (s.modLink l (fun y => { y with crcErrors := c })) 1

/-- FABRIC_FRAME_RECEIVE (20 R522 to R533): the bytes between a start and an end character. -/
def execFabricFrameReceive (dt : Nat) (l : Fin 4) (body : List Byte) (s : State) : Host.Outcome State Fault Refusal :=
  let s := advance s dt
  let st := s.fabric.links[l].state
  done (if st = .disabled ∨ st = .down then s
    else
      match readFrame body with
      | none => badFrame s l
      | some f => takeFrame s l f)

/-- Frames of one class are sent again from the oldest (20 R524): the ninth sending takes the link DOWN. -/
def resend (s : State) (l : Fin 4) (c : FabClass) : State :=
  let k := s.fabric.links[l]
  let x := linkClass k c
  if x.unacked.any (fun u => decide (8 ≤ u.sent)) then fabLinkDown (raise s 184 (4 + 16 * l.val)) l
  else
    let (r, o) := x.unacked.foldl (fun (a : Counter × Bool) _ => let (r, o) := ctrInc 32 a.1; (r, a.2 || o)) (k.retrans, false)
    let s := s.modLink l (fun y => setLinkClass { y with retrans := r } c { x with
      unacked := x.unacked.map (fun u => { u with sent := u.sent + 1, at' := s.clk }) })
    fabOvf o (x.unacked.foldl (fun s u => putFrame s l u.frame) s) 0

/-- Frames after the one acknowledged, cumulative; `incl` keeps the frame named out. -/
def ackedRest (l : List Unacked) (q : BitVec 8) (incl : Bool) : List Unacked :=
  if l.any (fun u => u.frame.lseq == q) then
    let r := l.dropWhile (fun u => u.frame.lseq != q)
    if incl then r.drop 1 else r
  else if incl then l
  else if l.getLast?.any (fun u => u.frame.lseq + 1 == q) then [] else l

/-- An acknowledgement word of a class (20 R524, R525). -/
def takeAck (s : State) (l : Fin 4) (c : FabClass) (lseq : BitVec 8) (credits : Nat) (negative : Bool) : State :=
  let s := s.modLink l (fun y =>
    let x := linkClass y c
    setLinkClass y c { x with
      credits := if c = .safe then x.credits else x.credits + credits
      unacked := (ackedRest x.unacked lseq (!negative)).map (fun u => { u with at' := s.clk }) })
  if negative then
    if (linkClass s.fabric.links[l] c).unacked = [] then s else resend s l c
  else pumpLink s l c

/-- FABRIC_ACK_RECEIVE (20 R524, R525): the four bytes after K28.3. A word whose CRC-8 is bad is ignored. -/
def execFabricAckReceive (dt : Nat) (l : Fin 4) (word : BitVec 32) (s : State) : Host.Outcome State Fault Refusal :=
  let s := advance s dt
  done (if !isUp s l then s
    else
      match readAck (beBytes 4 word.toNat) with
      | none => s
      | some (c, lseq, credits, negative) => takeAck s l c lseq credits negative)

/-- Class of a retry timer. -/
def classOf : Fin 3 → FabClass
  | 0 => .safe | 1 => .cmd | _ => .bulk

/-- FABRIC_RETRY_TIMEOUT (20 R524): no acknowledgement for 5 µs. -/
def execFabricRetryTimeout (dt : Nat) (l : Fin 4) (cls : Fin 3) (s : State) : Host.Outcome State Fault Refusal :=
  let s := advance s dt
  done (match (linkClass s.fabric.links[l] (classOf cls)).unacked with
    | u :: _ => if isUp s l && elapsed s u.at' (usTicks 5) then resend s l (classOf cls) else s
    | [] => s)

/-- FABRIC_LOCK_LOSS (20 R521): symbol lock has been lost for 1 µs. -/
def execFabricLockLoss (dt : Nat) (l : Fin 4) (s : State) : Host.Outcome State Fault Refusal :=
  let s := advance s dt
  done (match s.fabric.links[l].state with
    | .up => fabLinkDown s l
    | .training => s.modLink l (fun y => { y with state := .down, symbolLock := false, helloRun := 0, echoSeen := false })
    | .hello => s.modLink l (fun y => { y with state := .down, symbolLock := false, helloRun := 0, echoSeen := false })
    | .loop => s.modLink l (fun y => { y with state := .down, symbolLock := false })
    | _ => s.modLink l (fun y => { y with symbolLock := false }))

/-- The link is enabled and its loopback passed (20 R520). -/
def linkEnabled (s : State) (l : Fin 4) : Bool := bit (s.p0 0x8000 4) l.val && !s.start.forbidLink[l] && s.up

/-- FABRIC_SYMBOL_LOCK (20 R521): symbol lock and comma alignment; a DOWN link goes to TRAINING. -/
def execFabricSymbolLock (dt : Nat) (l : Fin 4) (s : State) : Host.Outcome State Fault Refusal :=
  let s := advance s dt
  done (let s := s.modLink l (fun y => { y with symbolLock := true })
    if s.fabric.links[l].state = .down ∧ linkEnabled s l = true then
      s.modLink l (fun y => { y with state := .training, helloRun := 0, echoSeen := false, neighbourUid := 0 })
    else s)

/-- FABRIC_HELLO_SEND (20 R521): every 10 µs while training, every 1 ms once UP. -/
def execFabricHelloSend (dt : Nat) (l : Fin 4) (s : State) : Host.Outcome State Fault Refusal :=
  let s := advance s dt
  let k := s.fabric.links[l]
  done (match k.state with
    | .training => if elapsed s k.sentHello (usTicks 10) then sendHello s l else s
    | .hello => if elapsed s k.sentHello (usTicks 10) then sendHello s l else s
    | .up => if elapsed s k.sentHello (msTicks 1) then sendHello s l else s
    | _ => s)

/-- FABRIC_HELLO_TIMEOUT (20 R521): no HELLO for 5 ms on an UP link. -/
def execFabricHelloTimeout (dt : Nat) (l : Fin 4) (s : State) : Host.Outcome State Fault Refusal :=
  let s := advance s dt
  done (if isUp s l && elapsed s s.fabric.links[l].lastHello (msTicks 5) then fabLinkDown s l else s)

/-- FABRIC_HELD_EXPIRY (20 R521): 1 s in HELD has passed; the link may train again. -/
def execFabricHeldExpiry (dt : Nat) (l : Fin 4) (s : State) : Host.Outcome State Fault Refusal :=
  let s := advance s dt
  let k := s.fabric.links[l]
  done (if k.state = .held ∧ elapsed s k.heldAt (msTicks 1000) = true then
      s.modLink l (fun y => { y with state := if y.symbolLock then .training else .down })
    else s)

/-- LINK_STATE_SEND (20 R527): after a change of a link, and every 100 ms. -/
def execLinkStateSend (dt : Nat) (s : State) : Host.Outcome State Fault Refusal :=
  let s := advance s dt
  done (if s.up && (s.fabric.linkDirty || elapsed s s.fabric.lastLinkState (msTicks 100)) then
      let changed := s.fabric.linkDirty || !(s.fabric.db.any (fun r => r.uid == ownUid))
      let s := s.modFabric (fun f => { f with ownGen := f.ownGen + 1, linkDirty := false, lastLinkState := s.clk })
      let r := ownRow s
      let s := floodOwn (s.modFabric (fun f => { f with db := putRow f.db r })) (.linkState r)
      if changed then topologyChanged s else s
    else s)

/-- INNKEEPER_SEND (20 R527): every 10 ms from the Innkeeper. -/
def execInnkeeperSend (dt : Nat) (s : State) : Host.Outcome State Fault Refusal :=
  let s := advance s dt
  done (if s.fabric.state = .innkeeper ∧ elapsed s s.fabric.lastInnkeeperSent (msTicks 10) = true then
      let crc := crc32c ((dbWords s.fabric).flatMap (fun w => beBytes 8 w))
      floodOwn (s.modFabric (fun f => { f with lastInnkeeperSent := s.clk }))
        (.innkeeper ownUid (s.p0 0x8000 1) s.fabric.epoch crc)
    else s)

/-- INNKEEPER_TIMEOUT (20 R528): 30 ms without an INNKEEPER message calls an election. -/
def execInnkeeperTimeout (dt : Nat) (s : State) : Host.Outcome State Fault Refusal :=
  let s := advance s dt
  done (if s.fabric.innkeeper.isSome ∧ (s.fabric.state = .member ∨ s.fabric.state = .discovering)
        ∧ elapsed s s.fabric.lastInnkeeper (msTicks 30) = true then
      s.modFabric (fun f => { f with state := .electing })
    else s)

/-- An election is held: no Innkeeper is reachable (20 R528). -/
def electing (s : State) : Bool :=
  s.fabric.state == .electing || (s.fabric.state == .discovering && s.fabric.innkeeper.isNone)

/-- This module takes the role of the Innkeeper (20 R528, R534): the root of the time, with its message, addresses and routes. -/
def becomeInnkeeper (s : State) (prio : Nat) : State :=
  let s := s.modFabric (fun f => { f with
    state := .innkeeper, innkeeper := some (ownUid, prio), timeRoot := true, hopsRoot := 0
    lastInnkeeperSent := s.clk, offset := 0 })
  let s := innkeeperChange s 0
  let s := if s.tb.aligned then s else raise (s.modTb (fun t => { t with aligned := true })) 188 1
  let s := floodOwn s (.innkeeper ownUid prio s.fabric.epoch (crc32c ((dbWords s.fabric).flatMap (fun w => beBytes 8 w))))
  assignAndRoute s false

/-- ELECTION_DECIDE (20 R528): the database has been unchanged for t_settle. -/
def execElectionDecide (dt : Nat) (s : State) : Host.Outcome State Fault Refusal :=
  let s := advance s dt
  done (if electing s && elapsed s s.fabric.dbAt (msTicks (s.p0 0x8000 3)) then
      let s := if s.fabric.innkeeper.isSome then raise s 185 2 else s
      match (byRank (s.fabric.db.filter (fun r => decide (0 < r.priority) && decide (r.uid ∈ reachable s)))).head? with
      | none => s.modFabric (fun f => { f with state := .discovering, innkeeper := none, innkeeperAddr := 0xFF })
      | some r => if r.uid = ownUid then becomeInnkeeper s r.priority else adopt s r.uid r.priority 1
    else s)

/-- ROUTE_COMMIT_TIMEOUT (20 R527): 1 ms after the ROUTE. -/
def execRouteCommitTimeout (dt : Nat) (s : State) : Host.Outcome State Fault Refusal :=
  let s := advance s dt
  done (match s.fabric.routing with
    | some (_, at', _) => if elapsed s at' (msTicks 1) then commitRoutes s else s
    | none => s)

/-- ADDRESS_RESERVATION_EXPIRY (20 R529): 10 s. -/
def execAddressReservationExpiry (dt : Nat) (s : State) : Host.Outcome State Fault Refusal :=
  let s := advance s dt
  done (s.modFabric (fun f => { f with reserved := f.reserved.filter (fun a => !elapsed s a.2.2 (msTicks 10000)) }))

/-- Link delay in 0.1 ns from the four stamps of an exchange in 320 ps: half the round trip less the parent's turnaround
(20 R534). -/
def linkDelay (t1 t2 t3 t4 : Int) : Int := neigh (8 * ((t4 - t1) - (t3 - t2))) 5

/-- Offset of this module from its parent in 0.1 ns. -/
def parentOffset (t1 t2 t3 t4 : Int) : Int := neigh (8 * ((t1 - t2) + (t4 - t3))) 5

/-- Whole ticks of offset are removed (20 R534): by steps under 01 R26, or at once where no machine and no axis is enabled and the
module chooses so (log 23). -/
def steerBy (s : State) (ticks : Int) : State :=
  let (once, s) := s.freshBool
  if once && !s.anyMachine && !s.anyAxis && decide (ticks ≠ 0) then
    s.modTb (fun t => { t with now := t.now - BitVec.ofInt 56 ticks, steer := 0, stepDue := 0 })
  else s.modTb (fun t => { t with steer := ticks })

/-- The exchanges in a row within and beyond 20 ns decide whether the module is aligned (20 R535, R536): 11.12. -/
def judgeAligned (s : State) (first good : Bool) : State :=
  let s := s.modFabric (fun f => { f with
    alignedRun := if good then f.alignedRun + 1 else 0
    beyondRun := if good then 0 else f.beyondRun + 1 })
  if !s.tb.aligned && decide (16 ≤ s.fabric.alignedRun) && decide (s.fabric.hopsRoot ≤ 8) then
    raise (s.modTb (fun t => { t with aligned := true })) 188 1
  else if s.tb.aligned && (decide (4 ≤ s.fabric.beyondRun) || (first && !good) || decide (8 < s.fabric.hopsRoot)) then
    raise (s.modTb (fun t => { t with aligned := false })) 188 0
  else s

/-- TIME_EXCHANGE (20 R534 to R536): the stamps, in 320 ps, at which this module's message leaves (`t1`) and reaches the
parent (`t2`) and the parent's leaves (`t3`) and arrives (`t4`); the parent's own offset from the root in 0.1 ns; and
the parent's frequency against this module's in 0.001 ppm. -/
def execTimeExchange (dt : Nat) (t1 t2 t3 t4 root freq : Int) (s : State) : Host.Outcome State Fault Refusal :=
  let s := advance s dt
  let offset := parentOffset t1 t2 t3 t4 + root
  done (match four.find? (fun l => s.fabric.links[l].timeParent && isUp s l) with
    | none => s
    | some l =>
      let trim := clampI (-200000) 200000 freq
      let s := s.modLink l (fun y => { y with delay := (clampI 0 65535 (linkDelay t1 t2 t3 t4)).toNat })
      let first := s.fabric.newParent
      let s := s.modFabric (fun f => { f with offset := offset, trim := trim, newParent := false })
      let s := raiseIf (decide (freq ≠ trim) || trim == 200000 || trim == -200000) s 188 2
      let good := decide (-200 ≤ offset) && decide (offset ≤ 200)
      judgeAligned (steerBy s (offset.tdiv 50)) first good)

/-! ### Status words (20 R537, R538) and opcodes (23 R593) -/

def FabState.code : FabState → Nat
  | .noLink => 0 | .discovering => 1 | .electing => 2 | .member => 3 | .innkeeper => 4

def fabStatusWord (s : State) : Nat :=
  let f := s.fabric
  f.state.code * 2 ^ 28 + flag s.tb.aligned 27 + flag f.timeRoot 26 + flag (f.addr != 0xFF) 25
    + flag (notDisjoint f.routes).isSome 24 + f.db.length % 64 * 65536 + f.hopsRoot % 16 * 4096

def linkStatusWord (s : State) (l : Fin 4) : Nat :=
  let k := s.fabric.links[l]
  k.state.code * 2 ^ 28 + flag k.timeParent 27 + flag k.inTree 26 + k.neighbour.toNat * 65536

/-- Address assigned to a UID, 0xFF for none. -/
def addrOf (s : State) (u : BitVec 64) : Nat :=
  match s.fabric.assigned.find? (fun a => a.1 == u) with
  | some a => a.2.toNat
  | none => 0xFF

/-- FABRIC_TOPOLOGY (23 R593). -/
def execFabricTopology (tr : Transport) (tag : BitVec 16) (s : State) : Host.Outcome State Fault Refusal :=
  done (onCmd s tr tag 0x0800 fun s c => needLen s c 0 fun s =>
    reply s c stOK (beBytes 1 s.fabric.db.length ++ s.fabric.db.flatMap (fun r =>
      beBytes 8 r.uid.toNat ++ beBytes 1 (addrOf s r.uid) ++ beBytes 1 r.priority ++
        (r.links.take 4).flatMap (fun k => beBytes 1 (if k.up && edge s.fabric.db r.uid k.neighbour then addrOf s k.neighbour else 0xFF)))))

/-- LINK_RESET (23 R593): the link goes DOWN at once and trains again. -/
def execLinkReset (tr : Transport) (tag : BitVec 16) (s : State) : Host.Outcome State Fault Refusal :=
  done (onCmd s tr tag 0x0801 fun s c => needState s c s.anyMachine 1 fun s =>
    if 3 < beNat c.data then reply s c stBADVALUE (elemHeader 0 0)
    else
      let l : Fin 4 := finOf 4 (beNat c.data)
      let lock := s.fabric.links[l].symbolLock
      let s := if isUp s l then fabLinkDown s l
        else match s.fabric.links[l].state with
          | .held => s
          | .disabled => s
          | _ => s.modLink l (fun y => { y with state := .down, helloRun := 0, echoSeen := false, neighbourUid := 0 })
      let s := s.modLink l (fun y => { y with
        symbolLock := lock
        state := if y.state = .down ∧ lock = true ∧ linkEnabled s l = true then .training else y.state })
      reply s c stOK [])

/-- A write of the link enables (20 R520, R541). -/
def applyLinkEnables (s : State) : State :=
  forAll four (fun l s =>
    let on := bit (s.p0 0x8000 4) l.val
    match s.fabric.links[l].state with
    | .disabled => if on then s.modLink l (fun y => { y with
        state := if y.symbolLock && linkEnabled s l then .training else .down }) else s
    | _ => if on then s
        else
          let s := if isUp s l then fabLinkDown s l else s
          s.modLink l (fun y => { y with state := .disabled })) s

end Sys2Proof.Machine
end

