-- ==== Sys2Proof/Machine/FlueFam.lean ====
section
/-! DEFINITION. The commands of the Flue and the event router, and the faults opcodes (spec file 17_faults, 23 R589). -/
namespace Sys2Proof.Machine

/-- ERROR_LINE_RAISE (17 R453, R457): a block raises a source with the values of R453. -/
def execErrorLineRaise (dt : Nat) (src : Fin 256) (master : BitVec 8) (addr : BitVec 32) (kind : BitVec 3) (retry : Retry)
    (s : State) : Host.Outcome State Fault Refusal :=
  done (raiseBy (advance s dt) master src.val addr.toNat kind.toNat retry)

/-- Quiet period of a source in ticks (17 R465). -/
def quietTicks (s : State) (src : Nat) : Nat := msTicks (s.pe src 0x7010 1)

/-- A sticky source recovers at a check (17 R465). -/
def quietDue (s : State) (src : Nat) : Bool :=
  sticky s src && !live s src && elapsed s s.flue.quietAt[finOf 256 src] (quietTicks s src)

/-- The check of every 100 µs, or of every 1 ms, is due (17 R466). -/
def checkDue (s : State) (slow : Bool) : Bool :=
  match s.flue.checkAt[(if slow then 1 else 0 : Fin 2)] with
  | none => true
  | some a => elapsed s a (usTicks (if slow then 1000 else 100))

/-- QUIET_CHECK (17 R466): the check of every 100 µs, or of every 1 ms for quiet periods of 1,000 ms and more. Not in
W1C mode (17 R469). -/
def execQuietCheck (dt : Nat) (slow : Bool) (s : State) : Host.Outcome State Fault Refusal :=
  let s := advance s dt
  done (if s.p0 0x0610 1 = 1 ∨ checkDue s slow = false then s
    else
      let s := s.modFlue (fun f => { f with checkAt := f.checkAt.set (if slow then 1 else 0 : Fin 2) (some s.clk) })
      (List.range 256).foldl (fun s src =>
      if decide (1000 ≤ s.pe src 0x7010 1) == slow && quietDue s src then recover s src else s) s)

/-- FER_RELEASE (17 R463): a one written to VALID of FER_INFO or LEG_FER. -/
def execFerRelease (dt : Nat) (s : State) : Host.Outcome State Fault Refusal := done (releaseFer (advance s dt))

/-- A clearing write to FLUE_STICKY word `i` in W1C mode (17 R469); in native mode the word is RO. -/
def stickyWrite (s : State) (i : Fin 8) (w : BitVec 32) : State :=
  if s.p0 0x0610 1 = 1 then
    (List.range 32).foldl (fun s b => if w.getLsbD b then clearSource s (32 * i.val + b) else s) s
  else s

/-- STICKY_CLEAR_WRITE (17 R469). -/
def execStickyClearWrite (dt : Nat) (i : Fin 8) (w : BitVec 32) (s : State) : Host.Outcome State Fault Refusal :=
  done (stickyWrite (advance s dt) i w)

/-- FLUE_STICKYi and FLUE_LIVEi (17 R471). -/
def word256 (v : BitVec 256) (i : Nat) : Nat := ((v >>> (32 * i)).setWidth 32).toNat

/-- FLUE_READ (23 R589). -/
def execFlueRead (tr : Transport) (tag : BitVec 16) (s : State) : Host.Outcome State Fault Refusal :=
  done (onCmd s tr tag 0x0600 fun s c => needLen s c 0 fun s =>
    let ws := [flueSum s] ++ (List.range 8).map (word256 s.flue.sticky) ++ (List.range 8).map (word256 s.flue.live)
      ++ recWords s.flue.fer ++ recWords s.flue.ner
    reply s c stOK (ws.flatMap (beBytes 4)))

/-- Bit of a 32-byte mask: bit 0 of the last byte is source 0. -/
def maskBit (l : List Byte) (src : Nat) : Bool := bit (l.getD (31 - src / 8) 0).toNat (src % 8)

/-- FAULT_CLEAR (17 R467; 23 R589). -/
def execFaultClear (tr : Transport) (tag : BitVec 16) (s : State) : Host.Outcome State Fault Refusal :=
  done (onCmd s tr tag 0x0601 fun s c => needLen s c 32 fun s =>
    let named := (List.range 256).filter (maskBit c.data)
    let kept := named.filter (fun src => sticky s src && live s src)
    let s := named.foldl clearSource s
    let out := (List.range 32).map (fun i => BitVec.ofNat 8
      ((List.range 8).foldl (fun a b => a + flag ((8 * (31 - i) + b) ∈ kept) b) 0))
    reply s c stOK out)

/-- RECORD_RELEASE (23 R589). -/
def execRecordRelease (tr : Transport) (tag : BitVec 16) (s : State) : Host.Outcome State Fault Refusal :=
  done (onCmd s tr tag 0x0602 fun s c => needLen s c 5 fun s =>
    match s.flue.fer with
    | some r =>
      if r.source.toNat = beNat (c.data.take 1) ∧ r.stamp.toNat % 2 ^ 32 = beNat (c.data.drop 1) then
        reply (releaseFer s) c stOK []
      else reply s c stBADVALUE (elemHeader 0 0)
    | none => reply s c stBADVALUE (elemHeader 0 0))

end Sys2Proof.Machine
end

