-- ==== Sys2Proof/Machine/MemFam.lean ====
section
/-! DEFINITION. The memories, the journal and the trace recorder: scrubbing, read errors, ring writes, captures, and
their opcodes (spec file 22_memory_journal, 23 R589, R590, R598). -/
namespace Sys2Proof.Machine

/-! ### Counters (22 R571) -/

/-- A counter goes up by `n`; whether OVF stepped. -/
def ctrAdd (w : Nat) (c : Counter) (n : Nat) : Counter × Bool :=
  if c.val + n < 2 ^ w then ({ c with val := c.val + n }, false)
  else ({ val := 2 ^ w - 1, ovf := c.ovf || decide (2 ^ w ≤ c.val + n) }, !c.ovf && decide (2 ^ w ≤ c.val + n))

/-- One memory counter goes up by `n`: 0 SRAM corrected, 1 SRAM uncorrectable, 2 MRAM corrected, 3 MRAM uncorrectable,
4 rows spared. OVF raises 15.15. -/
def memCount (s : State) (which n : Nat) : State :=
  let m := s.mem
  let (m, o) : Mem × Bool := match which with
    | 0 => let (c, o) := ctrAdd 32 m.sramCorr n; ({ m with sramCorr := c }, o)
    | 1 => let (c, o) := ctrAdd 16 m.sramUnc n; ({ m with sramUnc := c }, o)
    | 2 => let (c, o) := ctrAdd 32 m.mramCorr n; ({ m with mramCorr := c }, o)
    | 3 => let (c, o) := ctrAdd 16 m.mramUnc n; ({ m with mramUnc := c }, o)
    | _ => let (c, o) := ctrAdd 16 m.spared n; ({ m with spared := c }, o)
  raiseIf o { s with mem := m } 255 which

/-- An SRAM row is mapped to a spare row, when one is free (22 R557). -/
def spareSramRow (s : State) : State :=
  if 0 < s.mem.spareSram then raise (memCount (s.modMem (fun m => { m with spareSram := m.spareSram - 1 })) 4 1) 248 0
  else raise s 248 1

/-- Die of an MRAM address (22 R558). -/
def dieOf (a : Nat) : Fin 2 := if 0x14000000 ≤ a then 1 else 0

/-- An MRAM row is mapped to a spare row (22 R559): false when none is free. -/
def spareMramRow (s : State) (die : Fin 2) : State × Bool :=
  if 0 < s.mem.spareMram[die] then
    (raise (memCount (s.modMem (fun m => { m with spareMram := vmod m.spareMram die (fun n => n - 1) })) 4 1) 251 0, true)
  else (raise s 251 1, false)

/-- A write of MRAM bytes (22 R559). `bad`: a word has failed its read-back three times. False: the write ended in error. -/
def mramWrite (s : State) (a : Nat) (l : List Byte) (bad : Bool) : State × Bool :=
  let (s, ok) := if bad then spareMramRow s (dieOf a) else (s, true)
  if ok then
    (s.modMem (fun m => { m with
      mram := cellsPut m.mram a l
      poisoned := m.poisoned.filter (fun w => !(decide (a ≤ w + 7) && decide (w < a + l.length))) }), true)
  else (s, false)

/-! ### The journal (22 R565, R566) -/

/-- Address of the ring entry of a sequence number. -/
def ringAddr (seq : Nat) : Nat := 0x11000000 + 32 * (seq % 524288)

/-- The 32 bytes of an entry. -/
def entryBytes (seq : BitVec 32) (e : JournalItem) : List Byte :=
  let b := beBytes 4 seq.toNat ++ beBytes 7 e.stamp.toNat ++ beBytes 1 e.kind.toNat ++ beBytes 2 e.code.toNat ++ [0, 0]
    ++ (e.data ++ List.replicate 12 0).take 12
  b ++ beBytes 4 (crc32c b).toNat

/-- One entry goes into the ring, over the oldest when it is full; false when the write ended in error. -/
def ringPut (s : State) (e : JournalItem) (bad : Bool) : State × Bool :=
  let q := s.journal.nextSeq
  let (s, ok) := mramWrite s (ringAddr q.toNat) (entryBytes q e) bad
  (if ok then s.modJournal (fun j => { j with nextSeq := q + 1, held := Nat.min 524288 (j.held + 1) }) else s, ok)

/-- An entry is lost (22 R562, R566). -/
def entryLost (s : State) : State :=
  let (c, o) := ctrInc 32 s.mem.journalLost
  let s := (s.modMem (fun m => { m with journalLost := c })).modJournal (fun j => { j with lostPending := j.lostPending + 1 })
  raiseIf o (raise s 253 0) 255 5

/-- H3 writes the next queued entry; after a loss an entry of kind 0x08 comes first. An entry whose write ends in error
is lost (log 65). -/
def writeOne (s : State) (bad : Bool) : State :=
  if 0 < s.journal.lostPending then
    let n := s.journal.lostPending
    let (s, ok) := ringPut s ⟨8, 0, s.tb.now, beBytes 4 n ++ List.replicate 8 0⟩ bad
    if ok then s.modJournal (fun j => { j with lostPending := j.lostPending - n }) else s
  else
    match s.journal.queue with
    | [] => s
    | e :: rest =>
      let (s, ok) := ringPut (s.modJournal (fun j => { j with queue := rest })) e bad
      if ok then s else entryLost s

/-- Everything queued is written out (22 R566: before a module reset). -/
def writeOut : Nat → State → State
  | 0, s => s
  | k + 1, s => if s.journal.queue = [] ∧ s.journal.lostPending = 0 then s else writeOut k (writeOne s false)

/-- JOURNAL_WRITE: H3 writes the next entry of the queue. `bad` is a failed write of R559. -/
def execJournalWrite (dt : Nat) (bad : Bool) (s : State) : Host.Outcome State Fault Refusal :=
  done (writeOne (advance s dt) bad)

/-- Oldest SEQ held. -/
def oldestSeq (s : State) : Nat := (s.journal.nextSeq.toNat + 2 ^ 32 - s.journal.held) % 2 ^ 32

/-- The ring entry of a sequence number cannot be read or fails its CRC: it is DAMAGED (22 R562, R565). -/
def entryDamaged (s : State) (seq : Nat) : Bool :=
  let a := ringAddr seq
  let b := cellsGet s.mem.mram a 32
  s.mem.poisoned.any (fun w => decide (a ≤ w + 7) && decide (w < a + 32))
    || beBytes 4 (crc32c (b.take 28)).toNat != b.drop 28

/-- One entry as JOURNAL_READ returns it: the flag byte and the bytes of the ring. -/
def readEntry (s : State) (seq : Nat) : List Byte :=
  BitVec.ofNat 8 (flag (entryDamaged s seq) 0) :: cellsGet s.mem.mram (ringAddr seq) 32

/-- The latest entry with a good CRC, back from a sequence number over `k` entries: the number that follows it, and how
many are left. -/
def latestGood (s : State) : Nat → BitVec 32 → BitVec 32 × Nat
  | 0, q => (q, 0)
  | k + 1, q => if entryDamaged s (q - 1).toNat then latestGood s k (q - 1) else (q, k + 1)

/-- H3 finds the end of the ring at a start and writes from the next entry (22 R565). -/
def journalStart (s : State) : State :=
  let r := latestGood s s.journal.held s.journal.nextSeq
  s.modJournal (fun j => { j with nextSeq := r.1, held := r.2 })

/-- JOURNAL_READ (23 R589, R590). -/
def execJournalRead (tr : Transport) (tag : BitVec 16) (s : State) : Host.Outcome State Fault Refusal :=
  done (onCmd s tr tag 0x0603 fun s c => needLen s c 5 fun s =>
    let first := beNat (c.data.take 4)
    let n := beNat (c.data.drop 4)
    if n < 1 ∨ 30 < n then reply s c stBADVALUE (elemHeader 0 4)
    else
      let held := s.journal.held
      let next := s.journal.nextSeq.toNat
      let back := (next + 2 ^ 32 - first) % 2 ^ 32      -- entries from `first` to the newest
      let (start, k) := if back ≤ held then (first, Nat.min n back)
        else if back ≤ 2 ^ 31 then (oldestSeq s, Nat.min n held)
        else (first, 0)
      reply s c stOK (beBytes 4 ((start + k) % 2 ^ 32) ++
        (List.range k).flatMap (fun i => readEntry s ((start + i) % 2 ^ 32))))

/-! ### Memory events -/

/-- SRAM_SCRUB (22 R557): one row of a scrub pass, in which `corrected` words were corrected and rewritten. -/
def execSramScrub (dt : Nat) (row : Fin 16384) (corrected : Nat) (s : State) : Host.Outcome State Fault Refusal :=
  let s := advance s dt
  let r := row.val
  done (if corrected = 0 then s.modMem (fun m => { m with rowMarks := m.rowMarks.filter (· != r) })
    else
      let s := memCount s 0 corrected
      if r ∈ s.mem.rowMarks then spareSramRow (s.modMem (fun m => { m with rowMarks := m.rowMarks.filter (· != r) }))
      else s.modMem (fun m => { m with rowMarks := r :: m.rowMarks }))

/-- MRAM_PATROL (22 R560): the read-through corrects and rewrites `corrected` words. -/
def execMramPatrol (dt : Nat) (corrected : Nat) (s : State) : Host.Outcome State Fault Refusal :=
  done (memCount (advance s dt) 2 corrected)

/-- MASTER of a Hearth's access (17 R464): its first core in service; in SPLIT core A. -/
def hearthMaster (s : State) (h : Fin 4) : BitVec 8 :=
  let x := s.hearths[h]
  BitVec.ofNat 8 (3 * h.val + (if x.mode = .split then 0 else ((activeCores x).headD 0).val))

/-- The effect of a lasting uncorrectable read by its area (22 R562). `h` is the Hearth that read, `k` the number of
the update group, packet (those received before those to be sent), journal entry, sample or trace record that is lost,
`entry` true for a journal entry. -/
def lostWord (s : State) (sram : Bool) (a : Nat) (h : Fin 4) (k : Nat) (entry : Bool) : State :=
  if sram then
    if a < 0x00C00000 then haltHearth s h 3 0
    else if a < 0x00E00000 then
      match s.porter.groups[k]? with
      | some g => replyAt (s.modPorter (fun p => { p with groups := p.groups.eraseIdx k })) g.cmd stEXECFAULT []
      | none => s
    else if a < 0x00F00000 then
      s.modTrace (fun t => { t with damaged := true, staging := t.staging.modify k (fun l => l.map (fun _ => 0x80000000)) })
    else if entry then
      if k < s.journal.queue.length then entryLost (s.modJournal (fun j => { j with queue := j.queue.eraseIdx k })) else s
    else if k < s.porter.ready.length then s.modPorter (fun p => { p with ready := p.ready.eraseIdx k })
    else
      match s.porter.replies[k - s.porter.ready.length]? with
      | some r => sentReply s r
      | none => s
  else if a < 0x10800000 then s.modStore (fun x => { x with imageA := { x.imageA with sigOk := false } })
  else if a < 0x10900000 then s.modStore (fun x => { x with copy0 := { x.copy0 with crcOk := false } })
  else if a < 0x10910000 then s.modStore (fun x => { x with boot0 := { x.boot0 with crcOk := false } })
  else if a < 0x12000000 then s
  else if a < 0x14000000 then s.modTrace (fun t => { t with records := t.records.modify k (fun r => { r with damaged := true }) })
  else if a < 0x14800000 then s.modStore (fun x => { x with imageB := { x.imageB with sigOk := false } })
  else if a < 0x14900000 then s.modStore (fun x => { x with copy1 := { x.copy1 with crcOk := false } })
  else if a < 0x14910000 then s.modStore (fun x => { x with boot1 := { x.boot1 with crcOk := false } })
  else s.modTrace (fun t => { t with records := t.records.modify k (fun r => { r with damaged := true }) })

/-- UNCORRECTABLE_READ (22 R562): Hearth `h` reads SRAM, the MRAM controller MRAM (17 R464). -/
def execUncorrectableRead (dt : Nat) (sram : Bool) (a : Nat) (lasting : Bool) (h : Fin 4) (k : Nat) (entry : Bool) (s : State) :
    Host.Outcome State Fault Refusal :=
  let s := advance s dt
  let retry : Retry := if lasting then .lasting else .transient
  let s := if sram then raiseBy s (hearthMaster s h) 249 a 2 retry else raiseOp s 250 a 2 retry
  let s := memCount s (if sram then 1 else 3) 1
  done (if lasting then
      let s := if sram then spareSramRow s else (spareMramRow s (dieOf a)).1
      let w := if sram then a / 4 * 4 else a / 8 * 8
      let s := s.modMem (fun m => { m with poisoned := if w ∈ m.poisoned then m.poisoned else m.poisoned ++ [w] })
      lostWord s sram a h k entry
    else s)

/-! ### The trace recorder (22 R567 to R570) -/

/-- Channels in use, by number. -/
def traceChannels (s : State) : List Nat := (List.range 16).filter (fun i => bit (s.p0 0x0720 (i + 1)) 63)

/-- Samples that the 1 MB staging ring holds, and those before the trigger. -/
def traceCapacity (s : State) : Nat := 262144 / Nat.max 1 (traceChannels s).length
def tracePre (s : State) : Nat := traceCapacity s * s.p0 0x0720 19 / 16

/-- The recorder arms, unless the module is throttled (22 R570). -/
def traceArm (s : State) : State :=
  s.modTrace (fun t => { t with
    phase := if s.p0 0x0720 20 = 1 ∧ throttling s = false then .pre else .off
    staging := [], postLeft := 0, skip := 0, trigger := none, later := 0, damaged := false, lastLevel := none, crossed := false })

/-- A write of the arm parameter. -/
def traceArmWritten (s : State) : State :=
  match s.trace.phase with
  | .off => traceArm s
  | .pre => if s.p0 0x0720 20 = 1 then s else traceArm s
  | _ => s

/-- One sample goes into the staging ring. -/
def traceSample (s : State) (vals : List (BitVec 32)) : State :=
  match s.trace.phase with
  | .pre =>
    let l := s.trace.staging ++ [vals]
    s.modTrace (fun t => { t with staging := l.drop (l.length - tracePre s) })
  | .post =>
    if s.trace.postLeft = 0 then s
    else s.modTrace (fun t => { t with staging := t.staging ++ [vals], postLeft := t.postLeft - 1 })
  | _ => s

/-- The cause number of a trigger: the source, or for the others a code that the spec does not give (log 25). -/
def TraceCause.code : TraceCause → BitVec 8
  | .source n => BitVec.ofNat 8 n.val
  | .level => BitVec.ofNat 8 (Config.outside 1 [1])
  | .lat => BitVec.ofNat 8 (Config.outside 1 [2])
  | .opcode => BitVec.ofNat 8 (Config.outside 1 [3])

/-- Order of the conditions of 22 R568, lower sources first. -/
def TraceCause.rank : TraceCause → Nat
  | .source n => n.val | .level => 256 | .lat => 257 | .opcode => 258

/-- A source of group 13 or 14 (22 R569). -/
def TraceCause.protects : TraceCause → Bool
  | .source n => n.val / 16 == 13 || n.val / 16 == 14
  | _ => false

/-- A condition triggers (22 R568, R570): the post-trigger share begins; at the tick of the trigger it joins it, the
first in order naming the cause; later it is only counted. -/
def traceTrigger (s : State) (c : TraceCause) : State :=
  match s.trace.phase with
  | .pre => s.modTrace (fun t => { t with
      phase := .post, trigger := some (s.tb.now, c, c.protects), postLeft := traceCapacity s - tracePre s })
  | .off => s
  | _ =>
    match s.trace.trigger with
    | some (at', d, prot) =>
      if at' = s.tb.now then
        s.modTrace (fun t => { t with trigger := some (at', if c.rank < d.rank then c else d, prot || c.protects) })
      else raise (s.modTrace (fun t => { t with later := t.later + 1 })) 254 1
    | none => s

/-- A condition of 22 R568 holds at this tick: a raise of a named source, the newest sample crossing the level, or an edge
of the named LAT input. -/
def conditionMet (s : State) : TraceCause → Bool
  | .source n => bit (s.p0 0x0720 (21 + n.val / 64)) (n.val % 64) && (raisedNow s n.val).isSome
  | .level => s.trace.crossed && (traceChannels s).contains (s.p0 0x0720 25 % 16)
  | .lat => decide (s.p0 0x0720 27 < 8) && s.lats[finOf 8 (s.p0 0x0720 27)].edgeAt == some s.clk
  | .opcode => false

/-- TRACE_TRIGGER_CONDITION (22 R568): a condition that holds at this tick triggers. -/
def execTraceTriggerCondition (dt : Nat) (c : TraceCause) (s : State) : Host.Outcome State Fault Refusal :=
  let s := advance s dt
  done (if conditionMet s c then traceTrigger s c else s)

/-- TRACE_RECORD_COPY (22 R568): the post-trigger share is full; H3 copies. -/
def execTraceRecordCopy (dt : Nat) (s : State) : Host.Outcome State Fault Refusal :=
  let s := advance s dt
  done (if s.trace.phase = .post ∧ s.trace.postLeft = 0 then s.modTrace (fun t => { t with phase := .copy }) else s)

/-- Bytes of a record's samples. -/
def TraceRec.bytes (r : TraceRec) : List Byte := r.data.flatMap (fun w => beBytes 4 w.toNat)
def TraceRec.len (r : TraceRec) : Nat := 4 * r.data.length

def protectedBytes (l : List TraceRec) : Nat := (l.filter (fun r => r.isProtected)).foldl (fun a r => a + r.len) 0

/-- The first record with a property leaves the list. -/
def dropFirst (p : TraceRec → Bool) : List TraceRec → List TraceRec
  | [] => []
  | r :: rs => if p r then rs else r :: dropFirst p rs

/-- Oldest protected records are overwritten until `len` more bytes stay within 40 MB: the list, and whether any was. -/
def freeProtected (len : Nat) : Nat → List TraceRec → List TraceRec × Bool
  | 0, l => (l, false)
  | k + 1, l =>
    if 41943040 < protectedBytes l + len ∧ l.any (fun r => r.isProtected) then
      ((freeProtected len k (dropFirst (fun r => r.isProtected) l)).1, true)
    else (l, false)

/-- A record joins the trace area, which holds 80 (22 R569). -/
def storeRecord (s : State) (r : TraceRec) : State :=
  let (l, isOver) := if r.isProtected then freeProtected r.len 81 s.trace.records else (s.trace.records, false)
  let l := if l.length < 80 then l
    else if l.any (fun x => !x.isProtected) then dropFirst (fun x => !x.isProtected) l else l.drop 1
  raiseIf isOver (s.modTrace (fun t => { t with records := l ++ [r] })) 254 2

/-- TRACE_COPY_COMPLETE (22 R568): the header is written, 15.14 is raised and the recorder arms again. -/
def execTraceCopyComplete (dt : Nat) (bad : Bool) (s : State) : Host.Outcome State Fault Refusal :=
  let s := advance s dt
  done (if s.trace.phase ≠ .copy then s
    else
      match s.trace.trigger with
      | none => traceArm s
      | some (at', cause, prot) =>
        let (s, ok) := if bad then spareMramRow s 0 else (s, true)
        if !ok then traceArm s
        else
          let t := s.trace
          let r : TraceRec := {
            number := t.nextNumber, stamp := at', cause := cause, channels := traceChannels s, isProtected := prot
            damaged := t.damaged, laterTriggers := t.later, data := t.staging.flatten }
          let s := storeRecord (s.modTrace (fun t => { t with nextNumber := t.nextNumber + 1 })) r
          let s := raise s 254 0
          let s := journal s 9 0 (beBytes 2 r.number.toNat ++ beBytes 1 cause.code.toNat
            ++ beBytes 1 (flag prot 0 + flag r.damaged 1) ++ beBytes 4 r.len ++ List.replicate 4 0)
          traceArm s)

/-- TRACE_TRIGGER (23 R598). -/
def execTraceTrigger (tr : Transport) (tag : BitVec 16) (s : State) : Host.Outcome State Fault Refusal :=
  done (onCmd s tr tag 0x0B00 fun s c =>
    if s.trace.phase = .pre then needLen s c 0 fun s => reply (traceTrigger s .opcode) c stOK []
    else reply (traceTrigger s .opcode) c stREFUSED [])

/-- Records that one reply can list: 16 bytes each beside the count, within the 1,024 data bytes of 03 R69; the newest
(log 25). -/
def listed (s : State) : List TraceRec := s.trace.records.drop (s.trace.records.length - 63)

/-- TRACE_LIST (23 R598). -/
def execTraceList (tr : Transport) (tag : BitVec 16) (s : State) : Host.Outcome State Fault Refusal :=
  done (onCmd s tr tag 0x0B01 fun s c => needLen s c 0 fun s =>
    reply s c stOK (beBytes 1 (listed s).length ++ (listed s).flatMap (fun r =>
      beBytes 2 r.number.toNat ++ beBytes 8 r.stamp.toNat ++ beBytes 1 r.cause.code.toNat
        ++ beBytes 1 (flag r.isProtected 0 + flag r.damaged 1) ++ beBytes 4 r.len)))

/-- TRACE_READ (23 R598). The bytes of a record are its samples in order (log 25). -/
def execTraceRead (tr : Transport) (tag : BitVec 16) (s : State) : Host.Outcome State Fault Refusal :=
  done (onCmd s tr tag 0x0B02 fun s c => needLen s c 8 fun s =>
    let off := beNat ((c.data.drop 2).take 4)
    let n := beNat (c.data.drop 6)
    match s.trace.records.find? (fun r => r.number.toNat == beNat (c.data.take 2)) with
    | none => reply s c stBADVALUE (elemHeader 0 0)
    | some r =>
      if n < 1 ∨ 1000 < n then reply s c stBADVALUE (elemHeader 0 6)
      else if r.len < off + n then reply s c stBADVALUE (elemHeader 0 2)
      else reply s c stOK ((r.bytes.drop off).take n))

/-- TRACE_PROTECT (23 R598). -/
def execTraceProtect (tr : Transport) (tag : BitVec 16) (s : State) : Host.Outcome State Fault Refusal :=
  done (onCmd s tr tag 0x0B03 fun s c => needLen s c 3 fun s =>
    let num := beNat (c.data.take 2)
    let p := beNat (c.data.drop 2)
    match s.trace.records.find? (fun r => r.number.toNat == num) with
    | none => reply s c stBADVALUE (elemHeader 0 0)
    | some r =>
      if 1 < p then reply s c stBADVALUE (elemHeader 0 2)
      else if p = 0 ∧ r.cause.protects = true then reply s c stREFUSED []
      else
        let others := s.trace.records
        let (l, isOver) := if p = 1 ∧ !r.isProtected then freeProtected r.len 81 others else (others, false)
        let s := s.modTrace (fun t => { t with records := l.map (fun x =>
          if x.number = r.number then { x with isProtected := p == 1 } else x) })
        reply (raiseIf isOver s 254 2) c stOK [])

end Sys2Proof.Machine
end

