-- ==== Sys2Proof/Machine/SafeOps.lean ====
section
/-! DEFINITION. The safety functions as each channel runs them: demands, STO, SS1, SOS, SLS, SSM, SDI, SBC, faults and
acknowledgements (15_safety R376 to R405). `h0` chooses the view: Hearth 0, or the Damper (15 R378). -/
namespace Sys2Proof.Machine

def safeView (s : State) (h0 : Bool) : SafeView := if h0 then s.safety.h0 else s.safety.damper

def modView (s : State) (h0 : Bool) (f : SafeView → SafeView) : State :=
  s.modSafety (fun x => if h0 then { x with h0 := f x.h0 } else { x with damper := f x.damper })

def modFn (s : State) (h0 : Bool) (m : Fin 4) (f : SafeFn → SafeFn) : State :=
  modView s h0 (fun v => { v with fns := vmod v.fns m f })

def modInput (s : State) (h0 : Bool) (k : Fin 9) (f : SafeInput → SafeInput) : State :=
  modView s h0 (fun v => { v with inputs := vmod v.inputs k f })

/-- A parameter of the safety set as a channel holds it: H0 reads the active copy, the Damper its loaded set (15 R418). -/
def vpar (s : State) (h0 : Bool) (kind inst idx sub : Nat) : Nat :=
  if h0 then s.par kind inst idx sub else (plook s.safety.set (pkey kind inst idx sub)).getD (pdfl kind inst idx sub)

def v0 (s : State) (h0 : Bool) (idx sub : Nat) : Nat := vpar s h0 0 0 idx sub
def vm (s : State) (h0 : Bool) (m : Fin 4) (idx sub : Nat) : Nat := vpar s h0 1 m.val idx sub

/-! ### Safe inputs (15 R386, R401, R402) -/

/-- Mode of an input: SI7 and the STO input are always equivalent. -/
def inMode (s : State) (h0 : Bool) (k : Fin 9) : Nat := if 7 ≤ k.val then 1 else v0 s h0 (0x6010 + k.val) 1
def inFilter (s : State) (h0 : Bool) (k : Fin 9) : Nat := if k = 8 then v0 s h0 0x6003 1 else v0 s h0 (0x6010 + k.val) 2
def inDisc (s : State) (h0 : Bool) (k : Fin 9) : Nat := if k = 8 then v0 s h0 0x6003 2 else v0 s h0 (0x6010 + k.val) 3

/-- A level at a ball means on: B of an antivalent input is on when it is low. -/
def levelOn (s : State) (h0 : Bool) (k : Fin 9) (chB level : Bool) : Bool :=
  if chB && inMode s h0 k == 2 then !level else level

/-- IN_FAULT of an input in a view. -/
def inputFault (s : State) (h0 : Bool) (k : Fin 9) : Bool := (safeView s h0).inputs[k].disc || s.safety.inFault[k]

/-- The input is on. The Damper holds every input off until the safety set is loaded. -/
def inputOn (s : State) (h0 : Bool) (k : Fin 9) : Bool :=
  let x := (safeView s h0).inputs[k]
  inMode s h0 k != 0 && x.accA && x.accB && !inputFault s h0 k && (h0 || (s.safety.damperUp && s.safety.loaded))

/-- On-states of SI0 to SI7 in a view. -/
def inputBits (s : State) (h0 : Bool) : Nat :=
  eight.foldl (fun a k => a + flag (inputOn s h0 (finOf 9 k.val)) k.val) 0

/-! ### Demands (15 R385, R386, R413, R415) -/

def routeWord (s : State) (h0 : Bool) (m : Fin 4) (f : Nat) : Nat := vm s h0 m 0x6100 f
/-- The connection that a routing word names. -/
def routeConn (w : Nat) : Fin 8 := finOf 8 (bits w 10 8)
def connOn (s : State) (h0 : Bool) (c : Fin 8) : Bool := v0 s h0 (0x6040 + c.val) 1 == 1
def connModule (s : State) (h0 : Bool) (c : Fin 8) : Bool := v0 s h0 (0x6040 + c.val) 2 == 1

/-- Bit of a demand input in the command payload, in the order of 15 R385 (15 R409). -/
def payloadBit (f : Nat) : Nat :=
  match f with
  | 1 => 15 | 2 => 14 | 3 => 13 | 4 => 12 | 5 => 10 | 6 => 11 | 7 => 9 | 8 => 8 | _ => 7

def wireDemand (s : State) (h0 : Bool) (m : Fin 4) (f : Nat) : Bool :=
  let w := routeWord s h0 m f
  (bit w 3 && !inputOn s h0 (finOf 9 (bits w 2 0))) ||
  (f == 1 && bit (v0 s h0 0x6003 3) m.val && !inputOn s h0 8)

/-- The mask of a module connection that concerns a machine: partner machines 0 to 3 (15 R415). -/
def coupling (s : State) (h0 : Bool) (m : Fin 4) (c : Fin 8) : List Nat :=
  if connOn s h0 c && connModule s h0 c then [0, 1, 2, 3].filter (fun j => bit (v0 s h0 (0x6040 + c.val) 9) (4 * j + m.val))
  else []

/-- A networked demand: the payload bit, or the loss of the connection. Select bits are no functions and keep their
last value (log 58). -/
def netDemand (s : State) (h0 : Bool) (m : Fin 4) (f : Nat) : Bool :=
  let w := routeWord s h0 m f
  let c := routeConn w
  let x := (safeView s h0).conns[c]
  (bit w 4 && connOn s h0 c && !connModule s h0 c
    && ((x.lost && f != 5 && f != 6) || x.words[m].getLsbD (payloadBit f))) ||
  (f == 1 && eight.any (fun c =>
    (coupling s h0 m c).any (fun j =>
      (safeView s h0).conns[c].lost || (safeView s h0).conns[c].words[finOf 4 j].getLsbD 15)))

def demanded (s : State) (h0 : Bool) (m : Fin 4) (f : Nat) : Bool := wireDemand s h0 m f || netDemand s h0 m f

/-- Demands of STO, SS1, SOS, SLS, SDI and SBC by wire or network. -/
def sixDemands (s : State) (h0 : Bool) (m : Fin 4) : Vector Bool 6 :=
  #v[demanded s h0 m 1, demanded s h0 m 2, demanded s h0 m 3, demanded s h0 m 4,
     demanded s h0 m 7 || demanded s h0 m 8, demanded s h0 m 9]

/-- The limit that the select bits choose. -/
def slsSelect (s : State) (h0 : Bool) (m : Fin 4) : Fin 4 :=
  finOf 4 (flag (demanded s h0 m 5) 0 + flag (demanded s h0 m 6) 1)

/-- A machine whose demand inputs use a safe input (15 R401), the STO input by its mask. -/
def routesInput (s : State) (m : Fin 4) (k : Fin 9) : Bool :=
  if k = 8 then bit (v0 s false 0x6003 3) m.val
  else [1, 2, 3, 4, 5, 6, 7, 8, 9].any (fun f => let w := routeWord s false m f; bit w 3 && bits w 2 0 == k.val)

/-- A machine that a connection concerns (15 R413). -/
def routesConn (s : State) (m : Fin 4) (c : Fin 8) : Bool :=
  [1, 2, 3, 4, 5, 6, 7, 8, 9].any (fun f => let w := routeWord s false m f; bit w 4 && routeConn w == c)
    || coupling s false m c != []

/-! ### SP ports and position ports (15 R399, R400) -/

/-- The SP port of a machine. -/
def spOf (s : State) (h0 : Bool) (m : Fin 4) : Option (Fin 2) :=
  if v0 s h0 0x6030 1 = m.val then some 0 else if v0 s h0 0x6031 1 = m.val then some 1 else none

/-- Speed of an SP port in 1/256 rpm; its rounding is free. -/
def spSpeed (s : State) (q : Fin 2) : Int :=
  let x := s.safety.ports[q]
  let e : Nat := x.gates.toList.foldl (fun a b => a + b) 0
  let d := v0 s false (0x6030 + q.val) 2 * v0 s false (0x6030 + q.val) 4
  let n := neigh (e * 15360000) (Nat.max 1 d)
  if x.positive then n else -n

/-- Speed of a machine as a channel knows it, 1/256 rpm. -/
def viewSpeed (s : State) (h0 : Bool) (m : Fin 4) : Int :=
  if h0 then
    match portOf s m with
    | some p => s.posPorts[p].speed
    | none => 0
  else
    match spOf s false m with
    | some q => spSpeed s q
    | none => 0

/-- Position of a machine as a channel knows it, in its own counts, and its counts per turn. -/
def viewPos (s : State) (h0 : Bool) (m : Fin 4) : Int × Nat :=
  if h0 then
    match portOf s m with
    | some p => ((posNow s p).toNat, 65536)
    | none => (0, 65536)
  else
    match spOf s false m with
    | some q => (s.safety.ports[q].pos, v0 s false (0x6030 + q.val) 2)
    | none => (0, 1)

/-- Motion from a captured position; H0's count wraps (00 R9). -/
def motion (h0 : Bool) (now from' : Int) : Int := if h0 then (BitVec.ofInt 32 (now - from')).toInt else now - from'

/-! ### Outputs -/

/-- The safe outputs that serve a machine. -/
def outsOf (s : State) (h0 : Bool) (m : Fin 4) : List (Fin 4) := four.filter (fun o => v0 s h0 (0x6020 + o.val) 1 == m.val)

/-- The machine of a safe output. -/
def outMachine (s : State) (o : Fin 4) : Option (Fin 4) :=
  let v := v0 s false (0x6020 + o.val) 1
  if v < 4 then some (finOf 4 v) else none

/-- The Damper drives both channels of a safe output; a change awaits its feedback (15 R398). -/
def driveOut (s : State) (o : Fin 4) (on : Bool) : State :=
  let fb := v0 s false (0x6020 + o.val) 4
  s.modSafety (fun x => { x with outs := vmod x.outs o (fun y => { y with
    a := on, b := on, readA := on, readB := on
    feedbackAt := if y.a = on ∧ y.b = on then y.feedbackAt else if fb < 7 then some s.clk else none }) })

/-- GEN of a machine is driven low (15 R387, R404): an enabled machine is disabled and STOPPED, and its start ends. -/
def genLow (s : State) (m : Fin 4) (src cause : Nat) : State :=
  let high := s.safety.genA[m] || s.safety.genB[m]
  let s := s.modSafety (fun x => { x with genA := vmod x.genA m (fun _ => false), genB := vmod x.genB m (fun _ => false) })
  if high then
    let s := s.modSafety (fun x => { x with genReq := vmod x.genReq m (fun _ => none) })
    if s.en m then
      let s := noteSource s m src cause
      reachStopped (failStart s m (match s.drive[m].enabling with
        | some e => e.firstSource
        | none => none)) m false
    else s
  else s

/-! ### Faults (15 R389, R420) -/

def inFaultOf (s : State) (m : Fin 4) : Bool :=
  ([0, 1, 2, 3, 4, 5, 6, 7, 8] : List (Fin 9)).any (fun k => routesInput s m k && inputFault s false k)
def outFaultOf (s : State) (m : Fin 4) : Bool :=
  s.safety.genFault[m] || (outsOf s false m).any (fun o => s.safety.outs[o].fault)
def spFaultOf (s : State) (m : Fin 4) : Bool :=
  match spOf s false m with
  | some q => s.safety.ports[q].fault
  | none => false
def connFaultOf (s : State) (m : Fin 4) : Bool := eight.any (fun c => routesConn s m c && s.safety.links[c].fault)

/-- Any of [13:6] of the status word. -/
def faultOf (s : State) (m : Fin 4) : Bool :=
  s.safety.hbLost || s.safety.oscFault || s.safety.cfgFault || inFaultOf s m || outFaultOf s m || spFaultOf s m
    || s.safety.xchk[m] || connFaultOf s m

/-- RESTART_REQ of the machines that satisfy a test. -/
def needRestart (s : State) (p : Fin 4 → Bool) : State :=
  forAll four (fun m s => if p m then s.modSafety (fun x => { x with restartReq := vmod x.restartReq m (fun _ => true) }) else s) s

/-- 13.8 of an input, counted for SI0 to SI7 (15 R401, R402, R421). -/
def inputFaultRaise (s : State) (k : Fin 9) (cause : Nat) : State :=
  let s := needRestart s (fun m => routesInput s m k)
  if h : k.val < 8 then
    let i : Fin 8 := ⟨k.val, h⟩
    let (c, o) := ctrInc 8 s.safety.inCount[i]
    let s := raise (s.modSafety (fun x => { x with inCount := vmod x.inCount i (fun _ => c) })) 216 (16 * k.val + cause)
    raiseIf o s 216 (16 * k.val + cause)
  else raise s 216 (16 * k.val + cause)

/-! ### STO and SBC in force -/

/-- STO in force in a view: demanded, a reaction of this chapter, or a lost heartbeat or reference. The second channel of
a six-phase pair follows the first (15 R384). -/
def stoIn (s : State) (h0 : Bool) (m : Fin 4) : Bool :=
  let m := lead s m
  demanded s h0 m 1 || (safeView s h0).fns[m].stoReaction
    || (if h0 then s.safety.dampLost else s.safety.hbLost || s.safety.oscFault)

/-- SBC in force in the Damper's view, on the outputs of a machine. -/
def sbcIn (s : State) (m : Fin 4) : Bool :=
  stoIn s false m || demanded s false m 9 || s.safety.damper.fns[m].sbcReaction

/-- A function is demanded: 13.n once, by the first channel, and counted (15 R405, R421). -/
def raiseDemand (s : State) (h0 : Bool) (m : Fin 4) (k : Fin 6) : State :=
  if (safeView s (!h0)).fns[m].was[k] then s
  else
    let (c, o) := ctrInc 32 s.safety.demands[m]
    let s := raise (s.modSafety (fun x => { x with demands := vmod x.demands m (fun _ => c) })) (208 + m.val) k.val
    raiseIf o s (208 + m.val) 15

/-- SS1 starts in a view (15 R391). H0 has drive management run a stop of kind RAMP, or RAMP_BRAKE with a brake, from
the next commit point. -/
def startSs1 (s : State) (h0 : Bool) (m : Fin 4) (timed : Bool) : State :=
  if (safeView s h0).fns[m].ss1.isSome || stoIn s h0 m then s
  else
    let s := modFn s h0 m (fun f => { f with ss1 := some {
      startedAt := s.clk, n0 := (viewSpeed s h0 m).natAbs, timed := timed || vm s h0 m 0x6102 1 == 0 } })
    if h0 then faultStop (noteSource s m (208 + m.val) 1) m (some (if braked s m then .rampBrake else .ramp)) else s

/-- SS1 reaches STO, or SBC first where an output is assigned (15 R391). -/
def ss1Ends (s : State) (h0 : Bool) (m : Fin 4) : State :=
  match (safeView s h0).fns[m].ss1 with
  | none => s
  | some x =>
    if x.sbcAt.isSome then s
    else if outsOf s h0 m = [] then modFn s h0 m (fun f => { f with stoReaction := true, ss1 := none })
    else modFn s h0 m (fun f => { f with sbcReaction := true, ss1 := some { x with sbcAt := some s.clk } })

/-- The source and cause that a fall of GEN is recorded under (15 R387; 23 R586). -/
def stoSource (s : State) (m : Fin 4) : Nat × Nat :=
  let f := s.safety.damper.fns[m]
  if demanded s false m 1 then (208 + m.val, 0)
  else if s.safety.hbLost then (220, 1)
  else if s.safety.oscFault then (221, 0)
  else
    match ([0, 1, 2, 3] : List (Fin 4)).find? (fun k => f.violated[k] || s.safety.h0.fns[m].violated[k]) with
    | some k => (212 + m.val, k.val)
    | none => (208 + m.val, 1)

/-- The functions of one machine in one view after any change (15 R383 to R396, R405). -/
def evalFns (s : State) (h0 : Bool) (m : Fin 4) : State :=
  let d := sixDemands s h0 m
  let f := (safeView s h0).fns[m]
  -- reactions end with the demands that led to them
  let idle := !d[(1 : Fin 6)] && !d[(2 : Fin 6)] && !d[(3 : Fin 6)] && !d[(4 : Fin 6)] && f.ss1.isNone
    && !s.safety.xchk[m] && !spFaultOf s m && (h0 || !s.safety.stoReq[m])
  let taken := s.safety.genA[m] || s.safety.genB[m]
  let s := if idle && !(taken && f.stoReaction) then
      modFn s h0 m (fun f => { f with stoReaction := false, sbcReaction := false, violated := Vector.replicate 4 false }) else s
  let sto := stoIn s h0 m
  let f := (safeView s h0).fns[m]
  -- new demands
  let new (k : Fin 6) : Bool := (if k = 0 then sto else d[k]) && !f.was[k]
  let s := ([0, 1, 2, 3, 4, 5] : List (Fin 6)).foldl (fun s k => if new k then raiseDemand s h0 m k else s) s
  let ended := f.was[(0 : Fin 6)] && !sto
  let pos := (viewPos s h0 m).1
  let s := modFn s h0 m (fun f => { f with
    was := d.set 0 sto
    ss1 := if sto then none else f.ss1
    sosAt := if sto || !d[(2 : Fin 6)] then none else some (f.sosAt.getD s.clk)
    sosPos := if sto || !d[(2 : Fin 6)] then none else f.sosPos
    sdiPos := if demanded s h0 m 7 then some (f.sdiPos.getD pos) else none
    sdiNeg := if demanded s h0 m 8 then some (f.sdiNeg.getD pos) else none })
  -- the limit selected (15 R393)
  let sel := slsSelect s h0 m
  let lim (k : Fin 4) : Nat := vm s h0 m 0x6104 (1 + k.val)
  let s := modFn s h0 m (fun f =>
    if !d[(3 : Fin 6)] then { f with slsNext := none }
    else if new 3 then { f with slsSel := sel, slsNext := none }
    else
      match f.slsNext with
      | some (j, a) =>
        if j = sel then { f with slsNext := some (j, a) }
        else if lim f.slsSel ≤ lim sel then { f with slsSel := sel, slsNext := none }
        else { f with slsNext := some (sel, s.clk) }
      | none =>
        if sel = f.slsSel then f
        else if lim f.slsSel ≤ lim sel then { f with slsSel := sel }
        else { f with slsNext := some (sel, s.clk) })
  let s := if d[(1 : Fin 6)] then startSs1 s h0 m false else s
  if h0 then
    -- H0 requests STO and SBC, and releases its shutdown line when STO ends
    let s := s.modSafety (fun x => { x with
      stoReq := vmod x.stoReq m (fun _ => f.stoReaction)
      sbcReq := if d[(5 : Fin 6)] || sto || f.sbcReaction then vmod x.sbcReq m (fun _ => true) else x.sbcReq })
    if !sto && s.gl[m].shutdown && s.hearths[(0 : Fin 4)].mode != .halted && !s.hearths[(0 : Fin 4)].debugHalted
        && s.hearths[(1 : Fin 4)].mode != .halted && s.hearths[(2 : Fin 4)].mode != .halted then setShutdown s m false
    else s
  else
    let manual := vm s false m 0x6101 1 == 0
    let s := if manual && (ended || (sto && new 0)) then needRestart s (fun j => j == m) else s
    let s := if sto then let c := stoSource s m; genLow s m c.1 c.2 else s
    if sbcIn s m then
      forAll (outsOf s false m) (fun o s => driveOut s o false) s
    else s

/-- Both channels, every machine. The Damper acts while it is up. -/
def evalOnce (s : State) : State :=
  let s := if s.safety.damperUp then forAll four (fun m s => evalFns s false m) s else s
  forAll four (fun m s => evalFns s true m) s

/-- The second pass ends a reaction that has been taken and that nothing demands any more. -/
def evalSafety (s : State) : State := evalOnce (evalOnce s)

/-- A violation in a view (15 R391 to R395, R405): 13.(4 + n) once, by the first channel, and its reaction. Functions
0 SS1, 1 SOS, 2 SLS, 3 SDI. -/
def violate (s : State) (h0 : Bool) (m : Fin 4) (k : Fin 4) : State :=
  if stoIn s h0 m || (safeView s h0).fns[m].violated[k] then s
  else
    let first := !(safeView s (!h0)).fns[m].violated[k]
    let s := modFn s h0 m (fun f => { f with violated := f.violated.set k true })
    let s := raiseIf first s (212 + m.val) k.val
    let sto := k = 0 ∨ k = 1 ∨ vm s h0 m 0x6101 2 = 0
    let s := if sto then modFn s h0 m (fun f => { f with stoReaction := true }) else startSs1 s h0 m false
    evalSafety s

/-- The speed tests of a view (15 R391, R393, R394) with a new speed. -/
def speedChecks (s : State) (h0 : Bool) (m : Fin 4) : State :=
  let v := (viewSpeed s h0 m).natAbs
  let f := (safeView s h0).fns[m]
  let s := match f.ss1 with
    | some x =>
      if x.timed || x.sbcAt.isSome then s
      else if (x.n0 + 256 * vm s h0 m 0x6102 4 : Nat) * 200000000 < v * 200000000 + 256 * vm s h0 m 0x6102 3 * (s.clk - x.startedAt) then
        violate s h0 m 0
      else if v ≤ 256 * vm s h0 m 0x6102 5 then evalSafety (ss1Ends s h0 m)
      else s
    | none => s
  let s := if f.was[(3 : Fin 6)] ∧ 256 * vm s h0 m 0x6104 (1 + f.slsSel.val) < v then violate s h0 m 2 else s
  modFn s h0 m (fun f => { f with
    ssm := if v < 256 * vm s h0 m 0x6105 1 then true
      else if 256 * (vm s h0 m 0x6105 1 + vm s h0 m 0x6105 2) ≤ v then false else f.ssm })

/-- The position tests of a view (15 R392, R395). -/
def motionChecks (s : State) (h0 : Bool) (m : Fin 4) : State :=
  let (pos, cpt) := viewPos s h0 m
  let f := (safeView s h0).fns[m]
  let isOver (a : Int) (w : Nat) : Bool := decide ((w * cpt : Nat) < 3600 * a)
  let s := match f.sosPos with
    | some p => if isOver ((motion h0 pos p).natAbs) (vm s h0 m 0x6103 2) then violate s h0 m 1 else s
    | none => s
  let tol := vm s h0 m 0x6106 1
  let bad : Bool := (match f.sdiPos with
      | some p => isOver (-(motion h0 pos p)) tol
      | none => false) || (match f.sdiNeg with
      | some p => isOver (motion h0 pos p) tol
      | none => false)
  if bad then violate s h0 m 3 else s

/-! ### Acknowledgement (15 R390) -/

/-- The conditions of XCHK_FAULT have gone: the speeds agree and the position port reports (15 R400). -/
def xchkOver (s : State) (m : Fin 4) : Bool :=
  (match spOf s true m with
   | some q => s.safety.ports[q].xchkAt.isNone
   | none => true) && (match portOf s m with
   | some p => !s.posPorts[p].lost
   | none => true)

/-- An acknowledgement of some machines: it clears latched faults whose condition has gone (log 58), and RESTART_REQ of a
machine without demand and without fault. One that arrives while a demand is present is discarded. -/
def acknowledge (s : State) (p : Fin 4 → Bool) : State :=
  forAll four (fun m s =>
    if !p m || stoIn s false m || (sixDemands s false m).toList.any (fun b => b) || s.safety.damper.fns[m].ss1.isSome then s
    else
      let s := s.modSafety (fun x => { x with
        outs := (outsOf s false m).foldl (fun v o => vmod v o (fun y => { y with fault := false })) x.outs
        genFault := vmod x.genFault m (fun _ => false)
        xchk := vmod x.xchk m (fun b => b && !xchkOver s m)
        ports := match spOf s false m with
          | some q => vmod x.ports q (fun y => { y with fault := false })
          | none => x.ports
        inFault := ([0, 1, 2, 3, 4, 5, 6, 7, 8] : List (Fin 9)).foldl (fun v k =>
          if routesInput s m k && x.testHold[k].isNone then vmod v k (fun _ => false) else v) x.inFault })
      if faultOf s m then s
      else s.modSafety (fun x => { x with restartReq := vmod x.restartReq m (fun _ => false) })) s

/-! ### Status (15 R420) -/

/-- The safety status word of a machine in a view. RESTART_REQ, the faults and the outputs are the Damper's. STO reads 1
while GEN is low (log 58). -/
def safetyWord (s : State) (h0 : Bool) (m : Fin 4) : Nat :=
  let f := (safeView s h0).fns[m]
  flag (!(s.safety.genA[m] && s.safety.genB[m])) 31 + flag f.ss1.isSome 30 + flag f.was[(2 : Fin 6)] 29
    + flag f.was[(3 : Fin 6)] 28 + f.slsSel.val * 2 ^ 26 + flag (s.safety.damper.fns[m].ssm && s.safety.h0.fns[m].ssm) 25
    + flag f.was[(4 : Fin 6)] 24 + flag ((outsOf s h0 m).all (fun o => !s.safety.outs[o].a || !s.safety.outs[o].b)) 23
    + flag s.safety.restartReq[m] 22 + flag (faultOf s m) 21
    + flag ([1, 2, 3, 4, 7, 8, 9].any (fun k => wireDemand s h0 m k)) 15
    + flag ([1, 2, 3, 4, 7, 8, 9].any (fun k => netDemand s h0 m k)) 14
    + flag s.safety.hbLost 13 + flag s.safety.oscFault 12 + flag s.safety.cfgFault 11 + flag (inFaultOf s m) 10
    + flag (outFaultOf s m) 9 + flag (spFaultOf s m) 8 + flag s.safety.xchk[m] 7 + flag (connFaultOf s m) 6

/-- STO is active on every machine (15 R416). -/
def allSto (s : State) : Bool := four.all (fun m => !(s.safety.genA[m] && s.safety.genB[m]))

/-- SI7 counts as asserted (03 R85, 24 R609): bit 23 of DMP_INPUTS. -/
def si7 (s : State) : Bool := s.safety.dmp[(8 : Fin 19)].getLsbD 23

end Sys2Proof.Machine
end

