-- ==== Sys2Proof/Machine/SafeFam.lean ====
section
/-! DEFINITION. Commands of the safety functions and the safety connections (15_safety), and of the Damper's own start
and window (02_bring_up R46, R61; 24_register_map R609). -/
namespace Sys2Proof.Machine

/-- The Damper's microsecond counter (15 R381). -/
def damperUsec (s : State) : BitVec 32 := BitVec.ofNat 32 ((s.clk - s.safety.damperAt) / 200)
/-- The Damper time as H0 knows it (15 R412). -/
def h0Usec (s : State) : BitVec 32 := s.safety.dampSeenUs + BitVec.ofNat 32 ((s.clk - s.safety.dampSeenAt) / 200)

/-- H0 runs: it sends and receives heartbeats (15 R381; 16 R438). -/
def h0Runs (s : State) : Bool :=
  s.start.bootBegun && (s.hearths[(0 : Fin 4)].mode != .halted || s.hearths[(0 : Fin 4)].debugHalted)

/-- State code of H0's heartbeat (24 R636). -/
def h0Code (s : State) : BitVec 8 :=
  if s.start.resetPending.isSome then 0x05
  else if s.hearths[(0 : Fin 4)].debugHalted then 0x04
  else
    match s.start.startState with
    | .ready => 0x02 | .restricted => 0x02 | .hold => 0x03 | _ => 0x01

/-- An interval since a tick is over, or none was begun. -/
def dueAt (s : State) (at' : Option Nat) (every : Nat) : Bool :=
  match at' with
  | none => true
  | some a => elapsed s a every

/-! ### Heartbeats and the reference (15 R380 to R382) -/

/-- HEARTBEAT_SEND (15 R381): every 100 µs. -/
def execHeartbeatSend (dt : Nat) (fromH0 : Bool) (s : State) : Host.Outcome State Fault Refusal :=
  let s := advance s dt
  done (
    if fromH0 then
      if h0Runs s && dueAt s s.safety.hbH0At (usTicks 100) then
        let n := s.safety.hbH0 + 1
        (s.modSafety (fun x => { x with hbH0 := n, hbH0At := some s.clk })).put (.heartbeat true n ((h0Code s).setWidth 32))
      else s
    else if s.safety.damperUp && dueAt s s.safety.hbDamperAt (usTicks 100) then
      let n := s.safety.hbDamper + 1
      (s.modSafety (fun x => { x with hbDamper := n, hbDamperAt := some s.clk })).put (.heartbeat false n (damperUsec s))
    else s)

/-- HB_LOST sets: STO, SBC and RESTART_REQ on every machine; 13.12 cause 1. -/
def heartbeatLost (s : State) : State :=
  let s := s.modSafety (fun x => { x with hbGoodAt := none })
  if s.safety.hbLost then s
  else evalSafety (needRestart (raise (s.modSafety (fun x => { x with hbLost := true })) 220 1) (fun _ => true))

/-- DAMPER_HEARTBEAT_RECEIVE (15 R381; 24 R636). -/
def execDamperHeartbeatReceive (dt : Nat) (counter : BitVec 4) (code : BitVec 8) (s : State) : Host.Outcome State Fault Refusal :=
  let s := advance s dt
  done (
    if !s.safety.damperUp then s
    else
      let good : Bool := (match s.safety.hbSeen with
        | none => true
        | some c => counter == c + 1) && code != 0x04 && code != 0x05
      let s := s.modSafety (fun x => { x with hbSeen := some counter, hbSeenAt := s.clk, h0Code := code })
      if good then
        let since := s.safety.hbGoodAt.getD s.clk
        let s := s.modSafety (fun x => { x with hbGoodAt := some since })
        if s.safety.hbLost ∧ elapsed s since (msTicks 10) then evalSafety (s.modSafety (fun x => { x with hbLost := false })) else s
      else heartbeatLost s)

/-- DAMPER_HEARTBEAT_TIMEOUT (15 R381): 500 µs without a heartbeat. -/
def execDamperHeartbeatTimeout (dt : Nat) (s : State) : Host.Outcome State Fault Refusal :=
  let s := advance s dt
  done (if s.safety.damperUp && elapsed s s.safety.hbSeenAt (usTicks 500) then heartbeatLost s else s)

/-- H0_HEARTBEAT_TIMEOUT (15 R381): H0 sets its shutdown line on every machine and raises 13.12. -/
def execH0HeartbeatTimeout (dt : Nat) (s : State) : Host.Outcome State Fault Refusal :=
  let s := advance s dt
  done (
    if h0Runs s && !s.safety.dampLost && elapsed s s.safety.dampSeenAt (usTicks 500) then
      let s := raise (s.modSafety (fun x => { x with dampLost := true })) 220 0
      evalSafety (forAll four (fun m s => setShutdown s m true) s)
    else s)

/-- CROSSLINK_REQUEST (15 R380): the Damper carries out at once what H0 requests of a machine towards a safe state. -/
def execCrosslinkRequest (dt : Nat) (m : Fin 4) (s : State) : Host.Outcome State Fault Refusal :=
  let s := advance s dt
  done (
    if !s.safety.damperUp then s
    else
      let s := if s.safety.stoReq[m] then modFn s false m (fun f => { f with stoReaction := true }) else s
      let s := match s.safety.h0.fns[m].ss1 with
        | some x => startSs1 s false m x.timed
        | none => s
      let s := if s.safety.sbcReq[m] then forAll (outsOf s false m) (fun o s => driveOut s o false) s else s
      evalSafety s)

/-- The oscillator check fails (15 R382). -/
def oscFails (s : State) : State :=
  let s := s.modSafety (fun x => { x with oscGood := 0 })
  if s.safety.oscFault then s
  else evalSafety (needRestart (raise (s.modSafety (fun x => { x with oscFault := true })) 221 0) (fun _ => true))

/-- OSC_WINDOW_END (15 R382). -/
def execOscWindowEnd (dt : Nat) (count : BitVec 16) (s : State) : Host.Outcome State Fault Refusal :=
  let s := advance s dt
  done (
    if !s.safety.damperUp then s
    else
      let s := s.modSafety (fun x => { x with oscCount := count })
      if count.toNat < 39200 ∨ 40800 < count.toNat then oscFails s
      else
        let n := s.safety.oscGood + 1
        let s := s.modSafety (fun x => { x with oscGood := Nat.min 100 n })
        if s.safety.oscFault ∧ 100 ≤ n then evalSafety (s.modSafety (fun x => { x with oscFault := false })) else s)

/-- DAMPER_REFERENCE_TIMEOUT (15 R382). -/
def execDamperReferenceTimeout (dt : Nat) (s : State) : Host.Outcome State Fault Refusal :=
  let s := advance s dt
  done (if s.safety.damperUp then oscFails s else s)

/-! ### Safe inputs (15 R386, R390, R401, R402) -/

/-- What a new accepted state of an input brings: discrepancy time, fault clearing, acknowledgement, feedback. -/
def inputChanged (s : State) (h0 : Bool) (k : Fin 9) (wasOn : Bool) : State :=
  let s := modInput s h0 k (fun x => { x with
    discAt := if inMode s h0 k = 0 ∨ x.accA = x.accB then none else some (x.discAt.getD s.clk)
    disc := x.disc && (x.accA || x.accB) })
  let on := inputOn s h0 k
  let at' := (safeView s h0).inputs[k].onAt
  let s := modInput s h0 k (fun x => { x with onAt := if on then some (x.onAt.getD s.clk) else none })
  if h0 then evalSafety s
  else
    -- a feedback that follows its output ends the wait (15 R398)
    let s := forAll four (fun o s =>
      if v0 s false (0x6020 + o.val) 4 = k.val ∧ (on == (s.safety.outs[o].a && s.safety.outs[o].b)) = true then
        s.modSafety (fun x => { x with outs := vmod x.outs o (fun y => { y with feedbackAt := none }) })
      else s) s
    let s := evalSafety s
    let ack : Bool := wasOn && !on && v0 s false 0x6002 1 == k.val && (match at' with
      | some a => decide (a + msTicks 100 ≤ s.clk) && decide (s.clk ≤ a + msTicks 2000)
      | none => false)
    if ack then acknowledge s (fun _ => true) else s

/-- The level of one channel of safe input k changes as one view sees it (15 R401): a new state starts the filter, the
accepted state ends it. -/
def changeLevel (s : State) (h0 : Bool) (k : Fin 9) (chB level : Bool) : State :=
  modInput s h0 k (fun x =>
    let on := levelOn s h0 k chB level
    if chB then { x with
      levelB := level
      filterB := if x.levelB = level then x.filterB else if on = x.accB then none else some s.clk }
    else { x with
      levelA := level
      filterA := if x.levelA = level then x.filterA else if on = x.accA then none else some s.clk })

/-- SAFE_INPUT_CHANGE (15 R378, R401): a level at a ball changes; the filter of each channel starts, or stops when the
level is the accepted one again. -/
def execSafeInputChange (dt : Nat) (k : Fin 9) (chB level : Bool) (s : State) : Host.Outcome State Fault Refusal :=
  done (changeLevel (changeLevel (advance s dt) false k chB level) true k chB level)

/-- SAFE_INPUT_FILTER_EXPIRY (15 R401; 25 R625): a channel level stable for t_filter is accepted in a view. -/
def execSafeInputFilterExpiry (dt : Nat) (h0 : Bool) (k : Fin 9) (chB : Bool) (s : State) : Host.Outcome State Fault Refusal :=
  let s := advance s dt
  let x := (safeView s h0).inputs[k]
  let due := elapsedO s (if chB then x.filterB else x.filterA) (196 * inFilter s h0 k - 20)
  done (
    if due && (h0 || (s.safety.damperUp && s.safety.loaded)) then
      let was := inputOn s h0 k
      let s := modInput s h0 k (fun x =>
        if chB then { x with accB := levelOn s h0 k true x.levelB, filterB := none }
        else { x with accA := levelOn s h0 k false x.levelA, filterA := none })
      inputChanged s h0 k was
    else s)

/-- SAFE_INPUT_DISCREPANCY (15 R401): the second channel has not followed within t_disc. -/
def execSafeInputDiscrepancy (dt : Nat) (h0 : Bool) (k : Fin 9) (s : State) : Host.Outcome State Fault Refusal :=
  let s := advance s dt
  let x := (safeView s h0).inputs[k]
  done (
    if elapsedO s x.discAt (msTicks (inDisc s h0 k)) && !x.disc then
      let first := !(safeView s (!h0)).inputs[k].disc
      let s := modInput s h0 k (fun x => { x with disc := true, onAt := none })
      evalSafety (if first then inputFaultRaise s k 0 else s)
    else s)

/-- SAFE_INPUT_TEST (15 R402): the Damper tests the paths of an input every 10 ms. -/
def execSafeInputTest (dt : Nat) (k : Fin 9) (pass : Bool) (s : State) : Host.Outcome State Fault Refusal :=
  let s := advance s dt
  done (
    if s.safety.damperUp && dueAt s s.safety.testAt[k] (msTicks 10) then
      let s := s.modSafety (fun x => { x with testAt := vmod x.testAt k (fun _ => some s.clk) })
      if pass then
        s.modSafety (fun x => { x with testHold := vmod x.testHold k (fun h => match h with
          | some (n + 2) => some (n + 1)
          | _ => none) })
      else
        let fresh := !s.safety.inFault[k] || s.safety.testHold[k].isNone
        let s := s.modSafety (fun x => { x with
          testHold := vmod x.testHold k (fun _ => some 16), inFault := vmod x.inFault k (fun _ => true) })
        evalSafety (if fresh then inputFaultRaise s k 1 else s)
    else s)

/-! ### Safe outputs and GEN (15 R387, R388, R396 to R398, R403, R404) -/

/-- OUT_FAULT of a safe output: both channels off until an acknowledgement. -/
def outFails (s : State) (o : Fin 4) (cause : Nat) : State :=
  let s := driveOut s o false
  let s := s.modSafety (fun x => { x with outs := vmod x.outs o (fun y => { y with fault := true, feedbackAt := none }) })
  let s := raise s 217 (16 * o.val + cause)
  match outMachine s o with
  | none => s
  | some m =>
    let s := needRestart s (fun j => j == m)
    if cause = 1 then faultStop (noteSource s m 217 1) m none else s

/-- The test of a channel of a safe output is due: a test period after its own last one, half a period after the other
channel's (15 R403). -/
def outTestDue (s : State) (o : Fin 4) (chB : Bool) : Bool :=
  let x := s.safety.outs[o]
  let t := v0 s false (0x6020 + o.val) 3
  dueAt s (if chB then x.testB else x.testA) (msTicks t) && dueAt s (if chB then x.testA else x.testB) (usTicks (500 * t))

/-- SAFE_OUTPUT_TEST (15 R403): the readback of a channel in its off pulse, or while it is off, and after the pulse. -/
def execSafeOutputTest (dt : Nat) (o : Fin 4) (chB : Bool) (read readAfter : Bool) (s : State) : Host.Outcome State Fault Refusal :=
  let s := advance s dt
  let x := s.safety.outs[o]
  let on := if chB then x.b else x.a
  done (
    if s.safety.damperUp && outTestDue s o chB then
      let s := s.modSafety (fun x => { x with outs := vmod x.outs o (fun y =>
        if chB then { y with testB := some s.clk, readB := readAfter } else { y with testA := some s.clk, readA := readAfter }) })
      if (read || readAfter != on) && !x.fault then evalSafety (outFails s o 0) else s
    else s)

/-- GEN_READBACK_FAULT (15 R404): a readback has differed from the driven level for 1 µs. -/
def execGenReadbackFault (dt : Nat) (m : Fin 4) (readA readB : Bool) (s : State) : Host.Outcome State Fault Refusal :=
  let s := advance s dt
  done (
    if s.safety.damperUp && (readA != s.safety.genA[m] || readB != s.safety.genB[m]) && !s.safety.genFault[m] then
      let s := raise (s.modSafety (fun x => { x with genFault := vmod x.genFault m (fun _ => true) })) 217 (16 * m.val + 2)
      evalSafety (genLow (needRestart s (fun j => j == m)) m 217 2)
    else s)

/-- Every condition of 15 R388 holds. The second channel of a pair follows the first. -/
def genGranted (s : State) (m : Fin 4) : Bool :=
  let l := lead s m
  s.safety.damperUp && s.safety.genReq[m].isSome && !stoIn s false m && !faultOf s l && !faultOf s m && !s.safety.restartReq[l]

/-- GEN_RAISE (15 R388). -/
def execGenRaise (dt : Nat) (m : Fin 4) (s : State) : Host.Outcome State Fault Refusal :=
  let s := advance s dt
  done (if genGranted s m then s.modSafety (fun x => { x with
      genA := vmod x.genA m (fun _ => true), genB := vmod x.genB m (fun _ => true) }) else s)

/-- GEN_RAISE_TIMEOUT (15 R388; 23 R586): GEN not seen high within 1 ms ends the enable. -/
def execGenRaiseTimeout (dt : Nat) (m : Fin 4) (s : State) : Host.Outcome State Fault Refusal :=
  let s := advance s dt
  done (match s.drive[m].enabling with
    | none => s
    | some e =>
      if !e.genSeen && e.result.isNone && elapsedO s s.safety.genReq[m] (msTicks 1) then
        reachStopped (endEnable s m stEXECFAULT [0xFF, 0]) m false
      else s)

/-- BRAKE_RELEASE_REQUEST (15 R396, R397): the Damper turns a safe output on only when every condition holds; a request
without GEN high is discarded. -/
def execBrakeReleaseRequest (dt : Nat) (o : Fin 4) (s : State) : Host.Outcome State Fault Refusal :=
  let s := advance s dt
  done (match outMachine s o with
    | none => s
    | some m =>
      if !s.safety.damperUp || !s.safety.releaseReq[m] then s
      else if !(s.safety.genA[m] && s.safety.genB[m]) then
        s.modSafety (fun x => { x with releaseReq := vmod x.releaseReq m (fun _ => false) })
      else if sbcIn s m || s.safety.sbcReq[m] || s.safety.outs[o].fault then s
      else driveOut s o true)

/-- BRAKE_FEEDBACK_TIMEOUT (15 R398): the feedback has not followed within t_fb. -/
def execBrakeFeedbackTimeout (dt : Nat) (o : Fin 4) (s : State) : Host.Outcome State Fault Refusal :=
  let s := advance s dt
  let x := s.safety.outs[o]
  let fb := v0 s false (0x6020 + o.val) 4
  done (
    if elapsedO s x.feedbackAt (msTicks (v0 s false (0x6020 + o.val) 5)) then
      if fb < 7 ∧ inputOn s false (finOf 9 fb) ≠ (x.a && x.b) then evalSafety (outFails s o 1)
      else s.modSafety (fun y => { y with outs := vmod y.outs o (fun z => { z with feedbackAt := none }) })
    else s)

/-- SHUTDOWN_LINE_SET (15 R379, R387; 16 R438): H0 sets its line while STO is in force in its view, and on a machine with
a brake t_brake after the halt of H1 or H2. -/
def execShutdownLineSet (dt : Nat) (m : Fin 4) (s : State) : Host.Outcome State Fault Refusal :=
  let s := advance s dt
  let braking : Bool := ([1, 2] : List (Fin 4)).any (fun h =>
    s.hearths[h].mode == .halted && elapsedO s s.hearths[h].brakeWait (msTicks (s.pm m 0x2506 3)))
  done (if !s.gl[m].shutdown && (stoIn s true m || (braking && s.en m && braked s m)) then setShutdown s m true else s)

/-! ### Stopping functions (15 R391 to R395) -/

/-- SS1_TIME_EXPIRY (15 R391): t_ss1 after the demand. -/
def execSs1TimeExpiry (dt : Nat) (h0 : Bool) (m : Fin 4) (s : State) : Host.Outcome State Fault Refusal :=
  let s := advance s dt
  done (match (safeView s h0).fns[m].ss1 with
    | none => s
    | some x => if x.sbcAt.isNone && elapsed s x.startedAt (msTicks (vm s h0 m 0x6102 2)) then evalSafety (ss1Ends s h0 m) else s)

/-- SBC_STO_DELAY_EXPIRY (15 R391): t_sbc_sto after SBC. -/
def execSbcStoDelayExpiry (dt : Nat) (h0 : Bool) (m : Fin 4) (s : State) : Host.Outcome State Fault Refusal :=
  let s := advance s dt
  done (match (safeView s h0).fns[m].ss1 with
    | none => s
    | some x =>
      if elapsedO s x.sbcAt (msTicks (vm s h0 m 0x6101 3)) then
        evalSafety (modFn s h0 m (fun f => { f with stoReaction := true, ss1 := none }))
      else s)

/-- SOS_MONITOR_START (15 R392): t_sos after the demand. -/
def execSosMonitorStart (dt : Nat) (h0 : Bool) (m : Fin 4) (s : State) : Host.Outcome State Fault Refusal :=
  let s := advance s dt
  let f := (safeView s h0).fns[m]
  done (
    if f.sosPos.isNone && elapsedO s f.sosAt (msTicks (vm s h0 m 0x6103 1)) then
      modFn s h0 m (fun f => { f with sosPos := some (viewPos s h0 m).1 })
    else s)

/-- SLS_REACH_EXPIRY (15 R393): t_reach after a lower selection. -/
def execSlsReachExpiry (dt : Nat) (h0 : Bool) (m : Fin 4) (s : State) : Host.Outcome State Fault Refusal :=
  let s := advance s dt
  done (match (safeView s h0).fns[m].slsNext with
    | some (j, a) =>
      if elapsed s a (msTicks (vm s h0 m 0x6104 5)) then modFn s h0 m (fun f => { f with slsSel := j, slsNext := none }) else s
    | none => s)

/-! ### Speed and position (15 R399, R400) -/

/-- The machine of an SP port. -/
def spMachine (s : State) (q : Fin 2) : Option (Fin 4) :=
  let v := v0 s false (0x6030 + q.val) 1
  if v < 4 then some (finOf 4 v) else none

/-- SP_FAULT, a cross-check fault or the loss of the position port: XCHK_FAULT, 13.10, and SS1 time-controlled
(15 R400). -/
def spFails (s : State) (q : Fin 2) (m : Fin 4) (cause : Nat) (h0 : Bool) : State :=
  let s := s.modSafety (fun y => { y with xchk := vmod y.xchk m (fun _ => true) })
  evalSafety (startSs1 (needRestart (raise s 218 (16 * q.val + cause)) (fun j => j == m)) h0 m true)

/-- SP_PORT_EDGE (15 R392, R395, R399): A and B have stood at these levels for `stable` ticks; a change that has passed
the filter is accepted. A leading B counts up (log 27). -/
def execSpPortEdge (dt : Nat) (q : Fin 2) (a b : Bool) (stable : Nat) (s : State) : Host.Outcome State Fault Refusal :=
  let s := advance s dt
  let x := s.safety.ports[q]
  done (
    if !s.safety.damperUp || decide (stable < 5 * v0 s false (0x6030 + q.val) 3) || (x.levelA == a && x.levelB == b) then s
    else
      let both := x.levelA != a && x.levelB != b
      let up := if x.levelA != a then a != b else a == b
      let s := s.modSafety (fun y => { y with ports := vmod y.ports q (fun z => { z with
        levelA := a, levelB := b
        pos := if both then z.pos else if up then z.pos + 1 else z.pos - 1
        current := if both then z.current else z.current + 1
        positive := if both then z.positive else up
        fault := z.fault || both }) })
      match spMachine s q with
      | none => s
      | some m => if both then (if x.fault then s else spFails s q m 0 false) else motionChecks s false m)

/-- SP_SUBGATE_END (15 R391, R393, R394, R399). -/
def execSpSubgateEnd (dt : Nat) (q : Fin 2) (s : State) : Host.Outcome State Fault Refusal :=
  let s := advance s dt
  done (
    if s.safety.damperUp && dueAt s s.safety.ports[q].gateAt (usTicks (125 * v0 s false (0x6030 + q.val) 4)) then
      let s := s.modSafety (fun y => { y with ports := vmod y.ports q (fun z => { z with
        gates := Vector.ofFn (fun i : Fin 8 => if i.val = 0 then z.current else z.gates[finOf 8 (i.val - 1)])
        current := 0, gateAt := some s.clk }) })
      match spMachine s q with
      | none => s
      | some m => speedChecks s false m
    else s)

/-- The cross-check of one machine with an SP port (15 R400): the Damper's speed is that of the DMP window. -/
def crossSpeed (s : State) (q : Fin 2) (m : Fin 4) : State :=
  let n := viewSpeed s true m
  let d := (s.safety.dmp[finOf 19 (12 + q.val)]).toInt
  let isOver := decide ((s.p0 (0x6030 + q.val) 5 * n.natAbs + 256000 * s.p0 (0x6030 + q.val) 6 : Nat) < 1000 * ((n - d).natAbs : Int))
  let at' := if isOver then some (s.safety.ports[q].xchkAt.getD s.clk) else none
  let s := s.modSafety (fun y => { y with ports := vmod y.ports q (fun z => { z with xchkAt := at' }) })
  if elapsedO s at' (msTicks (s.p0 (0x6030 + q.val) 7)) && !s.safety.xchk[m] then
    spFails s q m 1 true
  else s

/-- One check of Mn by H0, where the machine has a safe position port (15 R400). -/
def h0Check (s : State) (m : Fin 4) : State :=
  match spOf s true m with
  | none => s
  | some q =>
    let s := crossSpeed (motionChecks (speedChecks s true m) true m) q m
    let lost : Bool := match portOf s m with
      | some p => s.posPorts[p].lost
      | none => false
    if lost && !s.safety.xchk[m] then spFails s q m 2 true else s

/-- H0_SAFETY_CHECK (15 R400): every 1 ms. -/
def execH0SafetyCheck (dt : Nat) (s : State) : Host.Outcome State Fault Refusal :=
  let s := advance s dt
  done (
    if h0Runs s && dueAt s s.safety.h0CheckAt (msTicks 1) then
      let s := s.modSafety (fun x => { x with h0CheckAt := some s.clk })
      forAll four (fun m s => h0Check s m) s
    else s)

/-! ### Safety connections (15 R407 to R415) -/

/-- Own safety identity and that of the partner of a connection. -/
def ownId (s : State) (h0 : Bool) : Nat := v0 s h0 0x6000 4
def partnerId (s : State) (h0 : Bool) (c : Fin 8) : Nat := v0 s h0 (0x6040 + c.val) 5

/-- This module is the time master (15 R411). -/
def timeMaster (s : State) (h0 : Bool) (c : Fin 8) : Bool :=
  !connModule s h0 c || decide (ownId s h0 < partnerId s h0 c)

/-- The CRC of a PDU between two identities (15 R408). -/
def pduCrc (producer consumer : Nat) (l : List Byte) : BitVec 32 :=
  crc32cSeed (crc32c (beBytes 4 producer ++ beBytes 4 consumer)) l

/-- Payload length of what a connection receives (15 R409, R415). -/
def payloadLen (s : State) (h0 : Bool) (c : Fin 8) : Nat := if connModule s h0 c then 12 else 8

/-- The reserved bits of a received payload are zero. -/
def reservedZero (module : Bool) (l : List Byte) : Bool :=
  if module then
    [8, 10, 12, 14].all (fun i => bits (field l i 2) 4 0 == 0) && bits (field l 16 2) 15 8 == 0 && bits (field l 18 2) 15 4 == 0
  else [8, 10, 12, 14].all (fun i => bits (field l i 2) 5 0 == 0)

/-- The first failing check of 15 R412 in a view, 6 for none, 7 for a duplicate. -/
def pduCheck (s : State) (h0 : Bool) (c : Fin 8) (l : List Byte) : Nat :=
  let n := payloadLen s h0 c
  let x := (safeView s h0).conns[c]
  let seq : BitVec 16 := BitVec.ofNat 16 (field l 2 2)
  let texp : BitVec 32 := BitVec.ofNat 32 (field l 4 4)
  let wd := v0 s h0 (0x6040 + c.val) 6
  if l.length ≠ 12 + n then 0
  else if pduCrc (partnerId s h0 c) (ownId s h0) (l.take (8 + n)) ≠ BitVec.ofNat 32 (field l (8 + n) 4) then 1
  else if field l 0 2 ≠ v0 s h0 (0x6040 + c.val) 4 then 2
  else if reservedZero (connModule s h0 c) l = false then 3
  else if (match x.lastSeq with
      | some q => q == seq && x.lastPdu == l
      | none => false) then 7
  else if (match x.lastSeq with
      | some q => !later seq q
      | none => false) then 4
  else if timeMaster s h0 c then
    let now := if h0 then h0Usec s else damperUsec s
    if later texp now || decide (1000 * wd < (now - texp).toNat) then 5 else 6
  else
    match x.lastAt, x.lastSeq with
    | some a, some _ =>
      let adv := (texp - x.lastTexp).toNat
      let loc := (s.clk - a) / 200
      if !later texp x.lastTexp || decide (500 * wd < ((adv : Int) - loc).natAbs) then 5 else 6
    | _, _ => 6

/-- The payload words of M0 to M3. -/
def pduWords (l : List Byte) : Vector (BitVec 16) 4 := Vector.ofFn (fun m : Fin 4 => BitVec.ofNat 16 (field l (8 + 2 * m.val) 2))

/-- A counter of a connection: 13.11 cause 8 at the overflow (15 R421). -/
def modLinkS (s : State) (c : Fin 8) (f : SafeLink → SafeLink) : State :=
  s.modSafety (fun x => { x with links := vmod x.links c f })

/-- The connection is lost in a view (15 R413): 13.11 and the counter once, by the first channel; CONN_FAULT. -/
def connLost (s : State) (h0 : Bool) (c : Fin 8) (cause : Option Nat) : State :=
  if (safeView s h0).conns[c].lost then s
  else
    let first := !(safeView s (!h0)).conns[c].lost
    let s := modView s h0 (fun v => { v with conns := vmod v.conns c (fun x => { x with lost := true, okAt := none }) })
    let s := needRestart (modLinkS s c (fun k => { k with fault := true })) (fun m => routesConn s m c)
    let s := match cause with
      | some n => if first then
          let (k, o) := ctrInc 16 s.safety.links[c].losses
          let s := raise (modLinkS s c (fun y => { y with losses := k })) 219 (16 * c.val + n)
          raiseIf o s 219 (16 * c.val + 8)
        else s
      | none => s
    evalSafety s

/-- A channel accepts a PDU (15 R412, R413, R390). -/
def pduAccept (s : State) (h0 : Bool) (c : Fin 8) (l : List Byte) : State :=
  let x := (safeView s h0).conns[c]
  let w := pduWords l
  let since := x.okAt.getD s.clk
  let back := x.lost && elapsed s since (msTicks (3 * v0 s h0 (0x6040 + c.val) 7))
  let s := modView s h0 (fun v => { v with conns := vmod v.conns c (fun y => { y with
    lastSeq := some (BitVec.ofNat 16 (field l 2 2)), lastTexp := BitVec.ofNat 32 (field l 4 4), lastPdu := l, lastAt := some s.clk
    words := w, okAt := if y.lost && !back then some since else none, lost := y.lost && !back }) })
  let s := if !s.safety.damper.conns[c].lost && !s.safety.h0.conns[c].lost then modLinkS s c (fun k => { k with fault := false }) else s
  let s := evalSafety s
  if !h0 && bit (v0 s false 0x6002 2) c.val && !connModule s false c then
    acknowledge s (fun m => w[m].getLsbD 6 && !x.words[m].getLsbD 6)
  else s

/-- A channel rejects a PDU: more than 16 within 1 s lose the connection (15 R413). -/
def pduReject (s : State) (h0 : Bool) (c : Fin 8) : State :=
  let x := (safeView s h0).conns[c]
  let l := s.clk :: x.rejects.filter (fun t => decide (s.clk < t + msTicks 1000))
  let s := modView s h0 (fun v => { v with conns := vmod v.conns c (fun y => { y with rejects := l }) })
  if 16 < l.length then connLost s h0 c (some 7) else s

/-- The connection that a received PDU belongs to: of the enabled ones on its transport, the one with its CONN_ID, else the
first (15 R414, log 58). -/
def pduConn (s : State) (tr : Nat) (l : List Byte) : Option (Fin 8) :=
  let on := eight.filter (fun c => connOn s true c && v0 s true (0x6040 + c.val) 3 == tr)
  match on.find? (fun c => v0 s true (0x6040 + c.val) 4 == field l 0 2) with
  | some c => some c
  | none => on.head?

/-- SEQ has advanced by more than 1 since the last accepted PDU (15 R412 check 5). -/
def pduGap (s : State) (c : Fin 8) (l : List Byte) : Bool :=
  match s.safety.damper.conns[c].lastSeq with
  | some q => decide (1 < (BitVec.ofNat 16 (field l 2 2) - q).toNat)
  | none => false

/-- Both channels check a PDU (15 R412, R413). -/
def pduBoth (s : State) (c : Fin 8) (l : List Byte) : State :=
  let a := pduCheck s false c l
  let b := pduCheck s true c l
  if a = 7 ∨ b = 7 then s
  else
    let cause := if a < 6 then a else b
    let gap := pduGap s c l
    let s := if cause < 6 then
        let (k, o) := ctrInc 16 s.safety.links[c].rejected
        let s := raise (modLinkS s c (fun y => { y with rejected := k })) 219 (16 * c.val + cause)
        raiseIf o s 219 (16 * c.val + 8)
      else if gap then
        let (k, o) := ctrInc 32 s.safety.links[c].gaps
        raiseIf o (modLinkS s c (fun y => { y with gaps := k })) 219 (16 * c.val + 8)
      else s
    let s := if a = 6 then pduAccept s false c l else pduReject s false c
    let s := if b = 6 then pduAccept s true c l else pduReject s true c
    if (a = 6 ∧ b ≠ 6) ∨ (a ≠ 6 ∧ b = 6) then
      let n := s.safety.links[c].disagreeRun + 1
      let s := modLinkS s c (fun y => { y with disagreeRun := if n = 4 then 0 else n })
      if n = 4 then connLost (connLost (raise s 223 (16 * c.val)) false c none) true c none else s
    else modLinkS s c (fun y => { y with disagreeRun := 0 })

/-- SAFETY_PDU_RECEIVE (15 R412): the oldest PDU taken off its transport. -/
def execSafetyPduReceive (dt : Nat) (s : State) : Host.Outcome State Fault Refusal :=
  let s := advance s dt
  done (match s.safety.pduIn with
    | [] => s
    | (tr, l) :: rest =>
      let s := s.modSafety (fun x => { x with pduIn := rest })
      match pduConn s tr l with
      | none => s
      | some c => if s.safety.damperUp then pduBoth s c l else s)

/-- Status payload of a view (15 R409). -/
def statusPayload (s : State) (h0 : Bool) : List Byte :=
  four.flatMap (fun m => beBytes 2 (safetyWord s h0 m / 65536)) ++ beBytes 2 (inputBits s h0)
    ++ beBytes 2 (four.foldl (fun a o => a + flag (s.safety.outs[o].a && s.safety.outs[o].b) o.val) 0)

/-- A status PDU as a channel forms it from its own state, with its own CRC; the time is the Damper's (15 R407 to R411). -/
def statusPdu (s : State) (h0 : Bool) (c : Fin 8) (seq : BitVec 16) : List Byte :=
  let texp := if timeMaster s h0 c then damperUsec s else (safeView s h0).conns[c].lastTexp
  let body := beBytes 2 (v0 s h0 (0x6040 + c.val) 4) ++ beBytes 2 seq.toNat ++ beBytes 4 texp.toNat ++ statusPayload s h0
  body ++ beBytes 4 (pduCrc (ownId s h0) (partnerId s h0 c) body).toNat

/-- A PDU put on the transport of its connection (15 R414): UDP to port 40961, a frame of the internal transmit object of
the CAN port, where it replaces one that has not begun, or the SAFE class of the fabric. On Ethernet it goes out once the
destination is resolved (21 R544). -/
def carryPdu (s : State) (c : Fin 8) (b : List Byte) : State :=
  let tr := s.p0 (0x6040 + c.val) 3
  let dest := s.p0 (0x6040 + c.val) 8
  if tr < 2 then
    let e := finOf 2 tr
    if s.ports.eth[e].link = 0 then s
    else if resolved s e (BitVec.ofNat 32 dest) then putUdp s e (BitVec.ofNat 32 dest) 40961 40961 b
    else askArp s e (BitVec.ofNat 32 dest)
  else if tr < 8 then
    let p := finOf 6 (tr - 2)
    match (objsOf s p (fun o => o.internal && o.tx && o.format != .classical && o.id == idOfWord dest && o.ide == bit dest 31)).head? with
    | some k => modObj s k (fun o => { o with
        pend := if o.pend.any (·.committed) then o.pend else some { data := b, at' := s.clk, cmd := none, lastSegment := true } })
    | none => s
  else sendFab s { localFrame s (BitVec.ofNat 8 dest) (.safetyPdu b) with cls := .safe }

/-- SAFETY_PDU_SEND (15 R410, R411): each send period, and within 1 ms of a change of the payload. When the two channels'
PDUs differ, nothing is sent and a disagreement is counted. -/
def execSafetyPduSend (dt : Nat) (c : Fin 8) (s : State) : Host.Outcome State Fault Refusal :=
  let s := advance s dt
  let k := s.safety.links[c]
  let p := statusPayload s true
  let due := dueAt s k.sentAt (msTicks (s.p0 (0x6040 + c.val) 7))
  let changed := dueAt s k.sentAt (msTicks 1) && p != k.sentBits
  done (
    if connOn s true c && h0Runs s && s.safety.damperUp && (due || changed) then
      let pdu := statusPdu s true c (k.seq + 1)
      if statusPdu s false c (k.seq + 1) = pdu then
        carryPdu ((modLinkS s c (fun y => { y with seq := y.seq + 1, sentAt := some s.clk, sentBits := p })).put (.safetyPdu c pdu)) c pdu
      else
        let (n, o) := ctrInc 16 k.disagreements
        raiseIf o (modLinkS s c (fun y => { y with disagreements := n, sentAt := some s.clk })) 223 (16 * c.val + 2)
    else s)

/-- SAFETY_WATCHDOG_EXPIRY (15 R413): T_wd since the last accepted PDU. -/
def execSafetyWatchdogExpiry (dt : Nat) (h0 : Bool) (c : Fin 8) (s : State) : Host.Outcome State Fault Refusal :=
  let s := advance s dt
  let x := (safeView s h0).conns[c]
  done (
    if connOn s h0 c && !x.lost && elapsedO s x.lastAt (msTicks (v0 s h0 (0x6040 + c.val) 6)) then connLost s h0 c (some 6) else s)

/-! ### Safety configuration (15 R416 to R418) -/

/-- The safety set: key and width of every value, in the order of its CRC (15 R416). -/
def safetyKeys : List (Nat × Nat) :=
  let expand (rows : List PRow) (insts : List Nat) : List (Nat × Nat) :=
    rows.flatMap (fun r => (List.range r.count).flatMap (fun k =>
      insts.flatMap (fun i => r.subs.flatMap (fun x =>
        (List.range (x.2.1 + 1 - x.1)).filterMap (fun j =>
          let idx := r.base + k
          let sub := x.1 + j
          if (x.2.2.acc = .rw ∨ x.2.2.acc = .rwl) ∧ ¬(idx = 0x6000 ∧ sub ≤ 3) then
            some (pkey r.kind i idx sub, x.2.2.ty.width) else none)))))
  expand rowsModuleC [0] ++ expand (rowsMachineC.filter (fun r => decide (0x6100 ≤ r.base) && decide (r.base < 0x7000))) [0, 1, 2, 3]

/-- CRC of the active safety set. -/
def safetyCrc (s : State) : BitVec 32 :=
  crc32c (safetyKeys.flatMap (fun k => beBytes k.2 (s.par (keyKind k.1) (keyInst k.1) (keyIdx k.1) (keySub k.1))))

/-- From the load, the Damper accepts each channel of a safe input as on only after its t_filter (15 R401, R417). -/
def startFilters (s : State) : State :=
  ([0, 1, 2, 3, 4, 5, 6, 7, 8] : List (Fin 9)).foldl (fun s k => modInput s false k (fun x => { x with
    accA := false, accB := false, discAt := none
    filterA := if levelOn s false k false x.levelA then some s.clk else none
    filterB := if levelOn s false k true x.levelB then some s.clk else none })) s

/-- From the load, the watchdog of each connection that is on runs in one channel (15 R413, R417). -/
def startWatchdogs (s : State) (h0 : Bool) : State :=
  forAll eight (fun c s => modView s h0 (fun v => { v with conns := vmod v.conns c (fun x => { x with
    lastAt := if connOn s h0 c then some (x.lastAt.getD s.clk) else none }) })) s

/-- SAFETY_SET_LOAD (15 R401, R417, R418): the whole set goes to the Damper; both compute its CRC and compare it. -/
def execSafetySetLoad (dt : Nat) (s : State) : Host.Outcome State Fault Refusal :=
  let s := advance s dt
  let crc := safetyCrc s
  let want : BitVec 32 := BitVec.ofNat 32 (s.p0 0x6000 1)
  done (
    if !h0Runs s then s
    else
      let s := s.modSafety (fun x => { x with crcH0 := crc })
      let s := raiseIf (decide (crc ≠ want)) s 222 0
      if !s.safety.damperUp then s
      else
        let first := !s.safety.loaded
        let s := raiseIf (decide (crc ≠ want)) (s.modSafety (fun x => { x with
          crcDamper := crc, loaded := true, cfgFault := decide (crc ≠ want)
          set := s.porter.params.filter (fun c => decide (0x6000 ≤ keyIdx c.1) && decide (keyIdx c.1 < 0x7000)) })) 222 1
        let s := if crc ≠ want then needRestart s (fun _ => true) else s
        evalSafety (startWatchdogs (startWatchdogs (if first then startFilters s else s) false) true))

/-! ### The Damper's start and its window -/

/-- The Damper without supply (02 R46, R47, R61; 15 R418): GEN and the safe outputs go low, and all that it held is lost. -/
def damperOff (s : State) : State :=
  let s := forAll four (fun m s => genLow s m 15 0) s
  let s := forAll four (fun o s => driveOut s o false) s
  -- the levels at the balls are the world's
  let s := s.modSafety (fun x => { x with
    damper := { inputs := x.damper.inputs.map (fun i => { levelA := i.levelA, levelB := i.levelB }) }
    damperUp := false, damperAt := s.clk, genFault := Vector.replicate 4 false
    restartReq := Vector.replicate 4 true, xchk := Vector.replicate 4 false
    outs := Vector.replicate 4 {}, testHold := Vector.replicate 9 none, testAt := Vector.replicate 9 none
    inFault := Vector.replicate 9 false
    ports := x.ports.map (fun q => { levelA := q.levelA, levelB := q.levelB }), hbDamper := 0, hbDamperAt := none, hbSeen := none, hbSeenAt := s.clk, hbGoodAt := none
    h0Code := 0, hbLost := false, oscFault := false, oscGood := 0, oscCount := 0, cfgFault := true, loaded := false
    crcDamper := 0, set := [], selfTest := false
    links := x.links.map (fun k => { k with fault := false })
    dmp := ((((Vector.replicate 19 0).set 4 0x80E00800).set 5 0x80E00800).set 6 0x80E00800).set 7 0x80E00800 })
  -- while the Flue is still in reset, the raise waits for the boot ROM
  s.modStart (fun x => { x with damperPor := true, owed15 := x.owed15 || (x.coreUp && !x.bootBegun) })

/-- DAMPER_POWER_ON (02 R46, R47, R61, R62): a brown-out of VDAMP resets the Damper alone. -/
def execDamperPowerOn (dt : Nat) (s : State) : Host.Outcome State Fault Refusal :=
  done (raise (damperOff (advance s dt)) 15 0)

/-- DAMPER_START (02 R46): VDAMP has held 3.00 V for 100 µs; the Damper runs its own start with its self-test. -/
def execDamperStart (dt : Nat) (pass : Bool) (s : State) : Host.Outcome State Fault Refusal :=
  let s := advance s dt
  done (
    if !s.safety.damperUp && elapsed s s.safety.damperAt (usTicks 100) then
      s.modSafety (fun x => { x with damperUp := true, damperAt := s.clk, selfTest := pass, hbSeenAt := s.clk })
    else s)

/-- The words of the window as one refresh writes them (24 R609). -/
def dmpWords (s : State) : Vector Word 19 :=
  let x := s.safety
  let w (n : Nat) : Word := BitVec.ofNat 32 n
  let eightBits (f : Fin 8 → Bool) : Nat := eight.foldl (fun a k => a + flag (f k) k.val) 0
  let fourBits (f : Fin 4 → Bool) : Nat := four.foldl (fun a k => a + flag (f k) k.val) 0
  let inp (k : Fin 8) : SafeInput := x.damper.inputs[finOf 9 k.val]
  Vector.ofFn (fun i : Fin 19 =>
    match i.val with
    | 0 => x.dmp[(0 : Fin 19)] + 1
    | 1 => damperUsec s
    | 4 => w (safetyWord s false 0) | 5 => w (safetyWord s false 1) | 6 => w (safetyWord s false 2) | 7 => w (safetyWord s false 3)
    | 8 => w (eightBits (fun k => (inp k).accA) + 256 * eightBits (fun k => (inp k).accB) + 65536 * inputBits s false
        + 16777216 * eightBits (fun k => inputFault s false (finOf 9 k.val)))
    | 9 =>
      let drv := fourBits (fun o => x.outs[o].a) + 16 * fourBits (fun o => x.outs[o].b)
      let gen := 256 * fourBits (fun m => x.genA[m]) + 4096 * fourBits (fun m => x.genB[m])
      w (drv + gen + 65536 * (fourBits (fun o => x.outs[o].readA) + 16 * fourBits (fun o => x.outs[o].readB) + gen))
    | 12 => BitVec.ofInt 32 (spSpeed s 0) | 13 => BitVec.ofInt 32 (spSpeed s 1)
    | 14 => BitVec.ofInt 32 x.ports[(0 : Fin 2)].pos | 15 => BitVec.ofInt 32 x.ports[(1 : Fin 2)].pos
    | 16 => w ((x.hbSeen.getD 0).toNat + 16 * x.hbDamper.toNat + 256 * x.h0Code.toNat + flag x.hbLost 16 + flag x.oscFault 17
        + flag x.cfgFault 18 + flag x.selfTest 19 + flag (inputOn s false 8) 20 + flag (inputFault s false 8) 21)
    | 17 => x.crcDamper
    | 18 => x.oscCount.setWidth 32
    | _ => 0)

/-- DAMPER_WINDOW_REFRESH (24 R609): the whole window at once. H0 sees GEN high there (15 R388). -/
def execDamperWindowRefresh (dt : Nat) (s : State) : Host.Outcome State Fault Refusal :=
  let s := advance s dt
  done (
    if s.safety.damperUp then
      let s := s.modSafety (fun x => { x with dmp := dmpWords s })
      forAll four (fun m s =>
        if dmpGen s m then
          s.modDrive m (fun d => { d with enabling := match d.enabling with
            | some e => some { e with genSeen := true }
            | none => none })
        else s) s
    else s)

end Sys2Proof.Machine
end

