-- ==== Sys2Proof/Machine/ShareFam.lean ====
section
/-! DEFINITION. Load sharing: member reports, the distributor, shares, lost partners, droop, and the transfer frames of
a standby channel (spec file 13_load_sharing). -/
namespace Sys2Proof.Machine

/-! ### Membership (13 R341, R342) -/

def shareRole (s : State) (m : Fin 4) : Nat := s.pm m 0x8200 2
def shareGroup (s : State) (m : Fin 4) : Nat := s.pm m 0x8200 1
def shareIndex (s : State) (m : Fin 4) : Nat := s.pm m 0x8200 3
/-- A MASTER or FOLLOWER member of a group. -/
def member (s : State) (m : Fin 4) : Bool := shareGroup s m != 0 && decide (shareRole s m < 2)
def isMaster (s : State) (m : Fin 4) : Bool := member s m && shareRole s m == 0

/-- The master of a group on this module, if it is here. -/
def localMaster (s : State) (group : Nat) : Option (Fin 4) := four.find? (fun m => isMaster s m && shareGroup s m == group)

/-- Fabric address of the master of a group: this module's own, or one the spec gives no parameter for (free, log 53). -/
def masterAddr (s : State) (group : Nat) : BitVec 8 :=
  if (localMaster s group).isSome then s.fabric.addr else BitVec.ofNat 8 (Config.outside 20 [group] % 63)

/-- A SYNC message to a module: across the fabric, or internally (13 R344). -/
def shareSend (s : State) (dest : BitVec 8) (flow : Nat) (ts : Nat) (msg : FabMsg) (here : Bool) : State :=
  if here then
    s.modFabric (fun x => { x with inbox := x.inbox ++ [{ localFrame s s.fabric.addr msg with cls := .sync, src := s.fabric.addr }] })
  else sendSync s dest (BitVec.ofNat 8 flow) ts msg

/-- Limits that the TFU accepts now, lowest and highest, in 1/1024 (05 R146, 12 R325, R334, 18). -/
def acceptedTorque (s : State) (m : Fin 4) : Int × Int :=
  let t := s.tfu[m]
  let (reg, mot) := torqueLimits s m t.vdc
  (clampTorque t.d reg mot s.drive[m].regenRefused (-1000000), clampTorque t.d reg mot s.drive[m].regenRefused 1000000)

/-- The member report of one boundary (13 R344). -/
def reportOf (s : State) (m : Fin 4) : MemberReport :=
  let l := acceptedTorque s m
  { group := shareGroup s m, member := shareIndex s m, master := isMaster s m, run := s.startM[m].state == .run
    lo := l.1, hi := l.2, torque := per1024 s.tfu[m].torque, w := s.pm m 0x8200 4, g := signed 32 (s.pm m 0x8200 5)
    tRated := s.pm m 0x2402 0, d := s.D m, n := s.N m, phi := s.phi m }

/-! ### The distributor (13 R345) -/

/-- One alive member as the distributor sees it: index, weight, ratio × rated torque, limits and share over a common
denominator. -/
structure Sharing where
  index : Fin 8
  w : Nat
  gt : Int
  lo : Int
  hi : Int
  share : Int
  free : Bool := true
  deriving DecidableEq, Repr

/-- Rounds of the clamp and of the spread of the rest; `f` is the factor of the common denominator. The result carries
the rest. -/
def spread : Nat → Int → Nat → List Sharing → Int × Nat × List Sharing
  | 0, td, f, l => (td * f - l.foldl (fun a x => a + x.share) 0, f, l)
  | n + 1, td, f, l =>
    let l := l.map (fun x =>
      let c := clampI (x.lo * f) (x.hi * f) x.share
      { x with share := c, free := x.free && c == x.share })
    let rest := td * f - l.foldl (fun a x => a + x.share) 0
    let w := l.foldl (fun a x => if x.free then a + x.w else a) 0
    if rest = 0 ∨ w = 0 then (rest, f, l)
    else spread n td (f * w) (l.map (fun x => { x with share := x.share * w + (if x.free then rest * x.w else 0) }))

/-- The demand in per unit of the master's rated torque: the output of its demand stage (13 R341). -/
def demandOf (s : State) (m : Fin 4) : Bin :=
  match stoveOf s m with
  | none => .zero
  | some i =>
    let k := s.pm m 0x8200 6
    if k < 64 then s.stove[i].stages[finOf 64 k].out else .zero

/-- Members whose report is used, with their reports. -/
def aliveMembers (s : State) (m : Fin 4) : List (Fin 8 × MemberReport) :=
  eight.filterMap (fun k => let x := s.share[m].members[k]; if x.alive then x.report.map (fun r => (k, r)) else none)

/-- Shares in 1/1024 by member, whether the group is saturated, and T_D with its denominator. -/
def distribute (s : State) (m : Fin 4) : List (Fin 8 × Int) × Bool × Int × Int :=
  let b := demandOf s m
  let d0 : Int := if b.e < 0 then 2 ^ b.e.natAbs else 1
  let up : Int := if b.e < 0 then 1 else 2 ^ b.e.natAbs
  -- torque in 1/(1,024 × 655,360 × d0) N·m at the drum: rated torques in 0.1 N·m, ratios in 1/65,536
  let td := b.m * up * 1024 * (s.pm m 0x2402 0 : Int) * signed 32 (s.pm m 0x8200 5)
  let al := aliveMembers s m
  let w := al.foldl (fun a x => a + x.2.w) 0
  let l := al.map (fun x =>
    let gt := x.2.g * (x.2.tRated : Int)
    let a := x.2.lo * gt * d0
    let c := x.2.hi * gt * d0
    ({ index := x.1, w := x.2.w, gt := gt, lo := if a ≤ c then a else c, hi := if a ≤ c then c else a, share := td * x.2.w } : Sharing))
  -- with no member alive all of T_D is left over
  if w = 0 then ([], td != 0, td, 1024 * 655360 * d0)
  else
    let (rest, f, l) := spread 8 td w l
    (l.map (fun x =>
      let den := (f : Int) * d0 * x.gt
      (x.index, clampI (-4095) 4095 (if den < 0 then nearest (-x.share) (-den) else nearest x.share den))), rest != 0, td, 1024 * 655360 * d0)

/-- Every report that is awaited is present or held. -/
def reportsIn (s : State) (m : Fin 4) : Bool :=
  eight.all (fun k => let x := s.share[m].members[k]; x.report.isNone || x.lost || x.arrived || x.heldNow)

/-- The shares of one run of the distributor: one message to each member that has reported (13 R346; log 53 for a member
that the distribution gives nothing). -/
def sendShares (s : State) (m : Fin 4) (l : List (Fin 8 × Int)) : State :=
  forAll eight (fun k s =>
    let x := s.share[m].members[k]
    if x.report.isNone then s
    else
      let v := match l.find? (fun y => y.1 == k) with
        | some y => y.2
        | none => clampI (-4095) 4095 (signed 13 (Config.outside 21 [shareGroup s m, k.val]))
      shareSend s x.addr (64 + k.val) (s.Ts m) (.share (shareGroup s m) (shareIndex s m) k.val v false) (x.addr == s.fabric.addr)) s

/-- DISTRIBUTOR_RUN (13 R344, R345): with the demand of the run and the reports present, once in a sample. A member that
is not alive gets a share that is not stated (free, log 53). -/
def execDistributorRun (dt : Nat) (m : Fin 4) (s : State) : Host.Outcome State Fault Refusal :=
  let s := advance s dt
  let ready : Bool := match stoveOf s m with
    | some i => s.stove[i].running && s.stove[i].runAt.isNone
    | none => false
  done (if !isMaster s m || !s.en m || s.share[m].distributed || !ready || !reportsIn s m then s
    else
      let (l, sat, td, den) := distribute s m
      let rise := sat && !s.share[m].sat
      let (k, o) := if sat then ctrInc 32 s.share[m].saturated else (s.share[m].saturated, false)
      let s := s.modShare m (fun x => { x with
        distributed := true, sat := sat, saturated := k, td := nearest td den
        satLimit := if sat then some (decide (0 < td)) else none })
      let s := if rise then raise s 180 (16 * m.val) else s
      let s := raiseIf o s 180 (16 * m.val + 1)
      sendShares s m l)

/-! ### Reports and shares received -/

/-- The first frame of the inbox that satisfies a test, taken out. -/
def takeInbox (s : State) (p : FabFrame → Bool) : Option (FabFrame × State) :=
  match s.fabric.inbox.find? p with
  | none => none
  | some f => some (f, s.modFabric (fun x => { x with inbox := x.inbox.erase f }))

/-- A member's report is taken by its master (13 R344, R348): out of RUN it leaves at once; it rejoins after four
reports in RUN. -/
def takeReport (s : State) (m : Fin 4) (r : MemberReport) (addr : BitVec 8) : State :=
  if !isMaster s m ∨ shareGroup s m ≠ r.group ∨ 8 ≤ r.member then s
  else s.modShare m (fun x => { x with members := vmod x.members (finOf 8 r.member) (fun y =>
    let n := if r.run then Nat.min 4 (y.rejoin + 1) else 0
    { y with
      report := some r, addr := addr, arrived := true, heldNow := false, missed := 0, rejoin := n
      lost := y.lost && decide (n < 4)
      alive := r.run && (y.alive || y.report.isNone || decide (4 ≤ n)) }) })

/-- MEMBER_REPORT_RECEIVE (13 R344). -/
def execMemberReportReceive (dt : Nat) (s : State) : Host.Outcome State Fault Refusal :=
  let s := advance s dt
  done (match takeInbox s (fun f => match f.msg with | .memberReport _ => true | _ => false) with
    | none => s
    | some (f, s) =>
      match f.msg with
      | .memberReport r => forAll four (fun m s => takeReport s m r f.src) s
      | _ => s)

/-- The master-loss reaction of a follower (13 R349): the fault stop, or droop from the next commit point. -/
def lossReaction (s : State) (m : Fin 4) : State :=
  let s := s.modShare m (fun x => { x with holdAt := none })
  if s.pm m 0x8200 8 = 0 then faultStop s m none
  else s.modShare m (fun x => { x with droopDue := true })

/-- The master has a standby armed. On another module the follower is not told (free, log 53). -/
def standbyArmed (s : State) (m : Fin 4) : Bool :=
  match localMaster s (shareGroup s m) with
  | some n => s.share[n].armed
  | none => Config.outside 22 [shareGroup s m] % 2 == 1

/-- A follower finds the master lost (13 R349): MASTER_LOSS_REACTION. -/
def masterLost (s : State) (m : Fin 4) : State :=
  if s.share[m].masterLost || !s.en m then s
  else
    let (k, o) := ctrInc 16 s.share[m].losses
    let s := raise (s.modShare m (fun x => { x with masterLost := true, losses := k, accepted := none })) (176 + m.val) 1
    let s := raiseIf o s (176 + m.val) 3
    if standbyArmed s m then s.modShare m (fun x => { x with holdAt := some s.clk }) else lossReaction s m

/-- A share for machine `m` from module `addr` (13 R344, R349). -/
def takeShare (s : State) (m : Fin 4) (sender : Nat) (v : Int) (last : Bool) (addr : BitVec 8) : State :=
  let x := s.share[m]
  if x.masterLost then
    if x.masterIndex = some sender ∧ (x.accepted = none ∨ x.accepted = some addr) then
      s.modShare m (fun x => { x with
        accepted := some addr, received := some v, sinceShare := 0, missed := 0
        masterLost := x.masterLost && x.holdAt.isNone, holdAt := none })
    else s
  else if last then masterLost (s.modShare m (fun x => { x with masterIndex := some sender })) m
  else s.modShare m (fun x => { x with masterIndex := some sender, received := some v, sinceShare := 0, missed := 0 })

/-- SHARE_RECEIVE (13 R344). -/
def execShareReceive (dt : Nat) (s : State) : Host.Outcome State Fault Refusal :=
  let s := advance s dt
  done (match takeInbox s (fun f => match f.msg with | .share .. => true | _ => false) with
    | none => s
    | some (f, s) =>
      match f.msg with
      | .share g sender k v last =>
        forAll four (fun m s => if member s m ∧ shareGroup s m = g ∧ shareIndex s m = k then takeShare s m sender v last f.src else s) s
      | _ => s)

/-! ### Misses (13 R346, R348) -/

/-- Hops to an address along tree A by the routes in force, none when no path is known; 0 on this module. -/
def hopsTo (s : State) (dest : BitVec 8) : Option Nat :=
  if dest = s.fabric.addr then some 0 else if bit (routeEntry s dest.toNat) 31 then some (bits (routeEntry s dest.toNat) 23 20) else none

/-- h of R346 for a machine: to the master, or for a master to its farthest member. -/
def groupHops (s : State) (m : Fin 4) : Nat :=
  if isMaster s m then
    eight.foldl (fun a k => let x := s.share[m].members[k]; if x.report.isSome then Nat.max a ((hopsTo s x.addr).getD 0) else a) 0
  else (hopsTo s (masterAddr s (shareGroup s m))).getD 0

/-- A miss: HELD, the missed-sample counter and 11.7. -/
def countMiss (s : State) (m : Fin 4) : State :=
  let (k, o) := ctrInc 32 s.share[m].missedSamples
  let s := raise (s.modShare m (fun x => { x with heldNow := true, missedSamples := k })) 183 (16 * m.val)
  raiseIf o s 183 (16 * m.val)

/-- REPORT_SHARE_MISS (13 R348): `k` is the member whose report is missing at a master; none is a missing share. The
second miss in a row marks the partner lost. -/
def execReportShareMiss (dt : Nat) (m : Fin 4) (k : Option (Fin 8)) (s : State) : Host.Outcome State Fault Refusal :=
  let s := advance s dt
  let b := s.tb.lastBoundary[m]
  done (match k with
    | some k =>
      let x := s.share[m].members[k]
      if isMaster s m ∧ x.report.isSome = true ∧ x.arrived = false ∧ x.heldNow = false ∧ x.lost = false
          ∧ elapsedO s b (600 + 400 * groupHops s m) = true then
        let s := s.modShare m (fun y => { y with members := vmod y.members k (fun y => { y with heldNow := true, missed := y.missed + 1, rejoin := 0 }) })
        let s := countMiss s m
        if 2 ≤ s.share[m].members[k].missed then
          let (c, o) := ctrInc 16 s.share[m].losses
          let s := s.modShare m (fun y => { y with
            losses := c, members := vmod y.members k (fun y => { y with lost := true, alive := false, missed := 0 }) })
          raiseIf o (raise s (176 + m.val) 0) (176 + m.val) 3
        else s
      else s
    | none =>
      let x := s.share[m]
      if member s m ∧ s.en m = true ∧ x.received = none ∧ x.heldNow = false ∧ x.masterLost = false
          ∧ elapsedO s b (s.Ts m - 400) = true then
        let s := (countMiss s m).modShare m (fun y => { y with missed := y.missed + 1 })
        if 2 ≤ s.share[m].missed ∧ shareRole s m = 1 then masterLost (s.modShare m (fun y => { y with missed := 0 })) m else s
      else s)

/-! ### Transfer frames (13 R350, R352) -/

def xferRole (s : State) (m : Fin 4) : Nat := s.pm m 0x8201 1

/-- What the compared CRC-32C covers, by value: the parameters 0x2000 to 0x2FFF and 0x8200 of the machine, and the
program and banks of the Stoves that serve it. The order of its bytes is not stated: a free function (log 54). -/
def xferCrc (s : State) (m : Fin 4) : BitVec 32 :=
  let own := s.porter.params.filter (fun c => keyKind c.1 == 1 && keyInst c.1 == m.val
    && ((decide (0x2000 ≤ keyIdx c.1) && decide (keyIdx c.1 < 0x3000)) || keyIdx c.1 == 0x8200))
  let stoves := four.filter (fun i => bit (s.ps i 0x3001 1) m.val)
  let prog := stoves.flatMap (fun i => (s.porter.params.filter (fun c => keyKind c.1 == 4 && keyInst c.1 == i.val
    && keyIdx c.1 != 0x3003)).flatMap (fun c => [keyIdx c.1, keySub c.1, c.2]))
  BitVec.ofNat 32 (Config.outside 24 (own.flatMap (fun c => [keyIdx c.1, keySub c.1, c.2]) ++ prog))

def startCode (r : RunState) : Nat :=
  match r with
  | .stopped => 0 | .catch' => 1 | .locate => 2 | .magnetise => 3 | .openLoop => 4 | .run => 5 | .banked => 6 | .stopping => 7

/-- The transfer frame of one boundary; every 256th carries the CRC. -/
def sendTransfer (s : State) (m : Fin 4) : State :=
  if xferRole s m = 0 then s
  else
    let n := s.share[m].xferCount + 1
    let s := s.modShare m (fun x => { x with xferCount := n })
    let crc := if n = 0 then some (xferCrc s m) else none
    sendSync s (BitVec.ofNat 8 (s.pm m 0x8201 2)) (BitVec.ofNat 8 (128 + m.val)) (s.Ts m)
      (.transfer m (startCode s.startM[m].state) (s.en m) crc)

/-- A transfer frame of the partner of Mn is taken: equal CRCs arm the transfer, unequal ones disarm it (13 R350). -/
def takeTransfer (s : State) (m : Fin 4) (enabled : Bool) (crc : Option (BitVec 32)) : State :=
  let s := s.modShare m (fun x => { x with partnerSeen := true, xferArrived := true, xferMissed := 0, partnerActive := enabled })
  match crc with
  | none => s
  | some c =>
    let same := c == xferCrc s m
    let was := s.share[m].armed
    raiseIf (was && !same) (s.modShare m (fun x => { x with armed := same })) 182 (16 * m.val + 2)

/-- TRANSFER_FRAME_RECEIVE (13 R350): the partner's state, and the comparison that arms or disarms. -/
def execTransferFrameReceive (dt : Nat) (s : State) : Host.Outcome State Fault Refusal :=
  let s := advance s dt
  done (match takeInbox s (fun f => match f.msg with | .transfer .. => true | _ => false) with
    | none => s
    | some (f, s) =>
      match f.msg with
      | .transfer n _ enabled crc =>
        forAll four (fun m s => if xferRole s m ≠ 0 ∧ s.pm m 0x8201 2 = f.src.toNat ∧ s.pm m 0x8201 3 = n.val
          then takeTransfer s m enabled crc else s) s
      | _ => s)

/-- TRANSFER_TIMEOUT (13 R352): the standby channel is not in RUN within t_xfer. -/
def execTransferTimeout (dt : Nat) (m : Fin 4) (s : State) : Host.Outcome State Fault Refusal :=
  let s := advance s dt
  done (if s.share[m].active = true ∧ s.startM[m].state ≠ .run ∧ s.startM[m].reachedRun = false ∧ s.en m = true
        ∧ elapsed s s.share[m].xferAt (msTicks (s.pm m 0x8201 4)) = true then
      faultStop (raise s 182 (16 * m.val + 1)) m none
    else s)

/-! ### At a sample boundary -/

/-- The fallback torque stage becomes the named torque stage of a follower, at its commit point (13 R349). -/
def droopCommit (s : State) (m : Fin 4) : State :=
  if !s.share[m].droopDue then s
  else
    let s := match stoveOf s m with
      | none => s
      | some i => s.setPar 4 i.val 0x3002 (poolIndex s i m + 1) (s.pm m 0x8200 7)
    raise (s.modShare m (fun x => { x with droopDue := false, droopFallback := true })) (176 + m.val) 2

/-- The last share frame that a master sends at its disable (13 R349). -/
def lastShares (s : State) (m : Fin 4) : State :=
  forAll eight (fun k s =>
    let x := s.share[m].members[k]
    if x.report.isNone ∨ k.val = shareIndex s m then s
    else shareSend s x.addr (64 + k.val) (s.Ts m) (.share (shareGroup s m) (shareIndex s m) k.val 0 true) (x.addr == s.fabric.addr)) s

/-- Load sharing of one machine at its boundary: the share is latched, the report and the transfer frame are sent, the
new sample begins (13 R344, R348 to R350). -/
def shareBoundary (s : State) (m : Fin 4) : State :=
  let s := droopCommit s m
  let s := if elapsedO s s.share[m].holdAt (msTicks (s.pm m 0x8201 4)) then lossReaction s m else s
  let on := isMaster s m && s.en m
  let s := if s.share[m].masterOn && !on then lastShares s m else s
  let s := s.modShare m (fun x => { x with
    masterOn := on
    share := x.received.getD x.share, received := none, sinceShare := Nat.min 3 (x.sinceShare + 1)
    held := x.heldNow, heldNow := false, distributed := false
    masterLost := x.masterLost && s.en m, droopFallback := x.droopFallback && s.en m
    active := x.active && s.en m, holdAt := if s.en m then x.holdAt else none
    sat := x.sat && on
    members := x.members.map (fun y => { y with arrived := false, heldNow := false })
    xferMissed := if x.partnerSeen && !x.xferArrived then Nat.min 2 (x.xferMissed + 1) else 0
    xferArrived := false })
  let s := if member s m then
      shareSend s (masterAddr s (shareGroup s m)) m.val (s.Ts m) (.memberReport (reportOf s m)) (localMaster s (shareGroup s m)).isSome
    else s
  sendTransfer s m

/-! ### Enable and status -/

/-- A value of the master that a follower elsewhere is not told of is free (log 53). -/
def shareCause (s : State) (m : Fin 4) : Option Nat :=
  if !member s m then none
  else
    let g := shareGroup s m
    let h := groupHops s m
    let mst := localMaster s g
    let sigma := match mst with
      | some n => match stoveOf s n with
        | some i => runTime s i
        | none => 0
      | none => Config.outside 23 [g] % 20000
    let t := Nat.max (1800 + sigma) (3000 + 2000 * h) + 4000 + 2000 * h + 2000
    let differs : Bool := match mst with
      | some n => s.D n != s.D m || s.N n != s.N m || s.phi n != s.phi m
      | none => Config.outside 25 [g, s.D m, s.N m, s.phi m] % 2 == 1
    let others := four.filter (fun n => n != m && member s n && shareGroup s n == g)
    let twice := others.any (fun n => shareIndex s n == shareIndex s m || (isMaster s n && isMaster s m))
      || (isMaster s m && eight.any (fun k => let x := s.share[m].members[k]
            (match x.report with
             | some r => (r.master && k.val != shareIndex s m) || (k.val == shareIndex s m && x.addr != s.fabric.addr)
             | none => false)))
    let limit : Bool := match stoveOf s m with
      | some i => decide (s.pm m 0x8200 6 < stageCount s i) && (descAt s i (s.pm m 0x8200 6)).kind == 6
      | none => false
    if 5 * s.Ts m < t then some 0
    else if differs then some 1
    else if twice then some 2
    else if 4 < h then some 3
    else if shareRole s m = 1 ∧ 2 ≤ s.share[m].sinceShare then some 4
    else if isMaster s m && !limit then some 5 else none

/-- Refusals without a source: no fallback stage for droop, and the standby reports that it runs (13 R352, R356). -/
def shareRefuses (s : State) (m : Fin 4) : Bool :=
  (member s m && s.pm m 0x8200 8 == 1 && s.pm m 0x8200 7 == 0xFF) || (xferRole s m == 1 && s.share[m].partnerActive)

/-- The share status word (13 R353). -/
def shareWord (s : State) (m : Fin 4) : Nat :=
  let x := s.share[m]
  let alive := eight.foldl (fun a k => a + flag x.members[k].alive k.val) 0
  let inGroup : Bool := if isMaster s m then x.members[finOf 8 (shareIndex s m)].alive
    else member s m && s.startM[m].state == .run && !x.masterLost && decide (x.sinceShare < 3)
  flag inGroup 31 + flag x.sat 30 + flag x.held 29 + flag x.masterLost 28 + flag x.droopFallback 27 + flag x.armed 26
    + flag x.active 25 + shareRole s m % 4 * 2 ^ 22 + shareIndex s m % 8 * 2 ^ 19
    + (if isMaster s m then alive * 256 else 0)

end Sys2Proof.Machine
end

