-- ==== Sys2Proof/Machine/ThermalFam.lean ====
section
/-! DEFINITION. Commands of temperature and thermal management (18_thermal), and of delay margins and control-die
sensors (14_live_calibration R368 to R370). -/
namespace Sys2Proof.Machine

/-! ### Readings -/

/-- Binary logarithm of `x / 2^32` for `2^32 ≤ x < 2^33`, bit by bit, in 2^-k units. -/
def log2Frac : Nat → Nat → Nat → Nat
  | 0, _, r => r
  | k + 1, x, r =>
    let y := x * x / 2 ^ 32
    if 2 ^ 33 ≤ y then log2Frac k (y / 2) (2 * r + 1) else log2Frac k y (2 * r)

/-- ln(a / b) in 2^-30, for positive a and b: the binary logarithm times ln 2 (1488522236 / 2^31). -/
def lnRatio (a b : Nat) : Int :=
  let x := a * 2 ^ 64 / b
  let e := Nat.log2 x
  let mant := if 32 ≤ e then x / 2 ^ (e - 32) else x * 2 ^ (32 - e)
  let l : Int := ((e : Int) - 64) * 2 ^ 30 + (log2Frac 30 mant 0 : Nat)
  (l * 1488522236).fdiv (2 ^ 31)

/-- The temperature of an NTC sensor in 0.1 °C (18 R476 kind 2). Its last rounding, and the value where R25 or B is not
positive, are left free (log 9, 56). -/
def ntcTemp (x r25 b : Int) : Int :=
  if x ≤ 0 ∨ r25 ≤ 0 ∨ b ≤ 0 then signed 16 (Config.outside 28 [x.natAbs, r25.natAbs, b.natAbs])
  else
    let l := lnRatio x.toNat (100 * r25).toNat
    let den := 20 * b * 2 ^ 30 + 5963 * l
    if den ≤ 0 then signed 16 (Config.outside 28 [x.natAbs, r25.natAbs, b.natAbs])
    else neigh (119260 * b * 2 ^ 30 - 5463 * den) (2 * den)

/-- The temperature of an external sensor from its conditioned input (18 R476). The IEC 60751 curve is another
document's (log 14). -/
def extTemp (s : State) (n : Nat) (x : Int) : Int :=
  let a := signed 32 (s.p0 (0x9400 + n) 9)
  let b := signed 32 (s.p0 (0x9400 + n) 10)
  match s.p0 (0x9400 + n) 1 with
  | 1 => signed 16 (Config.outside 27 [x.toNat])
  | 2 => ntcTemp x a b
  | _ => neigh (1000 * a + b * x) 1000

/-- The sensor is on (18 R495 subindex 1). -/
def sensorOn (s : State) (n : Fin 44) : Bool := s.p0 (0x9400 + n.val) 1 != 0

/-- The reading of an evaluation before the trim, if the input fits the sensor: none for an invalid one (18 R488
cause 0), outer none for an input that the sensor does not have. -/
def readingOf (s : State) (n : Fin 44) (rd : ThermalInput) : Option (Option Int) :=
  match rd with
  | .openShort => if n.val < 20 then some none else none
  | .value t => if n.val < 12 then some (some t) else none
  | .input x => if 12 ≤ n.val ∧ n.val < 20 then some (some (extTemp s n.val x)) else none
  | .item =>
    if 20 ≤ n.val then
      let w := s.p0 (0x9400 + n.val) 2
      let v := s.gl[finOf 4 (bits w 9 8)].items[finOf 51 (bits w 4 0)]
      some (if v = 0x8000 then none else some (signed 16 v.toNat))
    else none
  | .noItem => if 20 ≤ n.val then some none else none

/-! ### Thermal states (18 R478 to R482) -/

/-- h in 0.1 K and t_dw in ticks. -/
def hyst (s : State) : Int := s.p0 0x94F0 1
def dwell (s : State) : Nat := msTicks (s.p0 0x94F0 2)
def warnLim (s : State) (n : Fin 44) : Int := signed 16 (s.p0 (0x9400 + n.val) 3)
def throttleLim (s : State) (n : Fin 44) : Int := signed 16 (s.p0 (0x9400 + n.val) 4)
def tripLim (s : State) (n : Fin 44) : Int := signed 16 (s.p0 (0x9400 + n.val) 5)

/-- The band of a temperature in 0.1 °C (18 R486). -/
def bandOf (t : Int) : Nat :=
  if t < -100 then 0 else if t < 250 then 1 else if t < 600 then 2 else if t < 900 then 3 else if t < 1100 then 4 else 5

/-- The sampling rate that a temperature asks for (18 R480). -/
def rateOf (s : State) (n : Fin 44) (t : Int) : Nat :=
  if t < throttleLim s n - 100 then 0 else if t < throttleLim s n - 20 then 1 else 2

/-- The target throttle level of a temperature (18 R482). -/
def levelOf (s : State) (n : Fin 44) (t : Int) : Nat :=
  let th := throttleLim s n
  let w := tripLim s n - th
  if t < th then 0 else if w ≤ 0 then 8 else Nat.min 8 (1 + ((8 * (t - th)).fdiv w).toNat)

/-- The next value of a thermal state (18 R479): `f` gives the highest value whose lower boundary a temperature has
reached. -/
def stateNext (f : Int → Nat) (cur : Nat) (t h : Int) : Nat :=
  if cur < f t then f t else if f (t + h) < cur then f (t + h) else cur

/-- The dwell of a thermal state is over. -/
def dwellOver (s : State) (at' : Option Nat) : Bool :=
  match at' with
  | none => true
  | some a => elapsed s a (dwell s)

/-- The factor of a level (18 R482). -/
def factorOf (s : State) (j : Nat) : Nat := ((1024 * 8 - (j : Int) * (1024 - s.p0 0x94F0 3)).fdiv 8).toNat

/-- Sensors 12 to 43 that are on and govern a machine (18 R483). -/
def governs (s : State) (n : Fin 44) (m : Fin 4) : Bool :=
  decide (12 ≤ n.val) && sensorOn s n && bit (s.p0 (0x9400 + n.val) 7) m.val

/-- The highest level of the sensors that govern a machine, and the lowest-numbered sensor at it, 0xFF at level 0. -/
def machineLevel (s : State) (m : Fin 4) : Nat × Nat :=
  (List.range 44).foldl (fun (a : Nat × Nat) i =>
    let n := finOf 44 i
    if governs s n m && decide (a.1 < s.thermal.sensors[n].level) then (s.thermal.sensors[n].level, i) else a) (0, 0xFF)

/-- A thermal counter: source 12.15 when OVF sets (18 R493). -/
def thermalOvf (o : Bool) (s : State) (n cause : Nat) : State := raiseIf o s 207 (n + 256 * cause)

/-- Level, governing sensor and throttle rises of the machines that a sensor governs (18 R493, R495). -/
def noteMachines (s : State) (n : Nat) : State :=
  forAll four (fun m s =>
    let (l, g) := machineLevel s m
    let up := decide (s.thermal.level[m] < l)
    let (c, o) := ctrInc 16 s.thermal.rises[m]
    let s := s.modThermal (fun t => { t with
      level := vmod t.level m (fun _ => l)
      governing := vmod t.governing m (fun _ => g)
      rises := if up then vmod t.rises m (fun _ => c) else t.rises })
    thermalOvf (up && o) s n 2) s

/-- What a trip does (18 R485). -/
def tripActs (s : State) (n : Fin 44) : State :=
  if 12 ≤ n.val then forAll four (fun m s => if bit (s.p0 (0x9400 + n.val) 7) m.val then faultStop s m none else s) s
  else if n.val = 11 then disableAllAxes s
  else disableAllAxes (faultStopAll s)

/-- The reading of the list nearest to 100 ms earlier. -/
def nearestOld (clk : Nat) (l : List (Nat × Int)) : Option (Nat × Int) :=
  l.foldl (fun (best : Option (Nat × Int)) x =>
    let d (y : Nat × Int) : Nat := (((clk : Int) - y.1 - 20000000).natAbs)
    match best with
    | none => some x
    | some b => if d x < d b then some x else some b) none

/-- The readings of the last 100 ms and the one before. -/
def trimHist (clk : Nat) : List (Nat × Int) → List (Nat × Int)
  | [] => []
  | x :: xs => if clk ≤ x.1 + 20000000 then x :: trimHist clk xs else [x]

/-- Warn flag of an evaluation: source 12.8 when it sets (18 R479, R494). -/
def evalWarn (s : State) (n : Fin 44) (t : Int) : State :=
  let x := s.thermal.sensors[n]
  let new := stateNext (fun y => if warnLim s n ≤ y then 1 else 0) (flag x.warn 0) t (hyst s)
  if new ≠ flag x.warn 0 ∧ dwellOver s x.warnAt then
    raiseIf (new == 1) (s.modSensor n (fun y => { y with warn := new == 1, warnAt := some s.clk })) 200 n.val
  else s

/-- Sampling rate of an evaluation: it moves up at once (18 R479, R480). -/
def evalRateSel (s : State) (n : Fin 44) (t : Int) : State :=
  let x := s.thermal.sensors[n]
  if 20 ≤ n.val then s.modSensor n (fun y => { y with rateSel := 3 })
  else
    let new := stateNext (rateOf s n) x.rateSel t (hyst s)
    if new ≠ x.rateSel ∧ (x.rateSel < new ∨ dwellOver s x.rateSelAt = true) then
      s.modSensor n (fun y => { y with rateSel := new, rateSelAt := some s.clk })
    else s

/-- Band of an evaluation: a governing sensor's change raises 12.14 and is counted (18 R486, R487). -/
def evalBand (s : State) (n : Fin 44) (t : Int) : State :=
  let x := s.thermal.sensors[n]
  let new := stateNext bandOf x.band t (hyst s)
  if new ≠ x.band ∧ dwellOver s x.bandAt then
    let s := s.modSensor n (fun y => { y with band := new, bandAt := some s.clk })
    if n.val < 10 ∨ n.val = 11 then
      let (c, o) := ctrInc 32 s.thermal.bandChanges
      thermalOvf o (raise (s.modThermal (fun t => { t with bandChanges := c })) 206 (n.val + 256 * new)) n.val 3
    else s
  else s

/-- Rate of rise of an evaluation (18 R481), and whether RATE sets. -/
def evalRise (s : State) (n : Fin 44) (t : Int) : State × Bool :=
  let x := s.thermal.sensors[n]
  let isOver : Bool := match nearestOld s.clk x.hist with
    | none => false
    | some o => decide (o.1 < s.clk) && decide (((s.clk - o.1 : Nat) : Int) * s.p0 (0x9400 + n.val) 6 < (t - o.2) * 200000000)
  let below := if isOver then none else some (x.rateBelowAt.getD s.clk)
  let set := isOver && x.rateOver && !x.rate
  let clear := x.rate && elapsedO s below (dwell s)
  (s.modSensor n (fun y => { y with
    rateOver := isOver, rateBelowAt := below, rate := if set then true else if clear then false else y.rate
    hist := trimHist s.clk ((s.clk, t) :: y.hist) }), set)

/-- Throttle level of an evaluation (18 R481, R482, R489, R491): source 12.9 at each change. -/
def evalLevel (s : State) (n : Fin 44) (t : Int) : State :=
  let x := s.thermal.sensors[n]
  let floor := flag x.rate 0
  let new := Nat.max floor (stateNext (fun y => Nat.max floor (levelOf s n y)) x.level t (hyst s))
  let go : Bool := if x.level < new then dwellOver s x.levelAt || decide (x.level < floor)
    else decide (new < x.level) && !x.frozen && dwellOver s x.levelAt
  let new := if x.level < new ∧ dwellOver s x.levelAt = false then floor else new
  if go then
    let up := decide (x.level < new)
    let s := s.modSensor n (fun y => { y with level := new, levelAt := some s.clk })
    noteMachines (raise s 201 (n.val + 256 * (if up then 0 else 1))) n.val
  else s

/-- Trip of an evaluation (18 R485). -/
def evalTrip (s : State) (n : Fin 44) (t : Int) : State :=
  let x := s.thermal.sensors[n]
  let isOver := decide (tripLim s n ≤ t)
  let set := isOver && x.tripOver && !x.trip
  let s := s.modSensor n (fun y => { y with
    tripOver := isOver, trip := if set then true else if t < warnLim s n then false else y.trip })
  if set then
    let (c, o) := ctrInc 8 x.trips
    let s := s.modSensor n (fun y => { y with trips := c })
    tripActs (thermalOvf o (raise s 202 n.val) n.val 0) n
  else s

/-- A temperature in use is tested against every limit. The sources are raised in ascending order (01 R36). -/
def evalLimits (s : State) (n : Fin 44) (t : Int) : State :=
  let s := s.modSensor n (fun y => { y with temp := clampI (-32768) 32767 t })
  let (s, rateSet) := evalRise s n t
  let s := evalWarn s n t
  let s := evalRateSel s n t
  let s := evalLevel s n t
  let s := evalTrip s n t
  evalBand (raiseIf rateSet s 203 n.val) n t

/-! ### Failed sensors (18 R488 to R491) -/

/-- The neighbours of a sensor, up to four, that are valid. -/
def validNeighbours (s : State) (n : Fin 44) : List (Fin 44) :=
  let w := s.p0 (0x9400 + n.val) 8
  ((([bits w 7 0, bits w 15 8, bits w 23 16, bits w 31 24].filter (fun k => decide (k < 44) && k != n.val)).map (fun k => finOf 44 k))).filter
    (fun k => sensorOn s k && s.thermal.sensors[k].state == .ok)

/-- Mean of the valid neighbours. -/
def neighbourMean (s : State) (l : List (Fin 44)) : Int :=
  neigh ((l.map (fun k => s.thermal.sensors[k].temp)).foldl (fun a b => a + b) 0) l.length

/-- The estimate of a replaced sensor is made and tested; 12.12 cause 4 when it has no valid neighbour left. -/
def evalEstimate (s : State) (n : Fin 44) : State :=
  let x := s.thermal.sensors[n]
  match validNeighbours s n with
  | [] =>
    raiseIf (x.state != .noEst) (evalLimits (s.modSensor n (fun y => { y with state := .noEst })) n x.lastGood) 204 (n.val + 256 * 4)
  | l => evalLimits (s.modSensor n (fun y => { y with state := .replaced })) n (neighbourMean s l + x.offset)

/-- The recorded offset of a valid sensor follows with a time constant of 10 s (18 R489, log 10). -/
def followOffset (s : State) (n : Fin 44) (t : Int) : State :=
  match validNeighbours s n with
  | [] => s
  | l =>
    let x := s.thermal.sensors[n]
    let dt := match x.offsetAt with
      | some a => s.clk - a
      | none => 0
    let o := clampI (-32768) 32767 (Config.filter x.offset (t - neighbourMean s l) dt (msTicks 10000))
    s.modSensor n (fun y => { y with offset := o, offsetAt := some s.clk })

/-- Every replaced sensor that names a neighbour is evaluated when the neighbour is. -/
def evalReplaced (s : State) (n : Fin 44) : State :=
  (List.range 44).foldl (fun s i =>
    let q := finOf 44 i
    let w := s.p0 (0x9400 + i) 8
    let x := s.thermal.sensors[q]
    if sensorOn s q && (x.state == .replaced || x.state == .noEst)
        && (bits w 7 0 == n.val || bits w 15 8 == n.val || bits w 23 16 == n.val || bits w 31 24 == n.val) && i != n.val then
      evalEstimate s q
    else s) s

/-- The failure cause of a reading after its trim (18 R488). `missed` counts the status cycles without a report. -/
def failCause (s : State) (n : Fin 44) (t : Option Int) (noItem : Bool) (missed : Nat) : Option Nat :=
  let x := s.thermal.sensors[n]
  if noItem then (if 2 ≤ missed then some 2 else none)
  else
    match t with
    | none => some 0
    | some v =>
      if v < -550 ∨ 2500 < v then some 0
      else if (match x.lastReading with
          | some p => decide (200 < (v - p).natAbs)
          | none => false) then some 1
      else if n.val < 10 ∧ s.cal.suspect[finOf 10 n.val] = true then some 3
      else none

/-- A sensor fails (18 R489). -/
def sensorFails (s : State) (n : Fin 44) (cause : Nat) : State :=
  let x := s.thermal.sensors[n]
  let (c, o) := ctrInc 8 x.failures
  let s := s.modSensor n (fun y => { y with
    state := .replaced, frozen := decide (1 ≤ y.level), failures := c, validAt := none })
  thermalOvf o (raise (evalEstimate s n) 204 (n.val + 256 * cause)) n.val 1

/-- One evaluation of a sensor. -/
def evalSensor (s : State) (n : Fin 44) (raw : Option Int) (noItem : Bool) : State :=
  let t := raw.map (fun v => if n.val < 10 then neigh (10 * v + s.cal.trims[finOf 10 n.val]) 10 else v)
  let x := s.thermal.sensors[n]
  let missed := if noItem then x.missed + 1 else 0
  let cause := failCause s n t noItem missed
  let s := s.modSensor n (fun y => { y with
    evalAt := some s.clk, missed := missed
    lastReading := match t with
      | some v => if -550 ≤ v ∧ v ≤ 2500 then some v else y.lastReading
      | none => y.lastReading })
  let replaced := x.state == .replaced || x.state == .noEst
  let s := match cause, t with
    | some c, _ =>
      if replaced then s.modSensor n (fun y => { y with validAt := none }) else sensorFails s n c
    | none, none => s
    | none, some v =>
      let since := x.validAt.getD s.clk
      if replaced && !elapsed s since (msTicks 3000) then s.modSensor n (fun y => { y with validAt := some since })
      else
        let s := s.modSensor n (fun y => { y with
          validAt := if replaced then none else y.validAt, frozen := y.frozen && !replaced, state := .ok, lastGood := v })
        raiseIf replaced (evalLimits (followOffset s n v) n v) 205 n.val
  evalReplaced s n

/-- The interval of a sensor's evaluations (18 R480); power-stage sensors have none. -/
def evalEvery (s : State) (n : Fin 44) : Nat :=
  if 20 ≤ n.val then 0
  else
    match s.thermal.sensors[n].rateSel with
    | 0 => msTicks 10
    | 1 => msTicks 1
    | _ => usTicks 100

/-- When throttling ends, the BULK frames it held leave and a recorder that is set to arm does (18 R484, 22 R570; log 87). -/
def throttleEnds (was : Bool) (s : State) : State :=
  if was && !throttling s then
    let s := forAll four (fun l s => pumpLink s l .bulk) s
    if s.trace.phase = .off then traceArm s else s
  else s

/-- Regions joined by a crossing, in the order H0 to H3, STOVE, TFU, COMMS, MEM, FLUE: DEDUCED from the handoffs of
01 R31 (log 57). -/
def crossings : List (Fin 9 × Fin 9) :=
  [(1, 4), (2, 4), (1, 5), (3, 5), (4, 5), (4, 6),
   (0, 8), (1, 8), (2, 8), (3, 8), (4, 8), (5, 8), (6, 8), (7, 8)]

/-- Regions joined with TB by a crossing (01 R28 steps 2 and 8, R31, R36; log 57): TFU and FLUE. -/
def tbCrossings : List (Fin 9) := [5, 8]

/-- A limit of the region envelope is exceeded (01 R20): rails, their steps since the report before, temperatures, and the
differences across crossings. TB's rail is fixed at 800 mV (01 R18); its temperature is that of sensor 9. -/
def envelopeOut (s : State) : Bool :=
  let nine : List (Fin 9) := [0, 1, 2, 3, 4, 5, 6, 7, 8]
  let mv (k : Fin 9) : Nat := s.tb.railMv[k]
  let temp (k : Nat) : Option Int := s.thermal.sensors[finOf 44 k].lastReading
  let far (a b : Option Int) : Bool := match a, b with
    | some x, some y => decide (200 < (x - y).natAbs)
    | _, _ => false
  s.tb.railFast || nine.any (fun k => decide (mv k < 600) || decide (900 < mv k)) ||
  (List.range 10).any (fun k => match temp k with
    | some t => decide (t < -400) || decide (1250 < t)
    | none => false) ||
  crossings.any (fun p => decide (150 < ((mv p.1 : Int) - mv p.2).natAbs) || far (temp p.1.val) (temp p.2.val)) ||
  tbCrossings.any (fun k => decide (150 < ((mv k : Int) - 800).natAbs) || far (temp k.val) (temp 9))

/-- TB compares the rails reported last and the temperatures with the envelope; 2.13 is raised when it is left (01 R23). -/
def envelopeCheck (s : State) : State :=
  let isOver := s.tb.railSeen && envelopeOut s
  let was := s.tb.envelope
  raiseIf (isOver && !was) (s.modTb (fun t => { t with envelope := isOver })) 45 0

/-- A sensor that is off has no thermal state; its counters and its recorded offset stay (log 56). -/
def sensorOff (s : State) (n : Fin 44) : State :=
  noteMachines (s.modSensor n (fun x => { trips := x.trips, failures := x.failures, offset := x.offset })) n.val

/-- THERMAL_EVALUATION (18 R475 to R491). -/
def execThermalEvaluation (dt : Nat) (n : Fin 44) (rd : ThermalInput) (s : State) : Host.Outcome State Fault Refusal :=
  let s := advance s dt
  done (
    if !sensorOn s n then sensorOff s n
    else
      match s.thermal.sensors[n].evalAt, readingOf s n rd with
      | _, none => s
      | at', some raw =>
        if (match at' with
            | none => true
            | some a => elapsed s a (evalEvery s n)) then
          throttleEnds (throttling s) (envelopeCheck (evalSensor s n raw (rd == .noItem)))
        else s)

/-- THERMAL_FACTOR_SEAL (18 R483): a changed factor is sealed for the next commit point of its machine. -/
def execThermalFactorSeal (dt : Nat) (m : Fin 4) (s : State) : Host.Outcome State Fault Refusal :=
  let s := advance s dt
  let k := factorOf s (machineLevel s m).1
  done (
    if k = (s.thermal.kSealed[m]).getD s.thermal.k[m] then s
    else s.modThermal (fun t => { t with kSealed := vmod t.kSealed m (fun _ => some k) }))

/-- The sealed factor becomes active at a commit point. -/
def factorCommit (s : State) (m : Fin 4) : State :=
  match s.thermal.kSealed[m] with
  | none => s
  | some k => s.modThermal (fun t => { t with
      k := vmod t.k m (fun _ => k), kSealed := vmod t.kSealed m (fun _ => none) })

/-- An acknowledgement of a replaced sensor (18 R490). -/
def ackSensor (s : State) (n : Fin 44) : State :=
  let x := s.thermal.sensors[n]
  if x.state = .replaced ∨ x.state = .noEst then
    raise (s.modSensor n (fun y => { y with frozen := false })) 205 (n.val + 256)
  else s

/-- THERMAL_ACK (18 R490). -/
def execThermalAck (dt : Nat) (n : Fin 44) (s : State) : Host.Outcome State Fault Refusal :=
  done (ackSensor (advance s dt) n)

/-- A machine or axis enable is refused while a trip that stopped it is set (18 R485). -/
def machineTripped (s : State) (m : Fin 4) : Option Nat :=
  (List.range 44).find? (fun i =>
    let n := finOf 44 i
    sensorOn s n && s.thermal.sensors[n].trip && (decide (i < 11) || (decide (12 ≤ i) && bit (s.p0 (0x9400 + i) 7) m.val)))

/-- Status word of a sensor (18 R492). -/
def sensorWord (x : Sensor) : Nat :=
  (match x.state with
    | .off => 0 | .ok => 1 | .replaced => 2 | .noEst => 3) * 2 ^ 14
    + flag x.warn 13 + flag x.trip 12 + flag x.rate 11 + flag x.frozen 10 + x.rateSel * 256 + x.band * 16 + x.level

/-! ### Delay margins and rails (14 R368, R369) -/

def acrossFrom (k : Fin 9) : List (Fin 9) :=
  crossings.filterMap (fun p => if p.1 = k then some p.2 else if p.2 = k then some p.1 else none)

/-- The rail of a region steps: counted, 12.5 cause 2 at the overflow (14 R373). -/
def setRail (s : State) (k : Fin 9) (mv : Nat) : State :=
  if s.cal.regions[k].rail = mv then s
  else
    let (c, o) := ctrInc 32 s.cal.regions[k].steps
    raiseIf o (s.modCal (fun x => { x with regions := vmod x.regions k (fun r => { r with rail := mv, steps := c }) })) 197 (k.val + 32)

/-- A rail is raised with every neighbour that would lie more than 150 mV below, and theirs in turn. -/
def raiseRail : Nat → State → Fin 9 → Nat → State
  | 0, s, k, mv => setRail s k mv
  | f + 1, s, k, mv =>
    if mv ≤ s.cal.regions[k].rail then s
    else forAll (acrossFrom k) (fun j s => raiseRail f s j (mv - 150)) (setRail s k mv)

/-- A lowering step keeps every difference across a crossing at or below 150 mV. -/
def mayLower (s : State) (k : Fin 9) (mv : Nat) : Bool :=
  decide (600 ≤ mv) && (decide (k ∉ tbCrossings) || decide (650 ≤ mv)) && (acrossFrom k).all (fun j => decide (s.cal.regions[j].rail ≤ mv + 150))

/-- The target margin of a band in 0.1 % (18 R486). -/
def marginTarget (band : Nat) : Int :=
  match band with
  | 0 => 200 | 1 => 150 | 2 => 120 | 3 => 120 | 4 => 150 | _ => 200

/-- The rails of regions that a replica fault has fixed move on to 900 mV, 10 mV in each 100 µs (01 R20, 14 R369). -/
def fixedRails (s : State) : State :=
  forAll [0, 1, 2, 3, 4, 5, 6, 7, 8] (fun (k : Fin 9) s =>
    if s.cal.regions[k].fixed && decide (s.cal.regions[k].rail < 900) then raiseRail 4 s k (Nat.min 900 (s.cal.regions[k].rail + 10))
    else s) s

/-- REPLICA_MEASURE (14 R369): every 1 ms the margins of the two replicas of a region, in 0.1 % of t_budget. -/
def execReplicaMeasure (dt : Nat) (k : Fin 9) (m0 m1 : Int) (s : State) : Host.Outcome State Fault Refusal :=
  let s := advance s dt
  let due : Bool := match s.cal.regions[k].measuredAt with
    | none => true
    | some a => elapsed s a (msTicks 1)
  done (
    if !due then s
    else
      let s := s.modCal (fun x => { x with regions := vmod x.regions k (fun r => { r with
        margins := (clampI 0 65535 m0, clampI 0 65535 m1), measuredAt := some s.clk }) })
      if 150 < (m0 - m1).natAbs ∧ s.cal.regions[k].fixed = false then
        raise (s.modCal (fun x => { x with regions := vmod x.regions k (fun r => { r with fixed := true }) })) 197 (k.val + 16)
      else s)

/-- The adjustment of one region (14 R368, R369). Region k has control-die sensor k (18 R475). -/
def adjustRegion (k : Fin 9) (s : State) : State :=
  let r := s.cal.regions[k]
  let margin := min r.margins.1 r.margins.2
  let target := marginTarget s.thermal.sensors[finOf 44 k.val].band
  let s := if r.fixed then s
    else if margin < target then (if r.rail < 900 then raiseRail 4 s k (Nat.min 900 (r.rail + 10)) else s)
    else if target + 100 < margin then (if mayLower s k (r.rail - 10) then setRail s k (r.rail - 10) else s)
    else s
  let low := decide (s.cal.regions[k].rail = 900) && decide (margin < 50)
  let s := raiseIf (low && !r.lowRaised) s 197 k.val
  s.modCal (fun x => { x with regions := vmod x.regions k (fun r => { r with lowRaised := low }) })

/-- RAIL_MARGIN_ADJUST (14 R368): every 10 ms. -/
def execRailMarginAdjust (dt : Nat) (s : State) : Host.Outcome State Fault Refusal :=
  let s := advance s dt
  let due : Bool := match s.cal.railAt with
    | none => true
    | some a => elapsed s a (msTicks 10)
  done (
    if !due then s
    else forAll [0, 1, 2, 3, 4, 5, 6, 7, 8] adjustRegion (s.modCal (fun x => { x with railAt := some s.clk })))

/-! ### Control-die sensors (14 R370) -/

def tenSensors : List (Fin 10) := [0, 1, 2, 3, 4, 5, 6, 7, 8, 9]

/-- Reading of a control-die sensor in 0.01 °C with its trim. -/
def dieTemp (s : State) (i : Fin 10) : Int := 10 * (s.thermal.sensors[finOf 44 i.val].lastReading).getD 0

/-- One comparison with the mean of the other nine: more than 15 K away three times makes a sensor suspect. -/
def crossCheck (i : Fin 10) (s : State) : State :=
  let others := (tenSensors.filter (fun j => j != i)).foldl (fun (a : Int) j => a + dieTemp s j) 0
  let far := decide (9 * 1500 < (9 * dieTemp s i - others).natAbs)
  let run := if far then s.cal.suspectRun[i] + 1 else 0
  let new := decide (3 ≤ run) && !s.cal.suspect[i]
  let s := s.modCal (fun x => { x with
    suspectRun := vmod x.suspectRun i (fun _ => run)
    suspect := if new then vmod x.suspect i (fun _ => true) else if far then x.suspect else vmod x.suspect i (fun _ => false) })
  raiseIf new s 198 i.val

/-- The trims move towards the mean of the sensors that are not suspect, at most 0.1 K per minute and ±2.0 K. -/
def trimSensors (s : State) : State :=
  let good := tenSensors.filter (fun i => !s.cal.suspect[i])
  let since := match s.cal.trimAt with
    | some a => s.clk - a
    | none => 0
  let step : Int := Nat.min 10 (10 * since / msTicks 60000)
  if good = [] then s
  else
    let mean := neigh (good.foldl (fun (a : Int) i => a + dieTemp s i) 0) good.length
    let s' := forAll good (fun i s =>
      s.modCal (fun x => { x with trims := vmod x.trims i (fun t =>
        clampI (-200) 200 (t + clampI (-step) step (mean - dieTemp s i))) })) s
    if 0 < step then s'.modCal (fun x => { x with trimAt := some s.clk }) else s

/-- SENSOR_CROSS_CHECK (14 R370): every second. -/
def execSensorCrossCheck (dt : Nat) (s : State) : Host.Outcome State Fault Refusal :=
  let s := advance s dt
  let due : Bool := match s.cal.checkAt with
    | none => true
    | some a => elapsed s a (msTicks 1000)
  done (
    if !due then s
    else
      let s := forAll tenSensors crossCheck (s.modCal (fun x => { x with checkAt := some s.clk }))
      if !s.anyMachine && !s.anyAxis && elapsed s s.cal.quietAt (msTicks 60000) then
        match s.cal.trimAt with
        | some _ => trimSensors s
        | none => s.modCal (fun x => { x with trimAt := some s.clk })
      else s.modCal (fun x => { x with trimAt := none }))

end Sys2Proof.Machine
end

