-- ==== Sys2Proof/Machine/ParamRead.lean ====
section
/-! DEFINITION. The values that RO parameters and counters read as, from the blocks that own them (the parameter tables
of every chapter; 03 R87, R89; 00 R8). -/
namespace Sys2Proof.Machine

/-! ### Diagnostic counters with their OVF flags -/

/-- Where a diagnostic counter lives. -/
structure CtrRef where
  get : State → Counter
  set : Counter → State → State

def chanCtr (m c : Fin 4) : CtrRef := ⟨fun s => s.chans[m][c].clips, fun k s => s.modChan m c (fun x => { x with clips := k })⟩
def portCtr (p : Fin 4) (frame : Bool) : CtrRef :=
  if frame then ⟨fun s => s.posPorts[p].frameErrors, fun k s => s.modPort p (fun x => { x with frameErrors := k })⟩
  else ⟨fun s => s.posPorts[p].countErrors, fun k s => s.modPort p (fun x => { x with countErrors := k })⟩
def latCtr (k : Fin 8) : CtrRef := ⟨fun s => s.lats[k].overruns, fun c s => s.modLat k (fun x => { x with overruns := c })⟩
def tfuCtr (m : Fin 4) (get : TfuCounters → Counter) (set : Counter → TfuCounters → TfuCounters) : CtrRef :=
  ⟨fun s => get s.tfu[m].counters, fun k s => s.modTfu m (fun t => { t with counters := set k t.counters })⟩
def stoveCtr (i : Fin 4) (get : Stove → Counter) (set : Counter → Stove → Stove) : CtrRef :=
  ⟨fun s => get s.stove[i], fun k s => s.modStove i (set k)⟩
def glCtr (m : Fin 4) (get : GateLink → Counter) (set : Counter → GateLink → GateLink) : CtrRef :=
  ⟨fun s => get s.gl[m], fun k s => s.modGl m (set k)⟩
def driveCtr (m : Fin 4) (get : Drive → Counter) (set : Counter → Drive → Drive) : CtrRef :=
  ⟨fun s => get s.drive[m], fun k s => s.modDrive m (set k)⟩
def shareCtr (m : Fin 4) (get : Share → Counter) (set : Counter → Share → Share) : CtrRef :=
  ⟨fun s => get s.share[m], fun k s => s.modShare m (set k)⟩
def hearthCtr (h : Fin 4) (get : Hearth → Counter) (set : Counter → Hearth → Hearth) : CtrRef :=
  ⟨fun s => get s.hearths[h], fun k s => s.modHearth h (set k)⟩
def flueCtr (get : Flue → Counter) (set : Counter → Flue → Flue) : CtrRef := ⟨fun s => get s.flue, fun k s => s.modFlue (set k)⟩
def memCtr (get : Mem → Counter) (set : Counter → Mem → Mem) : CtrRef := ⟨fun s => get s.mem, fun k s => s.modMem (set k)⟩
def tcCtr (t : Fin 12) (get : TransportCounters → Counter) (set : Counter → TransportCounters → TransportCounters) : CtrRef :=
  ⟨fun s => get s.porter.counters[t], fun k s => s.modPorter (fun p => { p with counters := vmod p.counters t (set k) })⟩
def canCtr (p : Fin 6) (get : CanPort → Counter) (set : Counter → CanPort → CanPort) : CtrRef :=
  ⟨fun s => get s.can[p], fun k s => s.modCan p (set k)⟩
def linkCtr (l : Fin 4) (get : FabLink → Counter) (set : Counter → FabLink → FabLink) : CtrRef :=
  ⟨fun s => get s.fabric.links[l], fun k s => s.modLink l (set k)⟩
def profCtr (c : Fin 12) (get : Channel09 → Counter) (set : Counter → Channel09 → Channel09) : CtrRef :=
  ⟨fun s => get s.prof[c], fun k s => s.modProf c (set k)⟩
def axisCtr (k : Fin 6) (get : Axis → Counter) (set : Counter → Axis → Axis) : CtrRef :=
  ⟨fun s => get s.axes[k], fun c s => s.modAxis k (set c)⟩
def connCtr (c : Fin 8) (get : SafeLink → Counter) (set : Counter → SafeLink → SafeLink) : CtrRef :=
  ⟨fun s => get s.safety.links[c], fun k s => modLinkS s c (set k)⟩
def sensorCtr (n : Fin 44) (get : Sensor → Counter) (set : Counter → Sensor → Sensor) : CtrRef :=
  ⟨fun s => get s.thermal.sensors[n], fun k s => s.modSensor n (set k)⟩

/-- The port, and the region, whose counters parameter 0x9307 shows: the spec names one subindex for all of them (14
R373, R375), so the choice is free (log 55). -/
def calPortShown : Fin 4 := finOf 4 (Config.outside 30 [])
def calRegionShown : Fin 9 := finOf 9 (Config.outside 31 [])

/-- The OVF subindex of a parameter and its counters with their subindices, in the order of the OVF bits. -/
def ctrsOf (kind inst idx : Nat) : Option (Nat × List (Nat × CtrRef)) :=
  let m : Fin 4 := finOf 4 inst
  match kind with
  | 0 =>
    if 0x0401 ≤ idx ∧ idx ≤ 0x0408 then some (5, [(4, latCtr (finOf 8 (idx - 0x0401)))])
    else if 0x0414 ≤ idx ∧ idx ≤ 0x0417 then some (3, [(1, portCtr (finOf 4 (idx - 0x0414)) false), (2, portCtr (finOf 4 (idx - 0x0414)) true)])
    else if idx = 0x0420 then some (2, [(1, ⟨fun s => s.auxLink.errors, fun k s => s.modAux (fun a => { a with errors := k })⟩)])
    else if 0x0508 ≤ idx ∧ idx ≤ 0x050B then
      let h : Fin 4 := finOf 4 (idx - 0x0508)
      some (6, [(1, hearthCtr h (·.masked) (fun k x => { x with masked := k })), (2, hearthCtr h (·.transients) (fun k x => { x with transients := k })),
        (3, hearthCtr h (·.spared) (fun k x => { x with spared := k })), (4, hearthCtr h (·.latents) (fun k x => { x with latents := k })),
        (5, hearthCtr h (·.splits) (fun k x => { x with splits := k }))])
    else if idx = 0x0611 then some (4, [(1, flueCtr (·.total) (fun k x => { x with total := k })), (2, flueCtr (·.lost) (fun k x => { x with lost := k })),
      (3, flueCtr (·.dropped) (fun k x => { x with dropped := k }))])
    else if idx = 0x0700 then some (7, [(1, memCtr (·.sramCorr) (fun k x => { x with sramCorr := k })), (2, memCtr (·.sramUnc) (fun k x => { x with sramUnc := k })),
      (3, memCtr (·.mramCorr) (fun k x => { x with mramCorr := k })), (4, memCtr (·.mramUnc) (fun k x => { x with mramUnc := k })),
      (5, memCtr (·.spared) (fun k x => { x with spared := k })), (6, memCtr (·.journalLost) (fun k x => { x with journalLost := k }))])
    else if 0x1100 ≤ idx ∧ idx ≤ 0x110B then
      let t : Fin 12 := finOf 12 (idx - 0x1100)
      some (5, [(1, tcCtr t (·.format) (fun k x => { x with format := k })), (2, tcCtr t (·.crc) (fun k x => { x with crc := k })),
        (3, tcCtr t (·.hop) (fun k x => { x with hop := k })), (4, tcCtr t (·.auth) (fun k x => { x with auth := k }))])
    else if 0x1240 ≤ idx ∧ idx ≤ 0x1245 then
      let p : Fin 6 := finOf 6 (idx - 0x1240)
      some (5, [(1, canCtr p (·.busOffs) (fun k x => { x with busOffs := k })), (2, canCtr p (·.clashes) (fun k x => { x with clashes := k })),
        (3, canCtr p (·.overruns) (fun k x => { x with overruns := k })), (4, canCtr p (·.lateCancels) (fun k x => { x with lateCancels := k }))])
    else if 0x1300 ≤ idx ∧ idx ≤ 0x1301 then
      let e : Fin 2 := finOf 2 (idx - 0x1300)
      some (9, [(8, ⟨fun s => s.ports.eth[e].discards, fun k s => modEth s e (fun x => { x with discards := k })⟩)])
    else if 0x1320 ≤ idx ∧ idx ≤ 0x1321 then
      let i : Fin 2 := finOf 2 (idx - 0x1320)
      some (4, [(3, ⟨fun s => s.ports.ser[i].drops, fun k s => modSer s i (fun x => { x with drops := k })⟩)])
    else if idx = 0x1330 then some (3, [(2, ⟨fun s => s.ports.wrongCount, fun k s => s.modPorts (fun p => { p with wrongCount := k })⟩)])
    else if 0x6010 ≤ idx ∧ idx ≤ 0x6017 then
      let k : Fin 8 := finOf 8 (idx - 0x6010)
      some (5, [(4, ⟨fun s => s.safety.inCount[k], fun c s => s.modSafety (fun x => { x with inCount := vmod x.inCount k (fun _ => c) })⟩)])
    else if 0x6050 ≤ idx ∧ idx ≤ 0x6057 then
      let c : Fin 8 := finOf 8 (idx - 0x6050)
      some (5, [(1, connCtr c (·.rejected) (fun k x => { x with rejected := k })), (2, connCtr c (·.gaps) (fun k x => { x with gaps := k })),
        (3, connCtr c (·.losses) (fun k x => { x with losses := k })), (4, connCtr c (·.disagreements) (fun k x => { x with disagreements := k }))])
    else if 0x8020 ≤ idx ∧ idx ≤ 0x8023 then
      let l : Fin 4 := finOf 4 (idx - 0x8020)
      some (4, [(1, linkCtr l (·.retrans) (fun k x => { x with retrans := k })), (2, linkCtr l (·.crcErrors) (fun k x => { x with crcErrors := k })),
        (3, linkCtr l (·.downCount) (fun k x => { x with downCount := k }))])
    else if idx = 0x8050 then some (3, [(1, ⟨fun s => s.fabric.dropped, fun k s => s.modFabric (fun f => { f with dropped := k })⟩),
      (2, ⟨fun s => s.fabric.innkeeperChanges, fun k s => s.modFabric (fun f => { f with innkeeperChanges := k })⟩)])
    else if idx = 0x9307 then some (3, [
      (1, ⟨fun s => s.cal.ports[calPortShown].rejections, fun k s => s.modCal (fun c => { c with ports := vmod c.ports calPortShown (fun x => { x with rejections := k }) })⟩),
      (2, ⟨fun s => s.cal.regions[calRegionShown].steps, fun k s => s.modCal (fun c => { c with regions := vmod c.regions calRegionShown (fun x => { x with steps := k }) })⟩)])
    else if 0x9480 ≤ idx ∧ idx < 0x94AC then
      let n : Fin 44 := finOf 44 (idx - 0x9480)
      some (7, [(5, sensorCtr n (·.trips) (fun k x => { x with trips := k })), (6, sensorCtr n (·.failures) (fun k x => { x with failures := k }))])
    else if idx = 0x94F7 then some (2, [(1, ⟨fun s => s.thermal.bandChanges, fun k s => s.modThermal (fun t => { t with bandChanges := k })⟩)])
    else none
  | 1 =>
    match idx with
    | 0x2205 => some (5, [(1, chanCtr m 0), (2, chanCtr m 1), (3, chanCtr m 2), (4, chanCtr m 3)])
    | 0x2417 => some (4, [(1, tfuCtr m (·.hold) (fun k x => { x with hold := k })), (2, tfuCtr m (·.ceiling) (fun k x => { x with ceiling := k })),
        (3, tfuCtr m (·.regLimit) (fun k x => { x with regLimit := k }))])
    | 0x2432 => some (5, [(1, tfuCtr m (·.shifted) (fun k x => { x with shifted := k })), (2, tfuCtr m (·.disturbed) (fun k x => { x with disturbed := k })),
        (3, tfuCtr m (·.rescue) (fun k x => { x with rescue := k })), (4, tfuCtr m (·.substitutions) (fun k x => { x with substitutions := k }))])
    | 0x2517 => some (5, [(1, tfuCtr m (·.lockLosses) (fun k x => { x with lockLosses := k })), (2, tfuCtr m (·.reacquisitions) (fun k x => { x with reacquisitions := k })),
        (3, tfuCtr m (·.locateFailures) (fun k x => { x with locateFailures := k })), (4, tfuCtr m (·.fallbacks) (fun k x => { x with fallbacks := k }))])
    | 0x2617 => some (4, [(1, glCtr m (·.bad) (fun k x => { x with bad := k })), (2, glCtr m (·.dsats) (fun k x => { x with dsats := k })),
        (3, glCtr m (·.gateFaults) (fun k x => { x with gateFaults := k }))])
    | 0x2717 => some (5, [(1, driveCtr m (·.ovWarns) (fun k x => { x with ovWarns := k })), (2, driveCtr m (·.chopFaults) (fun k x => { x with chopFaults := k })),
        (3, driveCtr m (·.degradedEntries) (fun k x => { x with degradedEntries := k })), (4, driveCtr m (·.brakeStops) (fun k x => { x with brakeStops := k }))])
    | 0x6117 => some (2, [(1, ⟨fun s => s.safety.demands[m], fun k s => s.modSafety (fun x => { x with demands := vmod x.demands m (fun _ => k) })⟩)])
    | 0x8217 => some (5, [(1, shareCtr m (·.missedSamples) (fun k x => { x with missedSamples := k })), (2, shareCtr m (·.losses) (fun k x => { x with losses := k })),
        (3, shareCtr m (·.saturated) (fun k x => { x with saturated := k })), (4, shareCtr m (·.transfers) (fun k x => { x with transfers := k }))])
    | 0x9007 => some (3, [(1, ⟨fun s => s.cal.machines[m].accepted, fun k s => s.modCalM m (fun x => { x with accepted := k })⟩),
        (2, ⟨fun s => s.cal.machines[m].limitHits, fun k s => s.modCalM m (fun x => { x with limitHits := k })⟩)])
    | 0x9507 => some (2, [(1, ⟨fun s => s.thermal.rises[m], fun k s => s.modThermal (fun t => { t with rises := vmod t.rises m (fun _ => k) })⟩)])
    | _ => none
  | 2 =>
    let k : Fin 6 := finOf 6 inst
    match idx with
    | 0x5007 => some (2, [(1, axisCtr k (·.disables) (fun c x => { x with disables := c }))])
    | 0x5017 => some (5, [(1, axisCtr k (·.trips) (fun c x => { x with trips := c })), (2, axisCtr k (·.bootA) (fun c x => { x with bootA := c })),
        (3, axisCtr k (·.bootB) (fun c x => { x with bootB := c })), (4, axisCtr k (·.handshakes) (fun c x => { x with handshakes := c }))])
    | _ => none
  | 3 =>
    let c : Fin 12 := finOf 12 inst
    if idx = 0x4007 then some (4, [(1, profCtr c (·.underruns) (fun k x => { x with underruns := k })), (2, profCtr c (·.refused) (fun k x => { x with refused := k })),
      (3, profCtr c (·.faultStops) (fun k x => { x with faultStops := k }))])
    else none
  | 4 =>
    if idx = 0x3017 then some (5, [(1, stoveCtr m (·.satRuns) (fun k x => { x with satRuns := k })), (2, stoveCtr m (·.held) (fun k x => { x with held := k })),
      (3, stoveCtr m (·.swaps) (fun k x => { x with swaps := k })), (4, stoveCtr m (·.discSwaps) (fun k x => { x with discSwaps := k }))])
    else none
  | 7 =>
    let n : Fin 256 := finOf 256 inst
    if idx = 0x7001 then some (2, [(1, flueCtr (·.recov[n]) (fun k x => { x with recov := vmod x.recov n (fun _ => k) }))])
    else none
  | _ => none

/-- The value of a counter or of an OVF subindex. -/
def ctrValue (s : State) (kind inst idx sub : Nat) : Option Nat :=
  match ctrsOf kind inst idx with
  | none => none
  | some (o, l) =>
    if sub = o then some (ovfBits 0 (l.map (fun x => x.2.get s)))
    else (l.find? (fun x => x.1 == sub)).map (fun x => (x.2.get s).val)

/-- OVF flags cleared by written ones, in a list of counters from OVF bit `i` on (00 R8). -/
def clearOvfGo (s : State) (v : Nat) : Nat → List CtrRef → State
  | _, [] => s
  | i, r :: rs => clearOvfGo (if bit v i then r.set (ctrClr (r.get s) true) s else s) v (i + 1) rs

def clearOvf (s : State) (kind inst idx v : Nat) : State :=
  match ctrsOf kind inst idx with
  | none => s
  | some (_, l) => clearOvfGo s v 0 (l.map (·.2))

/-! ### Values of one kind -/

/-- The HSPI status word (21 R548). -/
def hspiFill (s : State) : Nat := Nat.min 72 ((s.porter.replies.filter (fun r => r.tr == .hspi)).length)
def StartState.code : StartState → Nat
  | .staged => 0 | .boot => 1 | .tests => 2 | .ready => 3 | .restricted => 4 | .hold => 5
def hspiStatus (s : State) : Nat :=
  flag s.ports.hspiStart 31 + flag s.porter.regMode 30 + flag (s.start.startState == .hold) 29 + hspiFill s * 2 ^ 22
    + s.start.startState.code

/-- Retirement time of the retired core; with two, which one is shown is free (16 R452 gives one value; log 59). -/
def retiredShown (s : State) (h : Fin 4) : Nat :=
  let l := ([0, 1, 2] : List (Fin 3)).filterMap (fun i => let t := s.hearths[h].retiredAt[i].toNat; if t = 0 then none else some t)
  match l with
  | [] => 0
  | [t] => t
  | t :: _ => l.getD (Config.outside 32 l % l.length) t

def RunState.code : RunState → Nat
  | .stopped => 0 | .catch' => 1 | .locate => 2 | .magnetise => 3 | .openLoop => 4 | .run => 5 | .banked => 6 | .stopping => 7

/-- A signed value at a width. -/
def s16 (x : Int) : Nat := lowBits 16 x
def s32 (x : Int) : Nat := lowBits 32 x

/-- Module target. -/
def roModule (s : State) (idx sub : Nat) : Option Nat :=
  if 0x0401 ≤ idx ∧ idx ≤ 0x0408 then
    let x := s.lats[finOf 8 (idx - 0x0401)]
    match sub with | 1 => some x.stamp.toNat | 2 => some x.pos.toNat | 3 => some (flag x.valid 0) | _ => none
  else if 0x0414 ≤ idx ∧ idx ≤ 0x0417 then (if sub = 4 then some s.posPorts[finOf 4 (idx - 0x0414)].pos.toNat else none)
  else if idx = 0x0421 then
    let a := s.auxLink
    match sub with
    | 1 => some a.recFirst | 2 => some a.recSecond | 3 => some a.recDiff | 4 => some (flag a.recValid 0 + flag a.recCoincident 1) | _ => none
  else if 0x0500 ≤ idx ∧ idx ≤ 0x0503 then
    let h : Fin 4 := finOf 4 (idx - 0x0500)
    match sub with | 1 => some (hrtStat s h) | 2 => some s.hearths[h].classTime.toNat | 3 => some (retiredShown s h) | _ => none
  else if idx = 0x0701 then
    match sub with | 1 => some s.mem.spareSram | 2 => some (s.mem.spareMram[(0 : Fin 2)] + s.mem.spareMram[(1 : Fin 2)]) | _ => none
  else if idx = 0x0710 then
    match sub with | 1 => some s.journal.nextSeq.toNat | 2 => some (oldestSeq s) | _ => none
  else if idx = 0x0721 then
    match sub with | 1 => some s.trace.records.length | 2 => some (protectedBytes s.trace.records) | _ => none
  else if 0x1230 ≤ idx ∧ idx ≤ 0x1235 then
    let p : Fin 6 := finOf 6 (idx - 0x1230)
    match sub with
    | 1 => some (canStatusWord s p) | 2 => some s.can[p].tec | 3 => some s.can[p].recv | 4 => some s.can[p].loopDelay | _ => none
  else if 0x1300 ≤ idx ∧ idx ≤ 0x1301 then
    let e : Fin 2 := finOf 2 (idx - 0x1300)
    match sub with | 1 => some (Config.mac e.val).toNat | 7 => some s.ports.eth[e].link | _ => none
  else if idx = 0x1310 then (if sub = 1 then some (hspiStatus s) else none)
  else if idx = 0x6000 then
    match sub with | 2 => some s.safety.crcH0.toNat | 3 => some s.safety.crcDamper.toNat | _ => none
  else if idx = 0x8001 then
    match sub with | 1 => some Config.uid.toNat | 2 => some s.fabric.addr.toNat | 3 => some s.fabric.innkeeperAddr.toNat | _ => none
  else if idx = 0x8002 then
    match sub with | 1 => some (fabStatusWord s) | 2 => some s.fabric.epoch.toNat | _ => none
  else if 0x8010 ≤ idx ∧ idx ≤ 0x8013 then
    let l : Fin 4 := finOf 4 (idx - 0x8010)
    match sub with
    | 1 => some (linkStatusWord s l) | 2 => some s.fabric.links[l].neighbourUid.toNat | 3 => some s.fabric.links[l].delay | _ => none
  else if idx = 0x8030 then
    match sub with | 1 => some (s32 s.fabric.offset) | 2 => some (s32 s.fabric.trim) | 3 => some s.fabric.hopsRoot | _ => none
  else if idx = 0x8040 then (if 1 ≤ sub ∧ sub ≤ 64 then some s.fabric.routes[finOf 64 (sub - 1)].toNat else none)
  else if 0x9100 ≤ idx ∧ idx ≤ 0x9103 then
    let x := s.cal.ports[finOf 4 (idx - 0x9100)]
    match sub with | 2 => some (s16 x.os) | 3 => some (s16 x.oc) | 4 => some x.ka | 5 => some (s16 x.phi) | _ => none
  else if idx = 0x9200 then
    if 1 ≤ sub ∧ sub ≤ 9 then
      let x := s.cal.regions[finOf 9 (sub - 1)].margins
      some (s16 (if x.1 ≤ x.2 then x.1 else x.2))
    else if 10 ≤ sub ∧ sub ≤ 18 then some s.cal.regions[finOf 9 (sub - 10)].rail
    else none
  else if idx = 0x9300 then (if 1 ≤ sub ∧ sub ≤ 10 then some (s16 s.cal.trims[finOf 10 (sub - 1)]) else none)
  else if 0x9480 ≤ idx ∧ idx < 0x94AC then
    let x := s.thermal.sensors[finOf 44 (idx - 0x9480)]
    match sub with | 1 => some (s16 x.temp) | 2 => some (sensorWord x) | 3 => some (s16 x.offset) | _ => none
  else none

/-- Machine target. -/
def roMachine (s : State) (m : Fin 4) (idx sub : Nat) : Option Nat :=
  match idx with
  -- the second channel of a pair reads the grid of the first (06 R170)
  | 0x2408 => if s.isSecond m then some (s.pm (s.gridOf m) 0x2408 sub) else none
  | 0x2410 => if sub = 0 then some (tfuStatus s m) else none
  | 0x2413 => if sub = 6 then some s.tfu[m].g else none
  | 0x2510 => if sub = 0 then some s.startM[m].state.code else none
  | 0x2511 => match sub with
    | 1 => some s.obs[m].theta.toNat | 2 => some (s32 s.obs[m].speed) | 3 => some s.obs[m].q | 4 => some s.startM[m].locateResult.toNat | _ => none
  | 0x2610 => if sub = 1 then some ((s.gl[m].up.toNat / 256) % 2 ^ 32) else none
  | 0x2611 => if 1 ≤ sub ∧ sub ≤ 51 then some s.gl[m].items[finOf 51 (sub - 1)].toNat else none
  | 0x2702 => if sub = 4 then some (neigh s.drive[m].energy 1000).toNat else none
  | 0x2704 => if sub = 4 then some (s16 (neigh (s.drive[m].heldTorque * 1000) 1024)) else none
  | 0x2710 => if sub = 0 then some (driveWord s m) else none
  | 0x6110 => if sub = 0 then some (safetyWord s false m) else none
  | 0x8210 => match sub with
    | 1 => some (shareWord s m) | 2 => some (s16 s.share[m].share) | 3 => some (s32 s.share[m].td) | _ => none
  | 0x9002 =>
    if 1 ≤ sub ∧ sub ≤ 4 then some s.cal.machines[m].gain[finOf 4 (sub - 1)]
    else if 5 ≤ sub ∧ sub ≤ 8 then some (s16 (neigh s.cal.machines[m].offset[finOf 4 (sub - 5)] 256))
    else none
  | 0x9004 => if sub = 0 then some (calWord s m) else none
  | 0x9500 => match sub with
    | 1 => some s.thermal.k[m] | 2 => some s.thermal.level[m] | 3 => some s.thermal.governing[m] | _ => none
  | _ => none

/-- Axis, profile channel, Stove and event source. -/
def roAxis (s : State) (k : Fin 6) (idx sub : Nat) : Option Nat :=
  match idx with
  | 0x5002 => match sub with
    | 1 => some (axisCode s k) | 2 => some s.axes[k].applied.toNat | 3 => some s.axes[k].mu.toNat | _ => none
  | 0x5011 => let x := axisCurrents s k; match sub with | 1 => some x.1 | 2 => some x.2.1 | 3 => some x.2.2 | _ => none
  | 0x5012 => match sub with | 1 => some (legWord s.legs[legOf k false]) | 2 => some (legWord s.legs[legOf k true]) | _ => none
  | _ => none

def roChan (s : State) (c : Fin 12) (idx sub : Nat) : Option Nat :=
  let x := s.prof[c]
  match idx with
  | 0x4000 => if sub = 1 then some (consumerCode s c) else none
  | 0x4003 => match sub with
    | 1 => some x.state.code | 2 => some x.fill | 3 => some (Channel09.whole x.pos).toNat | 4 => some (s32 x.speedUnits)
    | 5 => some x.segmentsDone.toNat | _ => none
  | 0x4004 => match sub with
    | 1 => some x.recStamp.toNat | 2 => some x.recPos.toNat | 3 => some x.recApplied.toNat | 4 => some (flag x.recValid 0) | _ => none
  | _ => none

def roStove (s : State) (i : Fin 4) (idx sub : Nat) : Option Nat :=
  match idx with
  | 0x3004 => if sub = 2 then some s.stove[i].bank.val else none
  | 0x3010 => if 1 ≤ sub ∧ sub ≤ 64 then some s.stove[i].shown[finOf 64 (sub - 1)] else none
  | 0x3011 => if 1 ≤ sub ∧ sub ≤ 64 then some (stageOutput s.stove[i].stages[finOf 64 (sub - 1)]) else none
  | _ => none

def roSource (s : State) (n : Fin 256) (idx sub : Nat) : Option Nat :=
  if idx = 0x7002 then
    match sub with
    | 1 => some (flag (sticky s n.val) 0)
    | 2 => some (flag (live s n.val) 0)
    | 3 => some (Nat.min (1000 * s.pe n.val 0x7010 1) ((s.clk - s.flue.quietAt[n]) / 200))
    | _ => none
  else none

/-- A parameter as PARAM_READ returns it: the counters and the RO values from their blocks, every other from the active
copy (03 R89); a WO parameter reads as zeros (23 R582). -/
def readParam (s : State) (kind inst idx sub : Nat) : Nat :=
  match pinfo kind idx sub with
  | none => 0
  | some p =>
    if p.acc = .wo then 0
    else match ctrValue s kind inst idx sub with
      | some v => v
      | none =>
        let ro := match kind with
          | 0 => roModule s idx sub
          | 1 => roMachine s (finOf 4 inst) idx sub
          | 2 => roAxis s (finOf 6 inst) idx sub
          | 3 => roChan s (finOf 12 inst) idx sub
          | 4 => roStove s (finOf 4 inst) idx sub
          | _ => roSource s (finOf 256 inst) idx sub
        match ro with
        | some v => lowBits (8 * p.ty.width) v
        | none => s.par kind inst idx sub

end Sys2Proof.Machine
end

