-- ==== Sys2Proof/Machine/ParamOps.lean ====
section
/-! DEFINITION. Writing parameters: what a written value does beside being stored, update groups and their commit
(03 R85, R88 to R91; 01 R32, R33; 00 R5 to R8). -/
namespace Sys2Proof.Machine

/-- The internal objects of every port in use are bound anew after a change of a safety connection (19 R501). -/
def rebindAll (s : State) : State :=
  forAll six (fun p s => if canMode s p = 0 ∨ s.can[p].state = .off then s else bindInternals (freeInternals s p) p) s

/-- What follows a value of the module target that has been written; `old` is the value before. -/
def wroteModule (s : State) (idx sub old v : Nat) : State :=
  if 0x0401 ≤ idx ∧ idx ≤ 0x0408 ∧ sub = 3 then
    -- an edge in the same access is captured: the clear takes effect first (04 R120)
    if bit v 0 then s.modLat (finOf 8 (idx - 0x0401)) (fun x => match x.missed with
      | some (t, stamp, pos, c) =>
        if t = s.clk then { x with stamp := stamp, pos := pos, overruns := c, missed := none, waiting := none }
        else { x with valid := false, waiting := none }
      | none => { x with valid := false, waiting := none }) else s
  else if idx = 0x0421 ∧ sub = 4 then
    if bit v 0 then s.modAux (fun a => { a with
      recValid := false, recCoincident := false, recFirst := 0xFF, recSecond := 0xFF, recDiff := 0 }) else s
  else if idx = 0x0610 then
    if old = 1 ∧ v = 0 then s.modFlue (fun f => { f with quietAt := Vector.replicate 256 s.clk }) else s
  else if idx = 0x0720 ∧ sub = 20 then traceArmWritten s
  else if 0x1200 ≤ idx ∧ idx ≤ 0x1205 then
    let p : Fin 6 := finOf 6 (idx - 0x1200)
    if sub = 1 then canSetMode s p old
    else if sub = 8 then (match v with | 1 => canBusOn s p | 2 => canSleep s p | 3 => canWake s p | _ => s)
    else s
  else if 0x6040 ≤ idx ∧ idx ≤ 0x6047 ∧ (sub = 1 ∨ sub = 3 ∨ sub = 8) then rebindAll s
  else if idx = 0x8000 ∧ sub = 4 then applyLinkEnables s
  else if 0x9480 ≤ idx ∧ idx < 0x94AC ∧ sub = 4 then (if v = 1 then ackSensor s (finOf 44 (idx - 0x9480)) else s)
  else s

/-- What follows a value of another target; `old` is the value before. A new role or partner of a transfer has been
compared with nothing yet (13 R350). -/
def wroteOther (s : State) (kind inst idx sub old v : Nat) : State :=
  match kind with
  | 1 =>
    if idx = 0x9001 ∧ 1 ≤ sub then calToBase s (finOf 4 inst) (finOf 4 (sub - 1))
    else if idx = 0x8201 ∧ 1 ≤ sub ∧ sub ≤ 3 ∧ old ≠ v then
      s.modShare (finOf 4 inst) (fun x => { x with
        armed := false, partnerSeen := false, xferArrived := false, xferMissed := 0, partnerActive := false })
    else s
  | 3 =>
    let c : Fin 12 := finOf 12 inst
    if idx = 0x4004 ∧ sub = 4 then (if bit v 0 then s.modProf c (fun x => { x with recValid := false }) else s)
    else if idx = 0x4005 then posSet s c v
    else s
  | 4 => if idx = 0x3004 ∧ sub = 1 then bankCommit s (finOf 4 inst) (finOf 2 v) else s
  | 7 => if idx = 0x7000 then keepWord s inst old else s
  | _ => s

/-- One value becomes active (00 R5): a stored value, the clear of OVF and VALID flags, or an action. -/
def applyOne (s : State) (k v : Nat) : State :=
  let kind := keyKind k
  let inst := keyInst k
  let idx := keyIdx k
  let sub := keySub k
  match pinfo kind idx sub with
  | none => s
  | some p =>
    let old := s.par kind inst idx sub
    let v := pmask kind idx sub v
    let s := match p.acc with
      | .rw => s.setPar kind inst idx sub v
      | .rwl => s.setPar kind inst idx sub v
      | .w1c => (match ctrsOf kind inst idx with
          | some (o, _) => if sub = o then clearOvf s kind inst idx v else s
          | none => s)
      | _ => s
    if kind = 0 then wroteModule s idx sub old v else wroteOther s kind inst idx sub old v

/-- A field marked RWL is locked (00 R6): the machine, the axis or, for a field of the module, any of them is enabled.
The second channel of a pair is enabled with its first. -/
def fieldLocked (s : State) (k : Nat) : Bool :=
  match pinfo (keyKind k) (keyIdx k) (keySub k) with
  | none => false
  | some p =>
    p.acc == .rwl && (match keyKind k with
      | 1 => s.en (lead s (finOf 4 (keyInst k)))
      | 2 => s.axisOn (finOf 6 (keyInst k))
      | _ => s.anyMachine || s.anyAxis)

/-- Entry header of 03 R73: index, subindex and the length byte of the value. -/
def keyHeader (k : Nat) : List Byte :=
  beBytes 2 (keyIdx k) ++ beBytes 1 (keySub k) ++ beBytes 1 (match pinfo (keyKind k) (keyIdx k) (keySub k) with
    | some p => p.ty.width
    | none => 0)

/-- A value of the safety set (15 R416). -/
def safetyKey (k : Nat) : Bool := decide (0x6000 ≤ keyIdx k) && decide (keyIdx k < 0x7000)

/-- Every entry of a group, in order. -/
def applyAll (s : State) (l : List (Nat × Nat)) : State := l.foldl (fun s e => applyOne s e.1 e.2) s

/-- K_T lies in 0.25 to 4.0 (05 R126). -/
def ktOk (s : State) (m : Fin 4) : Bool :=
  let n := 15 * s.pm m 0x2301 0 * s.pm m 0x2401 0 * s.pm m 0x2203 0
  let d := 100000 * s.pm m 0x2402 0
  decide (d ≤ 4 * n) && decide (n ≤ 4 * d)

/-- An entry of the machine data that K_T is formed from. -/
def ktKey (k : Nat) : Bool :=
  keyKind k == 1 && (keyIdx k == 0x2401 || keyIdx k == 0x2402 || keyIdx k == 0x2203 || keyIdx k == 0x2301)

/-- A sealed group at its commit point (01 R33, 03 R85, R90; 00 R6; 05 R126): it is discarded whole when SI7 is off, an
entry is locked or K_T would leave its range, and otherwise becomes active whole. Of several groups at one commit point
each is judged with those sealed before it already active (DESIGN CHOICE, log 60). -/
def commitGroup (s : State) (g : UGroup) : State :=
  if g.safety && !si7 s then
    replyAt (raise s 21 (match g.cmd with
      | some w => w.1.index.val
      | none => 0)) g.cmd stKEYABSENT []
  else match g.entries.find? (fun e => fieldLocked s e.1) with
    | some e => replyAt s g.cmd stLOCKED (keyHeader e.1)
    | none =>
      let q := applyAll s g.entries
      match g.entries.find? (fun e => ktKey e.1 && !ktOk q (finOf 4 (keyInst e.1))) with
      | some e => replyAt s g.cmd stBADVALUE (keyHeader e.1)
      | none =>
      let s := q
      let s := if g.entries.any (fun e => safetyKey e.1) then
          -- the key slot of an entry made at a commit is not stated: free (log 60)
          journal s 6 0 (beBytes 4 (s.p0 0x6000 1) ++ [0xFF, 0xFF, BitVec.ofNat 8 (Config.outside 33 []), 0] ++ List.replicate 4 0)
        else s
      replyAt s g.cmd stOK []

/-- The sealed groups that wait for one commit point are taken in the order of their seals (01 R33, 03 R91). -/
def commitGroups (s : State) (at' : CommitAt) : State :=
  let (mine, rest) := s.porter.groups.partition (fun g => g.at' == at')
  mine.foldl commitGroup (s.modPorter (fun p => { p with groups := rest }))

/-- The commit point of a value (03 R90; 08 R229): the sample boundary of its machine or Stove; none for any other and for a
word of the bank not in use, which are active at once. -/
def commitOf (s : State) (k : Nat) : Option CommitAt :=
  let i : Fin 4 := finOf 4 (keyInst k)
  match keyKind k with
  | 1 => some (.machine i)
  | 4 => if (keyIdx k = 0x3100 ∨ keyIdx k = 0x3101) ∧ s.stove[i].bank.val ≠ keyIdx k - 0x3100 then none else some (.stove i)
  | _ => none

/-- A checked group is sealed (03 R88, R90). -/
def sealGroup (s : State) (entries : List (Nat × Nat)) (safety : Bool) (cmd : Option (Transport × BitVec 16)) : State :=
  let g (a : CommitAt) : UGroup := { at' := a, entries := entries, safety := safety, cmd := cmd }
  match entries.findSome? (fun e => commitOf s e.1) with
  | none => commitGroup s (g (.machine 0))
  | some a =>
    let s := s.modPorter (fun p => { p with groups := p.groups ++ [g a] })
    let s := entries.foldl (fun s e =>
      if keyKind e.1 = 4 ∧ keyIdx e.1 = 0x3004 ∧ keySub e.1 = 1 then
        s.modStove (finOf 4 (keyInst e.1)) (fun x => { x with bankSealed := some (finOf 2 e.2) })
      else s) s
    match cmd with
    | some w => modCmd s w.1 w.2 (fun c => { c with phase := .committing })
    | none => s

end Sys2Proof.Machine
end

