-- ==== Sys2Proof/Machine/Enable.lean ====
section
/-! DEFINITION. The enable and its end, the stops by command, references by command and the machine status
(23_opcodes R583 to R586; 03 R92; 04 R94, R121; 06 R164, R167; 07 R185, R186; 13 R352). -/
namespace Sys2Proof.Machine

/-! ### Checks of an enable -/

/-- The channels whose loss or absence refuses an enable of `m` (04 R94, 06 R167, R170): its own phase currents and its
DC-link voltage, the phase currents of the second set of a pair, and on a paralleled stage the channel of every bridge,
present and not lost. -/
def channelsRefuse (s : State) (m : Fin 4) : Bool :=
  let absent (k c : Fin 4) : Bool := chanSource s k c == 0
  let phases (k : Fin 4) : Bool := absent k 0 || absent k 1
  let lost (k : Fin 4) : Bool := s.chans[k][(0 : Fin 4)].lost || s.chans[k][(1 : Fin 4)].lost
  let bridge (b : Nat) : Bool :=
    let v := s.pm m 0x2424 b
    decide (4 ≤ v) || phases (finOf 4 v) || lost (finOf 4 v)
  phases m || absent m 3 || (isPair s m && phases (second m))
    || (topo s m == 3 && (lost m || [1, 2, 3].any (fun b => decide (b < nBridges s m) && bridge b)))

/-- The stage of `m` refuses its enable: one channel of a pair without the other, a bridge-sensing channel, or a channel
whose input serves the lower half of another machine (06 R164, R167, R170). -/
def stageRefuses (s : State) (m : Fin 4) : Bool :=
  topo s m == 5 || (topo s m == 4 && !isPair s m) || (bridgeOwner s m).isSome
    || four.any (fun k => k != m && threeLevel s k && s.pm k 0x2421 1 / 4 == m.val)

/-- The lower-half input of a three-level machine is absent or lost (06 R164). -/
def npRefuses (s : State) (m : Fin 4) : Bool :=
  let v := s.pm m 0x2421 1
  threeLevel s m && (
    if v < 16 then
      let k := finOf 4 (v / 4)
      let c := finOf 4 (v % 4)
      chanSource s k c == 0 || s.chans[k][c].lost
    else (npAin s m).isNone || s.tfu[m].npLost)

/-- A sensorless induction machine needs its rotor data (07 R209: 0 of parameter 0x2507 is not set). -/
def rotorRefuses (s : State) (m : Fin 4) : Bool :=
  !isPm s m && (portOf s m).isNone && ([1, 2, 3].any (fun k => s.pm m 0x2507 k == 0))

/-- Why an enable of `m` is refused: none when every check passes, else the source and cause that the check raises, if
it raises one (23 R583). -/
def enableCheck (s : State) (m : Fin 4) : Option (Option (Nat × Nat)) :=
  let links : List (Fin 4) := if isPair s m then [m, second m] else [m]
  if (s.en m ∧ s.startM[m].state ≠ .stopped) ∨ s.drive[m].enabling.isSome = true then some none
  else if stageRefuses s m then some none
  else if channelsRefuse s m || npRefuses s m || rotorRefuses s m then some none
  else if (machineTripped s m).isSome = true then some (some (202, 0))
  else if links.any (fun k => enableForbidden s (some k)) then some none
  else if driveRefuses s m then some none
  else match links.findSome? (fun k => (linkRefuses s k).map (fun c => (140 + k.val, c))) with
    | some x => some (some x)
    | none => match shareCause s m with
      | some c => some (some (181, c + 16 * m.val))
      | none =>
        if shareRefuses s m then some none
        else match programFault s ((stoveOf s m).getD m) m with
          | some c => some (some (108 + ((stoveOf s m).getD m).val, c))
          | none => none

/-! ### The enable (23 R586, 12 R333, 15 R388) -/

/-- What an enable resets in the blocks of one channel: latched losses, and the estimator and observer start anew. -/
def freshChannel (s : State) (m : Fin 4) : State :=
  let s := forAll four (fun c s => s.modChan m c (fun x => { x with lost := false, disturbedRun := 0, clipRun := 0, endRun := 0 })) s
  let s := match portOf s m with
    | some p =>
      -- the lock is kept while another enabled machine uses the port (DESIGN CHOICE, log 27)
      let shared := four.any (fun k => k != m && s.en k && portOf s k == some p)
      s.modPort p (fun x => { x with lost := false, locked := x.locked && shared, recentErrors := [], frameRun := 0, ampRun := 0, ampAt := none })
    | none => s
  let s := s.modTfu m (fun t => { counters := t.counters, target := 0, tripFrameDue := t.tripFrameDue, vdcSum := t.vdcSum, vdcCount := t.vdcCount, vdcLast := t.vdcLast, vdcMean := t.vdcMean })
  let s := s.modObs m (fun _ => {})
  glEnabled s m

/-- An enable is accepted and its start runs; `cmd` is none when a standby channel starts on its own (13 R352). -/
def startEnable (s : State) (m : Fin 4) (cmd : Option (Transport × BitVec 16)) : State :=
  let s := freshChannel s m
  let s := if isPair s m then freshChannel s (second m) else s
  let s := s.modDrive m (fun d => { d with
    enabled := true, enabling := some { cmd := cmd, startedAt := s.clk }, stop := none, reqs := [], tRef := 0, psiRef := 1024
    degraded := .none', inHold := false, inRender := false, lastCmd := s.clk, ovRun := 0, uvRun := 0 })
  let joins : Bool := (stoveOf s m).any (fun i => s.stove[i].running)
  let s := s.modStartM m (fun x => { locateResult := x.locateResult, startedAt := s.clk, joins := joins })
  let ask (k : Fin 4) (s : State) : State := s.modSafety (fun f => { f with genReq := vmod f.genReq k (fun _ => some s.clk) })
  let s := ask m s
  let s := if isPair s m then ask (second m) s else s
  let s := chopEnabled s m
  let s := calEnabled s m
  let s := if isPair s m then calEnabled s (second m) else s
  let s := journalMachine s m 0
  match stoveOf s m with
  | none => s
  | some i =>
    let s := stoveStart s i
    match stoveChan s i with
    | none => s
    | some c => chanOn s c (measuredPos s m)

/-- ENABLE (23 R583, R586). -/
def execEnable (tr : Transport) (tag : BitVec 16) (s : State) : Host.Outcome State Fault Refusal :=
  done (onCmd s tr tag 0x0200 fun s c =>
    match enableCheck s c.m with
    | some src =>
      let s := match src with
        | some x => if x.1 = 202 then s else raise s x.1 x.2   -- a trip was raised when it set (18 R485)
        | none => s
      refuseEnable s c (src.map (fun x => (x.1, x.2 % 16)))
    | none => needLen s c 0 fun s => startEnable (accept s c) c.m (some c.id))

/-- The start runs from the first sample boundary at which GEN has been seen high (07 R186; log 61): RUN, CATCH or
MAGNETISE. -/
def beginRun (s : State) (m : Fin 4) : State :=
  match s.drive[m].enabling with
  | none => s
  | some e =>
    if s.en m ∧ e.genSeen = true ∧ e.result = none ∧ s.startM[m].state = .stopped ∧ s.drive[m].stop = none ∧ s.drive[m].reqs = [] then
      if isPm s m then
        if absolutePort s m then (enterRun s m).modStartM m (fun x => { x with fluxDue := true }) else beginCatch s m e.startedAt
      else
        (setRun s m .magnetise).modStartM m (fun x => { x with
          magnetiseAt := s.clk, tableAt := none, psi0 := 0, fluxRun := 0, handed := none })
    else s

/-- The standby channel of a lost home starts by itself at its commit point (13 R352, R354). -/
def standbyStart (s : State) (m : Fin 4) : State :=
  if !s.share[m].xferDue then s
  else
    let s := s.modShare m (fun x => { x with xferDue := false })
    let (k, o) := ctrInc 16 s.share[m].transfers
    let s := startEnable s m none
    let s := raise (s.modShare m (fun x => { x with active := true, xferAt := s.clk, transfers := k })) 182 (16 * m.val)
    raiseIf o s 182 (16 * m.val + 3)

/-- HOME_LOST_TRANSFER (13 R352): two transfer frames of the home channel missed in a row while XFER_ARMED is set. -/
def execHomeLostTransfer (dt : Nat) (m : Fin 4) (s : State) : Host.Outcome State Fault Refusal :=
  let s := advance s dt
  let x := s.share[m]
  done (if xferRole s m = 2 ∧ x.armed = true ∧ 2 ≤ x.xferMissed ∧ x.active = false ∧ s.en m = false then
      s.modShare m (fun y => { y with xferDue := true })
    else s)

/-- ENABLE_COMPLETE (23 R586): the end that the enable has met is sent as its completion. -/
def execEnableComplete (dt : Nat) (m : Fin 4) (s : State) : Host.Outcome State Fault Refusal :=
  let s := advance s dt
  done (match s.drive[m].enabling with
    | none => s
    | some e => match e.result with
      | none => s
      | some (st, data) => complete (s.modDrive m (fun d => { d with enabling := none })) e.cmd st data)

/-! ### Stops, references and status by command (23 R583 to R585) -/

/-- A stop by command waits for the commit point of its machine; a machine not enabled answers at once (23 R584), and in
BANKED the hold ends at once (07 R206). -/
def stopByCommand (s : State) (c : Cmd) (quick : Bool) : State :=
  if !s.en c.m then reply s c stOK []
  else
    let s := (waitCommit s c).modDrive c.m (fun d => { d with
      reqs := d.reqs ++ [{ fault := quick, quick := quick, cmd := some c.id }] })
    if s.startM[c.m].state = .banked then takeStops s c.m else s

/-- DISABLE. -/
def execDisable (tr : Transport) (tag : BitVec 16) (s : State) : Host.Outcome State Fault Refusal :=
  done (onCmd s tr tag 0x0201 fun s c => needLen s c 0 fun s => stopByCommand s c false)

/-- QUICK_STOP. -/
def execQuickStop (tr : Transport) (tag : BitVec 16) (s : State) : Host.Outcome State Fault Refusal :=
  done (onCmd s tr tag 0x0202 fun s c => needLen s c 0 fun s => stopByCommand s c true)

/-- SET_REFERENCE (23 R585): setpoint SPk of the Stove whose pool mask holds the machine, as one update group. -/
def execSetReference (tr : Transport) (tag : BitVec 16) (s : State) : Host.Outcome State Fault Refusal :=
  done (onCmd s tr tag 0x0203 fun s c => needLen s c 5 fun s =>
    let k := beNat (c.data.take 1)
    if 7 < k then reply s c stBADVALUE (elemHeader 0 0)
    else match stoveOf s c.m with
      | none => reply s c stBADVALUE (elemHeader 0 0)
      | some i => sealGroup s [(pkey 4 i.val 0x3003 (k + 1), beNat (c.data.drop 1))] false (some c.id))

/-- MACHINE_STATUS. -/
def execMachineStatus (tr : Transport) (tag : BitVec 16) (s : State) : Host.Outcome State Fault Refusal :=
  done (onCmd s tr tag 0x0204 fun s c => needLen s c 0 fun s =>
    let m := c.m
    let w (idx sub : Nat) : List Byte := beBytes 4 (readParam s 1 m.val idx sub)
    reply s c stOK (beBytes 1 s.startM[m].state.code ++ [0] ++ beBytes 2 (s16 (per1024 s.tfu[m].torque))
      ++ beBytes 2 (s16 (psiAbs s m)) ++ beBytes 4 (s32 (measuredSpeed s m))
      ++ w 0x2410 0 ++ w 0x2710 0 ++ w 0x8210 1 ++ w 0x6110 0 ++ w 0x9004 0))

end Sys2Proof.Machine
end

