-- ==== Sys2Proof/Machine/RegFam.lean ====
section
/-! DEFINITION. The register map: what each word reads as, what a write to it does, the group latches, and the
register opcodes (spec file 24_register_map, 22 R561, 23 R594, R595). -/
namespace Sys2Proof.Machine

/-! ### Values of the registers -/

/-- TB_STAT (24 R603). -/
def tbStat (s : State) : Nat :=
  flag s.tb.pllLock 31 + flag s.tb.refOk 30 + flag (s.tb.ref == .holdover) 29 + flag s.tb.envelope 28
    + flag s.tb.aligned 27 + flag s.tb.stepped 26

/-- RST_CAUSE (02 R63). -/
def rstCause (s : State) : Nat :=
  let x := s.start
  x.rstCount.val * 65536 + flag x.rstCount.ovf 12 + flag x.damperPor 11 + flag x.powerOn 10 + flag x.extReset 9
    + flag x.flueReset 8 + flag x.cmdReset 7 + flag x.imageFallback 6 + flag x.imageSel 5 + flag x.paramDefault 4
    + x.startState.code

/-- The nine miss counters in the order of DL_OVF (24 R603). -/
def missCounters (s : State) : List Counter := s.tb.missTfu.toList ++ s.tb.missStove.toList ++ [s.tb.missProf]

def stampLo (t : Stamp) : Nat := t.toNat % 2 ^ 32
def stampHi (t : Stamp) : Nat := t.toNat / 2 ^ 32

/-- TB registers by offset (24 R603). -/
def tbReg (s : State) (o : Nat) : Option Nat :=
  if o = 0 then some (stampLo s.tb.now)
  else if o = 4 then some (stampHi s.tb.now)
  else if o = 8 then some (tbStat s)
  else if o = 0x20 then some (rstCause s)
  else if 0x40 ≤ o ∧ o < 0x50 then some s.tb.missTfu[finOf 4 ((o - 0x40) / 4)].val
  else if 0x50 ≤ o ∧ o < 0x60 then some s.tb.missStove[finOf 4 ((o - 0x50) / 4)].val
  else if o = 0x60 then some s.tb.missProf.val
  else if o = 0x64 then some (ovfBits 0 (missCounters s))
  else none

/-- Flue registers by offset (17 R464, R471). -/
def flueReg (s : State) (o : Nat) : Option Nat :=
  if o = 0 then some (flueSum s)
  else if 0x20 ≤ o ∧ o < 0x40 then some (word256 s.flue.sticky ((o - 0x20) / 4))
  else if 0x40 ≤ o ∧ o < 0x60 then some (word256 s.flue.live ((o - 0x40) / 4))
  else if 0x100 ≤ o ∧ o < 0x110 then (recWords s.flue.fer)[(o - 0x100) / 4]?
  else if 0x110 ≤ o ∧ o < 0x120 then (recWords s.flue.ner)[(o - 0x110) / 4]?
  else none

/-- Messages queued for a Hearth. -/
def pendOf (s : State) (h : Fin 4) : Nat := (s.flue.queue.filter (fun m => m.hearth == h)).length

/-- EVT_LAST_INFO (24 EVT registers). -/
def lastInfo (s : State) : Nat :=
  match s.flue.lastMsg with
  | none => 0
  | some m => 2 ^ 31 + m.hearth.val * 2 ^ 28 + flag m.nmi 25 + m.source.toNat
def lastTime (s : State) : Stamp :=
  match s.flue.lastMsg with
  | none => 0
  | some m => m.stamp

/-- EVT registers by offset. -/
def evtReg (s : State) (o : Nat) : Option Nat :=
  match o with
  | 0x00 => some (flag s.flue.dropped.ovf 31 + s.flue.queue.length * 65536 + s.flue.dropped.val)
  | 0x08 => some (pendOf s 0 + pendOf s 1 * 256 + pendOf s 2 * 65536 + pendOf s 3 * 16777216)
  | 0x10 => some (lastInfo s)
  | 0x14 => some (stampLo (lastTime s))
  | 0x18 => some (stampHi (lastTime s))
  | _ => none

/-- Registers of one Hearth by offset (24 R605). -/
def hrtReg (s : State) (h : Fin 4) (o : Nat) : Option Nat :=
  let x := s.hearths[h]
  match o with
  | 0x00 => some (hrtStat s h)
  | 0x04 => some (stampLo x.classTime)
  | 0x08 => some (stampHi x.classTime)
  | 0x10 => some x.masked.val
  | 0x14 => some x.transients.val
  | 0x18 => some (x.spared.val * 65536 + x.latents.val)
  | 0x1C => some x.splits.val
  | 0x20 => ctrValue s 0 0 (0x0508 + h.val) 6
  | 0x24 => some x.nextTest
  | _ => none

/-- GLK_STAT (24 R608). -/
def glkStat (s : State) (m : Fin 4) : Nat :=
  let g := s.gl[m]
  let u := g.up
  flag g.upOk 31 + flag (upBit u 25) 30 + flag (upBit u 27) 29 + flag (upBit u 26) 28 + flag (upBit u 24) 27
    + flag (upDsat u != 0) 26 + flag (upBit u 13) 25 + flag (cfgMatch s m) 24 + g.missRun % 4 * 2 ^ 22
    + (if g.fresh then 0 else g.code.num) * 65536 + (if g.fresh then 0 else g.seq.toNat) * 256 + (upEcho u).toNat

/-- Registers of one gate link by offset (24 R608). -/
def glkReg (s : State) (m : Fin 4) (o : Nat) : Option Nat :=
  let g := s.gl[m]
  match o with
  | 0x00 => some (glkStat s m)
  | 0x04 => some (g.down.toNat / 2 ^ 32)
  | 0x08 => some (g.down.toNat % 2 ^ 32)
  | 0x0C => some (g.up.toNat / 2 ^ 32)
  | 0x10 => some (g.up.toNat % 2 ^ 32)
  | 0x14 => some ((cfgCheck s m).toNat * 256 + g.items[50].toNat % 256)
  | 0x18 => some (g.bad.val * 65536 + g.dsats.val)
  | 0x1C => (ctrValue s 1 m.val 0x2617 4).map (fun v => v * 65536 + g.gateFaults.val)
  | _ => none

/-- Whole seconds left of a period, a part of a second counted whole (24 R607 example; log 64). -/
def secondsLeft (s : State) (at' secs : Nat) : Nat := (at' + secs * 200000000 - s.clk + 199999999) / 200000000

/-- Source port and address of a session's transport (24 R607). -/
def sessionSource : Transport → Nat × Nat
  | .eth _ ip port => (port.toNat, ip.toNat)
  | .fabric src => (0, src.toNat)
  | _ => (0, 0)

/-- The session layout (24 R607). -/
def sessionWords (s : State) (x : Session) : List Nat :=
  let src := sessionSource x.transport
  let left := if x.isOpen then secondsLeft s x.lastAt x.timeout else secondsLeft s x.lastAt 5
  [(if x.isOpen then 2 else 1) * 2 ^ 28 + (if x.isOpen then x.level.toNat else 0) * 2 ^ 25 + x.slot.val * 2 ^ 22
      + x.transport.index.val * 2 ^ 18 + left % 4096,
    x.seqHigh.toNat, x.window.toNat, src.1 * 65536 + x.timeout % 4096, src.2, 0, stampLo x.openTime, stampHi x.openTime]

def TxResult.code : TxResult → Nat
  | .none' => 0 | .sent => 1 | .aborted => 2 | .lateSent => 3 | .timeout => 4 | .fault => 5
def CanFormat.code : CanFormat → Nat
  | .classical => 0 | .fd => 1 | .fdBrs => 2 | .xl => 3

/-- The CAN layout (24 R607). -/
def canWords (o : CanObj) : List Nat :=
  let kind := if o.internal then (if o.tx then 5 else 6) else (if o.tx then 3 else 4)
  let pend := o.pend.isSome
  let committed := match o.pend with | some f => f.committed | none => false
  [kind * 2 ^ 28 + flag (if o.tx then pend else o.new) 27 + flag committed 26 + o.last.code * 2 ^ 23 + o.port.val * 2 ^ 20
      + (if o.tx then o.format.code else 0) * 2 ^ 18 + (if o.tx then 0 else o.formats.toNat) * 2 ^ 15 + flag o.ide 14
      + o.rtr.toNat * 2 ^ 12 + flag o.single 11 + flag o.overwrite 10 + o.collisions % 4 * 256,
    o.id.toNat, o.mask.toNat, (o.xlHdr &&& 0xFF01FF00#32).toNat, o.af.toNat, o.staged.length * 65536 + o.tOut % 65536,
    stampLo o.frameTime, stampHi o.frameTime]

/-- The eight words of a berth (24 R606). -/
def berthWords (s : State) (b : Fin 512) : List Nat :=
  match s.porter.berths[b] with
  | .free => List.replicate 8 0
  | .session x => sessionWords s x
  | .can o => canWords o

/-- Offsets of the DMP window that hold a word (24 R609). -/
def dmpOffset (o : Nat) : Bool := decide (o ≤ 0x48) && decide (o ≠ 0x08) && decide (o ≠ 0x0C) && decide (o ≠ 0x28) && decide (o ≠ 0x2C)

/-- LEG_STATUS (24 R610). -/
def legStatus (s : State) : Nat :=
  flag s.up 0 + flag (flueSum s != 0) 1
    + four.foldl (fun a m => a + flag (s.en m) (2 + m.val) + flag (bit (safetyWord s false m) 31) (6 + m.val)) 0

/-- The LEG window by offset (24 R610). -/
def legReg (s : State) (o : Nat) : Option Nat :=
  if o = 0 then some 0x44100009
  else if o = 4 then some (legStatus s)
  else if o = 8 then some (s.tb.now.toNat / 200 % 2 ^ 32)
  else if 0x10 ≤ o ∧ o < 0x30 then some (word256 s.flue.sticky ((o - 0x10) / 4))
  else if o = 0x40 then (recWords s.flue.fer)[0]?.map (fun w => w &&& 0x8C0000FF)
  else none

/-- The word at an aligned register address; none where the chapter lists no register (24 R599). -/
def regWord (s : State) (a : Nat) : Option Nat :=
  if a % 4 ≠ 0 then none
  else
    let o := a % 65536
    match a / 65536 with
    | 0x4000 => tbReg s o
    | 0x4001 => flueReg s o
    | 0x4002 => evtReg s o
    | 0x4003 => if o < 0x400 then hrtReg s (finOf 4 (o / 256)) (o % 256) else none
    | 0x4009 => if o < 0x400 then glkReg s (finOf 4 (o / 256)) (o % 256) else none
    | 0x400C => if o < 0x4000 then (berthWords s (finOf 512 (o / 32)))[o % 32 / 4]? else none
    | 0x400F => if o = 0 then some (hspiStatus s) else none
    | 0x4010 => if dmpOffset o then some s.safety.dmp[finOf 19 (o / 4)].toNat else none
    | 0x4011 => legReg s o
    | _ => none

/-! ### Memory (22 R561) -/

/-- The SRAM and the MRAM ranges (24 R599). -/
def inMemory (a : Nat) : Bool := decide (a < 0x01000000) || (decide (0x10000000 ≤ a) && decide (a < 0x18000000))

/-- A parameter store copy or a boot record. -/
def guarded (a : Nat) : Bool :=
  (decide (0x10800000 ≤ a) && decide (a < 0x10910000)) || (decide (0x14800000 ≤ a) && decide (a < 0x14910000))

/-- The bytes at an address follow from this spec: the checked copy of the image that runs (log 69), the data of the
Hearths, which their writes fill, the bodies of the images before their headers, the journal ring and the reserved
addresses. The layouts of the other areas are not stated, so their words are free (log 65). -/
def laidOut (a : Nat) : Bool :=
  decide (a < 0x00800000) ||
  (decide (0x00800000 ≤ a) && decide (a < 0x00C00000)) ||
  (decide (0x10000000 ≤ a) && decide (a < 0x107FFF80)) || (decide (0x14000000 ≤ a) && decide (a < 0x147FFF80)) ||
  (decide (0x10910000 ≤ a) && decide (a < 0x12000000)) || (decide (0x14910000 ≤ a) && decide (a < 0x15000000))

/-- A word of memory, most significant byte at the lowest address (log 26), and the state that follows. A poisoned word
reads as a free value (22 R562). -/
def memWord (s : State) (a : Nat) : Nat × State :=
  let w := if a < 0x01000000 then a / 4 * 4 else a / 8 * 8
  if laidOut a = true ∧ w ∉ s.mem.poisoned then
    (beNat (cellsGet (if a < 0x01000000 then s.mem.sram else s.mem.mram) a 4), s)
  else
    let (v, s) := s.fresh
    (v % 2 ^ 32, s)

/-! ### Reads, with the group latches of 24 R601 -/

/-- The group of a register: its lowest address and its length. -/
def regGroup (a : Nat) : Option (Nat × Nat) :=
  let o := a % 65536
  match a / 65536 with
  | 0x4000 => if o < 8 then some (0x40000000, 2) else none
  | 0x4001 => if 0x100 ≤ o ∧ o < 0x110 then some (0x40010100, 4) else if 0x110 ≤ o ∧ o < 0x120 then some (0x40010110, 4) else none
  | 0x4002 => if 0x10 ≤ o ∧ o < 0x1C then some (0x40020010, 3) else none
  | 0x4003 => if o % 256 = 4 ∨ o % 256 = 8 then some (0x40030000 + o / 256 * 256 + 4, 2) else none
  | 0x4009 =>
    if o % 256 = 4 ∨ o % 256 = 8 then some (0x40090000 + o / 256 * 256 + 4, 2)
    else if o % 256 = 0xC ∨ o % 256 = 0x10 then some (0x40090000 + o / 256 * 256 + 0xC, 2) else none
  | 0x400C => some (a / 32 * 32, 8)
  | _ => none

/-- The latch of a group. -/
def latchOf (s : State) (base : Nat) : Option GroupLatch := s.mem.latches.find? (fun l => l.base == base)

/-- A latch is taken: every word of the group in one tick. -/
def takeLatch (s : State) (base n : Nat) : State :=
  let ws := (List.range n).map (fun i => BitVec.ofNat 32 ((regWord s (base + 4 * i)).getD 0))
  s.modMem (fun m => { m with latches := ⟨base, ws⟩ :: m.latches.filter (fun l => l.base != base) })

/-- One access to a register word; none where no register lies. -/
def regRead (s : State) (a : Nat) : Option (Nat × State) :=
  match regWord s a with
  | none => none
  | some v =>
    match regGroup a with
    | none => some (v, s)
    | some (base, n) =>
      if a = base then some (v, takeLatch s base n)
      else match latchOf s base with
        | some l => some (((l.words.getD ((a - base) / 4) 0).toNat), s)
        | none => some (v, s)

/-- A word that REG_READ and the direct mode may read: a register, or memory outside the guarded areas. -/
def readable (s : State) (a : Nat) : Bool :=
  decide (a % 4 = 0) && ((inMemory a && !guarded a) || (regWord s a).isSome)

/-- One access to any readable word. -/
def wordRead (s : State) (a : Nat) : Nat × State :=
  if inMemory a then memWord s a else (regRead s a).getD (0, s)

/-! ### Writes (24 R600, R602) -/

/-- W1C flags of the nine miss counters. -/
def clearMiss (s : State) (w : Nat) : State :=
  s.modTb (fun t => { t with
    missTfu := Vector.ofFn (fun i : Fin 4 => ctrClr t.missTfu[i] (bit w i.val))
    missStove := Vector.ofFn (fun i : Fin 4 => ctrClr t.missStove[i] (bit w (4 + i.val)))
    missProf := ctrClr t.missProf (bit w 8) })

/-- W1C flags of RST_CAUSE (02 R63). -/
def clearRst (s : State) (w : Nat) : State :=
  s.modStart (fun x => { x with
    rstCount := ctrClr x.rstCount (bit w 12), damperPor := x.damperPor && !bit w 11, powerOn := x.powerOn && !bit w 10
    extReset := x.extReset && !bit w 9, flueReset := x.flueReset && !bit w 8, cmdReset := x.cmdReset && !bit w 7
    imageFallback := x.imageFallback && !bit w 6 })

/-- A one written to VALID releases FER when it is valid (17 R463). -/
def releaseBit (s : State) (w : Nat) : State := if bit w 31 && s.flue.fer.isSome then releaseFer s else s

/-- The effect of a write on the registers that have a field to write; none for a word of RO fields only. -/
def regWrite (s : State) (a : Nat) (w : Nat) : Option State :=
  let o := a % 65536
  match a / 65536 with
  | 0x4000 => if o = 0x64 then some (clearMiss s w) else if o = 0x20 then some (clearRst s w) else none
  | 0x4001 =>
    if 0x20 ≤ o ∧ o < 0x40 ∧ s.p0 0x0610 1 = 1 then some (stickyWrite s (finOf 8 ((o - 0x20) / 4)) (BitVec.ofNat 32 w))
    else if o = 0x100 then some (releaseBit s w) else none
  | 0x4003 =>
    if o < 0x400 ∧ o % 256 = 0x20 then some (clearOvf s 0 0 (0x0508 + o / 256) w) else none
  | 0x4009 => if o < 0x400 ∧ o % 256 = 0x1C then some (clearOvf s 1 (o / 256) 0x2617 (w / 65536)) else none
  | 0x4011 =>
    if 0x10 ≤ o ∧ o < 0x30 ∧ s.p0 0x0610 1 = 1 then some (stickyWrite s (finOf 8 ((o - 0x10) / 4)) (BitVec.ofNat 32 w))
    else if o = 0x40 then some (releaseBit s w) else none
  | _ => none

/-- A write of one word by any master: fields that cannot be written stay (24 R600, 00 R5). -/
def wordWrite (s : State) (a : Nat) (w : Nat) : State := if a % 4 = 0 then (regWrite s a w).getD s else s

/-- GROUP_READ_LATCH (24 R601): a read of the register word at an address. -/
def execGroupReadLatch (dt : Nat) (a : BitVec 32) (s : State) : Host.Outcome State Fault Refusal :=
  let s := advance s dt
  done (match regRead s a.toNat with
    | some r => r.2
    | none => s)

/-- REGISTER_WRITE (24 R600): a write of the register word at an address. -/
def execRegisterWrite (dt : Nat) (a w : BitVec 32) (s : State) : Host.Outcome State Fault Refusal :=
  done (wordWrite (advance s dt) a.toNat w.toNat)

/-! ### Opcodes -/

/-- BERTH_READ (23 R591): the berth entry in one tick. -/
def execBerthRead (tr : Transport) (tag : BitVec 16) (s : State) : Host.Outcome State Fault Refusal :=
  done (onCmd s tr tag 0x0703 fun s c => needLen s c 0 fun s =>
    reply s c stOK ((berthWords s c.berth).flatMap (beBytes 4)))

/-- Words read one after the other. -/
def readWords : Nat → State → Nat → List Byte × State
  | 0, s, _ => ([], s)
  | k + 1, s, a =>
    let r := wordRead s a
    let t := readWords k r.2 (a + 4)
    (beBytes 4 r.1 ++ t.1, t.2)

/-- REG_READ (23 R594, R595): every word is checked before any is read. -/
def execRegRead (tr : Transport) (tag : BitVec 16) (s : State) : Host.Outcome State Fault Refusal :=
  done (onCmd s tr tag 0x0A00 fun s c => needLen s c 5 fun s =>
    let a := beNat (c.data.take 4)
    let n := beNat (c.data.drop 4)
    if n = 0 then reply s c stBADVALUE (elemHeader 0 4)
    else match (List.range n).find? (fun i => !readable s (a + 4 * i)) with
      | some i => reply s c stBADVALUE (elemHeader i 0)
      | none =>
        let r := readWords n s a
        reply r.2 c stOK r.1)

/-- Words written in ascending order. -/
def writeWords : Nat → State → Nat → List Byte → State
  | 0, s, _, _ => s
  | k + 1, s, a, l => writeWords k (wordWrite s a (beNat (l.take 4))) (a + 4) (l.drop 4)

/-- A word that REG_WRITE refuses (22 R561, 23 R594; 24 R609 for the DMP window, log 64). -/
def writeRefused (s : State) (a : Nat) : Bool := decide (a % 4 ≠ 0) || (regWord s a).isNone || decide (a / 65536 = 0x4010)

/-- REG_WRITE (23 R594, R595): every word is checked before any is written. -/
def execRegWrite (tr : Transport) (tag : BitVec 16) (s : State) : Host.Outcome State Fault Refusal :=
  done (onCmd s tr tag 0x0A01 fun s c =>
    let a := beNat (c.data.take 4)
    let n := beNat ((c.data.drop 4).take 1)
    if c.data.length < 5 then reply s c stBADPARAM (elemHeader 0 0)
    else if n = 0 ∨ n = 255 then reply s c stBADVALUE (elemHeader 0 4)
    else if c.data.length ≠ 5 + 4 * n then reply s c stBADPARAM (elemHeader 0 0)
    else match (List.range n).find? (fun i => writeRefused s (a + 4 * i)) with
      | some i => reply s c stBADVALUE (elemHeader i 0)
      | none => reply (writeWords n s a (c.data.drop 5)) c stOK [])

/-- REG_MODE (23 R594, R595; 21 R547): only over HSPI. -/
def execRegMode (tr : Transport) (tag : BitVec 16) (s : State) : Host.Outcome State Fault Refusal :=
  done (onCmd s tr tag 0x0A02 fun s c =>
    if c.tr ≠ .hspi then reply s c stREFUSED []
    else needLen s c 1 fun s =>
      let v := beNat c.data
      if 1 < v then reply s c stBADVALUE (elemHeader 0 0)
      else reply (s.modPorter (fun p => { p with regMode := v == 1 })) c stOK [])

end Sys2Proof.Machine
end

