-- ==== Sys2Proof/Machine/HearthFam.lean ====
section
/-! DEFINITION. Commands of the Hearths: votes, disagreements, digests, resynchronisation, split, rejoin and debug
(16_hearths, 23 R594). -/
namespace Sys2Proof.Machine

def three : List (Fin 3) := [0, 1, 2]

/-- Address field of group 14 (16 R451). -/
def hearthAddr (h : Fin 4) (cause part seq : Nat) : Nat := cause + 16 * h.val + 64 * part + 256 * seq

/-- The voted lanes. -/
def votedLanes (x : Hearth) : List (Fin 3) := (activeCores x).filter (fun i => x.laneOk[i])

/-- The cores that issue transactions: in SPLIT core A alone carries the functions of the Hearth (16 R441). -/
def issuers (x : Hearth) : List (Fin 3) := if x.mode = .split then [0] else activeCores x

/-- The issuing core before a core in the order A, B, C. -/
def coreBefore (x : Hearth) (i : Fin 3) : Option (Fin 3) := ((issuers x).filter (fun j => decide (j.val < i.val))).getLast?

/-- The mode of a Hearth in service: DUPLEX before SINGLE_VOTER before TRIPLEX (16 R435, R437). -/
def serviceMode (x : Hearth) : HearthMode :=
  if three.any (fun i => !x.coreOk[i] || !x.laneOk[i]) then .duplex
  else if !x.trivetOk[(0 : Fin 2)] || !x.trivetOk[(1 : Fin 2)] then .singleVoter else .triplex

/-- The class of a disagreement is recorded. -/
def classify (s : State) (h : Fin 4) (k : DisClass) (core : Fin 3) (seq : BitVec 8) : State :=
  s.modHearth h (fun x => { x with lastClass := k, lastCore := core, lastSeq := seq, classTime := s.tb.now })

/-- The fields that the Trivets vote (16 R428, R429). -/
def sameFields (a b : LaneEntry) : Bool :=
  a.addr == b.addr && a.data == b.data && a.enables == b.enables && a.kind == b.kind && a.attr == b.attr

/-- Good parity and the expected sequence number. -/
def entryGood (x : Hearth) (e : LaneEntry) : Bool := e.parityOk && e.seq == BitVec.ofNat 8 x.txn

/-- Every voted lane agrees and is good. In SPLIT lane A passes through. -/
def votesAgree (x : Hearth) (l : Vector LaneEntry 3) : Bool :=
  if x.mode = .split then entryGood x l[(0 : Fin 3)]
  else
    match votedLanes x with
    | [] => false
    | i :: is => entryGood x l[i] && is.all (fun j => entryGood x l[j] && sameFields l[i] l[j])

/-- A Trivet in service whose result is wrong. One that votes alone is not checked (16 R437). -/
def trivetsAgree (x : Hearth) (bad : Vector Bool 2) : Bool :=
  !(x.trivetOk[(0 : Fin 2)] && x.trivetOk[(1 : Fin 2)]) || (!bad[(0 : Fin 2)] && !bad[(1 : Fin 2)])

/-- A core may issue its next transaction t (16 R426, R428): its lane has a free row, it does not wait for data, and the
core before it has issued t + 1, or has issued a read at t and waits for its data. While a split is being made the first
core issues nothing and the others follow it (16 R442). -/
def mayIssue (x : Hearth) (i : Fin 3) : Bool :=
  let t := x.issued[i]
  decide (i ∈ issuers x) && !x.waits[i] && (decide (x.lanes[i].length < 4) || !x.laneOk[i]) && (match coreBefore x i with
    | none => x.splitting.isNone
    | some j => decide (t + 1 < x.issued[j]) || (decide (t < x.issued[j]) && (x.splitting.isSome || x.waits[j])))

/-- A core takes every input bound to a number up to that of the transaction that it is about to issue; one that every
issuing core has taken is done (16 R427). -/
def takeInputs (x : Hearth) (i : Fin 3) : List BoundInput :=
  (x.bound.map (fun b => if b.number ≤ x.issued[i] then { b with taken := b.taken.set i true } else b)).filter
    (fun b => (issuers x).any (fun j => !b.taken[j]))

/-- An asynchronous input is bound to the number that follows the last transaction issued by core A (16 R427), or by the
first core in service (log 71). -/
def bindInput (s : State) (h : Fin 4) (v : HearthInput) : State :=
  s.modHearth h (fun x => { x with bound := x.bound ++ [{ number := x.issued[((issuers x).headD 0)], input := v }] })

/-- The data of the last voted read goes to a core that waits for it, once the core before it has issued its next
transaction (16 R427). -/
def feedCore (s : State) (h : Fin 4) (i : Fin 3) : State :=
  let x := s.hearths[h]
  match x.readBack with
  | none => s
  | some (t, v) =>
    let turn : Bool := match coreBefore x i with
      | none => true
      | some j => decide (t + 1 < x.issued[j])
    if i ∈ issuers x ∧ x.waits[i] = true ∧ x.issued[i] = t + 1 ∧ turn = true then
      (s.modHearth h (fun y => { y with waits := y.waits.set i false })).put (.coreData h i v)
    else s

def feedCores (s : State) (h : Fin 4) : State := forAll three (fun i s => feedCore s h i) s

/-- A core issues a transaction into its lane; the entries of a lane that is out are not voted (16 R426 to R428, R436).
Every transaction but a write waits for data (log 71). -/
def issueEntry (s : State) (h : Fin 4) (i : Fin 3) (e : LaneEntry) : State :=
  feedCores (s.modHearth h (fun x => { x with
    bound := takeInputs x i
    lanes := if x.laneOk[i] then x.lanes.set i (x.lanes[i] ++ [e]) else x.lanes
    issued := x.issued.set i (x.issued[i] + 1)
    waits := x.waits.set i (e.kind != 2) })) h

/-- The transactions that cores offer, in order: one that its core may not issue yet is held and is offered again. -/
def issueOffers (s : State) (h : Fin 4) (l : List (Fin 3 × LaneEntry)) : State :=
  l.foldl (fun s o => if mayIssue s.hearths[h] o.1 then issueEntry s h o.1 o.2 else s) (feedCores s h)

/-- The oldest entry of every lane as the Trivets read it: what the lane holds, or what they misread. -/
def laneHeads (x : Hearth) (misread : Vector (Option LaneEntry) 3) : Vector LaneEntry 3 :=
  Vector.ofFn (fun i : Fin 3 => (misread[i]).getD (x.lanes[i].headD ⟨0, 0, 0, 0, 0, 0, true⟩))

/-- The entries of the transaction to be voted are present in every lane that is voted (16 R429). -/
def lanesPresent (x : Hearth) : Bool :=
  let l := if x.mode = .split then [0] else votedLanes x
  l != [] && l.all (fun i => x.lanes[i] != [])

/-- A core is placed at the transaction to be voted next, with an empty lane (16 R433, R443). -/
def placeCore (x : Hearth) (i : Fin 3) : Hearth :=
  { x with lanes := x.lanes.set i [], issued := x.issued.set i x.txn, waits := x.waits.set i false }

/-- A write on the bus: in SRAM (22 R556) one to the firmware area is discarded and raises 15.9, elsewhere the enabled
bytes are stored, the most significant at the lowest address; a register word is written whole (24 R600). What an atomic
stores is free (log 65). -/
def busStore (s : State) (h : Fin 4) (e : LaneEntry) : State :=
  let a := e.addr.toNat / 8 * 8
  if e.kind.toNat < 2 then s
  else
    let (v, s) : Nat × State := if e.kind = 3 then s.fresh else (e.data.toNat, s)
    if inMemory a then
      if 0x01000000 ≤ a then s
      else if a < 0x00800000 then raiseBy s (hearthMaster s h) 249 e.addr.toNat (1 + e.kind.toNat) .none'
      else
        let on := eight.filter (fun j => e.enables.getLsbD (7 - j.val))
        s.modMem (fun m => { m with
          sram := on.foldl (fun l j => cellsPut l (a + j.val) [BitVec.ofNat 8 (v / 256 ^ (7 - j.val))]) m.sram
          poisoned := m.poisoned.filter (fun w => !on.any (fun j => w == (a + j.val) / 4 * 4)) })
    else
      let s := if bits e.enables.toNat 7 4 = 15 then wordWrite s a (v / 2 ^ 32 % 2 ^ 32) else s
      if bits e.enables.toNat 3 0 = 15 then wordWrite s (a + 4) (v % 2 ^ 32) else s

/-- One word that the bus returns; a free value where no register and no memory lies. -/
def busWord (s : State) (a : Nat) : Nat × State :=
  if inMemory a then memWord s a
  else match regRead s a with
    | some r => r
    | none => (s.fresh.1 % 2 ^ 32, s.fresh.2)

/-- The data of a read: the words with an enabled byte, the word of the lower address in the upper half. -/
def busLoad (s : State) (e : LaneEntry) : BitVec 64 × State :=
  let a := e.addr.toNat / 8 * 8
  let hi := if bits e.enables.toNat 7 4 = 0 then (0, s) else busWord s a
  let lo := if bits e.enables.toNat 3 0 = 0 then (0, hi.2) else busWord hi.2 (a + 4)
  (BitVec.ofNat 64 (hi.1 * 2 ^ 32 + lo.1), lo.2)

/-- The transaction goes to the bus once and its row frees in every lane; the data of a read goes to core A first
(16 R427 to R429). -/
def issue (s : State) (h : Fin 4) (e : LaneEntry) : State :=
  let t := s.hearths[h].txn
  let s := (s.modHearth h (fun x => { x with
    txn := x.txn + 1, disagreed := none, lanes := x.lanes.map (fun l => l.drop 1) })).put (.bus h e)
  if e.kind = 2 then busStore s h e
  else
    let r := busLoad s e
    feedCores ((busStore r.2 h e).modHearth h (fun x => { x with readBack := some (t, r.1) })) h

/-- The Hearth issues transactions. -/
def votes (x : Hearth) : Bool := x.mode != .halted && !x.debugHalted

/-- A counter of R450 goes up. -/
def bumpHearth (s : State) (h : Fin 4) (w : Nat) (get : Hearth → Counter) (set : Counter → Hearth → Hearth) (src addr : Nat) : State :=
  let (c, o) := ctrInc w (get s.hearths[h])
  raiseIf o (s.modHearth h (set c)) src addr

/-- A raise that reports a vote whose retry failed again (17 R454). -/
def raiseVote (s : State) (src addr : Nat) : State := raiseOp s src addr 6 .lasting

/-- TRANSACTION_VOTE (16 R426 to R430): the transactions that the cores offer, in the order of their coming; where the
Trivets misread the oldest entry of a lane, at the vote and at the retry; and the Trivets whose results are wrong at each.
The vote is made when the entries of the transaction are present in every voted lane. -/
def execTransactionVote (dt : Nat) (h : Fin 4) (offers : List (Fin 3 × LaneEntry)) (misread again : Vector (Option LaneEntry) 3)
    (bad badAgain : Vector Bool 2) (s : State) : Host.Outcome State Fault Refusal :=
  let s := advance s dt
  done (
    if !votes s.hearths[h] || !s.start.bootBegun then s
    else
      let s := issueOffers s h offers
      let x := s.hearths[h]
      let first : Fin 3 := if x.mode = .split then 0 else (votedLanes x).headD 0
      let l := laneHeads x misread
      let l' := laneHeads x again
      if x.disagreed.isSome || !lanesPresent x then s
      else if votesAgree x l && trivetsAgree x bad then issue s h l[first]
      else if votesAgree x l' && trivetsAgree x badAgain then
        let s := classify s h .transient 0 l'[first].seq
        let s := bumpHearth s h 32 (fun y => y.transients) (fun c y => { y with transients := c }) (232 + h.val) (hearthAddr h 4 0 0)
        issue s h l'[first]
      else s.modHearth h (fun y => { y with disagreed := some (l', badAgain) }))

/-- A core is retired (16 R434): the Hearth runs in DUPLEX, or halts when it had no core to spare. -/
def retireCore (s : State) (h : Fin 4) (i : Fin 3) : State :=
  let x := s.hearths[h]
  let s := raise (s.modHearth h (fun y => { y with
    coreOk := y.coreOk.set i false, retiredAt := y.retiredAt.set i s.tb.now, resync := none, mode := .duplex
    lanes := y.lanes.set i [] }))
    (228 + h.val) (hearthAddr h 0 i.val x.lastSeq.toNat)
  let s := dropLine s (224 + h.val)
  if (votedLanes s.hearths[h]).length < 2 then haltHearth s h 4 i.val else s

/-- A core is resynchronised from the lowest-lettered other core in service (16 R433). -/
def startResync (s : State) (h : Fin 4) (i : Fin 3) (latent : Bool) : State :=
  let src := ((coresIn s.hearths[h]).filter (fun j => j != i)).headD 0
  s.modHearth h (fun y => { y with
    mode := .resync, resync := some { core := i, source := src, startedAt := s.clk, latent := latent }
    lanes := y.lanes.set i []
    resyncAt := if latent then y.resyncAt else vmod y.resyncAt i (fun _ => some s.clk) })

/-- A Trivet fails (16 R437). -/
def failTrivet (s : State) (h : Fin 4) (t : Fin 2) (seq : Nat) : State :=
  let s := s.modHearth h (fun y => { y with trivetOk := y.trivetOk.set t false })
  if h = 0 then haltHearth s h 5 t.val
  else
    let s := raise s (228 + h.val) (hearthAddr h 1 t.val seq)
    s.modHearth h (fun y => { y with mode := if y.mode = .triplex then .singleVoter else y.mode })

/-- A core fault (16 R432, R434): its line stays asserted until the core has been resynchronised or is retired (17 R454). -/
def coreFault (s : State) (h : Fin 4) (i : Fin 3) (e : LaneEntry) (good : Bool) : State :=
  let cause := if e.seq ≠ BitVec.ofNat 8 s.hearths[h].txn ∧ e.parityOk = true ∧ good = false then 1 else 0
  let s := classify s h .core i e.seq
  let s := raiseVote s (224 + h.val) (hearthAddr h cause i.val e.seq.toNat)
  let s := bumpHearth s h 16 (fun y => y.masked) (fun c y => { y with masked := c }) (224 + h.val) (hearthAddr h 2 i.val e.seq.toNat)
  match s.hearths[h].resyncAt[i] with
  | some a => if s.clk < a + msTicks 1000 then retireCore s h i else startResync s h i false
  | none => startResync s h i false

/-- A lane fault (16 R436): the spare row, which ends the condition at once, or the lane goes out. -/
def laneFault (s : State) (h : Fin 4) (i : Fin 3) (e : LaneEntry) : State :=
  let x := s.hearths[h]
  let s := classify s h .lane i e.seq
  if !x.spareUsed[i] then
    let cause := if e.parityOk ∧ e.seq ≠ BitVec.ofNat 8 x.txn then 2 else 1
    let s := s.modHearth h (fun y => { y with
      spareUsed := y.spareUsed.set i true, sparedRow := vmod y.sparedRow i (fun _ => some (finOf 4 x.txn)) })
    let s := dropLine (raiseVote s (232 + h.val) (hearthAddr h cause i.val e.seq.toNat)) (232 + h.val)
    bumpHearth s h 8 (fun y => y.spared) (fun c y => { y with spared := c }) (232 + h.val) (hearthAddr h 4 i.val e.seq.toNat)
  else
    let s := raise (s.modHearth h (fun y => { y with laneOk := y.laneOk.set i false, mode := .duplex, lanes := y.lanes.set i [] }))
      (228 + h.val) (hearthAddr h 2 i.val e.seq.toNat)
    if (votedLanes s.hearths[h]).length < 2 then haltHearth s h 4 i.val else s

/-- The minority lane: it differs from two good lanes that agree (16 R432). -/
def oddLane (x : Hearth) (l : Vector LaneEntry 3) : Option (Fin 3) :=
  let pair (i j : Fin 3) : Bool := entryGood x l[i] && entryGood x l[j] && sameFields l[i] l[j]
  if pair 0 1 then some 2 else if pair 0 2 then some 1 else if pair 1 2 then some 0 else none

/-- The classification of a Hearth with three voted lanes (16 R432). -/
def classifyThree (s : State) (h : Fin 4) (l : Vector LaneEntry 3) (bad : Vector Bool 2) (dg : Vector (BitVec 32) 3) : State :=
  let x := s.hearths[h]
  let both := x.trivetOk[(0 : Fin 2)] && x.trivetOk[(1 : Fin 2)]
  let cause := if both then 3 else 4
  match oddLane x l with
  | none => haltHearth (classify s h .undecidable 0 (BitVec.ofNat 8 x.txn)) h cause 0
  | some i =>
    let k : Fin 3 := if i = 0 then 1 else 0
    if both && (bad[(0 : Fin 2)] || bad[(1 : Fin 2)]) then
      if bad[(0 : Fin 2)] && bad[(1 : Fin 2)] then haltHearth (classify s h .trivet 0 l[k].seq) h 3 0
      else
        let t : Fin 2 := if bad[(0 : Fin 2)] then 0 else 1
        let s := failTrivet (classify s h .trivet 0 l[k].seq) h t l[k].seq.toNat
        if s.hearths[h].mode = .halted then s else issue s h l[k]
    else
      let s := if dg[i] ≠ dg[k] then coreFault s h i l[i] (sameFields l[i] l[k] == false) else laneFault s h i l[i]
      if s.hearths[h].mode = .halted then s else issue s h l[k]

/-- The classification of a Hearth with two voted lanes (16 R435, R440). -/
def classifyTwo (s : State) (h : Fin 4) (l : Vector LaneEntry 3) (dg : Vector (BitVec 32) 3) (i j : Fin 3) : State :=
  let x := s.hearths[h]
  let gi := entryGood x l[i]
  let gj := entryGood x l[j]
  if dg[i] = dg[j] ∧ gi ≠ gj ∧ x.mode ≠ .resync then
    let (b, g) := if gi then (j, i) else (i, j)
    let s := laneFault s h b l[b]
    if s.hearths[h].mode = .halted then s else issue s h l[g]
  else haltHearth (classify s h .undecidable i (BitVec.ofNat 8 x.txn)) h 4 i.val

/-- DISAGREEMENT_CLASSIFY (16 R432, R435, R440, R442). -/
def execDisagreementClassify (dt : Nat) (h : Fin 4) (digests : Vector (BitVec 32) 3) (s : State) : Host.Outcome State Fault Refusal :=
  let s := advance s dt
  let x := s.hearths[h]
  done (match x.disagreed with
    | none => s
    | some (l, bad) =>
      if !votes x then s
      else if x.mode = .split then haltHearth (classify s h .undecidable 0 l[(0 : Fin 3)].seq) h 3 0
      else
        match votedLanes x with
        | [_, _, _] => classifyThree s h l bad digests
        | [i, j] => classifyTwo s h l digests i j
        | _ => haltHearth s h 4 0)

/-- A core diverges latently (16 R432, R434). -/
def latentDivergence (s : State) (h : Fin 4) (i : Fin 3) : State :=
  let x := s.hearths[h]
  let s := classify s h .latent i (BitVec.ofNat 8 x.txn)
  let s := raise s 236 (hearthAddr h 0 i.val (x.txn % 256))
  let s := bumpHearth s h 16 (fun y => y.latents) (fun c y => { y with latents := c }) 236 (hearthAddr h 1 i.val (x.txn % 256))
  let n := x.latentRun[i] + 1
  let s := s.modHearth h (fun y => { y with latentRun := Vector.ofFn (fun k : Fin 3 => if k = i then n else 0) })
  if 3 ≤ n then retireCore s h i else startResync s h i true

/-- DIGEST_POINT (16 R431, R432, R435, R440): every 1 ms, not during a resynchronisation, a split or a disagreement. -/
def execDigestPoint (dt : Nat) (h : Fin 4) (digests : Vector (BitVec 32) 3) (s : State) : Host.Outcome State Fault Refusal :=
  let s := advance s dt
  let x := s.hearths[h]
  let due : Bool := match x.digestAt with
    | none => true
    | some a => elapsed s a (msTicks 1)
  done (
    if !votes x || x.mode == .split || x.mode == .resync || x.disagreed.isSome || !due || !s.start.bootBegun then s
    else
      let s := s.modHearth h (fun y => { y with digestAt := some s.clk })
      match coresIn x with
      | [a, b, c] =>
        let ab := digests[a] == digests[b]
        let ac := digests[a] == digests[c]
        let bc := digests[b] == digests[c]
        if ab && ac then s.modHearth h (fun y => { y with latentRun := Vector.replicate 3 0 })
        else if ab then latentDivergence s h c
        else if ac then latentDivergence s h b
        else if bc then latentDivergence s h a
        else haltHearth (classify s h .undecidable a (BitVec.ofNat 8 x.txn)) h 3 0
      | [a, b] => if digests[a] = digests[b] then s else haltHearth (classify s h .undecidable a (BitVec.ofNat 8 x.txn)) h 4 0
      | _ => s)

/-- RESYNC_COMPLETE (16 R433, R434): the digests of the cores in service after the copy. -/
def execResyncComplete (dt : Nat) (h : Fin 4) (digests : Vector (BitVec 32) 3) (s : State) : Host.Outcome State Fault Refusal :=
  let s := advance s dt
  let x := s.hearths[h]
  done (match x.resync with
    | none => s
    | some r =>
      if (coresIn x).all (fun i => digests[i] == digests[r.source]) then
        dropLine (s.modHearth h (fun y => placeCore { y with resync := none, mode := serviceMode y } r.core)) (224 + h.val)
      else retireCore s h r.core)

/-- TRIVET_ONLINE_TEST (16 R437, R439): once a second while in TRIPLEX. -/
def execTrivetOnlineTest (dt : Nat) (h : Fin 4) (pass : Bool) (s : State) : Host.Outcome State Fault Refusal :=
  let s := advance s dt
  let x := s.hearths[h]
  let due : Bool := match x.testAt with
    | none => true
    | some a => elapsed s a (msTicks 1000)
  done (
    if !votes x || x.mode != .triplex || !due || !s.start.bootBegun then s
    else
      let t : Fin 2 := if x.nextTest < 144 then 0 else 1
      let s := s.modHearth h (fun y => { y with testAt := some s.clk, nextTest := (y.nextTest + 1) % 288 })
      if pass then s
      else failTrivet (raise s (232 + h.val) (hearthAddr h 3 t.val (x.txn % 256))) h t (x.txn % 256))

/-! ### Split and rejoin (16 R441 to R443) -/

/-- The condition of the table under R424. -/
def maySplit (s : State) (h : Fin 4) : Bool :=
  if h = 0 then false else if h = 2 then !s.anyMachine else !s.anyMachine && !s.anyAxis

/-- HEARTH_SPLIT (16 R441, 23 R594). -/
def execHearthSplit (tr : Transport) (tag : BitVec 16) (s : State) : Host.Outcome State Fault Refusal :=
  done (onCmd s tr tag 0x0A20 (fun s c =>
    let n := field c.data 0 1
    let mode := field c.data 1 1
    let h : Fin 4 := finOf 4 n
    needState s c (decide (1 ≤ n) && decide (n ≤ 3) &&
        (s.hearths[h].mode != .triplex || !maySplit s h || s.hearths[h].splitting.isSome)) 2 (fun s =>
    if n < 1 ∨ 3 < n then reply s c stBADPARAM (elemHeader 0 0)
    else if 1 < mode then reply s c stBADPARAM (elemHeader 0 1)
    else reply (s.modHearth h (fun y => { y with splitting := some { startedAt := s.clk, test := mode == 1, debug := false } })) c stOK [])))

/-- A Hearth is in SPLIT (16 R442): 14.13 and the counter. -/
def enterSplit (s : State) (h : Fin 4) (debug : Bool) : State :=
  let s := s.modHearth h (fun y => { y with
    mode := .split, debugSplit := y.debugSplit || debug, lanes := (y.lanes.set 1 []).set 2 [] })
  let s := raise s 237 (hearthAddr h 0 0 0)
  bumpHearth s h 16 (fun y => y.splits) (fun c y => { y with splits := c }) 237 (hearthAddr h 3 0 0)

/-- Cores B and C take the state of core A, at the transaction to be voted next (16 R443). -/
def rejoined (x : Hearth) : Hearth :=
  placeCore (placeCore { x with mode := serviceMode x, debugSplit := false, log := [] } 1) 2

/-- SPLIT_COMPLETE (16 R442): not before a resynchronisation in progress has ended and every lane is empty. -/
def execSplitComplete (dt : Nat) (h : Fin 4) (s : State) : Host.Outcome State Fault Refusal :=
  let s := advance s dt
  let x := s.hearths[h]
  done (match x.splitting with
    | none => s
    | some r =>
      if x.resync.isSome || x.disagreed.isSome || x.mode == .halted || (votedLanes x).any (fun i => x.lanes[i] != []) then s
      else enterSplit (s.modHearth h (fun y => { y with splitting := none, testing := r.test })) h r.debug)

/-- HEARTH_REJOIN (16 R443, 23 R594): its reply follows the rejoin. -/
def execHearthRejoin (tr : Transport) (tag : BitVec 16) (s : State) : Host.Outcome State Fault Refusal :=
  done (onCmd s tr tag 0x0A21 (fun s c =>
    let n := field c.data 0 1
    let h : Fin 4 := finOf 4 n
    needState s c (decide (1 ≤ n) && decide (n ≤ 3) && (s.hearths[h].mode != .split || s.hearths[h].rejoining.isSome)) 1 (fun s =>
    if n < 1 ∨ 3 < n then reply s c stBADPARAM (elemHeader 0 0)
    else waitCommit (s.modHearth h (fun y => { y with
        testing := false, waitsFor := some c.id, rejoining := some { startedAt := s.clk, test := false, debug := false } })) c)))

/-- CORE_TEST_END (16 R443). -/
def execCoreTestEnd (dt : Nat) (h : Fin 4) (s : State) : Host.Outcome State Fault Refusal :=
  let s := advance s dt
  done (
    if s.hearths[h].testing ∧ s.hearths[h].mode = .split then
      s.modHearth h (fun y => { y with testing := false, rejoining := some { startedAt := s.clk, test := true, debug := false } })
    else s)

/-- REJOIN_COMPLETE (16 R443): the digests of the three cores after the copy. -/
def execRejoinComplete (dt : Nat) (h : Fin 4) (digests : Vector (BitVec 32) 3) (s : State) : Host.Outcome State Fault Refusal :=
  let s := advance s dt
  let x := s.hearths[h]
  let answer (s : State) : State :=
    let s' := s.modHearth h (fun y => { y with waitsFor := none, rejoining := none, debugHalted := false })
    replyAt s' x.waitsFor stOK [BitVec.ofNat 8 s'.hearths[h].mode.code]
  done (match x.rejoining with
    | none => s
    | some r => if x.splitting.isSome then s else
      let off := (coresIn x).filter (fun i => i != 0 && digests[i] != digests[(0 : Fin 3)])
      if off = [] then
        answer (raise (s.modHearth h rejoined) 237 (hearthAddr h 1 0 0))
      else if !r.second then s.modHearth h (fun y => { y with rejoining := some { r with second := true } })
      else
        match off with
        | [i] => answer (retireCore (s.modHearth h rejoined) h i)
        | _ =>
          let s := raise (s.modHearth h (fun y => { y with waitsFor := none, rejoining := none, debugHalted := false })) 237 (hearthAddr h 2 0 0)
          replyAt s x.waitsFor stEXECFAULT [])

/-! ### Debug (16 R444 to R448) -/

/-- DEBUG_HALT (16 R444 to R448). -/
def execDebugHalt (dt : Nat) (h : Fin 4) (s : State) : Host.Outcome State Fault Refusal :=
  let s := advance s dt
  let x := s.hearths[h]
  done (
    if !s.ports.unlocked || x.debugHalted || x.mode == .halted || (h != 0 && !maySplit s h) then s
    else
      let s := if h = 0 then forAll four (fun m s => setShutdown s m true) s else s
      let s := s.modHearth h (fun y =>
        if y.replaySel then { y with debugHalted := true, log := [] }
        else if y.mode = .split then { y with debugHalted := true, debugSplit := true }
        else { y with debugHalted := true, splitting := some { startedAt := s.clk, test := false, debug := true } })
      raise s 238 (hearthAddr h 1 0 0))

/-- A halt in REPLAY that has not been converted to the main path. -/
def inReplay (x : Hearth) : Bool := x.replaySel && !x.debugSplit && x.splitting.isNone && x.mode != .split

/-- DEBUG_RESUME (16 R445, R447, R448): a resume, or a single step, with the digests compared in REPLAY. -/
def execDebugResume (dt : Nat) (h : Fin 4) (single : Bool) (digests : Vector (BitVec 32) 3) (s : State) : Host.Outcome State Fault Refusal :=
  let s := advance s dt
  let x := s.hearths[h]
  let rejoin (s : State) : State := s.modHearth h (fun y => { y with rejoining := some { startedAt := s.clk, test := false, debug := true } })
  done (
    if !s.ports.unlocked || !x.debugHalted || x.rejoining.isSome then s
    else if inReplay x then
      let agree := (coresIn x).all (fun i => digests[i] == digests[(0 : Fin 3)])
      if agree then
        if single then s.modHearth h (fun y => { y with log := [] })
        else raise (s.modHearth h (fun y => { y with debugHalted := false, log := [] })) 238 (hearthAddr h 2 0 0)
      else
        let s := enterSplit s h true
        if single then s else rejoin (raise s 238 (hearthAddr h 2 0 0))
    else if single then s
    else rejoin (raise s 238 (hearthAddr h 2 0 0)))

/-- REPLAY_WRITE (16 R447, R448): a write to a core's state is logged, the 257th converts the halt to the main path; one
to shared memory is a single bus write. -/
def execReplayWrite (dt : Nat) (h : Fin 4) (shared : Bool) (target value : BitVec 32) (s : State) : Host.Outcome State Fault Refusal :=
  let s := advance s dt
  let x := s.hearths[h]
  done (
    if !s.ports.unlocked || !x.debugHalted then s
    else if shared then
      let e : LaneEntry := {
        addr := target, data := if target.getLsbD 2 then value.setWidth 64 else value.setWidth 64 <<< 32
        enables := if target.getLsbD 2 then 0x0F else 0xF0, kind := 2, attr := 0, seq := BitVec.ofNat 8 x.txn, parityOk := true }
      busStore (s.put (.bus h e)) h e
    else if !inReplay x then s
    else if x.log.length < 256 then s.modHearth h (fun y => { y with log := y.log ++ [⟨target, value⟩] })
    else raise (enterSplit (s.modHearth h (fun y => { y with log := [] })) h true) 238 (hearthAddr h 3 0 0))

/-! ### Inputs of a Hearth (16 R427; 17 R460) -/

/-- A Hearth takes messages (17 R460): not while it resynchronises, is halted or stands in a debug halt. -/
def hearthTakes (x : Hearth) : Bool :=
  (x.mode == .triplex || x.mode == .duplex || x.mode == .singleVoter || x.mode == .split) && !x.debugHalted

/-- The first message of a Hearth leaves the queue. -/
def takeMessage (h : Fin 4) : List EventMsg → List EventMsg
  | [] => []
  | m :: ms => if m.hearth = h then ms else m :: takeMessage h ms

/-- EVENT_MESSAGE_TAKE (17 R460): the oldest message of the Hearth is bound to a transaction number (16 R427). A drop that
is owed its 15.0 is reported once there is room. -/
def execEventMessageTake (dt : Nat) (h : Fin 4) (s : State) : Host.Outcome State Fault Refusal :=
  let s := advance s dt
  done (if hearthTakes s.hearths[h] then
      let s := match s.flue.queue.find? (fun m => m.hearth == h) with
        | some m => bindInput (s.modFlue (fun f => { f with queue := takeMessage h f.queue })) h (.message m)
        | none => s
      if s.flue.dropOwed ∧ s.flue.queue.length < 64 then raise (s.modFlue (fun f => { f with dropOwed := false })) 240 0 else s
    else s)

/-- H0_CROSSLINK_RECEIVE (15 R378, R381, R391): a heartbeat with the Damper's microsecond count and its requests,
bound to a transaction number of H0 (16 R427). -/
def execH0CrosslinkReceive (dt : Nat) (usec : BitVec 32) (s : State) : Host.Outcome State Fault Refusal :=
  let s := advance s dt
  done (
    if !h0Runs s then s
    else
      let s := s.modSafety (fun x => { x with dampSeenAt := s.clk, dampSeenUs := usec, dampLost := false })
      let s := bindInput s 0 (.crossLink usec)
      let s := forAll four (fun m s =>
        match s.safety.damper.fns[m].ss1 with
        | some x => startSs1 s true m x.timed
        | none => s) s
      evalSafety s)

/-- DBG_ACCESS (21 R551; 16 R444, R447): while unlocked, a debug access selects REPLAY mode or the main path for the next
halt. -/
def execDbgAccess (dt : Nat) (h : Fin 4) (select : Option Bool) (s : State) : Host.Outcome State Fault Refusal :=
  let s := advance s dt
  done (match select with
    | some b => if s.ports.unlocked && s.ports.ir == .dbgAccess && !s.hearths[h].debugHalted then s.modHearth h (fun y => { y with replaySel := b }) else s
    | none => s)

end Sys2Proof.Machine
end

