-- ==== Sys2Proof/Machine/Grid.lean ====
section
/-! DEFINITION. The decision grid: DECISION_STROBE, FRAME_LAUNCH and SAMPLE_BOUNDARY (01_architecture R24 to R43; 04 R97
to R105; 08 R218, R220; 10 R265 to R268; 22 R567). -/
namespace Sys2Proof.Machine

/-! ### Trace samples (22 R567, R568) -/

/-- Raw value of the parameter that a trace channel names, with its sign. -/
def traceValue (s : State) (k : Nat) : Int :=
  let w := s.p0 0x0720 (k + 1)
  let t := bits w 47 32
  let v := readParam s (t / 4096) (t % 4096) (bits w 31 16) (bits w 15 8)
  match pinfo (t / 4096) (bits w 31 16) (bits w 15 8) with
  | some p => if p.ty.isSigned then signed (8 * p.ty.width) v else v
  | none => v

/-- One sample of every channel in use; the level trigger's channel is compared with its last sample (log 25). -/
def traceTake (s : State) : State :=
  let ch := traceChannels s
  let k := s.p0 0x0720 25 % 16
  let s := traceSample s (ch.map (fun i => BitVec.ofInt 32 (traceValue s i)))
  if k ∈ ch then
    let v := traceValue s k
    let lim := signed 32 (s.p0 0x0720 26)
    let hit : Bool := match s.trace.lastLevel with
      | none => false
      | some a => if bit (s.p0 0x0720 25) 7 then decide (a < lim) && decide (lim ≤ v) else decide (lim < a) && decide (v ≤ lim)
    s.modTrace (fun t => { t with lastLevel := some v, crossed := hit })
  else s

/-- The recorder at a strobe (`decision`) or a sample boundary of `m`. -/
def traceAt (s : State) (m : Fin 4) (decision : Bool) : State :=
  let w := s.p0 0x0720 17
  if w % 4 ≠ m.val ∨ bit w 7 ≠ decision ∨ s.trace.phase = .off ∨ s.trace.phase = .copy then s
  else if decision then traceTake s
  else
    let n := s.trace.skip + 1
    if s.p0 0x0720 18 ≤ n then traceTake (s.modTrace (fun t => { t with skip := 0 })) else s.modTrace (fun t => { t with skip := n })

/-! ### DECISION_STROBE (01 R24, R25, R30; 04 R98, R105) -/

/-- Ticks since the last bit of an SD input was sampled (04 R96, R98). -/
def latchAge (s : State) (m c : Fin 4) : Nat := ((stampOf s s.clk - s.pm m 0x2201 (c.val + 1)) % 10).toNat

/-- Fast word of a channel at this strobe and its age in ticks: the filter's word over the modulator bits `sd`, the last
converted word, or nothing. -/
def strobeWord (s : State) (m c : Fin 4) (sd : BitVec 58) : Int × Nat :=
  match chanSource s m c with
  | 1 => (fastWord sd, 285 + latchAge s m c)
  | 2 => match s.chans[m][c].sar with
    | some (w, t) => (w, s.clk - t)
    | none => (s.chans[m][c].word, s.chans[m][c].age)
  | _ => (0, 0)

def latchWord (s : State) (m c : Fin 4) (sd : BitVec 58) : State :=
  let w := strobeWord s m c sd
  s.modChan m c (fun x => { x with word := w.1, age := w.2 })

/-- The words that the decision of `m` on this strobe reads. -/
def strobeWords (s : State) (m : Fin 4) (vlow : BitVec 58) : StrobeWords :=
  let w (j c : Fin 4) : Int := s.chans[j][c].word
  let p := portOf s m
  { at' := s.clk, k := s.tb.strobes[m], iu := w m 0, iv := w m 1, idc := w m 2, vdc := w m 3, age := s.chans[m][(0 : Fin 4)].age
    vlow := if s.pm m 0x2421 1 < 16 then fastWord vlow else match s.tfu[m].npSar with
      | some x => x.1
      | none => 0
    bridges := if topo s m = 3 then ([1, 2, 3].filter (fun b => decide (b < nBridges s m))).map (fun b =>
        let j := bridgeLink s m b
        (w j 0, w j 1)) else []
    pos := match p with
      | some p => posNow s p
      | none => 0
    posAt := s.clk
    loopSpeed := match p with
      | some p => if portMode s p = 1 ∨ portMode s p = 2 then s.posPorts[p].loopSpeed else 0
      | none => 0
    portLost := match p with
      | some p => s.posPorts[p].lost
      | none => false }

/-- The TFU that decides for channel `m` runs. -/
def tfuLive (s : State) (m : Fin 4) : Bool := linkOn s m && !s.tfu[lead s m].stopped

/-- The four channels of `m` latch their words, and those of the other bridges of a paralleled stage (04 R97; 06 R167). -/
def latchStrobe (s : State) (m : Fin 4) (iu iv idc vdc : BitVec 58) (bridges : Vector (BitVec 58 × BitVec 58) 3) : State :=
  forAll [0, 1, 2] (fun (k : Fin 3) s =>
    if topo s m = 3 ∧ k.val + 1 < nBridges s m then
      let j := bridgeLink s m (k.val + 1)
      latchWord (latchWord s j 0 bridges[k].1) j 1 bridges[k].2
    else s) (latchWord (latchWord (latchWord (latchWord s m 0 iu) m 1 iv) m 2 idc) m 3 vdc)

/-- A strobe of `m` is made: it is numbered, and waits for its step 9 with two more at most (01 R24, R28). -/
def markStrobe (s : State) (m : Fin 4) (live : Bool) : State :=
  s.modTb (fun b => { b with
    lastStrobe := vmod b.lastStrobe m (fun _ => some s.clk)
    waiting9 := vmod b.waiting9 m (fun l => l.drop (l.length - 2) ++ [{ at' := s.clk, k := b.strobes[m], ready := false, live := live }]) })

/-- The words of a strobe count into the means of the DC voltage, and wait for the TFU of `m` where it runs: with one
more at most (01 R30, 05 R148). -/
def takeStrobe (s : State) (m : Fin 4) (w : StrobeWords) (live : Bool) : State :=
  s.modTfu m (fun t => { t with
    vdcSum := t.vdcSum + correct s m 3 w.vdc, vdcCount := t.vdcCount + 1, vdcLast := correct s m 3 w.vdc
    inputs := if live then (match t.inputs with
      | a :: _ :: _ => [a, w]
      | l => l ++ [w]) else t.inputs })

/-- This tick is a strobe of `m` that has not been made yet (01 R24). -/
def strobeDue (s : State) (m : Fin 4) : Bool :=
  s.tb.counting && decide (s.phi m ≤ s.tb.now.toNat) && decide ((s.tb.now.toNat - s.phi m) % s.D m = 0) && s.tb.lastStrobe[m] != some s.clk

/-- DECISION_STROBE: strobe k × D + φ of machine `m`. `iu` to `vdc` are the last 58 modulator bits of its SD inputs,
`vlow` those of the lower-half input of a three-level machine on an SD input, `bridges` those of the phase currents of
bridges 1 to 3 (04 R97). Before the boot ROM has
started the TFU region, TB's strobe alone happens (02 R50). -/
def execDecisionStrobe (dt : Nat) (m : Fin 4) (iu iv idc vdc vlow : BitVec 58) (bridges : Vector (BitVec 58 × BitVec 58) 3)
    (s : State) : Host.Outcome State Fault Refusal :=
  let s := advance s dt
  done (if !strobeDue s m then s
    else
      let s := s.modTb (fun b => { b with strobes := vmod b.strobes m (· + 1) })
      if !s.runs then markStrobe s m false
      else
        let s := portStrobe (latchStrobe s m iu iv idc vdc bridges) m
        let w := strobeWords s m vlow
        let live := tfuLive s m
        traceAt (calStrobe (dcStrobe (markStrobe (takeStrobe s m w live) m live) m w.vdc) m w) m true)

/-! ### FRAME_LAUNCH (01 R28, R29, R38 to R41; 10 R265, R268) -/

/-- What the TFU keeps of the frame of strobe `k` that has been launched at `L`: the vector with the tick from which it is
in force, the legs it changed, the transitions counted and the edge (05 R128, R139, R141, R145; 06 R178). An all-off or
trip frame ends the integration 64 ticks after its launch, without the driver delay (DESIGN CHOICE, log 82). -/
def launched (s : State) (m : Fin 4) (L k : Nat) (v : Vec) (shift : Int) : State :=
  let e := edgeAt s m L v shift
  s.modTfu m (fun t => { t with
    inForce := if (match t.inForce.getLast? with
        | some x => x.2 == v
        | none => false) then t.inForce else t.inForce ++ [(e.toNat, v)]
    legAt := legsAfter (legBits s m) k t.lastVec v t.legAt
    onCount := t.onCount + popcount (v.on &&& ~~~t.lastVec.on).toNat
    lastEdge := if moves t.lastVec v then some e else t.lastEdge
    bridgeUp := BitVec.ofNat 12 (lastUp v)
    lastVec := v })

/-- A frame leaves, and the chopper follows it (12 R322, R323). -/
def launchFrame (s : State) (m : Fin 4) (L : Nat) (code : FrameCode) (sw : BitVec 24) (brk : Bool) (shift : Int) : State :=
  let s := sendFrame s m L code sw brk shift
  let s := if brk then s.modDrive m (fun d => { d with brkOn := d.brkOn + 1 }) else s
  if chopFitted s m then chopUnavail s m code else s

/-- A frame with every switch bit off. -/
def launchOff (s : State) (m : Fin 4) (L k : Nat) : State :=
  launched (launchFrame s m L .off 0 false 0) m L k { off := true } 0

/-- A frame of `m` was not ready: its miss counter and source 2.(0 + m) (01 R43). -/
def countFrameMiss (s : State) (m : Fin 4) : State :=
  let (k, o) := ctrInc 16 s.tb.missTfu[m]
  let s := s.modTb (fun b => { b with missTfu := vmod b.missTfu m (fun _ => k) })
  raiseIf o (raise (noteSource s (lead s m) (32 + m.val) 0) (32 + m.val) 0) (32 + m.val) 0

/-- Missed frames running of the grid of `n` (01 R41, R43). -/
def setRunTfu (s : State) (n : Fin 4) (k : Nat) : State := s.modTb (fun b => { b with runTfu := vmod b.runTfu n (fun _ => k) })

/-- The third miss running: the TFU of `n` stops, with the source of channel `m` (01 R41). -/
def missStop (s : State) (n m : Fin 4) : State := stopTfu (raise s (36 + m.val) 0) n

/-- The repeat frame (01 R39); a pulse of LOCATE that it falls in is disturbed (07 R194). -/
def repeatFrame (s : State) (m : Fin 4) (L : Nat) : State :=
  let s := s.modStartM (lead s m) (fun x => { x with locateSt := x.locateSt.map (fun l => if l.step ≤ 2 then { l with spoilt := true } else l) })
  launchFrame s m L .rep s.gl[m].sw s.drive[m].brk 0

/-- A missed frame (01 R38 to R41, R43): the repeat frame, or at the third running the stop of the TFU. -/
def frameMissed (s : State) (m : Fin 4) (L k : Nat) : State :=
  let s := setRunTfu (countFrameMiss s m) m (s.tb.runTfu[m] + 1)
  if 3 ≤ s.tb.runTfu[m] then launchOff (missStop s m m) m L k else repeatFrame s m L

/-- The frame of a strobe is not ready at step 9. -/
def frameLate (s : State) (m : Fin 4) (strobe : Nat) : Bool :=
  s.tb.waiting9[m].any (fun w => w.at' == strobe && !(w.ready && s.tfu[m].ready.any (fun r => r.strobe == strobe)))

/-- Step 9 of a pair judged once for both channels (06 R172): a late frame counts on its own channel, and the misses
running are those of the pair. A lost set is left out (12 R334). -/
def pairJudge (s : State) (n : Fin 4) (strobe : Nat) : State :=
  if s.tfu[n].pairStep9.any (fun x => x.1 == strobe) then s
  else
    let late := ([n, second n].filter (fun m => frameLate s m strobe && !onLostSet s m))
    let s := s.modTfu n (fun t => { t with pairStep9 := some (strobe, !late.isEmpty) })
    if late.isEmpty then setRunTfu s n 0
    else
      let s := setRunTfu (forAll late (fun m s => countFrameMiss s m) s) n (s.tb.runTfu[n] + 1)
      if 3 ≤ s.tb.runTfu[n] then stopTfu (forAll late (fun m s => raise s (36 + m.val) 0) s) n else s

/-- The ready frame of a strobe is sent; without one, the answer to its miss. -/
def sendReady (s : State) (m : Fin 4) (w : Waiting9) (L : Nat) (frame : Option ReadyFrame) (missed : State → State) : State :=
  match frame with
  | none => missed s
  | some r =>
    if w.ready then
      let s := if isPair s (lead s m) then s else setRunTfu s m 0
      if r.vec.off then launchOff s m L w.k
      else launched (launchFrame s m L .run r.vec.on r.brk r.shift) m L w.k r.vec r.shift
    else missed s

/-- The strobe `w` waits no more, nor does the frame that was ready for it or for an earlier one. -/
def dropStrobe (s : State) (m : Fin 4) (w : Waiting9) (rest : List Waiting9) : State :=
  (s.modTb (fun b => { b with waiting9 := vmod b.waiting9 m (fun _ => rest) })).modTfu m
    (fun t => { t with ready := t.ready.filter (fun r => decide (w.at' < r.strobe)) })

/-- Every frame of `m` is an all-off frame: its machine is in a state without switching, its TFU stopped, its link shut
down, its set lost (12 R334), or its strobe fell in no decision (01 R41; 05 R127; 10 R268). -/
def sendsOff (s : State) (m : Fin 4) (w : Waiting9) : Bool :=
  s.tfu[lead s m].allOff || s.tfu[lead s m].stopped || s.gl[m].shutdown || onLostSet s m || !w.live

/-- FRAME_LAUNCH: step 9 of the oldest strobe that waits, 120 ticks after it. -/
def execFrameLaunch (dt : Nat) (m : Fin 4) (s : State) : Host.Outcome State Fault Refusal :=
  let s := advance s dt
  done (match s.tb.waiting9[m] with
    | [] => s
    | w :: rest =>
      let L := w.at' + 120
      let n := lead s m
      let u := dropStrobe s m w rest
      if s.clk < L then s
      -- the gate-link PHYs are not released yet: high impedance (02 R48 step 14, R60)
      else if s.start.step < 14 then u
      else if !s.en n ∨ (bridgeOwner s m).isSome = true then
        let s := idleFrame (setRunTfu u m 0) m L
        if chopFitted s m then chopUnavail s m .standby else s
      else if s.tfu[n].tripped then
        launched (launchFrame (setRunTfu u m 0) m L .trip 0 s.drive[m].brk 0) m L w.k { off := true } 0
      else if sendsOff s m w then launchOff (setRunTfu u m 0) m L w.k
      else
        let frame := s.tfu[m].ready.find? (fun r => r.strobe == w.at')
        if isPair s n then
          let s := dropStrobe (pairJudge s n w.at') m w rest
          if s.tfu[n].stopped then launchOff s m L w.k
          else if s.tfu[n].pairStep9.any (·.2) then repeatFrame s m L
          else sendReady s m w L frame (fun s => repeatFrame s m L)
        else sendReady u m w L frame (fun s => frameMissed s m L w.k))

/-! ### SAMPLE_BOUNDARY (01 R24, R32, R33) -/

/-- What the TFU and its estimator do at a boundary of an enabled machine. -/
def tfuBoundary (s : State) (m : Fin 4) : State :=
  let s := periodEnd s m
  let s := bandScale s m
  if !s.en m then s
  else observerBoundary (magnetiseBoundary (voltageLevel (ceilingCheck s m) m) m) m

/-- The boundary as a Stove sees it when it is the commit point of its pool (01 R32; 08 R218, R220; 09 R239). The sealed
groups wait while a run is in progress (08 R221). -/
def stoveBoundary (s : State) (i : Fin 4) : State :=
  let s := profLatch s i
  let s := stoveCommit s i
  let s := if s.stove[i].runAt.isSome then s else idleSwap (commitGroups s (.stove i)) i
  let s := match stoveChan s i with
    | none => s
    | some c => chanCommit s c (s.Ts (commitMachine s i))
  stoveBegin s i

/-- STEPPED tells whether a steering step was made at this boundary of M0; no two steps are closer than 100 µs
(01 R26, 20 R534, 24 R603). -/
def steerStep (s : State) : State :=
  if s.tb.steer ≠ 0 ∧ (match s.tb.stepAt with
      | none => true
      | some a => elapsed s a 20000) = true then
    s.modTb (fun t => { t with
      stepped := true, stepAt := some s.clk, steer := t.steer - t.steer.sign, stepDue := t.stepDue + t.steer.sign })
  else s.modTb (fun t => { t with stepped := false })

/-- SAMPLE_BOUNDARY: a strobe whose k is a whole multiple of N. `fine` are the last 766 modulator bits of its SD
inputs (04 R97). -/
def execSampleBoundary (dt : Nat) (m : Fin 4) (fine : Vector (BitVec 766) 4) (s : State) : Host.Outcome State Fault Refusal :=
  let s := advance s dt
  done (if s.runs = true ∧ s.tb.lastStrobe[m] = some s.clk ∧ (s.tb.now.toNat - s.phi m) / s.D m % s.N m = 0 ∧ s.tb.lastBoundary[m] ≠ some s.clk then
      let s := forAll four (fun c s => s.modChan m c (fun x => { x with fine := fineWord fine[c], fineAge := 3825 + latchAge s m c })) s
      let s := s.modTb (fun b => { b with
        lastBoundary := vmod b.lastBoundary m (fun _ => some s.clk), boundaries := vmod b.boundaries m (· + 1) })
      let s := if m = 0 then steerStep s else s
      let s := factorCommit (portCalCommit (calCommit (commitGroups (takeStops (standbyStart s m) m) (.machine m)) m) m) m
      let s := beginRun s m
      let s := portsBoundary s m
      let s := tfuBoundary s m
      let s := brakeEnergy (renderCheck (releaseCheck (zeroCheck s m) m) m) m
      let s := shareBoundary (stillBoundary s m) m
      let s := forAll four (fun i s => if commitMachine s i = m then stoveBoundary s i else s) s
      let s := forAll four (fun k s => ceilingDrop s k) s
      traceAt s m false
    else s)

end Sys2Proof.Machine
end

