-- ==== Sys2Proof/Machine/ParamRule.lean ====
section
/-! DEFINITION. The rules that a written parameter must meet beside its range: relations between values, and states that
refuse a write (the rules of each chapter; 03 R72, R88, R633). -/
namespace Sys2Proof.Machine

/-- The state as it would be with every entry of a group stored; nothing else of the writes is done. -/
def withEntries (s : State) (l : List (Nat × Nat)) : State :=
  l.foldl (fun s e => s.setPar (keyKind e.1) (keyInst e.1) (keyIdx e.1) (keySub e.1) (pmask (keyKind e.1) (keyIdx e.1) (keySub e.1) e.2)) s

/-! ### Machine parameters: `q` is the state with the writes, `s` the state before -/

/-- Machine-owned inputs of one SAR (04 R103, R104). -/
def sarInputs (q : State) (m : Fin 4) (sar : Bool) : Nat :=
  (([0, 1, 2, 3, 4] : List (Fin 5)).filter (fun c => isSar q m c && sarOf q m c == sar)).length

/-- The conversion rate of each SAR: the sum of inputs over T_dec is at most 1.6 MS/s (04 R104). -/
def sarRateOk (q : State) : Bool :=
  [false, true].all (fun sar =>
    let d (m : Fin 4) : Nat := Nat.max 1 (q.D m)
    let n (m : Fin 4) : Nat := sarInputs q m sar
    let p := d 0 * d 1 * d 2 * d 3
    decide (125 * (n 0 * (d 1 * d 2 * d 3) + n 1 * (d 0 * d 2 * d 3) + n 2 * (d 0 * d 1 * d 3) + n 3 * (d 0 * d 1 * d 2)) ≤ p))

/-- Windows fit in T_dec, and every machine subject to one has the driver delay for it (06 R177). -/
def windowsOk (q : State) (m : Fin 4) : Bool :=
  (!ownsWindow q m || decide (150 + windowTail q m + 20 ≤ q.D m)) &&
    four.all (fun n => four.all (fun k => (n != m && k != m) || !subject q k n || decide (500 ≤ q.pm k 0x2406 0)))

/-- The resolver's pole pairs divide those of every machine its port serves (04 R112); r has no parameter (log 27). -/
def resolverOk (q : State) : Bool :=
  four.all (fun m => match portOf q m with
    | none => true
    | some p => portMode q p != 1 || polePairs q m % (1 + Config.outside 2 [p.val] % 8) == 0)

/-- An SSI transfer and its monoflop time end 2 µs before the next boundary (04 R117). -/
def ssiOk (q : State) : Bool :=
  four.all (fun p => match firstServed q p with
    | none => true
    | some m =>
      let f := portPar q p 10
      let clk := bits f 31 16
      portMode q p != 4 || decide ((bits f 5 0 + 2) * 200000 + (portPar q p 11 + 2) * 200 * clk ≤ q.Ts m * clk))

/-- The machines that share the grid of `m` meet the window rules (06 R170, R177). -/
def gridWindowsOk (q : State) (m : Fin 4) : Bool := four.all (fun n => q.gridOf n != q.gridOf m || windowsOk q n)

/-- The channels that a paralleled stage names run no machine, are no channel of a pair and serve no other bridge
(06 R167, R184). -/
def bridgesOk (s q : State) (m : Fin 4) : Bool :=
  ([1, 2, 3].filter (fun b => decide (b < nBridges q m))).all (fun b =>
    let v := q.pm m 0x2424 b
    let j : Fin 4 := finOf 4 v
    decide (4 ≤ v) || (j != m && !s.en (lead s j) && topo q j != 4 && topo q j != 5
      && four.all (fun n => n == m || (bridgeOf q n j).isNone)
      && [1, 2, 3].all (fun c => c == b || !decide (c < nBridges q m) || q.pm m 0x2424 c != v)))

/-- A topology that names no channel of another machine and leaves no channel of a pair alone (06 R170, R184). The first
channel of a pair is M0 or M2. -/
def topologyOk (s q : State) (m : Fin 4) : Bool :=
  let t := topo q m
  let other : Fin 4 := if m.val % 2 = 0 then second m else finOf 4 (m.val + 3)
  let paired (x : State) : Bool := if m.val % 2 = 0 then isPair x m else isPair x other
  (match t with
   | 4 => m.val % 2 == 0 && (bridgeOwner q other).isNone && (topo q other == 5 || !s.en other)
   | 5 => m.val % 2 == 1 && (bridgeOwner q m).isNone && (topo q other == 4 || !s.en m)
   | 3 => bridgesOk s q m
   | _ => true) && (!paired s || paired q)

/-- The lower-half input of `m` (06 R164): an SD input of another channel that runs no machine, or an AIN input that no
machine owns. -/
def npInputOk (s q : State) (m : Fin 4) : Bool :=
  let v := q.pm m 0x2421 1
  if v < 16 then
    let k : Fin 4 := finOf 4 (v / 4)
    k != m && !s.en (lead s k)
  else if v < 32 then
    let a : Fin 16 := finOf 16 (v - 16)
    four.all (fun k => (k == m || npAin q k != some a) && four.all (fun c => chanSource q k c != 2 || ainOf k c != a))
  else true

/-- The order of the DC-link thresholds (12 R317). -/
def thresholdsOk (q : State) (m : Fin 4) : Bool :=
  let t (k : Nat) : Nat := q.pm m 0x2700 k
  decide (t 1 < t 2) && decide (t 2 < 1024) && decide (1024 ≤ t 3) && decide (t 3 < t 4) && decide (t 4 < t 5)
    && decide (t 5 < t 6) && decide (t 6 < t 7) && decide (t 7 ≤ 1535)

/-- A hoisting machine stops by kinds 2 and 3 only (12 R329). -/
def hoistStopsOk (q : State) (m : Fin 4) : Bool := !hoisting q m || (decide (2 ≤ q.pm m 0x2703 1) && decide (2 ≤ q.pm m 0x2703 2))

/-- A routing word names inputs and connections that exist, and speed functions only where an SP port serves (15 R384, R385). -/
def routeOk (q : State) (m : Fin 4) (f w : Nat) : Bool :=
  let routed := bit w 3 || bit w 4
  let speed := (decide (3 ≤ f) && decide (f ≤ 8)) || (f == 2 && q.pm m 0x6102 1 != 0)
  !(bit w 3 && decide (bits w 2 0 = 7)) && decide (bits w 11 8 < 8)
    && (!routed || !speed || ((spOf q true m).isSome && (portOf q m).isSome))

/-- Relations of the parameters of one machine. -/
def machineRule (s q : State) (m : Fin 4) (idx sub v : Nat) : Bool :=
  match idx with
  | 0x2200 => sarRateOk q && windowsOk q m && four.all (fun k => q.pm k 0x2421 1 < 16 || npInputOk s q k)
  | 0x2300 => resolverOk q && ssiOk q
  | 0x2301 => resolverOk q
  | 0x2406 => windowsOk q m
  | 0x2408 =>
    !s.isSecond m && (sub == 3 || v % 5 == 0) && decide (q.pm m 0x2408 2 + 5 ≤ q.pm m 0x2408 1) && decide (4000 ≤ q.Ts m)
      && sarRateOk q && gridWindowsOk q m && ssiOk q
      && (sub != 3 || (match stoveOf q m with
          | some i => runTimeOk q i (q.Ts (commitMachine q i))
          | none => true))
  | 0x2420 => topologyOk s q m && sarRateOk q && gridWindowsOk q m && ssiOk q && decide (q.pm m 0x2420 3 ≤ q.pm m 0x2420 2)
  | 0x2421 => sub != 1 || (npInputOk s q m && sarRateOk q && windowsOk q m)
  | 0x2422 => decide (q.pm m 0x2422 2 + 20 ≤ q.pm m 0x2422 1)
  | 0x2424 => decide (4 ≤ sub) || topo q m != 3 || topologyOk s q m
  | 0x2430 => v == 0xFFFF || (v % 5 == 0 && decide (v + 5 ≤ q.D m))
  | 0x2431 => four.all (fun n => windowsOk q n)
  | 0x2500 => sub != 2 || hoistStopsOk q m
  | 0x2503 => decide (q.pm m 0x2503 5 * q.pm m 0x2503 3 < 5000000)
  | 0x2600 => sub != 1 || decide (10 * v + 500 ≤ 100 * Nat.min (q.pm m 0x2412 1) (q.pm m 0x2412 2))
  | 0x2700 => thresholdsOk q m
  | 0x2703 => hoistStopsOk q m
  | 0x6100 => routeOk q m sub v
  | 0x8200 => sub != 5 || v != 0
  | 0x8201 => sub != 1 || v == 0 || !hoisting q m
  | _ => true

/-! ### Module parameters -/

/-- A CAN port's timing: SJW within TSEG2, and the rates of 19 R496 for every enabled format. -/
def canRateOk (q : State) (p : Fin 6) : Bool :=
  let t (k : Nat) : Nat := q.p0 (0x1210 + p.val) k
  let f := q.p0 (0x1200 + p.val) 2
  -- a bit in ticks of 5 ns: 200 ticks are 1 Mbit/s
  let nom := t 1 * (1 + t 2 + t 3)
  let dat := t 5 * (1 + t 6 + t 7)
  decide (t 4 ≤ t 3) && decide (t 8 ≤ t 7) && decide (200 ≤ nom) && decide (nom ≤ 10000)
    && (!bit f 0 || decide (25 ≤ dat)) && (!bit f 1 || decide ((if bit f 2 then 10 else 20) ≤ dat))

/-- A trace channel in use names a parameter of 32 bits or less (22 R567). -/
def traceChannelOk (w : Nat) : Bool :=
  !bit w 63 || (match pinfo (bits w 47 44) (bits w 31 16) (bits w 15 8) with
    | some p => p.ty != .u64 && p.ty != .str && targetOk (BitVec.ofNat 16 (bits w 47 32))
    | none => false)

/-- The sampling rate of the recorder: channels × 4 bytes × rate at most 16 MB/s (22 R567). -/
def traceRateOk (q : State) : Bool :=
  let n := (traceChannels q).length
  let w := q.p0 0x0720 17
  let m : Fin 4 := finOf 4 w
  decide (50 * n ≤ (if bit w 7 then q.D m else q.Ts m * Nat.max 1 (q.p0 0x0720 18)))

/-- Sensor settings (18 R476 to R478). -/
def sensorOk (q : State) (n sub : Nat) : Bool :=
  let w := q.p0 (0x9400 + n) 2
  let lim (k : Nat) : Int := signed 16 (q.p0 (0x9400 + n) k)
  if sub = 1 ∨ sub = 2 then
    if n < 12 then true
    else if n < 20 then q.p0 (0x9400 + n) 1 == 0 || (decide (w < 16) && !ainOwned q (finOf 16 w))
    else decide (w &&& 0xFCE0 = 0) && decide (w % 32 ≤ 0x17) &&
      (q.p0 (0x9400 + n) 1 == 0 || (List.range 24).all (fun j =>
        j + 20 == n || q.p0 (0x9414 + j) 1 == 0 || q.p0 (0x9414 + j) 2 != w))
  else if 3 ≤ sub ∧ sub ≤ 5 then decide (lim 3 ≤ lim 4) && decide (lim 4 + 40 ≤ lim 5)
  else true

/-- Port settings (04 R632): the frame word keeps to its ranges with no reserved bit set. -/
def portWordOk (v : Nat) : Bool :=
  decide (v < 2 ^ 32) && decide (100 ≤ bits v 31 16) && decide (bits v 31 16 ≤ 2000) && decide (bits v 15 10 = 0) && decide (bits v 7 6 = 0)
    && decide (10 ≤ bits v 5 0) && decide (bits v 5 0 ≤ 32)

/-- Relations of the parameters of the module. -/
def moduleRule (q : State) (idx sub v : Nat) : Bool :=
  if 0x0410 ≤ idx ∧ idx < 0x0414 then (sub != 10 || portWordOk v) && resolverOk q && ssiOk q
  else if idx = 0x0400 then decide (1 ≤ bits v 13 8) && decide (bits v 13 8 ≤ 32)
  else if idx = 0x0720 then (if sub ≤ 16 then traceChannelOk v && traceRateOk q else decide (18 < sub) || traceRateOk q)
  else if 0x1200 ≤ idx ∧ idx < 0x1206 then sub != 2 || canRateOk q (finOf 6 (idx - 0x1200))
  else if 0x1210 ≤ idx ∧ idx < 0x1216 then canRateOk q (finOf 6 (idx - 0x1210))
  else if 0x9400 ≤ idx ∧ idx < 0x942C then sensorOk q (idx - 0x9400) sub
  else true

/-! ### Other targets -/

/-- The value a sealed group that has not yet become active gives a parameter, the last of them (01 R33). -/
def sealedValue (s : State) (key : Nat) : Option Nat :=
  ((s.porter.groups.flatMap (fun g => g.entries)).reverse.find? (fun e => e.1 == key)).map (fun e => e.2)

/-- Stove `i`, or axis `k`, takes channel `c`: it names it, or a sealed write that waits for its commit point does
(09 R237). -/
def stoveTakes (s q : State) (i : Fin 4) (c : Nat) : Bool :=
  q.ps i 0x3001 3 == c || sealedValue s (pkey 4 i.val 0x3001 3) == some c
def axisTakes (s q : State) (k : Fin 6) (c : Nat) : Bool :=
  q.pa k 0x5000 1 == c || sealedValue s (pkey 2 k.val 0x5000 1) == some c

/-- Users of a profile channel (09 R237): in `q`, the state with the packet's own values, and sealed in `s`. -/
def channelUsers (s q : State) (c : Nat) : Nat :=
  (four.filter (fun i => stoveTakes s q i c)).length + (six.filter (fun k => axisTakes s q k c)).length

/-- The trip level of an axis, code × 5 mV of the amplified shunt voltage, lies above 1.1 × I_fs × I_run / 256, where I_fs
gives 1.0 V (11 R305, R306). -/
def axisTripOk (q : State) (k : Fin 6) : Bool := decide (1100 * q.pa k 0x5001 1 < 1280 * q.pa k 0x5010 6)

/-- A reaction word (17 R456). -/
def reactionOk (src w : Nat) : Bool :=
  !(bit w 4 && !bit w 8 && !bit w 9) && !(bit w 2 && !hasOwner src) && !((bit w 2 || bit w 3) && src / 16 == 13)

/-- The relations of every target kind: BAD_VALUE where one fails. -/
def relationsOk (s q : State) (k v : Nat) : Bool :=
  let inst := keyInst k
  let idx := keyIdx k
  let sub := keySub k
  match keyKind k with
  | 0 => moduleRule q idx sub v
  | 1 => machineRule s q (finOf 4 inst) idx sub v
  | 2 =>
    let x : Fin 6 := finOf 6 inst
    if idx = 0x5000 then v == 0xFF || decide (channelUsers s q v ≤ 1)
    else if (idx = 0x5010 ∧ sub = 6) ∨ (idx = 0x5001 ∧ sub = 1) then axisTripOk q x else true
  | 3 =>
    let c : Fin 12 := finOf 12 inst
    if idx = 0x4001 ∧ sub = 1 then (axisOfChan s c).isNone || decide (v ≤ 200000)
    else if idx = 0x4005 then posSetFault s c v != some stBADVALUE else true
  | 4 =>
    let i : Fin 4 := finOf 4 inst
    if idx = 0x3001 ∧ sub = 3 then v == 0xFF || decide (channelUsers s q v ≤ 1)
    else if idx = 0x3100 ∨ idx = 0x3101 then !isDerived q i (sub - 1)
    else if idx = 0x3004 ∧ sub = 1 then v == s.stove[i].bank.val || bankOk q i (finOf 2 v) else true
  | 7 => if idx = 0x7000 then reactionOk inst v else true
  | _ => true

/-- The state refuses the write of a value: REFUSED_STATE (08 R229, R230, R236; 09 R254; 15 R416; 19 R498, R511). -/
def stateRefuses (s : State) (k v : Nat) : Bool :=
  let idx := keyIdx k
  let sub := keySub k
  let i : Fin 4 := finOf 4 (keyInst k)
  safetyKey k && !allSto s ||
  (match keyKind k with
   | 0 =>
     if 0x1200 ≤ idx ∧ idx < 0x1206 then
       let p : Fin 6 := finOf 6 (idx - 0x1200)
       (decide (2 ≤ sub) && decide (sub ≤ 6) && canMode s p != 0) || (sub == 8 && v == 2 && canSleepRefused s p)
     else decide (0x1210 ≤ idx) && decide (idx < 0x1216) && canMode s (finOf 6 (idx - 0x1210)) != 0
   | 3 => idx == 0x4005 && posSetFault s (finOf 12 (keyInst k)) v == some stREFUSED
   | 4 =>
     let on := (stovePool s i).any (fun m => s.en m)
     if 0x3000 ≤ idx ∧ idx ≤ 0x3002 then on
     else if idx = 0x3100 ∨ idx = 0x3101 then
       (on && s.stove[i].bank.val == idx - 0x3100) || s.stove[i].bankSealed == some (finOf 2 (idx - 0x3100))
     else false
   | _ => false)

/-- A value lies in the range of its parameter (03 R87); the raw value is at the width of the type. -/
def inRange (p : PSpec) (v : Nat) : Bool :=
  let x : Int := if p.ty.isSigned then signed (8 * p.ty.width) v else v
  (decide (p.lo ≤ x) && decide (x ≤ p.hi)) || p.also.contains x

end Sys2Proof.Machine
end

