-- ==== Sys2Proof/Machine/ParamFam.lean ====
section
/-! DEFINITION. The parameter opcodes (03 R87 to R91, R633; 22 R564; 23 R582). -/
namespace Sys2Proof.Machine

/-- The instance of a parameter that a target selects, when the index belongs to its kind (03 R87): the key of a
parameter, BAD_TARGET or BAD_PARAM. -/
def keyFor (c : Cmd) (idx sub : Nat) : Except (BitVec 16) Nat :=
  let k := tKind c.target
  if wrongKind k idx then .error stBADTARGET
  else if (pinfo k idx sub).isNone then .error stBADPARAM
  else .ok (pkey k (tIndex c.target) idx sub)

/-- One value with its entry header (03 R88; 23 R582). -/
def readEntryOf (s : State) (k : Nat) : List Byte :=
  let w := match pinfo (keyKind k) (keyIdx k) (keySub k) with
    | some p => p.ty.width
    | none => 0
  keyHeader k ++ beBytes w (readParam s (keyKind k) (keyInst k) (keyIdx k) (keySub k))

/-- Index and subindex of the entries of a PARAM_READ. -/
def readPairs : Nat → List Byte → List (Nat × Nat)
  | 0, _ => []
  | n + 1, l => (beNat (l.take 2), beNat ((l.drop 2).take 1)) :: readPairs n (l.drop 3)

/-- Keys of a list of pairs, or the first that is wrong. -/
def keysOf (c : Cmd) : List (Nat × Nat) → Except (BitVec 16 × Nat × Nat) (List Nat)
  | [] => .ok []
  | x :: xs => match keyFor c x.1 x.2 with
    | .error e => .error (e, x.1, x.2)
    | .ok k => match keysOf c xs with
      | .error e => .error e
      | .ok ks => .ok (k :: ks)

/-- Entry header of a parameter that does not exist: a length byte of 0 (log 62). -/
def bareHeader (idx sub : Nat) : List Byte := beBytes 2 idx ++ beBytes 1 sub ++ [0]

/-- PARAM_READ (03 R89; 23 R582): 1 to 64 entries. -/
def execParamRead (tr : Transport) (tag : BitVec 16) (s : State) : Host.Outcome State Fault Refusal :=
  done (onCmd s tr tag 0x0100 fun s c =>
    let n := c.data.length
    if n = 0 ∨ 192 < n ∨ n % 3 ≠ 0 then reply s c stBADPARAM (elemHeader 0 0)
    else match keysOf c (readPairs (n / 3) c.data) with
      | .error (e, i, j) => reply s c e (if e = stBADTARGET then [] else bareHeader i j)
      | .ok ks => reply s c stOK (ks.flatMap (readEntryOf s)))

/-! ### PARAM_WRITE -/

/-- One entry as sent: its 4-byte header and its value bytes. -/
structure WEntry where
  hdr : List Byte
  idx : Nat
  sub : Nat
  val : List Byte
  deriving DecidableEq, Repr

/-- The entries of a PARAM_WRITE; none when the list is malformed. -/
def wEntries : Nat → List Byte → Option (List WEntry)
  | _, [] => some []
  | 0, _ => none
  | n + 1, l =>
    let k := beNat ((l.drop 3).take 1)
    let v := (l.drop 4).take k
    if l.length < 4 ∨ k = 0 ∨ 8 < k ∨ v.length ≠ k then none
    else match wEntries n (l.drop (4 + k)) with
      | none => none
      | some r => some ({ hdr := l.take 4, idx := beNat (l.take 2), sub := beNat ((l.drop 2).take 1), val := v } :: r)

/-- The raw value of an entry at the width of its type, and whether it lies in the range: a value of another length is
taken when it lies in the range (log 62). -/
def wValue (p : PSpec) (kind idx sub : Nat) (l : List Byte) : Nat × Bool :=
  let n := beNat l
  let x : Int := if p.ty.isSigned then signed (8 * l.length) n else n
  let raw := pmask kind idx sub (lowBits (8 * p.ty.width) x)
  (raw, p.ty != .str && decide (p.ty.bottom ≤ x) && decide (x ≤ p.ty.top) && inRange p raw)

/-- An entry with its key, its properties and its value. -/
structure WCheck where
  e : WEntry
  key : Nat
  known : Option PSpec
  raw : Nat
  ok : Bool
  deriving DecidableEq, Repr

def wCheck (c : Cmd) (e : WEntry) : WCheck :=
  let k := tKind c.target
  match pinfo k e.idx e.sub with
  | none => ⟨e, pkey k (tIndex c.target) e.idx e.sub, none, 0, false⟩
  | some p =>
    let v := wValue p k e.idx e.sub e.val
    ⟨e, pkey k (tIndex c.target) e.idx e.sub, some p, v.1, v.2⟩

/-- Derived NOTCH words of the bank that a BANK_SELECT names, which the Porter writes before it seals (08 R230). -/
def derivedEntries (q : State) (l : List (Nat × Nat)) : List (Nat × Nat) :=
  l.flatMap (fun e =>
    if keyKind e.1 = 4 ∧ keyIdx e.1 = 0x3004 ∧ keySub e.1 = 1 then
      let i : Fin 4 := finOf 4 (keyInst e.1)
      let b : Fin 2 := finOf 2 e.2
      let r := deriveBank q i b
      ((List.range 255).filter (fun k => isDerived q i k)).map (fun k => (pkey 4 i.val (0x3100 + b.val) (k + 1), r.ps i (0x3100 + b.val) (k + 1)))
    else [])

/-- Why an entry of a PARAM_WRITE fails, by the first check of 03 R72 that it does not pass: the lock, the state, the
parameter and its value. -/
def entryFault (s q : State) (x : WCheck) : Option (BitVec 16) :=
  match x.known with
  | none => some stBADPARAM
  | some _ =>
    if fieldLocked s x.key then some stLOCKED
    else if stateRefuses s x.key x.raw then some stREFUSED
    else if !x.ok || !relationsOk s q x.key x.raw then some stBADVALUE
    else none

/-- Why a PARAM_WRITE is refused, with the header of the first entry that failed: an entry above the level of the packet
first (03 R633), then the first entry that fails a check (03 R88). The target kinds were checked at the receipt. -/
def writeFault (s q : State) (c : Cmd) (l : List WCheck) : Option (BitVec 16 × List Byte) :=
  match l.find? (fun x => wrongKind (tKind c.target) x.e.idx) with
  | some x => some (stBADTARGET, x.e.hdr)
  | none => match l.find? (fun x => match x.known with
      | some p => decide (c.level.toNat < writeLevel (keyKind x.key) x.e.idx x.e.sub p.acc)
      | none => false) with
  | some x => some (stDENIED, x.e.hdr)
  | none => l.findSome? (fun x => (entryFault s q x).map (fun st => (st, x.e.hdr)))

/-- The SI7 test of 03 R85 concerns the group: a packet at SAFETY level, or one above it that writes the safety set. -/
def groupNeedsSi7 (c : Cmd) (l : List WCheck) : Bool :=
  c.level == 3 || (decide (3 < c.level.toNat) && l.any (fun x => safetyKeys.any (fun k => k.1 == x.key)))

/-- PARAM_WRITE (03 R88 to R91): one update group, sealed when every entry has passed. -/
def execParamWrite (tr : Transport) (tag : BitVec 16) (s : State) : Host.Outcome State Fault Refusal :=
  done (onCmd s tr tag 0x0101 fun s c =>
    match wEntries 256 c.data with
    | none => reply s c stBADPARAM (elemHeader 0 0)
    | some es =>
      if es.isEmpty then reply s c stBADPARAM (elemHeader 0 0)
      else
        let l := es.map (wCheck c)
        let entries := l.map (fun x => (x.key, x.raw))
        let q := withEntries s entries
        match writeFault s q c l with
        | some (st, d) =>
          -- a bank that fails its checks raises 6.(8 + n) (08 R230)
          let bank := l.find? (fun x => keyKind x.key == 4 && x.e.idx == 0x3004 && x.e.sub == 1 && x.ok && st == stBADVALUE && x.e.hdr == d)
          let s := match bank with
            | some x => raise s (104 + keyInst x.key % 4) 0
            | none => s
          reply s c st d
        | none => sealGroup (withEntries s (derivedEntries q entries)) entries (groupNeedsSi7 c l) (some c.id))

/-! ### PARAM_STORE (22 R564) -/

/-- Change one copy of the parameter store: false copy 0, true copy 1. -/
def modCopy (s : State) (one : Bool) (f : StoreCopy → StoreCopy) : State :=
  s.modStore (fun x => if one then { x with copy1 := f x.copy1 } else { x with copy0 := f x.copy0 })

def copyOf (s : State) (one : Bool) : StoreCopy := if one then s.store.copy1 else s.store.copy0

/-- The copy that a store writes. -/
def storeTarget (s : State) : Bool :=
  if !s.store.copy1.crcOk then true
  else if !s.store.copy0.crcOk then false
  else if s.store.copy0.generation = s.store.copy1.generation then true
  else later s.store.copy0.generation s.store.copy1.generation

/-- Key slots as the store holds them; slot 8 is the debug key. -/
def storeKeys (s : State) : List (Nat × Nat × List Byte) :=
  eight.filterMap (fun k => s.porter.keys[k].map (fun x => (k.val, x.maxLevel.toNat, x.key))) ++ [(8, 0, s.porter.debugKey)]

/-- PARAM_STORE. -/
def execParamStore (tr : Transport) (tag : BitVec 16) (s : State) : Host.Outcome State Fault Refusal :=
  done (onCmd s tr tag 0x0102 fun s c => needState s c (throttling s || s.porter.storing.isSome
        || s.porter.cmds.any (fun x => x.opcode == 0x0102#16 && x.phase != .ended && (x.tr, x.tag) != c.id)) 0 fun s =>
      let t := storeTarget s
      let other := copyOf s (!t)
      let g : BitVec 32 := if other.crcOk then other.generation + 1 else 1
      let s := modCopy (accept s c) t (fun x => { x with crcOk := false })
      s.modPorter (fun p => { p with storing := some {
        cmd := c.id, target := t, values := p.params, keys := storeKeys s, generation := g } }))

/-- PARAM_STORE_COMPLETE: the copy is read back; `bad` is a failure of 22 R559 or of the read-back. -/
def execParamStoreComplete (dt : Nat) (bad : Bool) (s : State) : Host.Outcome State Fault Refusal :=
  let s := advance s dt
  done (match s.porter.storing with
    | none => s
    | some x =>
      let s := s.modPorter (fun p => { p with storing := none })
      if bad then completeAt (raise s 252 0) x.cmd stEXECFAULT []
      else
        let s := modCopy s x.target (fun _ => { crcOk := true, generation := x.generation, values := x.values, keys := x.keys })
        completeAt (s.modStart (fun b => { b with needStore := false })) x.cmd stOK [])

/-- PARAM_INFO (23 R582). The text of the unit, the write level of a parameter that has none and the range of a byte string
are not stated: free (log 62). -/
def infoBytes (k : Nat) (p : PSpec) : List Byte :=
  let idx := keyIdx k
  let sub := keySub k
  let free (j : Nat) : Nat := Config.outside 34 [keyKind k, idx, sub, j]
  let lvl := writeLevel (keyKind k) idx sub p.acc
  let lo := p.also.foldl (fun a x => if x < a then x else a) p.lo
  let hi := p.also.foldl (fun a x => if a < x then x else a) p.hi
  let q (j : Nat) (x : Int) : List Byte := beBytes 8 (if p.ty = .str then lowBits 64 (free j : Nat) else lowBits 64 x)
  [BitVec.ofNat 8 p.ty.code, BitVec.ofNat 8 p.acc.code, 0, BitVec.ofNat 8 (if lvl = 0xFF then free 0 else lvl)]
    ++ q 1 lo ++ q 2 hi ++ q 3 (pdefault (keyKind k) (keyInst k) idx sub p.dflt)
    ++ (List.range (free 4 % 33)).map (fun j => BitVec.ofNat 8 (32 + free (5 + j) % 95))

def execParamInfo (tr : Transport) (tag : BitVec 16) (s : State) : Host.Outcome State Fault Refusal :=
  done (onCmd s tr tag 0x0103 fun s c => needLen s c 3 fun s =>
    let idx := beNat (c.data.take 2)
    let sub := beNat (c.data.drop 2)
    match keyFor c idx sub with
    | .error e => reply s c e (if e = stBADTARGET then [] else bareHeader idx sub)
    | .ok k => match pinfo (keyKind k) idx sub with
      | none => reply s c stBADPARAM (bareHeader idx sub)
      | some p => reply s c stOK (infoBytes k p))

end Sys2Proof.Machine
end

