-- ==== Sys2Proof/Machine/PortFam.lean ====
section
/-! DEFINITION. Ethernet, host SPI, the serial ports and the debug port (spec file 21_other_ports). -/
namespace Sys2Proof.Machine

/-! ### Ethernet (21 R542 to R544) -/

/-- A frame is discarded and counted; OVF raises 1.13 with cause 2 (21 R543, R554). -/
def ethDiscard (s : State) (e : Fin 2) : State :=
  let (c, o) := ctrInc 32 s.ports.eth[e].discards
  raiseIf o (modEth s e (fun p => { p with discards := c })) 29 (2 + 16 * e.val)

/-- An ARP request for the port's address is answered; a reply to a request of the port resolves it (21 R543, R544).
A full cache gives up its oldest entry (log 66). -/
def ethArp (s : State) (e : Fin 2) (p : List Byte) : State :=
  let port := s.ports.eth[e]
  let spa : BitVec 32 := BitVec.ofNat 32 (field p 14 4)
  let fits := decide (28 ≤ p.length) && field p 0 2 == 1 && field p 2 2 == 0x0800 && field p 4 1 == 6 && field p 5 1 == 4
  if fits && field p 6 2 == 1 && field p 24 4 == port.ip.toNat then
    putEth s e (ethFrame e (field p 8 6) 0x0806 (arpPacket 2 e port.ip (field p 8 6) spa))
  else if fits && field p 6 2 == 2 && port.arpWait.any (fun w => w.1 == spa) then
    let kept := port.arp.filter (fun a => a.ip != spa)
    modEth s e (fun x => { x with
      arp := kept.drop (kept.length - 15) ++ [⟨spa, BitVec.ofNat 48 (field p 8 6), s.clk⟩]
      arpWait := x.arpWait.filter (fun w => w.1 != spa) })
  else ethDiscard s e

/-- An echo request with at most 64 bytes of data; at most 10 replies a second (21 R543). -/
def ethIcmp (s : State) (e : Fin 2) (mac : Nat) (src : BitVec 32) (p : List Byte) : State :=
  if field p 0 2 = 0x0800 ∧ 8 ≤ p.length ∧ p.length ≤ 72 then
    let recent := s.ports.eth[e].icmpAt.filter (fun t => decide (s.clk < t + 200000000))
    if recent.length < 10 then 
      putIp (modEth s e (fun x => { x with icmpAt := s.clk :: recent })) e mac 1 src (echoReply (p.drop 4))
    else modEth s e (fun x => { x with icmpAt := recent })
  else ethDiscard s e

/-- A UDP datagram: its checksum is checked when it is not zero; port 40960 takes command packets, 40961 safety PDUs. -/
def ethUdp (s : State) (e : Fin 2) (src dst : BitVec 32) (p : List Byte) : State :=
  let n := field p 4 2
  if 8 ≤ n ∧ n ≤ p.length ∧ (field p 6 2 = 0 ∨ sumGood (udpPseudo src dst n ++ p.take n) = true) then
    let body := (p.take n).drop 8
    if field p 2 2 = 40960 then
      s.modPorter (fun x => { x with
        ready := x.ready ++ [{ tr := .eth e src (BitVec.ofNat 16 (field p 0 2)), bytes := body }] })
    else if field p 2 2 = 40961 then s.modSafety (fun x => { x with pduIn := x.pduIn ++ [(e.val, body)] })
    else ethDiscard s e
  else ethDiscard s e

/-- An IPv4 packet for the port from a MAC address: IHL 5, header checksum good, its address, not a fragment. -/
def ethIp (s : State) (e : Fin 2) (mac : Nat) (p : List Byte) : State :=
  let n := field p 2 2
  let src : BitVec 32 := BitVec.ofNat 32 (field p 12 4)
  let dst : BitVec 32 := BitVec.ofNat 32 (field p 16 4)
  if field p 0 1 = 0x45 ∧ 20 ≤ n ∧ n ≤ p.length ∧ sumGood (p.take 20) = true ∧ dst = s.ports.eth[e].ip
      ∧ field p 6 2 % 16384 = 0 then
    let body := (p.take n).drop 20
    if field p 9 1 = 1 then ethIcmp s e mac src body
    else if field p 9 1 = 17 then ethUdp s e src dst body
    else ethDiscard s e
  else ethDiscard s e

/-- ETH_FRAME_RECEIVE (21 R543): `frame` without its check sequence, which `fcsOk` reports. -/
def execEthFrameReceive (dt : Nat) (e : Fin 2) (frame : List Byte) (fcsOk : Bool) (s : State) : Host.Outcome State Fault Refusal :=
  let s := advance s dt
  let own := field frame 0 6 == (Config.mac e.val).toNat
  let kind := field frame 12 2
  done (
    if !s.up || s.ports.eth[e].link == 0 then s
    else if !fcsOk || decide (frame.length < 60) || decide (1514 < frame.length) then ethDiscard s e
    else if kind = 0x0806 ∧ (own || field frame 0 6 == 0xFFFFFFFFFFFF) = true then ethArp s e (frame.drop 14)
    else if kind = 0x0800 ∧ own = true then ethIp s e (field frame 6 6) (frame.drop 14)
    else ethDiscard s e)

/-- ETH_PHY_POLL (21 R542, R544, R555): the speed (0 no link) and the duplex that the PHY negotiated. -/
def execEthPhyPoll (dt : Nat) (e : Fin 2) (speed : Fin 4) (full : Bool) (s : State) : Host.Outcome State Fault Refusal :=
  let s := advance s dt
  let old := s.ports.eth[e].link
  let half := speed != 0 && !full
  let idx := 0x1300 + e.val
  let enabled := s.p0 idx 5 == 1
  done (
    if !s.start.bootBegun then s
    else if half then raise (modEth s e (fun x => { x with link := 0 })) 28 (2 + 16 * e.val)
    else if speed = 0 then raiseIf (old != 0) (modEth s e (fun x => { x with link := 0 })) 28 (16 * e.val)
    else if old ≠ 0 then modEth s e (fun x => { x with link := speed.val })
    else if !enabled then s
    else
      let ip : BitVec 32 := BitVec.ofNat 32 (s.p0 idx 2)
      let s := modEth s e (fun x => { x with
        link := speed.val, ip := ip, mask := BitVec.ofNat 32 (s.p0 idx 3), gateway := BitVec.ofNat 32 (s.p0 idx 4) })
      let s := if s.up then putArp s e ip ip else s
      raise s 28 (1 + 16 * e.val))

/-- A reply that has waited 100 ms for its destination. -/
def arpLate (s : State) (e : Fin 2) (r : Reply) : Bool :=
  match r.tr with
  | .eth e' ip _ => e' == e && !resolved s e ip && elapsed s r.queuedAt (msTicks 100)
  | _ => false

/-- ARP_TIMEOUT (21 R544): the reply is dropped and its tag released. -/
def execArpTimeout (dt : Nat) (e : Fin 2) (s : State) : Host.Outcome State Fault Refusal :=
  let s := advance s dt
  let late := s.porter.replies.filter (arpLate s e)
  let s := late.foldl sentReply s
  let s := modEth s e (fun x => { x with arpWait := x.arpWait.filter (fun w => !elapsed s w.2 (msTicks 100)) })
  done (raiseIf (late != []) s 29 (1 + 16 * e.val))

/-- ARP_ENTRY_EXPIRY (21 R544): entries of 60 s leave the cache. -/
def execArpEntryExpiry (dt : Nat) (e : Fin 2) (s : State) : Host.Outcome State Fault Refusal :=
  let s := advance s dt
  done (modEth s e (fun x => { x with arp := x.arp.filter (fun a => !elapsed s a.at' (msTicks 60000)) }))

/-! ### Host SPI (21 R545 to R548) -/

/-- HSPI answers from the start of the boot ROM (02 R59). -/
def hspiLive (s : State) : Bool := s.start.bootBegun

/-- HSPI_WRITE_PACKET (21 R546): what the host wrote before chip select rose. Zeros come back. -/
def execHspiWritePacket (dt : Nat) (bytes : List Byte) (s : State) : Host.Outcome State Fault Refusal :=
  let s := advance s dt
  done (if hspiLive s then
      (s.modPorter (fun p => { p with ready := p.ready ++ [{ tr := .hspi, bytes := bytes }] })).put
        (.hspi (List.replicate bytes.length 0))
    else s)

/-- The oldest reply or completion queued for HSPI. -/
def hspiOldest (s : State) : Option Reply := s.porter.replies.find? (fun r => r.tr == .hspi)

/-- HSPI_READ_REPLY (21 R546): `clocked` of the L bytes are read before chip select rises. -/
def execHspiReadReply (dt : Nat) (clocked : Nat) (s : State) : Host.Outcome State Fault Refusal :=
  let s := advance s dt
  done (
    if !hspiLive s then s
    else match hspiOldest s with
      | none => s.put (.hspi [0, 0, 0])
      | some r =>
        let b := r.bytes
        let s := s.put (.hspi ([0] ++ beBytes 2 b.length ++ b.take clocked))
        if b.length ≤ clocked then sentReply s r else s)

/-- HSPI_READ_STATUS (21 R545, R548): the status word; START clears. -/
def execHspiReadStatus (dt : Nat) (s : State) : Host.Outcome State Fault Refusal :=
  let s := advance s dt
  done (
    if !hspiLive s then s
    else (s.put (.hspi ([0] ++ beBytes 4 (hspiStatus s)))).modPorts (fun p => { p with hspiStart := false }))

/-- IRQ_HOST, true when asserted (21 R548). -/
def irqHost (s : State) : Bool := (hspiOldest s).isSome || s.ports.hspiStart

/-- HSPI_REGISTER_READ (21 R547): `waits` wait bytes come before the ready byte; none when the host finds no ready byte,
and the access is not made. The word of a refused read is free (log 66). -/
def execHspiRegisterRead (dt : Nat) (a : BitVec 32) (waits : Option (Fin 33)) (s : State) : Host.Outcome State Fault Refusal :=
  let s := advance s dt
  done (
    if !hspiLive s then s
    else match waits with
      | none => s
      | some w =>
        let wait := List.replicate w.val (0 : Byte) ++ [0x5A]
        if s.porter.regMode ∧ readable s a.toNat = true then
          let (v, s) := wordRead s a.toNat
          s.put (.hspi (wait ++ beBytes 4 v ++ [0]))
        else
          let code : Byte := if s.porter.regMode then 2 else 1
          let (v, s) := s.fresh
          s.put (.hspi (wait ++ beBytes 4 v ++ [code])))

/-- HSPI_REGISTER_WRITE (21 R547). No register of this map is locked under 00 R6, so result 0x03 does not arise. -/
def execHspiRegisterWrite (dt : Nat) (a w : BitVec 32) (waits : Option (Fin 33)) (s : State) : Host.Outcome State Fault Refusal :=
  let s := advance s dt
  done (
    if !hspiLive s then s
    else match waits with
      | none => s
      | some n =>
        let wait := List.replicate n.val (0 : Byte) ++ [0x5A]
        if !s.porter.regMode then s.put (.hspi (wait ++ [1]))
        else if a.toNat % 4 ≠ 0 ∨ (!inMemory a.toNat && (regWord s a.toNat).isNone) = true then s.put (.hspi (wait ++ [2]))
        else match regWrite s a.toNat w.toNat with
          | some s' => s'.put (.hspi (wait ++ [0]))
          | none => s.put (.hspi (wait ++ [4])))

/-- HSPI_UNKNOWN_COMMAND (21 R545). -/
def execHspiUnknownCommand (dt : Nat) (b : Byte) (s : State) : Host.Outcome State Fault Refusal :=
  let s := advance s dt
  done (if hspiLive s ∧ b.toNat ∉ [0x01, 0x02, 0x03, 0x10, 0x11] then countTransport s 0 0 else s)

/-! ### Serial ports (21 R549, R550) -/

/-- 0x7D takes the next byte exclusive-or 0x20 (03 R79); none when that byte is missing. -/
def unescape : List Byte → Option (List Byte)
  | [] => some []
  | b :: rest =>
    if b = 0x7D then
      match rest with
      | [] => none
      | c :: more => (unescape more).map (fun l => (c ^^^ 0x20) :: l)
    else (unescape rest).map (fun l => b :: l)

/-- Escaping of a packet (03 R79). -/
def escape (l : List Byte) : List Byte := l.flatMap (fun b => if b = 0x7D ∨ b = 0x7E then [0x7D, b ^^^ 0x20] else [b])

/-- A received frame is discarded (21 R550, R553). -/
def serDiscard (s : State) (i : Fin 2) : State := raise (countTransport s (Transport.ser i).index 0) 30 (16 * i.val)

/-- So many ticks are at least `k` character times of ten bits at the port's rate (21 R549). -/
def charTimes (s : State) (i : Fin 2) (ticks k : Nat) : Bool := decide (k * 2000000000 ≤ ticks * s.ports.ser[i].rate)

/-- SER_FRAME_RECEIVE (21 R549, R550; 03 R79): the bytes between the two frame bytes, whether a framing error was found,
and the longest gap in ticks. The line was idle before it, so line settings written since are in force. -/
def execSerFrameReceive (dt : Nat) (i : Fin 2) (bytes : List Byte) (framing : Bool) (gap : Nat) (s : State) : Host.Outcome State Fault Refusal :=
  let s := advance s dt
  let s := modSer s i (fun p => { p with node := s.p0 (0x1320 + i.val) 1, rate := s.p0 (0x1320 + i.val) 2 })
  done (
    if !s.up then s
    else if framing || decide (200000000000 < gap * s.ports.ser[i].rate) || decide (2200 < bytes.length + 2) then serDiscard s i
    else match bytes with
      | [] => s
      | node :: rest =>
        if node.toNat = s.ports.ser[i].node ∨ node = 0xFF then
          match unescape rest with
          | some l => s.modPorter (fun p => { p with ready := p.ready ++ [{ tr := .ser i, bytes := l, silent := node == 0xFF }] })
          | none => serDiscard s i
        else s)

/-- The bytes of a reply on the line of a serial port (03 R79). -/
def serFrame (s : State) (i : Fin 2) (r : Reply) : List Byte :=
  [0x7E, BitVec.ofNat 8 s.ports.ser[i].node] ++ escape r.bytes ++ [0x7E]

/-- Character times of idle line before a packet may go out: 2, and 10 for a completion or a frame sent again (21 R549, R550). -/
def serIdle (s : State) (i : Fin 2) (r : Reply) : Nat := if r.completion || s.ports.ser[i].resent then 10 else 2

/-- The readback of a packet (21 R550): a second mismatch drops it. -/
def serReadBack (s : State) (i : Fin 2) (r : Reply) (good : Bool) : State :=
  if good then modSer (sentReply s r) i (fun p => { p with resent := false })
  else if !s.ports.ser[i].resent then modSer s i (fun p => { p with resent := true })
  else
    let (c, o) := ctrInc 16 s.ports.ser[i].drops
    let s := modSer (sentReply s r) i (fun p => { p with resent := false, drops := c })
    raiseIf o (raise s 30 (1 + 16 * i.val)) 30 (2 + 16 * i.val)

/-- SER_REPLY_SEND (21 R549, R550): the oldest packet goes out on a line that has been idle for `idle` ticks, and the port
reads back what is on the line. -/
def execSerReplySend (dt : Nat) (i : Fin 2) (idle : Nat) (back : List Byte) (s : State) : Host.Outcome State Fault Refusal :=
  let s := advance s dt
  done (
    match s.porter.replies.find? (fun r => r.tr == .ser i) with
    | none => s
    | some r =>
      if !s.up || !charTimes s i idle (serIdle s i r) then s
      else serReadBack (s.put (.ser i (serFrame s i r))) i r (back == serFrame s i r))

/-! ### Debug port (21 R551, R552) -/

/-- TAP_INSTRUCTION_LOAD (21 R551). -/
def execTapInstructionLoad (dt : Nat) (ir : TapIr) (s : State) : Host.Outcome State Fault Refusal :=
  let s := advance s dt
  done (
    if (ir = .extest ∨ ir = .clamp ∨ ir = .highz) ∧ (s.anyMachine || s.anyAxis) = true then
      raise (s.modPorts (fun p => { p with ir := .bypass })) 31 0
    else s.modPorts (fun p => { p with ir := ir }))

/-- A new nonce of the module's random generator (log 12). -/
def freshNonce (s : State) : List Byte × State :=
  ((List.range 16).map (Config.nonceByte s.freeCtr), { s with freeCtr := s.freeCtr + 1 })

/-- DBG_CHALLENGE (21 R552): a new nonce, or zeros during a lockout. -/
def execDbgChallenge (dt : Nat) (s : State) : Host.Outcome State Fault Refusal :=
  let s := advance s dt
  done (
    if s.ports.ir ≠ .dbgChallenge then s
    else if s.ports.lockoutAt.isSome then s.put (.tap (List.replicate 16 0))
    else
      let (n, s) := freshNonce s
      (s.modPorts (fun p => { p with challenge := some n })).put (.tap n))

/-- A response that unlocks: the first 16 bytes of the HMAC under a debug key that is not all zeros (21 R552). -/
def responseRight (s : State) (response : List Byte) : Bool :=
  match s.ports.challenge with
  | none => false
  | some n => s.porter.debugKey.any (fun b => b != 0)
      && response == (hmac s.porter.debugKey (n ++ beBytes 8 Config.uid.toNat)).take 16

/-- DBG_RESPONSE (21 R552, R554; 16 R444). -/
def execDbgResponse (dt : Nat) (response : List Byte) (s : State) : Host.Outcome State Fault Refusal :=
  let s := advance s dt
  done (
    if s.ports.ir ≠ .dbgResponse ∨ s.ports.lockoutAt.isSome = true then s
    else if responseRight s response then
      raise (s.modPorts (fun p => { p with unlocked := true, challenge := none })) 238 0
    else
      let (c, o) := ctrInc 16 s.ports.wrongCount
      let third := decide (3 ≤ s.ports.wrong + 1)
      let s := s.modPorts (fun p => { p with
        challenge := none, wrongCount := c, wrong := if third then 0 else p.wrong + 1
        lockoutAt := if third then some s.clk else none })
      let s := raiseIf o (raise s 238 4) 31 2
      raiseIf third s 31 1)

/-- DEBUG_LOCKOUT_EXPIRY (21 R552): the 60 s end. -/
def execDebugLockoutExpiry (dt : Nat) (s : State) : Host.Outcome State Fault Refusal :=
  let s := advance s dt
  done (if elapsedO s s.ports.lockoutAt (msTicks 60000) then s.modPorts (fun p => { p with lockoutAt := none }) else s)

end Sys2Proof.Machine
end

