-- ==== Sys2Proof/Machine/PorterFam.lean ====
section
/-! DEFINITION. The Porter: the checks of a command packet, CAN segments, sessions, ABORT and timeouts of long commands,
and the system, session, key and safety opcodes (spec file 03_command_packets, 23 R577 to R581, R588, R591, R597). -/
namespace Sys2Proof.Machine

/-! ### Headers and refusals -/

/-- The fields of a packet's header (03 R65), and the sequence number and MAC of its authentication field. -/
structure Hdr where
  version : Nat
  completion : Bool
  auth : Bool
  /-- A reserved bit or field is not zero. -/
  reserved : Bool
  hop : Nat
  opcode : BitVec 16
  tag : BitVec 16
  target : BitVec 16
  length : Nat
  level : BitVec 3
  sv : Bool
  session : BitVec 9
  deriving DecidableEq, Repr

def parseHdr (b : List Byte) : Hdr :=
  let b0 := field b 0 1
  let w := field b 10 2
  { version := bits b0 7 4, completion := bit b0 3, auth := bit b0 2
    reserved := bit b0 0 || bits w 12 10 != 0 || field b 12 4 != 0
    hop := field b 1 1, opcode := BitVec.ofNat 16 (field b 2 2), tag := BitVec.ofNat 16 (field b 4 2)
    target := BitVec.ofNat 16 (field b 6 2), length := field b 8 2
    level := BitVec.ofNat 3 (bits w 15 13), sv := bit w 9, session := BitVec.ofNat 9 (bits w 8 0) }

/-- Length of a packet with these LENGTH and AUTH (03 R65). -/
def packetLen (h : Hdr) : Nat := 16 + h.length + (if h.auth then 20 else 0) + 4

/-- Sequence number of an authenticated packet, and the bytes that its MAC covers and the MAC itself. -/
def authSeq (h : Hdr) (b : List Byte) : BitVec 32 := if h.auth then BitVec.ofNat 32 (field b (16 + h.length) 4) else 0
def macCovered (h : Hdr) (b : List Byte) : List Byte := b.take (20 + h.length)
def macOf (h : Hdr) (b : List Byte) : List Byte := (b.drop (20 + h.length)).take 16

/-- The open session of a berth. -/
def openSession (s : State) (b : BitVec 9) : Option Session :=
  match s.porter.berths[finOf 512 b.toNat] with
  | .session x => if x.isOpen then some x else none
  | _ => none

/-- The key under which the reply to a packet is authenticated (03 R69): that of its session, when there is one. -/
def replyKey (s : State) (h : Hdr) : List Byte :=
  if h.auth && h.sv then (match openSession s h.session with
    | some x => x.key
    | none => [])
  else []

/-- A packet is refused before its tag is outstanding, with reply data. On HSPI eight entries hold such replies; without room there is
none, and FORMAT counts (21 R546). -/
def refuseWith (s : State) (p : ReadyPacket) (h : Hdr) (status : BitVec 16) (data : List Byte) : State :=
  let r : Reply := {
    tr := p.tr, completion := false, opcode := h.opcode, tag := h.tag, status := status, level := h.level, sv := h.sv
    session := h.session, seq := authSeq h p.bytes, key := replyKey s h, data := data, final := true, refused := true
    queuedAt := s.clk }
  if p.silent then s
  else if p.tr = .hspi ∧ 8 ≤ (s.porter.replies.filter (fun r => r.tr == .hspi && r.refused)).length then countTransport s 0 0
  else s.modPorter (fun x => { x with replies := x.replies ++ [r] })

def refusePacket (s : State) (p : ReadyPacket) (h : Hdr) (status : BitVec 16) : State := refuseWith s p h status []

/-! ### Sessions (03 R82 to R84) -/

/-- A sequence number is acceptable: later than the highest, or one of the 32 below it not yet accepted. -/
def seqOk (x : Session) (q : BitVec 32) : Bool :=
  later q x.seqHigh ||
    (let d := (x.seqHigh - q).toNat
     decide (1 ≤ d) && decide (d ≤ 32) && !x.window.getLsbD (d - 1))

/-- A sequence number counts as accepted. -/
def seqTake (x : Session) (q : BitVec 32) : Session :=
  if later q x.seqHigh then
    let d := (q - x.seqHigh).toNat
    { x with seqHigh := q, window := if d ≤ 32 then (x.window <<< d) ||| (1#32 <<< (d - 1)) else 0 }
  else { x with window := x.window ||| (1#32 <<< ((x.seqHigh - q).toNat - 1)) }

/-- The lowest level that runs the opcode; SESSION_CLOSE of another session needs SERVICE (23 R591). -/
def needLevel (h : Hdr) (i : OpInfo) : Nat :=
  if h.opcode = 0x0702 then (if h.sv ∧ tIndex h.target = h.session.toNat then 0 else 4) else i.level

/-- Check 10 of 03 R72: none when it passes. -/
def accessFault (s : State) (p : ReadyPacket) (h : Hdr) (i : OpInfo) : Option (BitVec 16) :=
  if !h.sv then
    if h.level.toNat < needLevel h i ∨ s.porter.unauth[p.tr.index].toNat < h.level.toNat then some stDENIED else none
  else match openSession s h.session with
    | none => some stEXPIRED
    | some x =>
      if macOf h p.bytes ≠ (hmac x.key (macCovered h p.bytes)).take 16 then some stAUTHFAILED
      else if !seqOk x (authSeq h p.bytes) then some stREPLAYED
      else if h.level.toNat < needLevel h i ∨ x.level.toNat < h.level.toNat then some stDENIED
      else none

/-- A packet that passes check 10 is the newest of its session. -/
def touchSession (s : State) (h : Hdr) (q : BitVec 32) : State :=
  if !h.sv then s
  else match openSession s h.session with
    | some x => setBerth s (finOf 512 h.session.toNat) (.session { seqTake x q with lastAt := s.clk })
    | none => s

/-- A PARAM_WRITE that carries an entry of the safety set (15 R416). -/
def writesSafety (h : Hdr) (data : List Byte) : Bool :=
  match wEntries 256 data with
  | none => false
  | some es => es.any (fun e => safetyKeys.any (fun k => k.1 == pkey (tKind h.target) (tIndex h.target) e.idx e.sub))

/-- The first index of a parameter opcode that belongs to another kind of target (03 R72 check 9, R87), with the header of
its entry in a PARAM_WRITE. -/
def wrongIndex (h : Hdr) (data : List Byte) : Option (List Byte) :=
  let k := tKind h.target
  if h.opcode = 0x0100 then
    ((readPairs (data.length / 3) data).find? (fun x => wrongKind k x.1)).map (fun _ => [])
  else if h.opcode = 0x0101 then
    ((wEntries 256 data).getD []).findSome? (fun e => if wrongKind k e.idx then some e.hdr else none)
  else if h.opcode = 0x0103 then (if wrongKind k (beNat (data.take 2)) then some [] else none)
  else none

/-- Check 11 of 03 R72 concerns the packet. -/
def needsSi7 (h : Hdr) (data : List Byte) : Bool :=
  h.level == 3 || (decide (3 < h.level.toNat) && (h.opcode == 0x0502 || (h.opcode == 0x0101 && writesSafety h data)))

/-! ### COMMAND_PACKET_RECEIVE (03 R72) -/

/-- Source pairs that count on an Ethernet port (03 R74). -/
def pairsOf (s : State) (e : Fin 2) : List Transport :=
  let onPort (t : Transport) : Bool := match t with | .eth e' _ _ => e' == e | _ => false
  let l := (s.porter.cmds.map (fun c => c.tr)) ++ s.porter.berths.toList.filterMap (fun b => match b with
    | .session x => some x.transport
    | _ => none)
  (l.filter onPort).eraseDups

/-- Check 7: fewer than 32 tags outstanding, and no ninth source pair (03 R74). -/
def tagRoom (s : State) (t : Transport) : Bool :=
  decide ((s.porter.cmds.filter (fun c => c.tr == t)).length < 32) &&
  (match t with
   | .eth e _ _ => (pairsOf s e).contains t || decide ((pairsOf s e).length < 8)
   | _ => true)

/-- The opcodes that HSPI answers in HOLD (23 R576). -/
def holdOpcode (op : BitVec 16) : Bool := op.toNat ∈ [0x0000, 0x0001, 0x0A10, 0x0A11, 0x0A12]

/-- Checks 3 to 12, and the command outstanding when they pass. -/
def checkPacket (s : State) (p : ReadyPacket) (h : Hdr) : State :=
  let refuse (st : BitVec 16) : State := refusePacket s p h st
  if h.version ≠ 3 then refuse stBADVERSION
  else if h.reserved || decide (4 < h.level.toNat) || h.opcode.getLsbD 15 || h.completion || (!h.sv && h.session != 0)
      || h.auth != h.sv then refuse stBADFORMAT
  else if 15 < h.hop then countTransport s p.tr.index 2
  else if (findCmd s p.tr h.tag).isSome then refuse stTAGINUSE
  else if !tagRoom s p.tr then refuse stBUSY
  else match opInfo h.opcode.toNat with
    | none => refuse stBADOPCODE
    | some i =>
      let data := (p.bytes.drop 16).take h.length
      if tKind h.target ∉ i.kinds ∨ targetOk h.target = false then refuse stBADTARGET
      else match wrongIndex h data with
      | some d => refuseWith s p h stBADTARGET d
      | none =>
        let free := s.start.startState == .hold && !h.sv && (h.opcode.toNat ∈ [0x0A10, 0x0A11, 0x0A12])
        match if free then none else accessFault s p h i with
        | some st => refusePacket (countTransport s p.tr.index 3) p h st
        | none =>
          let key := replyKey s h
          let s := touchSession s h (authSeq h p.bytes)
          if !free && needsSi7 h data && !si7 s then refusePacket s p h stKEYABSENT
          else if !s.up && !(s.start.startState == .hold && holdOpcode h.opcode) then refusePacket s p h stNOTREADY
          else s.modPorter (fun x => { x with cmds := x.cmds ++ [{
            tr := p.tr, tag := h.tag, opcode := h.opcode, target := h.target, level := h.level, sv := h.sv
            session := h.session, seq := authSeq h p.bytes, key := key, data := data, silent := p.silent }] })

/-- Checks 1 and 2, and what a module that is not up answers (02 R58, R59; 23 R576). -/
def receivePacket (s : State) (p : ReadyPacket) : State :=
  let h := parseHdr p.bytes
  if !s.start.bootBegun || (!s.up && p.tr != .hspi) then s
  else if p.bytes.length < 20 ∨ 1024 < h.length ∨ p.bytes.length ≠ packetLen h then countTransport s p.tr.index 0
  else if beNat (p.bytes.drop (p.bytes.length - 4)) ≠ (crc32c (p.bytes.take (p.bytes.length - 4))).toNat then
    countTransport s p.tr.index 1
  else if s.start.startState = .boot ∨ s.start.startState = .tests then refusePacket s p h stNOTREADY
  else checkPacket s p h

/-- COMMAND_PACKET_RECEIVE: the oldest packet taken whole off its transport. -/
def execCommandPacketReceive (dt : Nat) (s : State) : Host.Outcome State Fault Refusal :=
  let s := advance s dt
  done (match s.porter.ready with
    | [] => s
    | p :: rest => receivePacket (s.modPorter (fun x => { x with ready := rest })) p)

/-! ### CAN segments (03 R80) -/

/-- The internal object that takes the requests of a port. -/
def requestObj (s : State) (p : Fin 6) : Option (Fin 512) :=
  let w := s.p0 (0x1200 + p.val) 5
  (objsOf s p (fun o => o.internal && !o.tx && o.new && o.id == idOfWord w && o.ide == bit w 31)).head?

/-- A packet in progress is discarded. -/
def dropSegment (s : State) (p : Fin 6) : State :=
  countTransport (s.modPorter (fun x => { x with canIn := vmod x.canIn p (fun _ => none) })) (Transport.can p).index 0

/-- A segment joins its packet; the last one makes it whole. -/
def addSegment (s : State) (p : Fin 6) (a : CanAssembly) (f : CanFrame) (body : List Byte) (last : Bool) : State :=
  let all := a.bytes ++ body
  s.modPorter (fun x => { x with
    canFmt := vmod x.canFmt p (fun _ => f.format)
    canIn := vmod x.canIn p (fun _ => if last then none else some { bytes := all, next := a.next + 1, lastAt := s.clk })
    ready := if last then x.ready ++ [{ tr := .can p, bytes := all }] else x.ready })

/-- CAN_SEGMENT_RECEIVE: the frame that the request object of the port holds. A segment out of count without a packet in
progress is ignored, a FIRST segment whose count is not 0 starts nothing and counts nothing of its own, and a frame
without a control byte during a packet discards that packet (DESIGN CHOICE, log 67). -/
def execCanSegmentReceive (dt : Nat) (p : Fin 6) (s : State) : Host.Outcome State Fault Refusal :=
  let s := advance s dt
  done (match requestObj s p with
    | none => s
    | some b => match (canObj s b).bind (fun o => o.frame) with
      | none => s
      | some f =>
        let s := modObj s b (fun o => { o with new := false })
        match f.data with
        | [] => if s.porter.canIn[p].isSome then dropSegment s p else s
        | ctl :: body =>
          let n : BitVec 6 := ctl.setWidth 6
          let last := ctl.getLsbD 6
          if ctl.getLsbD 7 then
            let s := if s.porter.canIn[p].isSome then dropSegment s p else s
            if n = 0 then addSegment s p { bytes := [], next := 0, lastAt := s.clk } f body last else s
          else match s.porter.canIn[p] with
            | none => s
            | some a => if n = a.next then addSegment s p a f body last else dropSegment s p)

/-- CAN_SEGMENT_TIMEOUT: no segment for 100 ms. -/
def execCanSegmentTimeout (dt : Nat) (p : Fin 6) (s : State) : Host.Outcome State Fault Refusal :=
  let s := advance s dt
  done (match s.porter.canIn[p] with
    | some a => if elapsed s a.lastAt (msTicks 100) then dropSegment s p else s
    | none => s)

/-! ### Session opcodes (23 R591) -/

/-- Berths that hold sessions, those awaiting their proof included. -/
def sessionCount (s : State) : Nat :=
  (s.porter.berths.toList.filter (fun b => match b with | .session _ => true | _ => false)).length

/-- SESSION_OPEN (03 R83). The timeout is the default of 60 s: the spec gives no index and no field that sets another one
(DESIGN CHOICE, log 67). -/
def execSessionOpen (tr : Transport) (tag : BitVec 16) (s : State) : Host.Outcome State Fault Refusal :=
  done (onCmd s tr tag 0x0700 fun s c => needLen s c 18 fun s =>
    let slot := field c.data 16 1
    let level := field c.data 17 1
    if 7 < slot ∨ s.porter.keys[finOf 8 slot] = none then reply s c stBADVALUE (elemHeader 0 16)
    else if level < 1 ∨ 4 < level then reply s c stBADVALUE (elemHeader 0 17)
    else match freeBerth s with
      | none => reply s c stBUSY []
      | some b =>
        if 64 ≤ sessionCount s then reply s c stBUSY []
        else
          let (n, s) := freshNonce s
          let s := setBerth s b (.session {
            isOpen := false, transport := c.tr, slot := finOf 8 slot, level := BitVec.ofNat 3 level
            nonces := c.data.take 16 ++ n, lastAt := s.clk, openTime := s.tb.now })
          reply s c stOK (beBytes 2 b.val ++ n))

/-- The ASCII string "session". -/
def sessionText : List Byte := [0x73, 0x65, 0x73, 0x73, 0x69, 0x6F, 0x6E]

/-- SESSION_PROVE (03 R83, R84): a wrong proof frees the berth and counts as a failed check 10 (log 67). -/
def execSessionProve (tr : Transport) (tag : BitVec 16) (s : State) : Host.Outcome State Fault Refusal :=
  done (onCmd s tr tag 0x0701 fun s c => needLen s c 32 fun s =>
    match s.porter.berths[c.berth] with
    | .session x =>
      if x.isOpen then reply s c stEXPIRED []
      else match s.porter.keys[x.slot] with
        | some k =>
          if c.data = hmac k.key x.nonces then
            let level := if x.level.toNat ≤ k.maxLevel.toNat then x.level else k.maxLevel
            let s := setBerth s c.berth (.session { x with
              isOpen := true, level := level, key := hmac k.key (sessionText ++ x.nonces)
              seqHigh := 0, window := BitVec.allOnes 32, lastAt := s.clk })
            reply s c stOK (beBytes 1 level.toNat ++ beBytes 2 x.timeout)
          else reply (countTransport (setBerth s c.berth .free) c.tr.index 3) c stAUTHFAILED []
        | none => reply (countTransport (setBerth s c.berth .free) c.tr.index 3) c stAUTHFAILED []
    | _ => reply s c stEXPIRED [])

/-- SESSION_CLOSE. -/
def execSessionClose (tr : Transport) (tag : BitVec 16) (s : State) : Host.Outcome State Fault Refusal :=
  done (onCmd s tr tag 0x0702 fun s c => needLen s c 0 fun s =>
    match openSession s (BitVec.ofNat 9 c.berth.val) with
    | some _ => reply (setBerth s c.berth .free) c stOK []
    | none => reply s c stEXPIRED [])

/-- SESSION_IDLE_TIMEOUT (03 R83, R86): source 1.4. -/
def execSessionIdleTimeout (dt : Nat) (b : Fin 512) (s : State) : Host.Outcome State Fault Refusal :=
  let s := advance s dt
  done (match s.porter.berths[b] with
    | .session x =>
      if x.isOpen && elapsed s x.lastAt (msTicks (1000 * x.timeout)) then raise (setBerth s b .free) 20 x.transport.index.val else s
    | _ => s)

/-- SESSION_PROOF_TIMEOUT (23 R591). -/
def execSessionProofTimeout (dt : Nat) (b : Fin 512) (s : State) : Host.Outcome State Fault Refusal :=
  let s := advance s dt
  done (match s.porter.berths[b] with
    | .session x => if !x.isOpen && elapsed s x.lastAt (msTicks 5000) then setBerth s b .free else s
    | _ => s)

/-! ### Long commands: ABORT and TIMEOUT (03 R78; 23 R577, R578) -/

/-- A stop request to a machine, as a DISABLE at this moment. -/
def askStop (s : State) (m : Fin 4) : State := s.modDrive m (fun d => { d with reqs := d.reqs ++ [{ fault := false, quick := false }] })

/-- An axis whose enable is aborted stays disabled. -/
def abortAxis (s : State) (k : Fin 6) : State :=
  (s.modAxis k (fun a => { a with enabling := none })).modAux
    (fun l => { l with outbox := l.outbox ++ [.legMode k .disabled (s.clk + 4000)] })

/-- ABORT of a long command that runs: the state, and whether it came before the point of no return. Whether the header
of a parameter store or an image is being written is not known to any command, so it is free (log 63). -/
def abortLong (s : State) (t : Cmd) : State × Bool :=
  match t.opcode.toNat with
  | 0x0102 =>
    match s.porter.storing with
    | none => (s, false)
    | some x =>
      let (late, s) := s.freshBool
      if x.step2 || late then (s.modPorter (fun p => { p with storing := some { x with step2 := true } }), false)
      else (completeAt (s.modPorter (fun p => { p with storing := none })) t.id stABORTED [], true)
  | 0x0200 =>
    if s.drive[t.m].enabling.any (fun e => e.result.isNone && e.cmd == some t.id) then
      (askStop (endEnable s t.m stABORTED [0]) t.m, true)
    else (s, false)
  | 0x0400 => (completeAt (abortAxis s t.axis) t.id stABORTED [], true)
  | 0x0712 => (abortCanSend s t.id).getD (s, false)
  | 0x0A12 =>
    match s.porter.load with
    | none => (s, false)
    | some x =>
      let (late, s) := s.freshBool
      if x.headerBegun || late then (s.modPorter (fun p => { p with load := some { x with headerBegun := true } }), false)
      else (completeAt (s.modPorter (fun p => { p with load := none })) t.id stABORTED [], true)
  | _ => (s, false)

/-- ABORT. -/
def execAbort (tr : Transport) (tag : BitVec 16) (s : State) : Host.Outcome State Fault Refusal :=
  done (onCmd s tr tag 0x0003 fun s c => needLen s c 2 fun s =>
    let named : BitVec 16 := BitVec.ofNat 16 (beNat c.data)
    match findCmd s c.tr named with
    | none => reply s c stBADVALUE (elemHeader 0 0)
    | some t =>
      if named = c.tag then reply s c stLATE []
      else if c.level.toNat < t.level.toNat then reply s c stDENIED []
      else if t.phase = .waiting then reply (queueFor s t.tr t.tag false true stABORTED []) c stOK []
      else if t.phase = .running then
        let r := abortLong s t
        reply r.1 c (if r.2 then stOK else stLATE) []
      else reply s c stLATE [])

/-- LONG_COMMAND_TIMEOUT (23 R577). AXIS_ENABLE and CAN_SEND have their own limits, which other commands hold. -/
def execLongCommandTimeout (dt : Nat) (tr : Transport) (tag : BitVec 16) (s : State) : Host.Outcome State Fault Refusal :=
  let s := advance s dt
  done (match findCmd s tr tag with
    | none => s
    | some t =>
      if t.phase ≠ .running then s
      else match t.opcode.toNat with
        | 0x0102 =>
          if elapsed s t.startedAt (msTicks 100) ∧ s.porter.storing.any (fun x => x.cmd == t.id) = true then
            completeAt (s.modPorter (fun p => { p with storing := none })) t.id stTIMEOUT []
          else s
        | 0x0200 =>
          if elapsed s t.startedAt (msTicks 130000) ∧ s.drive[t.m].enabling.any (fun e => e.result.isNone) = true then
            faultStop (endEnable s t.m stTIMEOUT []) t.m none
          else s
        | 0x0A12 =>
          if elapsed s t.startedAt (msTicks 2000) ∧ s.porter.load.any (fun x => x.ending.isSome) = true then
            completeAt (s.modPorter (fun p => { p with load := none })) t.id stTIMEOUT []
          else s
        | _ => s)

/-! ### System opcodes (23 R579 to R581) -/

/-- The running image. -/
def runningImage (s : State) : Image :=
  s.start.runImage.getD { version := BitVec.ofNat 16 (Config.outside 41 []), generation := BitVec.ofNat 32 (Config.outside 42 []) }

/-- IDENTIFY. The silicon issue is B (21 R551). -/
def execIdentify (tr : Transport) (tag : BitVec 16) (s : State) : Host.Outcome State Fault Refusal :=
  done (onCmd s tr tag 0x0000 fun s c => needLen s c 0 fun s =>
    reply s c stOK (beBytes 8 Config.uid.toNat ++ beBytes 2 (runningImage s).version.toNat ++ [0x42]
      ++ beBytes 1 (flag s.start.imageSel 0) ++ beBytes 4 (runningImage s).generation.toNat ++ beBytes 4 0x296406B7
      ++ beBytes 1 s.fabric.addr.toNat))

/-- Data of the STATUS reply (23 R579). -/
def statusData (s : State) : List Byte :=
  beBytes 1 s.start.startState.code
  ++ beBytes 1 (flag s.start.pwrgd 0 + flag (four.any (fun h => s.hearths[h].mode != .triplex)) 1 + flag (throttling s) 2
      + flag s.ports.unlocked 3 + flag s.tb.aligned 4)
  ++ beBytes 2 (flueSum s)
  ++ four.flatMap (fun m => beBytes 1 (if s.en m then s.startM[m].state.code else 0xFF))
  ++ six.flatMap (fun k => beBytes 1 (axisCode s k))
  ++ beBytes 2 (four.foldl (fun a h => a * 16 + s.hearths[h].mode.code) 0)
  ++ four.flatMap (fun m => beBytes 2 (safetyWord s false m / 65536))
  ++ beBytes 4 (fabStatusWord s) ++ beBytes 8 s.tb.now.toNat

/-- STATUS. -/
def execStatus (tr : Transport) (tag : BitVec 16) (s : State) : Host.Outcome State Fault Refusal :=
  done (onCmd s tr tag 0x0001 fun s c => needLen s c 0 fun s => reply s c stOK (statusData s))

/-- BARRIER (03 R76): it starts only once every earlier command of its transport has ended. -/
def execBarrier (tr : Transport) (tag : BitVec 16) (s : State) : Host.Outcome State Fault Refusal :=
  done (onCmd s tr tag 0x0002 fun s c => needLen s c 0 fun s => reply s c stOK [])

/-- MODULE_RESET (23 R580): the reset is taken when the reply has left, or after 10 ms. -/
def execModuleReset (tr : Transport) (tag : BitVec 16) (s : State) : Host.Outcome State Fault Refusal :=
  done (onCmd s tr tag 0x0004 fun s c => needLen s c 0 fun s =>
    (reply s c stOK []).modStart (fun x => if x.resetPending.isSome then x else { x with
      resetPending := some .opcode, resetPendingAt := s.clk }))

/-- The resettable block of an INDEX and an instance (23 R581): an INDEX outside the table, or an instance outside its
range, gives its status. -/
def resettable (index inst : Nat) : Except (BitVec 16) Blk :=
  let pick (n : Nat) (f : Blk) : Except (BitVec 16) Blk := if inst < n then .ok f else .error stBADVALUE
  match index with
  | 0x04 => pick 4 (.stv (finOf 4 inst))
  | 0x05 => pick 4 (.tfu (finOf 4 inst))
  | 0x06 => pick 4 (.sns (finOf 4 inst))
  | 0x07 => pick 1 .prf
  | 0x08 => pick 1 .axd
  | 0x09 => pick 4 (.glk (finOf 4 inst))
  | 0x0D => pick 6 (.can (finOf 6 inst))
  | 0x0E => pick 4 (.vnf (finOf 4 inst))
  | 0x0F => pick 4 (if inst < 2 then .eth (finOf 2 inst) else .ser (finOf 2 (inst - 2)))
  | _ => .error stBADTARGET

/-- BLOCK_RESET: the other tags of a port end without a reply, its own is answered. While a module reset is under way the
request is discarded (02 R62) and the opcode answered all the same (DESIGN CHOICE, log 68). -/
def execBlockReset (tr : Transport) (tag : BitVec 16) (s : State) : Host.Outcome State Fault Refusal :=
  done (onCmd s tr tag 0x0005 fun s c => needLen s c 1 fun s =>
    match resettable (tIndex c.target) (beNat c.data) with
    | .error st => reply s c st (if st = stBADVALUE then elemHeader 0 0 else [])
    | .ok b => reply (if s.start.resetPending.isSome then s else resetBlock s b (some c.id)) c stOK [])

/-- TIME_READ. -/
def execTimeRead (tr : Transport) (tag : BitVec 16) (s : State) : Host.Outcome State Fault Refusal :=
  done (onCmd s tr tag 0x0006 fun s c => needLen s c 0 fun s =>
    reply s c stOK (beBytes 8 s.tb.now.toNat ++ beBytes 4 (s32 s.fabric.offset) ++ beBytes 1 (flag s.tb.aligned 0)))

/-! ### Key and safety opcodes (23 R588, R594, R597) -/

/-- KEY_WRITE: active at once. -/
def execKeyWrite (tr : Transport) (tag : BitVec 16) (s : State) : Host.Outcome State Fault Refusal :=
  done (onCmd s tr tag 0x0A30 fun s c => needLen s c 34 fun s =>
    let k := field c.data 0 1
    let level := field c.data 1 1
    let key := c.data.drop 2
    if 8 < k then reply s c stBADVALUE (elemHeader 0 0)
    else if k = 8 then reply (s.modPorter (fun p => { p with debugKey := key })) c stOK []
    else if level < 1 ∨ 4 < level then reply s c stBADVALUE (elemHeader 0 1)
    else reply (s.modPorter (fun p => { p with
      keys := vmod p.keys (finOf 8 k) (fun _ => some ⟨BitVec.ofNat 3 level, key⟩) })) c stOK [])

/-- Outputs that are on, and connections that are lost, in one byte each. -/
def outsOn (s : State) : Nat := four.foldl (fun a o => a + flag (s.safety.outs[o].a && s.safety.outs[o].b) o.val) 0
def connsLost (s : State) : Nat := eight.foldl (fun a c => a + flag (s.safety.damper.conns[c].lost) c.val) 0

/-- SAFETY_STATUS, in the Damper's view (log 58). -/
def execSafetyStatus (tr : Transport) (tag : BitVec 16) (s : State) : Host.Outcome State Fault Refusal :=
  done (onCmd s tr tag 0x0500 fun s c => needLen s c 0 fun s =>
    reply s c stOK (four.flatMap (fun m => beBytes 4 (safetyWord s false m)) ++ beBytes 1 (inputBits s false)
      ++ beBytes 1 (outsOn s) ++ beBytes 1 (connsLost s)))

/-- The three CRCs of parameter 0x6000. -/
def safetyCrcs (s : State) : List Nat := [readParam s 0 0 0x6000 1, readParam s 0 0 0x6000 2, readParam s 0 0 0x6000 3]

/-- SAFETY_CRC. -/
def execSafetyCrc (tr : Transport) (tag : BitVec 16) (s : State) : Host.Outcome State Fault Refusal :=
  done (onCmd s tr tag 0x0501 fun s c => needLen s c 0 fun s => reply s c stOK ((safetyCrcs s).flatMap (beBytes 4)))

/-- SAFETY_VALIDATE: a journal entry of kind 0x06, and nothing else. -/
def execSafetyValidate (tr : Transport) (tag : BitVec 16) (s : State) : Host.Outcome State Fault Refusal :=
  done (onCmd s tr tag 0x0502 fun s c => needState s c s.safety.cfgFault 4 fun s =>
    if (safetyCrcs s).any (fun x => x != beNat c.data) then reply s c stBADVALUE (elemHeader 0 0)
    else
      let slot := match openSession s c.session with
        | some x => x.slot.val
        | none => 0xFF
      reply (journal s 6 0 (c.data ++ beBytes 2 c.session.toNat ++ beBytes 1 slot ++ [1] ++ List.replicate 4 0)) c stOK [])

end Sys2Proof.Machine
end

