-- ==== Sys2Proof/Machine/StartFam.lean ====
section
/-! DEFINITION. Commands of the timebase's reference and rails (01_architecture R23, R27) and of the supplies and the
staged start (02_bring_up R45 to R52, R61, R637). -/
namespace Sys2Proof.Machine

/-- TIMEBASE_WRAP (00 R4): the wrap event of a time stamp that has passed its greatest value. -/
def execTimebaseWrap (dt : Nat) (s : State) : Host.Outcome State Fault Refusal :=
  let s := advance s dt
  done (if s.tb.wrapDue then raise (s.modTb (fun t => { t with wrapDue := false })) 47 0 else s)

/-- RAIL_REPORT (01 R23): the supply die's report every 100 µs, in mV for H0 to H3, STOVE, TFU, COMMS, MEM, FLUE. A rail
that 14 R369 takes to 900 mV is raised by its next step with it. -/
def execRailReport (dt : Nat) (mv : Vector Nat 9) (s : State) : Host.Outcome State Fault Refusal :=
  let s := advance s dt
  done (
    if !s.tb.pllLock then s
    else
      let fast := s.tb.railSeen && ([0, 1, 2, 3, 4, 5, 6, 7, 8] : List (Fin 9)).any (fun k =>
        decide (10 < ((mv[k] : Int) - s.tb.railMv[k]).natAbs))
      fixedRails (envelopeCheck (s.modTb (fun t => { t with railMv := mv, railSeen := true, railFast := fast }))))

/-- TIMEBASE_REFERENCE_LOSS (01 R27): 2.14 is raised; its reaction mask waits for the 100 µs. -/
def execTimebaseReferenceLoss (dt : Nat) (s : State) : Host.Outcome State Fault Refusal :=
  let s := advance s dt
  done (if s.tb.ref = .present ∧ s.tb.pllLock = true then
      raise (s.modTb (fun t => { t with
        ref := .missing s.clk, refOk := false, lossMasked := t.lossMasked || !sticky s 46 })) 46 0
    else s)

/-- REFERENCE_HOLDOVER_EXPIRY (01 R27): 100 µs without the reference stop the TFU of every enabled machine, and the Flue
applies the reaction mask of 2.14. -/
def execReferenceHoldoverExpiry (dt : Nat) (s : State) : Host.Outcome State Fault Refusal :=
  let s := advance s dt
  done (match s.tb.ref with
    | .missing since =>
      if elapsed s since (usTicks 100) then
        let masked := s.tb.lossMasked
        let s := forAll four (fun m s => stopTfu (if s.en m then noteSource s m 46 0 else s) m)
          (s.modTb (fun t => { t with ref := .holdover, lossMasked := false }))
        if masked then applyMask s 46 else s
      else s
    | _ => s)

/-- REFERENCE_RETURN (01 R27): the count runs on without a jump; control does not resume. -/
def execReferenceReturn (dt : Nat) (s : State) : Host.Outcome State Fault Refusal :=
  let s := advance s dt
  done (s.modTb (fun t => { t with ref := .present, refOk := t.pllLock }))

/-! ### Supplies and the staged start -/

def Supply.code : Supply → Nat
  | .vinCore => 0 | .vio => 1 | .vana => 2 | .vauxGate => 3
def SupplyFault.code : SupplyFault → Nat
  | .tooFast => 0 | .tooSlow => 1 | .notMonotonic => 2 | .order => 3

/-- SUPPLY_ORDER_VIOLATION (02 R637): held until the end of the start, or raised while the boot ROM or the firmware runs. -/
def execSupplyOrderViolation (dt : Nat) (supply : Supply) (kind : SupplyFault) (s : State) : Host.Outcome State Fault Refusal :=
  let s := advance s dt
  done (
    if s.start.bootBegun then raise s 0 (supply.code + 16 * kind.code)
    else s.modStart (fun x => { x with
      violations := if (supply, kind) ∈ x.violations then x.violations else x.violations ++ [(supply, kind)] }))

/-- The safety state that outlives the control die: the Damper's, with the levels at the balls (02 R61; 15 R418). -/
def damperKept (x : Safety) : Safety :=
  { x with
    h0 := { inputs := Vector.ofFn (fun k : Fin 9 => {
      levelA := x.damper.inputs[k].levelA, levelB := x.damper.inputs[k].levelB }) }
    genReq := Vector.replicate 4 none, stoReq := Vector.replicate 4 false, sbcReq := Vector.replicate 4 false
    releaseReq := Vector.replicate 4 false, hbH0 := 0, hbH0At := none, h0CheckAt := none
    dampSeenAt := 0, dampSeenUs := 0, dampLost := false, crcH0 := 0, pduIn := []
    links := x.links.map (fun k => { fault := k.fault })
    inCount := Vector.replicate 8 {}, demands := Vector.replicate 4 {} }

/-- The control, analog and auxiliary dies lose their state: MRAM content and the Damper stay (02 R46, R61). -/
def powerLost (s : State) : State :=
  { State.reset with
    clk := s.clk, freeCtr := s.freeCtr, out := s.out, pending := s.pending
    store := s.store
    mem := { mram := s.mem.mram, poisoned := s.mem.poisoned.filter (fun a => decide (0x10000000 ≤ a)), spareMram := s.mem.spareMram }
    journal := { nextSeq := s.journal.nextSeq, held := s.journal.held }
    trace := { records := s.trace.records, nextNumber := s.trace.nextNumber }
    cal := { quietAt := s.clk }
    safety := { damperKept s.safety with dampSeenAt := s.clk }
    start := { clkSel := s.start.clkSel, vanaUp := s.start.vanaUp, resetNLow := s.start.resetNLow, resetNHighAt := s.start.resetNHighAt } }

/-- CORE_BROWN_OUT (02 R46, R61): VIN_CORE or VIO below its threshold removes every region rail and the supply state. -/
def execCoreBrownOut (dt : Nat) (s : State) : Host.Outcome State Fault Refusal :=
  done (powerLost (advance s dt))

/-- VANA_BROWN_OUT (02 R46). -/
def execVanaBrownOut (dt : Nat) (s : State) : Host.Outcome State Fault Refusal :=
  let s := advance s dt
  done (
    if !s.start.vanaUp then s
    else
      let s := raise (s.modStart (fun x => { x with vanaUp := false })) 10 0
      forAll four (fun m s =>
        if usesAnalog s m then
          let s := s.modStart (fun x => { x with forbidAnalog := vmod x.forbidAnalog m (fun _ => true) })
          if s.en m then faultStop (noteSource s m 10 0) m none else s
        else s) s)

/-- VANA_RETURN (02 R46): the analog checks of 02 R57 run; with `ok` the machines can be enabled again, else 0.10 is
raised. -/
def execVanaReturn (dt : Nat) (ok : Bool) (s : State) : Host.Outcome State Fault Refusal :=
  let s := advance s dt
  done (
    if s.start.vanaUp then s
    else if ok then s.modStart (fun x => { x with vanaUp := true, forbidAnalog := Vector.replicate 4 false })
    else raise (s.modStart (fun x => { x with vanaUp := true })) 10 0)

/-- START_REFERENCE (02 R48, R51): VIN_CORE and VIO have stayed up together for 100 µs; the TB rail is released,
and CLK_SEL is read once (25 R627). -/
def execStartReference (dt : Nat) (s : State) : Host.Outcome State Fault Refusal :=
  let s := advance s dt
  done (
    if s.start.awaitRef && !s.start.latchedOff && s.start.offUntil.isNone then
      s.modStart (fun x => { x with
        coreUp := true, awaitRef := false, attempt := x.attempt + 1, step := 1, refAt := s.clk, startState := .staged
        refIn := some (x.refIn.getD x.clkSel) })
    else s)

/-- PLL_LOCK (02 R48 step 2): the tick count starts at 0. -/
def execPllLock (dt : Nat) (s : State) : Host.Outcome State Fault Refusal :=
  let s := advance s dt
  done (
    if s.start.coreUp && s.start.step == 1 then
      (s.modTb (fun t => { t with counting := true, now := 0, pllLock := true, refOk := decide (t.ref = .present) })).modStart
        (fun x => { x with step := 2, lockAt := s.clk })
    else s)

/-- STAGED_RELEASE_STEP (02 R48): the next of steps 3 to 15, at L plus a whole number of 100 µs. With step 15 the boot
ROM starts. -/
def execStagedReleaseStep (dt : Nat) (s : State) : Host.Outcome State Fault Refusal :=
  let s := advance s dt
  let n := s.start.step + 1
  done (
    if 3 ≤ n ∧ n ≤ 15 ∧ elapsed s s.start.lockAt (usTicks (100 * (n - 2))) = true then
      s.modStart (fun x => { x with step := n, startState := if n = 15 then .boot else x.startState })
    else s)

/-- The tick at which the rail of the last release step was released: that of TB, and those of the steps 3 to 11 (02 R48). -/
def railReleasedAt (x : Start) : Option Nat :=
  if x.step = 1 then some x.refAt
  else if 3 ≤ x.step ∧ x.step ≤ 11 then some (x.lockAt + usTicks (100 * (x.step - 2))) else none

/-- RAIL_REGULATION_TIMEOUT (02 R51): a released rail is not in regulation 80 µs after its release. The second failure
leaves the rails off. -/
def execRailRegulationTimeout (dt : Nat) (s : State) : Host.Outcome State Fault Refusal :=
  let s := advance s dt
  done (
    if s.start.coreUp && !s.start.bootBegun && elapsedO s (railReleasedAt s.start) (usTicks 80) then
      let x := s.start
      (powerLost s).modStart (fun y => { y with
        awaitRef := false, attempt := x.attempt, failedStep := some x.step, violations := x.violations, refIn := x.refIn
        offUntil := some (s.clk + msTicks 10), latchedOff := decide (2 ≤ x.attempt) })
    else s)

/-- RAIL_OFF_PERIOD_END (02 R51): after 10 ms a new start reference is awaited, unless the second attempt failed. -/
def execRailOffPeriodEnd (dt : Nat) (s : State) : Host.Outcome State Fault Refusal :=
  let s := advance s dt
  done (match s.start.offUntil with
    | some t =>
      if t ≤ s.clk then s.modStart (fun x => { x with offUntil := none, awaitRef := !x.latchedOff }) else s
    | none => s)

/-- RESET_N_ASSERT (02 R51, R52, R61): RESET_N low for 1 µs or more. -/
def execResetNAssert (dt : Nat) (s : State) : Host.Outcome State Fault Refusal :=
  let s := advance s dt
  let s := s.modStart (fun x => { x with resetNLow := some s.clk })
  done (
    if s.start.bootBegun then
      s.modStart (fun x => if x.resetPending.isSome then x else { x with resetPending := some .pin, resetPendingAt := s.clk })
    else if s.start.latchedOff then
      s.modStart (fun x => { x with latchedOff := false, awaitRef := true, offUntil := none, attempt := 0 })
    else s)

/-- RESET_N_RELEASE (02 R52). -/
def execResetNRelease (dt : Nat) (s : State) : Host.Outcome State Fault Refusal :=
  let s := advance s dt
  done (s.modStart (fun x => { x with resetNLow := none, resetNHighAt := s.clk }))

end Sys2Proof.Machine
end

