-- ==== Sys2Proof/Machine/Firmware.lean ====
section
/-! DEFINITION. The boot ROM, the end of the start-up tests, the module reset, and the firmware images
(spec file 02_bring_up R53 to R63, 22 R563, 23 R596, R597). -/
namespace Sys2Proof.Machine

/-! ### Images -/

def imageOf (s : State) (b : Bool) : Image := if b then s.store.imageB else s.store.imageA
def modImage (s : State) (b : Bool) (f : Image → Image) : State :=
  s.modStore (fun x => if b then { x with imageB := f x.imageB } else { x with imageA := f x.imageA })

/-- The rollback floor (02 R55): that of the good boot record with the higher write generation. With no good record the
spec states none: free (log 69). -/
def rollbackFloor (s : State) : BitVec 16 :=
  let a := s.store.boot0
  let b := s.store.boot1
  if a.crcOk && b.crcOk then (if later b.generation a.generation then b.floor else a.floor)
  else if a.crcOk then a.floor else if b.crcOk then b.floor
  else BitVec.ofNat 16 (Config.outside 40 [])

/-- Candidates (02 R53) in their order: false is image A, true image B. -/
def candidates (s : State) : List Bool :=
  let ok (b : Bool) : Bool :=
    (imageOf s b).headerOk && !(imageOf s b).notBootable && decide ((rollbackFloor s).toNat ≤ (imageOf s b).version.toNat)
  let l : List Bool := if s.store.imageA.generation.toNat < s.store.imageB.generation.toNat then [true, false] else [false, true]
  l.filter ok

/-- Journal entry of kind 0x05 (23 R590). -/
def journalImage (s : State) (event : Nat) (b : Bool) (tag : BitVec 16) : State :=
  journal s 5 event ([BitVec.ofNat 8 event] ++ beBytes 1 (flag b 0) ++ beBytes 4 (imageOf s b).generation.toNat
    ++ beBytes 2 (imageOf s b).version.toNat ++ beBytes 2 tag.toNat ++ [0, 0])

/-- Base of an image area. -/
def imageBase (b : Bool) : Nat := if b then 0x14000000 else 0x10000000

/-- The body of an image, as MRAM holds it. -/
def imageBody (s : State) (b : Bool) : List Byte := cellsGet s.mem.mram (imageBase b) (imageOf s b).length

/-- The image is copied from MRAM into the firmware area of the SRAM (02 R53; 22 R556). -/
def copyImage (s : State) (b : Bool) : State := s.modMem (fun m => { m with sram := cellsPut m.sram 0 (imageBody s b) })

/-- The signature of an image over its SRAM copy (02 R53): as the load found it where the copy is what the load checked,
else by the free ECDSA check (log 12). -/
def copyGood (s : State) (b : Bool) : Bool :=
  let i := imageOf s b
  let copy := cellsGet s.mem.sram 0 i.length
  if copy = i.checked then i.sigOk else Config.imageSigned i.header copy

/-- The boot ROM's walk over the candidates (02 R53): the image started, if any. -/
def pickImage : List Bool → State → Option Bool × State
  | [], s => (none, s)
  | b :: rest, s =>
    let s := copyImage s b
    let i := imageOf s b
    if copyGood s b then
      if i.trial then
        if i.trialCount = 3 then pickImage rest (journalImage (modImage s b (fun x => { x with notBootable := true })) 4 b 0)
        else (some b, modImage s b (fun x => { x with trialCount := x.trialCount + 1 }))
      else (some b, s)
    else pickImage rest (raise s (if b then 3 else 2) 0)

/-- The values and keys of a copy become active (02 R56). -/
def loadCopy (s : State) (c : StoreCopy) : State :=
  let slot (k : Nat) : Option KeySlot := match c.keys.find? (fun x => x.1 == k) with
    | some x => some ⟨BitVec.ofNat 3 x.2.1, x.2.2⟩
    | none => none
  let debug : List Byte := match c.keys.find? (fun x => x.1 == 8) with
    | some x => x.2.2
    | none => List.replicate 32 0
  let s := s.modPorter (fun p => { p with params := c.values, keys := Vector.ofFn (fun k : Fin 8 => slot k.val), debugKey := debug })
  -- the bank that the copy selects is in use (08 R229, R232)
  let s := forAll four (fun i s => s.modStove i (fun v => { v with bank := finOf 2 (s.ps i 0x3004 1), bankSealed := none, swapDue := false })) s
  -- the energy of a brake resistor starts at half of its E_max (12 R322), in mJ
  forAll four (fun m s => s.modDrive m (fun d => { d with energy := 500 * s.pm m 0x2702 2 })) s

/-- The parameter store is loaded, repaired, or replaced by the factory defaults (02 R56). -/
def loadParams (s : State) : State :=
  let a := s.store.copy0
  let b := s.store.copy1
  let s := s.modStart (fun x => { x with paramDefault := false, needStore := false })
  if a.crcOk && b.crcOk then loadCopy s (if later b.generation a.generation then b else a)
  else if a.crcOk then raise (modCopy (loadCopy s a) true (fun _ => a)) 5 0
  else if b.crcOk then raise (modCopy (loadCopy s b) false (fun _ => b)) 5 0
  else raise (s.modStart (fun x => { x with paramDefault := true, needStore := true })) 5 0

/-! ### The start (02 R52 to R59) -/

/-- The end of a start: START, IRQ_HOST and PWRGD, and the entry of kind 0x04 (02 R58; 21 R548; 22 R565). -/
def endOfStart (s : State) (st : StartState) : State :=
  let s := s.modStart (fun x => { x with startState := st, pwrgd := st == .ready || st == .restricted })
  let s := s.modPorts (fun p => { p with hspiStart := true })
  let s := s.start.violations.foldl (fun s v => raise s 0 (v.1.code + 16 * v.2.code)) s
  let s := match s.start.failedStep with
    | some k => journal (raise s 1 k) 4 1 (beBytes 4 k ++ List.replicate 8 0)
    | none => s
  let s := s.modStart (fun x => { x with violations := [], failedStep := none })
  journal s 4 0 (beBytes 4 (rstCause s) ++ beBytes 4 (runningImage s).generation.toNat ++ List.replicate 4 0)

/-- The boot ROM begins: the ring position is read back, the Flue runs, and the raises that a reset of the module or of
the Damper left owed are made (02 R50, R62, R63; 22 R566). -/
def bootBegins (s : State) : State :=
  let owed := s.start.owed14
  let s := (journalStart s).modStart (fun x => { x with
    bootBegun := true, owed14 := 0, mustHold := false, forbidMachine := Vector.replicate 4 false
    forbidStove := Vector.replicate 4 false, forbidAxes := false, forbidLink := Vector.replicate 4 false })
  let s := (List.range owed).foldl (fun s _ => raise s 14 0) s
  (raiseIf s.start.owed15 s 15 0).modStart (fun x => { x with owed15 := false })

/-- The image `b` runs: IMAGE_SEL, IMAGE_FALLBACK with 0.4, the parameters and the calibration (02 R54, R56; 14 R373). -/
def startImage (s : State) (fallback b : Bool) : State :=
  let s := s.modStart (fun x => { x with
    imageSel := b, imageFallback := x.imageFallback || fallback, startState := .tests, runImage := some (imageOf s b) })
  calLoad (loadParams (raiseIf fallback s 4 0))

/-- BOOT_ROM_START (02 R52 to R56): after step 15, with RESET_N high for 10 µs. Without an image to start, HOLD. -/
def execBootRomStart (dt : Nat) (s : State) : Host.Outcome State Fault Refusal :=
  let s := advance s dt
  done (
    if s.start.startState ≠ .boot ∨ s.start.bootBegun = true ∨ s.start.resetNLow.isSome = true
        ∨ elapsed s s.start.resetNHighAt (usTicks 10) = false then s
    else
      let s := bootBegins s
      match pickImage (candidates s) s with
      | (none, s) => endOfStart s .hold
      | (some b, t) => startImage t ((candidates s).head? != some b) b)

/-- A core that failed its Trivet injection is retired (02 R57). -/
def retireAtStart (s : State) (h : Fin 4) (lane : Fin 3) : State :=
  s.modHearth h (fun x =>
    let y := { x with coreOk := vmod x.coreOk lane (fun _ => false), retiredAt := vmod x.retiredAt lane (fun _ => s.tb.now) }
    { y with mode := serviceMode y })

/-- The Trivet injection of one Hearth: the state, whether it asks for HOLD, and whether it failed at all. "More than one
lane" of 02 R57 is counted per Hearth: one failed lane in each of two Hearths gives RESTRICTED (DESIGN CHOICE, log 80). -/
def trivetTest (t : StartTests) (s : State) (h : Fin 4) : State × Bool × Bool :=
  let failed := three.filter (fun k => t.lanes[h][k])
  let any := t.trivets[h] || !failed.isEmpty
  if h = 0 then (s, any, any)
  else if t.trivets[h] || decide (2 ≤ failed.length) then (s, true, any)
  else match failed with
    | [k] => (retireAtStart s h k, false, true)
    | _ => (s, false, any)

/-- Flags of a table row joined to those already set. -/
def orFlags (a b : Vector Bool 4) : Vector Bool 4 := Vector.ofFn (fun i : Fin 4 => a[i] || b[i])
def anyFlag (a : Vector Bool 4) : Bool := a[(0 : Fin 4)] || a[(1 : Fin 4)] || a[(2 : Fin 4)] || a[(3 : Fin 4)]

/-- The results of the start-up tests in the order of the table of 02 R57: the state with their raises, retirements and
forbidden machines, whether one asks for HOLD, and whether one asks for RESTRICTED. -/
def startTests (t : StartTests) (s : State) : State × Bool × Bool :=
  let r0 := trivetTest t s 0
  let r1 := trivetTest t r0.1 1
  let r2 := trivetTest t r1.1 2
  let r3 := trivetTest t r2.1 3
  let s := raiseIf r0.2.2 r3.1 6 0
  let others := r1.2.2 || r2.2.2 || r3.2.2
  let s := raiseIf others s 7 0
  let s := raiseIf t.sramBad s 8 0
  let s := (List.range t.sramRows).foldl (fun s _ => spareSramRow s) s
  let known := anyFlag t.knownTfu || anyFlag t.knownStove
  let s := raiseIf known s 9 0
  let s := raiseIf (anyFlag t.analog) s 10 0
  let s := raiseIf t.damper s 11 0
  let s := raiseIf t.auxDie s 12 0
  let phy := anyFlag t.gateLink || anyFlag t.fabricLink
  let s := raiseIf phy s 13 0
  let s := s.modStart (fun x => { x with
    forbidMachine := orFlags x.forbidMachine (orFlags t.knownTfu t.gateLink)
    forbidStove := orFlags x.forbidStove t.knownStove
    forbidAnalog := orFlags x.forbidAnalog t.analog
    forbidAxes := x.forbidAxes || t.auxDie
    forbidLink := orFlags x.forbidLink t.fabricLink })
  (s, s.start.mustHold || r0.2.1 || r1.2.1 || r2.2.1 || r3.2.1 || t.sramBad || t.damper,
    s.start.needStore || others || known || anyFlag t.analog || t.auxDie || phy)

/-- STARTUP_TESTS_END (02 R57, R58): READY, RESTRICTED or HOLD; out of HOLD the CAN ports start and the trace arms. -/
def execStartupTestsEnd (dt : Nat) (t : StartTests) (s : State) : Host.Outcome State Fault Refusal :=
  let s := advance s dt
  done (
    if s.start.startState ≠ .tests then s
    else
      let (s, hold, restricted) := startTests t s
      if hold then endOfStart s .hold
      else traceArm (forAll six (fun p s => startCan s p) (endOfStart s (if restricted then .restricted else .ready))))

/-! ### Module reset (02 R61 to R63) -/

/-- A record is copied to the journal (22 R565 kind 0x03). -/
def journalRecord (s : State) (r : Option FaultRec) : State :=
  match r with
  | none => s
  | some x => s.modJournal (fun j => { j with queue := j.queue ++ [{
      kind := 3, code := x.source.setWidth 16, stamp := x.stamp
      data := beBytes 4 (infoWord true x) ++ beBytes 4 x.addr.toNat ++ List.replicate 4 0 }] })

/-- The reset may be taken now: for the opcode, when its reply has left or after 10 ms (23 R580). -/
def resetDue (s : State) : Bool :=
  match s.start.resetPending with
  | none => false
  | some .opcode => !(s.porter.replies.any (fun r => r.opcode == 0x0004#16 && !r.refused)) || elapsed s s.start.resetPendingAt (msTicks 10)
  | some _ => true

/-- What TB keeps through a module reset: the count, its counters, its rails and reference. -/
def keptTb (t : Timebase) : Timebase :=
  { now := t.now, counting := t.counting, wrapDue := t.wrapDue, lossMasked := t.lossMasked, pllLock := t.pllLock, ref := t.ref, refOk := t.refOk, railMv := t.railMv
    railSeen := t.railSeen, railFast := t.railFast, envelope := t.envelope, missTfu := t.missTfu, missStove := t.missStove, missProf := t.missProf }

/-- What the supply die and RST_CAUSE keep, with the cause of the reset; the start runs from step 15. -/
def keptStart (x : Start) (c : ResetCause) : Start :=
  let n := ctrInc 16 x.rstCount
  { coreUp := x.coreUp, clkSel := x.clkSel, refIn := x.refIn, vanaUp := x.vanaUp, attempt := x.attempt, step := 15, refAt := x.refAt, lockAt := x.lockAt
    awaitRef := false, resetNLow := x.resetNLow, resetNHighAt := x.resetNHighAt
    failedStep := x.failedStep, violations := x.violations, owed15 := x.owed15
    rstCount := n.1, damperPor := x.damperPor, powerOn := x.powerOn
    extReset := x.extReset || c == .pin, flueReset := x.flueReset || c == .flue, cmdReset := x.cmdReset || c == .opcode
    imageFallback := x.imageFallback, imageSel := x.imageSel, paramDefault := x.paramDefault
    startState := .boot, owed14 := x.owed14 + (if n.2 then 2 else 1) }

/-- FER and NER are copied to the journal, which is written out (17 R464, 22 R566). -/
def resetJournalled (s : State) : State :=
  let s := journalRecord (journalRecord s s.flue.fer) s.flue.ner
  writeOut (s.journal.queue.length + 1) s

/-- What a module reset leaves of the state that its journal entries left: TB, RST_CAUSE, the MRAM, the Damper and the
time stamps of the resets by the Flue (02 R61, R63; 17 R459). -/
def moduleReset (s : State) (c : ResetCause) : State :=
  let stamps := if c = .flue then (s.clk :: s.flue.resetStamps).take 2 else s.flue.resetStamps
  let p := powerLost s
  { p with tb := keptTb s.tb, start := keptStart s.start c, flue := { p.flue with resetStamps := stamps } }

/-- MODULE_RESET_TAKE: the records go to the journal, which is written out, and everything but TB, RST_CAUSE, the
MRAM and the Damper is reset. -/
def execModuleResetTake (dt : Nat) (s : State) : Host.Outcome State Fault Refusal :=
  let s := advance s dt
  done (match s.start.resetPending with
    | none => s
    | some c => if resetDue s then moduleReset (resetJournalled s) c else s)

/-! ### Image load (23 R596, 22 R563) -/

/-- The open load belongs to the command that names it. -/
def ownLoad (s : State) (c : Cmd) : Option ImageLoad :=
  match s.porter.load with
  | some x =>
    if x.transport == c.tr && (x.session.isNone || (c.sv && x.session == some c.session)) && x.ending.isNone then some x else none
  | none => none

/-- IMAGE_LOAD_BEGIN: the header of the area is invalid at once. -/
def execImageLoadBegin (tr : Transport) (tag : BitVec 16) (s : State) : Host.Outcome State Fault Refusal :=
  done (onCmd s tr tag 0x0A10 fun s c =>
    let i := field c.data 0 1
    let n := field c.data 1 4
    let b := i == 1
    let hold := s.start.startState == .hold
    needState s c (throttling s || s.porter.load.isSome || (!hold && !c.data.isEmpty && decide (i ≤ 1) && b == s.start.imageSel)) 5 fun s =>
    if 1 < i then reply s c stBADVALUE (elemHeader 0 0)
    else if n < 8 ∨ 8388480 < n ∨ n % 8 ≠ 0 then reply s c stBADVALUE (elemHeader 0 1)
    else
      let s := modImage s b (fun _ => {})
      reply (s.modPorter (fun p => { p with load := some {
        imageB := b, length := n, transport := c.tr, session := if hold then none else some c.session, lastAt := s.clk } })) c stOK [])

/-- IMAGE_LOAD_DATA. `bad` is a word that failed its read-back three times (22 R559). -/
def execImageLoadData (tr : Transport) (tag : BitVec 16) (bad : Bool) (s : State) : Host.Outcome State Fault Refusal :=
  done (onCmd s tr tag 0x0A11 fun s c =>
    let off := field c.data 0 4
    let body := c.data.drop 4
    match ownLoad s c with
    | none => reply s c stREFUSED []
    | some x =>
      let s := s.modPorter (fun p => { p with load := some { x with lastAt := s.clk } })
      if body.length < 8 ∨ 1016 < body.length then reply s c stBADPARAM (elemHeader 0 0)
      else if off % 8 ≠ 0 ∨ x.length < off + body.length then reply s c stBADVALUE (elemHeader 0 0)
      else
        let r := mramWrite s (imageBase x.imageB + off) body bad
        if r.2 then reply r.1 c stOK [] else reply (raise r.1 252 0) c stEXECFAULT [])

/-- The CRC of a supplied header is good: its layout is not in this spec, so what it holds is free (log 69). -/
def headerGood (h : List Byte) : Bool := Config.outside 37 (h.map (fun b => b.toNat)) % 2 == 1
def headerGeneration (h : List Byte) : BitVec 32 := BitVec.ofNat 32 (Config.outside 38 (h.map (fun b => b.toNat)))
def headerVersion (h : List Byte) : BitVec 16 := BitVec.ofNat 16 (Config.outside 39 (h.map (fun b => b.toNat)))

/-- IMAGE_LOAD_END. -/
def execImageLoadEnd (tr : Transport) (tag : BitVec 16) (s : State) : Host.Outcome State Fault Refusal :=
  done (onCmd s tr tag 0x0A12 fun s c =>
    match ownLoad s c with
    | none => reply s c stREFUSED []
    | some x =>
      let s := s.modPorter (fun p => { p with load := some { x with lastAt := s.clk } })
      needLen s c 128 fun s =>
        if !headerGood c.data then reply s c stBADVALUE (elemHeader 0 0)
        else accept (s.modPorter (fun p => { p with load := some { x with lastAt := s.clk, ending := some c.data } })) c)

/-- The IMAGE_LOAD_END that runs. -/
def endingCmd (s : State) : Option (Transport × BitVec 16) :=
  (s.porter.cmds.find? (fun c => c.opcode == 0x0A12#16 && c.phase == .running)).map Cmd.id

/-- IMAGE_LOAD_END_COMPLETE: the header is written on trial, and the signature over the MRAM content is checked. -/
def execImageLoadEndComplete (dt : Nat) (bad : Bool) (s : State) : Host.Outcome State Fault Refusal :=
  let s := advance s dt
  done (match s.porter.load with
    | none => s
    | some x => match x.ending with
      | none => s
      | some h =>
        let w := endingCmd s
        let s := s.modPorter (fun p => { p with load := none })
        let r := if bad then spareMramRow s (dieOf (imageBase x.imageB)) else (s, true)
        if !r.2 then complete (raise r.1 252 0) w stEXECFAULT []
        else
          let s := r.1
          let good := Config.imageSigned h (cellsGet s.mem.mram (imageBase x.imageB) x.length)
          let s := modImage s x.imageB (fun _ => {
            headerOk := true, generation := headerGeneration h, version := headerVersion h, trial := true, trialCount := 0
            notBootable := false, header := h, length := x.length
            checked := cellsGet s.mem.mram (imageBase x.imageB) x.length, sigOk := good })
          if good then complete (journalImage s 2 x.imageB ((w.map (fun y => y.2)).getD 0)) w stOK []
          else complete s w stEXECFAULT [])

/-- IMAGE_LOAD_IDLE_TIMEOUT: no opcode for 60 s closes the load. -/
def execImageLoadIdleTimeout (dt : Nat) (s : State) : Host.Outcome State Fault Refusal :=
  let s := advance s dt
  done (match s.porter.load with
    | some x => if x.ending.isNone && elapsed s x.lastAt (msTicks 60000) then s.modPorter (fun p => { p with load := none }) else s
    | none => s)

/-- A boot record is written as a parameter copy is: one write generation above the other record, or 1 (22 R563, R564). -/
def writeBoot (s : State) (one : Bool) (floor : BitVec 16) : State :=
  let other := if one then s.store.boot0 else s.store.boot1
  let r : BootRecord := { crcOk := true, floor := floor, generation := if other.crcOk then other.generation + 1 else 1 }
  s.modStore (fun x => if one then { x with boot1 := r } else { x with boot0 := r })

/-- The boot record that a write takes first. -/
def bootTarget (s : State) : Bool :=
  if !s.store.boot1.crcOk then true
  else if !s.store.boot0.crcOk then false
  else if s.store.boot0.generation = s.store.boot1.generation then true
  else later s.store.boot0.generation s.store.boot1.generation

/-- CONFIRM_IMAGE (23 R597, 02 R55): `bad` is a write of the trial flag that failed its read-back three times. -/
def execConfirmImage (tr : Transport) (tag : BitVec 16) (bad : Bool) (s : State) : Host.Outcome State Fault Refusal :=
  done (onCmd s tr tag 0x0A13 fun s c => needLen s c 0 fun s =>
    let b := s.start.imageSel
    if !(imageOf s b).trial then reply s c stOK []
    else
      let r := if bad then spareMramRow s (dieOf (imageBase b)) else (s, true)
      if !r.2 then reply (raise r.1 252 0) c stEXECFAULT []
      else
        let s := modImage r.1 b (fun x => { x with trial := false })
        let t := bootTarget s
        let floor := (imageOf s b).version
        let s := writeBoot (writeBoot s t floor) (!t) floor
        reply (journalImage s 3 b c.tag) c stOK [])

end Sys2Proof.Machine
end

