-- ==== Sys2Proof/Machine/Dispatch.lean ====
section
/-! DEFINITION. One arm per command, each a direct call of its meaning. -/
namespace Sys2Proof.Machine

/-- The effect of a command on everything but the queue. -/
def exec (i : Instr) (s : State) : Host.Outcome State Fault Refusal :=
  match i with
  | .timebaseWrap dt => Sys2Proof.Machine.execTimebaseWrap dt s
  | .decisionStrobe dt m iu iv idc vdc vlow bridges => Sys2Proof.Machine.execDecisionStrobe dt m iu iv idc vdc vlow bridges s
  | .sampleBoundary dt m fine => Sys2Proof.Machine.execSampleBoundary dt m fine s
  | .tfuDecision dt m => Sys2Proof.Machine.execTfuDecision dt m s
  | .frameLaunch dt m => Sys2Proof.Machine.execFrameLaunch dt m s
  | .tripFrameLaunch dt m => Sys2Proof.Machine.execTripFrameLaunch dt m s
  | .overcurrentTrip dt m c seen level => Sys2Proof.Machine.execOvercurrentTrip dt m c seen level s
  | .unownedWindowTrip dt a level => Sys2Proof.Machine.execUnownedWindowTrip dt a level s
  | .profileRefDeadline dt ix ready => Sys2Proof.Machine.execProfileRefDeadline dt ix ready s
  | .railReport dt mv => Sys2Proof.Machine.execRailReport dt mv s
  | .timebaseReferenceLoss dt => Sys2Proof.Machine.execTimebaseReferenceLoss dt s
  | .referenceHoldoverExpiry dt => Sys2Proof.Machine.execReferenceHoldoverExpiry dt s
  | .referenceReturn dt => Sys2Proof.Machine.execReferenceReturn dt s
  | .supplyOrderViolation dt supply kind => Sys2Proof.Machine.execSupplyOrderViolation dt supply kind s
  | .coreBrownOut dt => Sys2Proof.Machine.execCoreBrownOut dt s
  | .vanaBrownOut dt => Sys2Proof.Machine.execVanaBrownOut dt s
  | .vanaReturn dt ok => Sys2Proof.Machine.execVanaReturn dt ok s
  | .damperPowerOn dt => Sys2Proof.Machine.execDamperPowerOn dt s
  | .damperStart dt pass => Sys2Proof.Machine.execDamperStart dt pass s
  | .startReference dt => Sys2Proof.Machine.execStartReference dt s
  | .pllLock dt => Sys2Proof.Machine.execPllLock dt s
  | .stagedReleaseStep dt => Sys2Proof.Machine.execStagedReleaseStep dt s
  | .railRegulationTimeout dt => Sys2Proof.Machine.execRailRegulationTimeout dt s
  | .railOffPeriodEnd dt => Sys2Proof.Machine.execRailOffPeriodEnd dt s
  | .bootRomStart dt => Sys2Proof.Machine.execBootRomStart dt s
  | .startupTestsEnd dt t => Sys2Proof.Machine.execStartupTestsEnd dt t s
  | .resetNAssert dt => Sys2Proof.Machine.execResetNAssert dt s
  | .resetNRelease dt => Sys2Proof.Machine.execResetNRelease dt s
  | .moduleResetTake dt => Sys2Proof.Machine.execModuleResetTake dt s
  | .commandPacketReceive dt => Sys2Proof.Machine.execCommandPacketReceive dt s
  | .canSegmentReceive dt p => Sys2Proof.Machine.execCanSegmentReceive dt p s
  | .canSegmentTimeout dt p => Sys2Proof.Machine.execCanSegmentTimeout dt p s
  | .sessionIdleTimeout dt b => Sys2Proof.Machine.execSessionIdleTimeout dt b s
  | .sessionProofTimeout dt b => Sys2Proof.Machine.execSessionProofTimeout dt b s
  | .longCommandTimeout dt tr tag => Sys2Proof.Machine.execLongCommandTimeout dt tr tag s
  | .identify tr tag => Sys2Proof.Machine.execIdentify tr tag s
  | .status tr tag => Sys2Proof.Machine.execStatus tr tag s
  | .barrier tr tag => Sys2Proof.Machine.execBarrier tr tag s
  | .abort tr tag => Sys2Proof.Machine.execAbort tr tag s
  | .moduleReset tr tag => Sys2Proof.Machine.execModuleReset tr tag s
  | .blockReset tr tag => Sys2Proof.Machine.execBlockReset tr tag s
  | .timeRead tr tag => Sys2Proof.Machine.execTimeRead tr tag s
  | .paramRead tr tag => Sys2Proof.Machine.execParamRead tr tag s
  | .paramWrite tr tag => Sys2Proof.Machine.execParamWrite tr tag s
  | .thermalAck dt sensor => Sys2Proof.Machine.execThermalAck dt sensor s
  | .paramStore tr tag => Sys2Proof.Machine.execParamStore tr tag s
  | .paramStoreComplete dt bad => Sys2Proof.Machine.execParamStoreComplete dt bad s
  | .paramInfo tr tag => Sys2Proof.Machine.execParamInfo tr tag s
  | .enable tr tag => Sys2Proof.Machine.execEnable tr tag s
  | .enableComplete dt m => Sys2Proof.Machine.execEnableComplete dt m s
  | .disable tr tag => Sys2Proof.Machine.execDisable tr tag s
  | .quickStop tr tag => Sys2Proof.Machine.execQuickStop tr tag s
  | .setReference tr tag => Sys2Proof.Machine.execSetReference tr tag s
  | .machineStatus tr tag => Sys2Proof.Machine.execMachineStatus tr tag s
  | .profileAppend tr tag => Sys2Proof.Machine.execProfileAppend tr tag s
  | .profileBlend tr tag => Sys2Proof.Machine.execProfileBlend tr tag s
  | .profileStop tr tag => Sys2Proof.Machine.execProfileStop tr tag s
  | .profileFaultStop tr tag => Sys2Proof.Machine.execProfileFaultStop tr tag s
  | .profileStatus tr tag => Sys2Proof.Machine.execProfileStatus tr tag s
  | .axisEnable tr tag => Sys2Proof.Machine.execAxisEnable tr tag s
  | .axisDisable tr tag => Sys2Proof.Machine.execAxisDisable tr tag s
  | .axisStop tr tag => Sys2Proof.Machine.execAxisStop tr tag s
  | .safetyStatus tr tag => Sys2Proof.Machine.execSafetyStatus tr tag s
  | .safetyCrc tr tag => Sys2Proof.Machine.execSafetyCrc tr tag s
  | .safetyValidate tr tag => Sys2Proof.Machine.execSafetyValidate tr tag s
  | .flueRead tr tag => Sys2Proof.Machine.execFlueRead tr tag s
  | .faultClear tr tag => Sys2Proof.Machine.execFaultClear tr tag s
  | .recordRelease tr tag => Sys2Proof.Machine.execRecordRelease tr tag s
  | .journalRead tr tag => Sys2Proof.Machine.execJournalRead tr tag s
  | .sessionOpen tr tag => Sys2Proof.Machine.execSessionOpen tr tag s
  | .sessionProve tr tag => Sys2Proof.Machine.execSessionProve tr tag s
  | .sessionClose tr tag => Sys2Proof.Machine.execSessionClose tr tag s
  | .berthRead tr tag => Sys2Proof.Machine.execBerthRead tr tag s
  | .canObjBind tr tag => Sys2Proof.Machine.execCanObjBind tr tag s
  | .canObjFree tr tag => Sys2Proof.Machine.execCanObjFree tr tag s
  | .canSend tr tag => Sys2Proof.Machine.execCanSend tr tag s
  | .canRead tr tag => Sys2Proof.Machine.execCanRead tr tag s
  | .canStage tr tag => Sys2Proof.Machine.execCanStage tr tag s
  | .fabricTopology tr tag => Sys2Proof.Machine.execFabricTopology tr tag s
  | .linkReset tr tag => Sys2Proof.Machine.execLinkReset tr tag s
  | .calRestart tr tag => Sys2Proof.Machine.execCalRestart tr tag s
  | .portCalRestart tr tag => Sys2Proof.Machine.execPortCalRestart tr tag s
  | .regRead tr tag => Sys2Proof.Machine.execRegRead tr tag s
  | .regWrite tr tag => Sys2Proof.Machine.execRegWrite tr tag s
  | .regMode tr tag => Sys2Proof.Machine.execRegMode tr tag s
  | .imageLoadBegin tr tag => Sys2Proof.Machine.execImageLoadBegin tr tag s
  | .imageLoadData tr tag bad => Sys2Proof.Machine.execImageLoadData tr tag bad s
  | .imageLoadEnd tr tag => Sys2Proof.Machine.execImageLoadEnd tr tag s
  | .imageLoadEndComplete dt bad => Sys2Proof.Machine.execImageLoadEndComplete dt bad s
  | .imageLoadIdleTimeout dt => Sys2Proof.Machine.execImageLoadIdleTimeout dt s
  | .confirmImage tr tag bad => Sys2Proof.Machine.execConfirmImage tr tag bad s
  | .hearthSplit tr tag => Sys2Proof.Machine.execHearthSplit tr tag s
  | .hearthRejoin tr tag => Sys2Proof.Machine.execHearthRejoin tr tag s
  | .keyWrite tr tag => Sys2Proof.Machine.execKeyWrite tr tag s
  | .traceTrigger tr tag => Sys2Proof.Machine.execTraceTrigger tr tag s
  | .traceList tr tag => Sys2Proof.Machine.execTraceList tr tag s
  | .traceRead tr tag => Sys2Proof.Machine.execTraceRead tr tag s
  | .traceProtect tr tag => Sys2Proof.Machine.execTraceProtect tr tag s
  | .sarConversionStart dt m c => Sys2Proof.Machine.execSarConversionStart dt m c s
  | .sarConversionComplete dt m c word => Sys2Proof.Machine.execSarConversionComplete dt m c word s
  | .abzEdge dt p a b stable => Sys2Proof.Machine.execAbzEdge dt p a b stable s
  | .zIndexEdge dt p stable => Sys2Proof.Machine.execZIndexEdge dt p stable s
  | .ssiTransferComplete dt p raw bad => Sys2Proof.Machine.execSsiTransferComplete dt p raw bad s
  | .latEdge dt k rising stable => Sys2Proof.Machine.execLatEdge dt k rising stable s
  | .sensorLoss dt m ix port seen => Sys2Proof.Machine.execSensorLoss dt m ix port seen s
  | .ceilingRampFreeze dt m => Sys2Proof.Machine.execCeilingRampFreeze dt m s
  | .catchRepeat dt m => Sys2Proof.Machine.execCatchRepeat dt m s
  | .catchTimeout dt m => Sys2Proof.Machine.execCatchTimeout dt m s
  | .magnetiseTimeout dt m => Sys2Proof.Machine.execMagnetiseTimeout dt m s
  | .openTimeout dt m => Sys2Proof.Machine.execOpenTimeout dt m s
  | .bankHoldExpiry dt m => Sys2Proof.Machine.execBankHoldExpiry dt m s
  | .stoveRunEnd dt ix => Sys2Proof.Machine.execStoveRunEnd dt ix s
  | .axisGridTick dt late => Sys2Proof.Machine.execAxisGridTick dt late s
  | .microstepApply dt k => Sys2Proof.Machine.execMicrostepApply dt k s
  | .auxSettingApply dt k => Sys2Proof.Machine.execAuxSettingApply dt k s
  | .chopperCurrentReached dt l => Sys2Proof.Machine.execChopperCurrentReached dt l s
  | .chopperFastDecayEnd dt l => Sys2Proof.Machine.execChopperFastDecayEnd dt l s
  | .chopperOffExpiry dt l => Sys2Proof.Machine.execChopperOffExpiry dt l s
  | .standstillIdleExpiry dt k => Sys2Proof.Machine.execStandstillIdleExpiry dt k s
  | .uplinkFrameReceive dt m frame => Sys2Proof.Machine.execUplinkFrameReceive dt m frame s
  | .uplinkMissing dt m => Sys2Proof.Machine.execUplinkMissing dt m s
  | .chopperTEffExpiry dt o => Sys2Proof.Machine.execChopperTEffExpiry dt o s
  | .shutdownLineSet dt m => Sys2Proof.Machine.execShutdownLineSet dt m s
  | .stopZeroTimeout dt m => Sys2Proof.Machine.execStopZeroTimeout dt m s
  | .zeroDwellEnd dt m => Sys2Proof.Machine.execZeroDwellEnd dt m s
  | .brakeHoldExpiry dt m => Sys2Proof.Machine.execBrakeHoldExpiry dt m s
  | .torqueRampEnd dt m => Sys2Proof.Machine.execTorqueRampEnd dt m s
  | .brakeReleaseWaitEnd dt m => Sys2Proof.Machine.execBrakeReleaseWaitEnd dt m s
  | .brakeReleaseTimeout dt m => Sys2Proof.Machine.execBrakeReleaseTimeout dt m s
  | .commandWatchdogExpiry dt m => Sys2Proof.Machine.execCommandWatchdogExpiry dt m s
  | .commandHoldExpiry dt m => Sys2Proof.Machine.execCommandHoldExpiry dt m s
  | .renderDwellExpiry dt m => Sys2Proof.Machine.execRenderDwellExpiry dt m s
  | .renderOverspeed dt m => Sys2Proof.Machine.execRenderOverspeed dt m s
  | .memberReportReceive dt => Sys2Proof.Machine.execMemberReportReceive dt s
  | .distributorRun dt m => Sys2Proof.Machine.execDistributorRun dt m s
  | .shareReceive dt => Sys2Proof.Machine.execShareReceive dt s
  | .reportShareMiss dt m k => Sys2Proof.Machine.execReportShareMiss dt m k s
  | .transferFrameReceive dt => Sys2Proof.Machine.execTransferFrameReceive dt s
  | .homeLostTransfer dt m => Sys2Proof.Machine.execHomeLostTransfer dt m s
  | .transferTimeout dt m => Sys2Proof.Machine.execTransferTimeout dt m s
  | .calWindowClose dt m k => Sys2Proof.Machine.execCalWindowClose dt m k s
  | .calFit dt m k => Sys2Proof.Machine.execCalFit dt m k s
  | .standstillCaptureStart dt m => Sys2Proof.Machine.execStandstillCaptureStart dt m s
  | .standstillCaptureEnd dt m => Sys2Proof.Machine.execStandstillCaptureEnd dt m s
  | .portCalFit dt p => Sys2Proof.Machine.execPortCalFit dt p s
  | .replicaMeasure dt k m0 m1 => Sys2Proof.Machine.execReplicaMeasure dt k m0 m1 s
  | .railMarginAdjust dt => Sys2Proof.Machine.execRailMarginAdjust dt s
  | .sensorCrossCheck dt => Sys2Proof.Machine.execSensorCrossCheck dt s
  | .heartbeatSend dt fromH0 => Sys2Proof.Machine.execHeartbeatSend dt fromH0 s
  | .damperHeartbeatReceive dt counter code => Sys2Proof.Machine.execDamperHeartbeatReceive dt counter code s
  | .damperHeartbeatTimeout dt => Sys2Proof.Machine.execDamperHeartbeatTimeout dt s
  | .h0HeartbeatTimeout dt => Sys2Proof.Machine.execH0HeartbeatTimeout dt s
  | .crosslinkRequest dt m => Sys2Proof.Machine.execCrosslinkRequest dt m s
  | .oscWindowEnd dt count => Sys2Proof.Machine.execOscWindowEnd dt count s
  | .safeInputChange dt k chB level => Sys2Proof.Machine.execSafeInputChange dt k chB level s
  | .safeInputFilterExpiry dt h0 k chB => Sys2Proof.Machine.execSafeInputFilterExpiry dt h0 k chB s
  | .safeInputDiscrepancy dt h0 k => Sys2Proof.Machine.execSafeInputDiscrepancy dt h0 k s
  | .safeInputTest dt k pass => Sys2Proof.Machine.execSafeInputTest dt k pass s
  | .safeOutputTest dt o chB read readAfter => Sys2Proof.Machine.execSafeOutputTest dt o chB read readAfter s
  | .genReadbackFault dt m readA readB => Sys2Proof.Machine.execGenReadbackFault dt m readA readB s
  | .genRaise dt m => Sys2Proof.Machine.execGenRaise dt m s
  | .genRaiseTimeout dt m => Sys2Proof.Machine.execGenRaiseTimeout dt m s
  | .ss1TimeExpiry dt h0 m => Sys2Proof.Machine.execSs1TimeExpiry dt h0 m s
  | .sbcStoDelayExpiry dt h0 m => Sys2Proof.Machine.execSbcStoDelayExpiry dt h0 m s
  | .sosMonitorStart dt h0 m => Sys2Proof.Machine.execSosMonitorStart dt h0 m s
  | .slsReachExpiry dt h0 m => Sys2Proof.Machine.execSlsReachExpiry dt h0 m s
  | .spSubgateEnd dt q => Sys2Proof.Machine.execSpSubgateEnd dt q s
  | .h0SafetyCheck dt => Sys2Proof.Machine.execH0SafetyCheck dt s
  | .brakeReleaseRequest dt o => Sys2Proof.Machine.execBrakeReleaseRequest dt o s
  | .brakeFeedbackTimeout dt o => Sys2Proof.Machine.execBrakeFeedbackTimeout dt o s
  | .safetyPduReceive dt => Sys2Proof.Machine.execSafetyPduReceive dt s
  | .safetyPduSend dt c => Sys2Proof.Machine.execSafetyPduSend dt c s
  | .safetyWatchdogExpiry dt h0 c => Sys2Proof.Machine.execSafetyWatchdogExpiry dt h0 c s
  | .safetySetLoad dt => Sys2Proof.Machine.execSafetySetLoad dt s
  | .transactionVote dt h offers misread again bad badAgain => Sys2Proof.Machine.execTransactionVote dt h offers misread again bad badAgain s
  | .disagreementClassify dt h digests => Sys2Proof.Machine.execDisagreementClassify dt h digests s
  | .digestPoint dt h digests => Sys2Proof.Machine.execDigestPoint dt h digests s
  | .resyncComplete dt h digests => Sys2Proof.Machine.execResyncComplete dt h digests s
  | .trivetOnlineTest dt h pass => Sys2Proof.Machine.execTrivetOnlineTest dt h pass s
  | .splitComplete dt h => Sys2Proof.Machine.execSplitComplete dt h s
  | .rejoinComplete dt h digests => Sys2Proof.Machine.execRejoinComplete dt h digests s
  | .debugHalt dt h => Sys2Proof.Machine.execDebugHalt dt h s
  | .debugResume dt h single digests => Sys2Proof.Machine.execDebugResume dt h single digests s
  | .replayWrite dt h shared target value => Sys2Proof.Machine.execReplayWrite dt h shared target value s
  | .errorLineRaise dt src master addr kind retry => Sys2Proof.Machine.execErrorLineRaise dt src master addr kind retry s
  | .quietCheck dt slow => Sys2Proof.Machine.execQuietCheck dt slow s
  | .eventMessageTake dt h => Sys2Proof.Machine.execEventMessageTake dt h s
  | .ferRelease dt => Sys2Proof.Machine.execFerRelease dt s
  | .stickyClearWrite dt ix w => Sys2Proof.Machine.execStickyClearWrite dt ix w s
  | .groupReadLatch dt a => Sys2Proof.Machine.execGroupReadLatch dt a s
  | .registerWrite dt a w => Sys2Proof.Machine.execRegisterWrite dt a w s
  | .thermalEvaluation dt sensor rd => Sys2Proof.Machine.execThermalEvaluation dt sensor rd s
  | .thermalFactorSeal dt m => Sys2Proof.Machine.execThermalFactorSeal dt m s
  | .canStartOfFrame dt p => Sys2Proof.Machine.execCanStartOfFrame dt p s
  | .canSofSamplePoint dt p => Sys2Proof.Machine.execCanSofSamplePoint dt p s
  | .canFrameReceive dt p frame => Sys2Proof.Machine.execCanFrameReceive dt p frame s
  | .canFrameSent dt p delay => Sys2Proof.Machine.execCanFrameSent dt p delay s
  | .canArbitrationLost dt p => Sys2Proof.Machine.execCanArbitrationLost dt p s
  | .canBusError dt p err tx inData heavy exempt delay => Sys2Proof.Machine.execCanBusError dt p err tx inData heavy exempt delay s
  | .canTxTimeout dt b => Sys2Proof.Machine.execCanTxTimeout dt b s
  | .canRestartDelayExpiry dt p => Sys2Proof.Machine.execCanRestartDelayExpiry dt p s
  | .canBusOffRecovered dt p => Sys2Proof.Machine.execCanBusOffRecovered dt p s
  | .canIntegrationComplete dt p => Sys2Proof.Machine.execCanIntegrationComplete dt p s
  | .canBusOnRequest dt p => Sys2Proof.Machine.execCanBusOnRequest dt p s
  | .canSleepRequest dt p => Sys2Proof.Machine.execCanSleepRequest dt p s
  | .canSleepEntry dt p => Sys2Proof.Machine.execCanSleepEntry dt p s
  | .canWakeRequest dt p => Sys2Proof.Machine.execCanWakeRequest dt p s
  | .canEdgeWake dt p low => Sys2Proof.Machine.execCanEdgeWake dt p low s
  | .canFrameWake dt p frame integrated => Sys2Proof.Machine.execCanFrameWake dt p frame integrated s
  | .fabricFrameReceive dt l body => Sys2Proof.Machine.execFabricFrameReceive dt l body s
  | .fabricAckReceive dt l word => Sys2Proof.Machine.execFabricAckReceive dt l word s
  | .fabricRetryTimeout dt l cls => Sys2Proof.Machine.execFabricRetryTimeout dt l cls s
  | .fabricLockLoss dt l => Sys2Proof.Machine.execFabricLockLoss dt l s
  | .fabricHelloSend dt l => Sys2Proof.Machine.execFabricHelloSend dt l s
  | .fabricHelloTimeout dt l => Sys2Proof.Machine.execFabricHelloTimeout dt l s
  | .fabricHeldExpiry dt l => Sys2Proof.Machine.execFabricHeldExpiry dt l s
  | .linkStateSend dt => Sys2Proof.Machine.execLinkStateSend dt s
  | .innkeeperSend dt => Sys2Proof.Machine.execInnkeeperSend dt s
  | .innkeeperTimeout dt => Sys2Proof.Machine.execInnkeeperTimeout dt s
  | .electionDecide dt => Sys2Proof.Machine.execElectionDecide dt s
  | .routeCommitTimeout dt => Sys2Proof.Machine.execRouteCommitTimeout dt s
  | .addressReservationExpiry dt => Sys2Proof.Machine.execAddressReservationExpiry dt s
  | .timeExchange dt t1 t2 t3 t4 root freq => Sys2Proof.Machine.execTimeExchange dt t1 t2 t3 t4 root freq s
  | .ethFrameReceive dt e frame fcsOk => Sys2Proof.Machine.execEthFrameReceive dt e frame fcsOk s
  | .ethPhyPoll dt e speed full => Sys2Proof.Machine.execEthPhyPoll dt e speed full s
  | .arpTimeout dt e => Sys2Proof.Machine.execArpTimeout dt e s
  | .arpEntryExpiry dt e => Sys2Proof.Machine.execArpEntryExpiry dt e s
  | .hspiWritePacket dt bytes => Sys2Proof.Machine.execHspiWritePacket dt bytes s
  | .hspiReadReply dt clocked => Sys2Proof.Machine.execHspiReadReply dt clocked s
  | .hspiReadStatus dt => Sys2Proof.Machine.execHspiReadStatus dt s
  | .hspiRegisterRead dt a waits => Sys2Proof.Machine.execHspiRegisterRead dt a waits s
  | .hspiRegisterWrite dt a w waits => Sys2Proof.Machine.execHspiRegisterWrite dt a w waits s
  | .hspiUnknownCommand dt b => Sys2Proof.Machine.execHspiUnknownCommand dt b s
  | .serFrameReceive dt ix bytes framing gap => Sys2Proof.Machine.execSerFrameReceive dt ix bytes framing gap s
  | .serReplySend dt ix idle back => Sys2Proof.Machine.execSerReplySend dt ix idle back s
  | .tapInstructionLoad dt ir => Sys2Proof.Machine.execTapInstructionLoad dt ir s
  | .dbgChallenge dt => Sys2Proof.Machine.execDbgChallenge dt s
  | .dbgResponse dt response => Sys2Proof.Machine.execDbgResponse dt response s
  | .dbgAccess dt h select => Sys2Proof.Machine.execDbgAccess dt h select s
  | .debugLockoutExpiry dt => Sys2Proof.Machine.execDebugLockoutExpiry dt s
  | .sramScrub dt row corrected => Sys2Proof.Machine.execSramScrub dt row corrected s
  | .mramPatrol dt corrected => Sys2Proof.Machine.execMramPatrol dt corrected s
  | .uncorrectableRead dt sram a lasting h k entry => Sys2Proof.Machine.execUncorrectableRead dt sram a lasting h k entry s
  | .journalWrite dt bad => Sys2Proof.Machine.execJournalWrite dt bad s
  | .traceTriggerCondition dt c => Sys2Proof.Machine.execTraceTriggerCondition dt c s
  | .traceRecordCopy dt => Sys2Proof.Machine.execTraceRecordCopy dt s
  | .traceCopyComplete dt bad => Sys2Proof.Machine.execTraceCopyComplete dt bad s
  | .auxLinkSlot dt => Sys2Proof.Machine.execAuxLinkSlot dt s
  | .auxDownlinkReceive dt flip => Sys2Proof.Machine.execAuxDownlinkReceive dt flip s
  | .auxUplinkReceive dt flip => Sys2Proof.Machine.execAuxUplinkReceive dt flip s
  | .auxResendTimeout dt => Sys2Proof.Machine.execAuxResendTimeout dt s
  | .auxSwitchOn dt l => Sys2Proof.Machine.execAuxSwitchOn dt l s
  | .auxHandshakeTimeout dt l => Sys2Proof.Machine.execAuxHandshakeTimeout dt l s
  | .auxLowUvlo dt leg => Sys2Proof.Machine.execAuxLowUvlo dt leg s
  | .auxBootUvlo dt l => Sys2Proof.Machine.execAuxBootUvlo dt l s
  | .auxRefreshEnd dt l => Sys2Proof.Machine.execAuxRefreshEnd dt l s
  | .auxBootRecovered dt l => Sys2Proof.Machine.execAuxBootRecovered dt l s
  | .auxBootRecoveryTimeout dt l => Sys2Proof.Machine.execAuxBootRecoveryTimeout dt l s
  | .auxOvercurrentTrip dt l hard => Sys2Proof.Machine.execAuxOvercurrentTrip dt l hard s
  | .auxSoftOffFullSink dt k => Sys2Proof.Machine.execAuxSoftOffFullSink dt k s
  | .damperReferenceTimeout dt => Sys2Proof.Machine.execDamperReferenceTimeout dt s
  | .spPortEdge dt q a b stable => Sys2Proof.Machine.execSpPortEdge dt q a b stable s
  | .fabricSymbolLock dt l => Sys2Proof.Machine.execFabricSymbolLock dt l s
  | .lowSideUvloRise dt l => Sys2Proof.Machine.execLowSideUvloRise dt l s
  | .coreTestEnd dt h => Sys2Proof.Machine.execCoreTestEnd dt h s
  | .h0CrosslinkReceive dt usec => Sys2Proof.Machine.execH0CrosslinkReceive dt usec s
  | .sincosPeriodCount dt p cross sn cs fast => Sys2Proof.Machine.execSincosPeriodCount dt p cross sn cs fast s
  | .resolverHalfPeriod dt p samples => Sys2Proof.Machine.execResolverHalfPeriod dt p samples s
  | .damperWindowRefresh dt => Sys2Proof.Machine.execDamperWindowRefresh dt s

end Sys2Proof.Machine
end

