-- ==== Sys2Proof/Machine/Pins.lean ====
section
/-! DEFINITION. What the balls of the module show between commands, computed from the state: the output table of
02_bring_up R47 and R60, CANn_STB of 19_can R500 and R512, the gate currents of 11_aux_drive R296 and R307, the MRAM write
pulse of 18_thermal R486, and what the TAP captures (21_other_ports R551). No command changes one of these but through the
state. -/
namespace Sys2Proof.Machine

/-- What a ball does between commands. -/
inductive Ball where
  /-- Not driven. -/
  | highZ
  | low
  | high
  /-- Comma characters of the line code between frames (10 R264, 20 R522). -/
  | idle
  /-- The analog output at 0 V, and the excitation that a configured resolver gets (04 R111). -/
  | zeroVolt
  | excitation
  deriving DecidableEq, Repr

def levelBall (b : Bool) : Ball := if b then .high else .low

/-- A ball of the Damper: high impedance while VDAMP is below 2.90 V, which the model takes to last from the power-on
command to the Damper's start (02 R47; log 86). -/
def damperBall (s : State) (on : Bool) : Ball := if s.safety.damperUp then levelBall on else .highZ

/-- GENm, balls A and B (02 R60, 15 R388). -/
def genBalls (s : State) (m : Fin 4) : Ball × Ball := (damperBall s s.safety.genA[m], damperBall s s.safety.genB[m])

/-- SOo, balls A and B (02 R60, 15 R397). -/
def soBalls (s : State) (o : Fin 4) : Ball × Ball := (damperBall s s.safety.outs[o].a, damperBall s s.safety.outs[o].b)

/-- A gate link between frames: released with step 14 (02 R48, R60). -/
def gateLinkBall (s : State) : Ball := if s.start.step < 14 then .highZ else .idle

/-- A fabric link between frames: released with step 14 (02 R48, R60). -/
def fabricBall (s : State) : Ball := if s.start.step < 14 then .highZ else .idle

/-- The resolver excitation of a port: 0 V until the resolver is configured (02 R48 step 13, R60). -/
def excitationBall (s : State) (p : Fin 4) : Ball := if s.up ∧ portMode s p = 1 then .excitation else .zeroVolt

/-- The gates of leg `l`, low side and high side: both low before step 15 and while the leg is off (02 R60, 11 R297). -/
def auxGates (s : State) (l : Fin 12) : Ball × Ball :=
  if s.start.step < 15 then (.low, .low)
  else (levelBall (s.legs[l].sw == .lowOn), levelBall (s.legs[l].sw == .highOn))

/-- CANn_TX may leave recessive: from READY on, in NORMAL, and while the port is not asleep (02 R60, 19 R500, R512). -/
def canTxReleased (s : State) (p : Fin 6) : Bool :=
  s.up && canMode s p == 1 && s.can[p].state != .off && s.can[p].state != .sleep

/-- CANn_STB: high while the port is off and in a sleep with edge wake, low in a sleep with frame wake (19 R500, R512). -/
def canStb (s : State) (p : Fin 6) : Ball :=
  match s.can[p].state with
  | .off => .high
  | .sleep => levelBall ((s.can[p].wakeSet.bind List.head?) != some 1)
  | _ => .low

/-- SERn_DE and ETHn_TX_CTL between frames (02 R60, 21 R549). -/
def restingLow : Ball := .low

/-- HSPI_MISO: driven only while chip select is low (02 R60). -/
def misoBall (chipSelectLow : Bool) (bitOut : Bool) : Ball := if chipSelectLow then levelBall bitOut else .highZ

/-- ERR_OUT0 and ERR_OUT1: low is asserted (02 R60, 17 R457). -/
def errBall (s : State) (pin : Nat) : Ball := levelBall (!errOut s pin)

/-- PWRGD, and IRQ_HOST, which is low when asserted (02 R60, 21 R548). -/
def pwrgdBall (s : State) : Ball := levelBall s.start.pwrgd
def irqBall (s : State) : Ball := levelBall (!irqHost s)

/-- Source current in mA of a gate-current code from 0 to 15; the sink current is twice it (11 R296). -/
def gateSource (code : Nat) : Nat := [50, 75, 100, 150, 200, 250, 300, 400, 500, 600, 750, 900, 1050, 1200, 1350, 1500].getD code 0

/-- Gate-current step offset of a temperature band (18 R486). -/
def gateOffset (band : Nat) : Int :=
  match band with
  | 0 => -1 | 1 => 0 | 2 => 0 | 3 => 1 | 4 => 1 | _ => 2

/-- Source and sink current in mA of the gates of an axis in the band of the die (11 R296, 18 R487). -/
def gateCurrents (s : State) (k : Fin 6) : Nat × Nat :=
  let off := gateOffset s.thermal.sensors[(11 : Fin 44)].band
  let code (i : Nat) : Nat := (clampI 0 15 ((dieSet s k i : Int) + off)).toNat
  (gateSource (code 0), 2 * gateSource (code 1))

/-- Sink current in mA of a leg that turns off: 100 mA in the first step of the soft turn-off and 3.0 A in the second,
which no band offset moves, and the axis's own sink current by the normal path (11 R307). -/
def turnOffSink (s : State) (l : Fin 12) : Nat :=
  if s.legs[l].softOff then 2 * gateSource 0
  else if s.axes[axisOfLeg l].fullSink then 2 * gateSource 15
  else (gateCurrents s (axisOfLeg l)).2

/-- MRAM write pulse in ns by the band of sensor 7 (18 R486, 22 R559). -/
def writePulse (s : State) : Nat :=
  match s.thermal.sensors[(7 : Fin 44)].band with
  | 0 => 60 | 1 => 50 | 2 => 40 | 3 => 35 | _ => 30

/-- The identity that the TAP captures while IDCODE is loaded (21 R551). -/
def tapIdentity (s : State) : Option Word := if s.ports.ir = .idcode then some 0x296406B7 else none

end Sys2Proof.Machine
end

