-- ==== Sys2Proof/Safety.lean ====
section
/-! DEFINITION. What the claims are stated in: when an opcode starts, what counts as a sound memory, and what every step
leaves of the reply queue. -/
namespace Sys2Proof.Safety

open Machine

/-- The command packet under a tag waits, carries the opcode and may start (03 R74 to R77). -/
def Starts (s : State) (tr : Transport) (tag op : BitVec 16) (c : Cmd) : Prop :=
  findCmd s tr tag = some c ∧ c.opcode = op ∧ c.phase = .waiting ∧ mayStart (before s.porter.cmds tr tag) c = true

/-- The state in which an opcode runs: the start of its command is recorded. -/
def begun (s : State) (tr : Transport) (tag : BitVec 16) : State :=
  modCmd s tr tag (fun c => { c with startedAt := s.clk })

/-- SRAM and MRAM are in canonical form: rising addresses, no entry equal to 0 (22 R556, R558). -/
def Memory.wf (m : Mem) : Bool := cellsWf m.sram && cellsWf m.mram

/-- No reaction is requested: no block reset and no HOLD waits for the end of the command. -/
def Calm (s : State) : Prop := s.flue.resetReq = [] ∧ s.flue.holdReq = false

/-- Nothing is left to send: no reply waits and no segment of a CAN reply is left. -/
def Silent (s : State) : Prop := s.porter.replies = [] ∧ ∀ p : Fin 6, s.porter.canOut[p] = []

/-- A packet that waits in the reply queue waits for its port: none is for the fabric, and an Ethernet packet waits for
the answer to an ARP request for its next hop that is out (03 R79, 21 R544). -/
def Waits (s : State) (r : Reply) : Prop :=
  match r.tr with
  | .fabric _ => False
  | .eth e ip _ => ∃ w ∈ s.ports.eth[e].arpWait, w.1 = nextHop s e ip
  | _ => True

/-- Every packet in the reply queue waits for its port. -/
def Flushed (s : State) : Prop := ∀ r ∈ s.porter.replies, Waits s r

/-- A packet passes every check of 03 R72 up to the opcode's own: its length, CRC, header, tag, opcode, target, access,
SI7 and the state of the module. -/
def Passes (s : State) (p : ReadyPacket) (i : OpInfo) : Prop :=
  let h := parseHdr p.bytes
  20 ≤ p.bytes.length ∧ h.length ≤ 1024 ∧ p.bytes.length = packetLen h ∧
  beNat (p.bytes.drop (p.bytes.length - 4)) = (crc32c (p.bytes.take (p.bytes.length - 4))).toNat ∧
  h.version = 3 ∧ h.reserved = false ∧ h.level.toNat ≤ 4 ∧ h.opcode.getLsbD 15 = false ∧ h.completion = false ∧
  (h.sv = false → h.session = 0) ∧ h.auth = h.sv ∧ h.hop ≤ 15 ∧ findCmd s p.tr h.tag = none ∧ tagRoom s p.tr = true ∧
  opInfo h.opcode.toNat = some i ∧ tKind h.target ∈ i.kinds ∧ targetOk h.target = true ∧
  wrongIndex h ((p.bytes.drop 16).take h.length) = none ∧ accessFault s p h i = none ∧
  (needsSi7 h ((p.bytes.drop 16).take h.length) = true → si7 s = true) ∧ s.start.bootBegun = true ∧ s.up = true

/-- The command of a packet as the Porter holds it (03 R65, R74). -/
def cmdOf (s : State) (p : ReadyPacket) : Cmd :=
  let h := parseHdr p.bytes
  { tr := p.tr, tag := h.tag, opcode := h.opcode, target := h.target, level := h.level, sv := h.sv, session := h.session
    seq := authSeq h p.bytes, key := replyKey s h, data := (p.bytes.drop 16).take h.length, silent := p.silent }

/-- Start-up tests of which none failed (02 R57). -/
def cleanTests : StartTests :=
  { lanes := Vector.replicate 4 (Vector.replicate 3 false), trivets := Vector.replicate 4 false, sramBad := false, sramRows := 0
    knownTfu := Vector.replicate 4 false, knownStove := Vector.replicate 4 false, analog := Vector.replicate 4 false
    damper := false, auxDie := false, gateLink := Vector.replicate 4 false, fabricLink := Vector.replicate 4 false }

end Sys2Proof.Safety
end

