-- ==== Sys2Proof/Certificates/Slice0/Obligations.lean ====
section
/-! DEFINITION. The statements for the provers. A statement whose conclusion is `exec c s = .next (settled u)` says that
the command completes and what it makes of the state: `u` names every part of the state that it changes, and `settled`
is what follows every command, the block resets and the HOLD that its raises requested and the replies that leave. -/

open Sys2Proof Sys2Proof.Machine Sys2Proof.Safety

/-- What the timebase commands do. TIMEBASE_WRAP raises 2.15 for a time stamp that has wrapped, once; RAIL_REPORT records
the nine rails and whether one moved by more than 10 mV, and raises 2.13 when the envelope has just been left; the
loss of the reference raises 2.14, 100 µs of it stop the TFU of every enabled machine and apply the reaction mask of
2.14 that the raise left out, and its return ends it without a jump of the count. (00 R4, 01 R23, 01 R27) -/
def Obligations.TimebaseCommands : Prop :=
∀ (s : State),
  (∀ (dt : Nat), (advance s dt).tb.wrapDue = true →
      exec (.timebaseWrap dt) s = .next (settled (raise ((advance s dt).modTb (fun t =>
          { t with wrapDue := false })) 47 0))) ∧
  (∀ (dt : Nat), (advance s dt).tb.wrapDue = false →
      exec (.timebaseWrap dt) s = .next (settled (advance s dt))) ∧
  (∀ (u : State) (dt : Nat) (mv : Vector Nat 9), s.tb.pllLock = true →
      u = (advance s dt).modTb (fun t => { t with
          railMv := mv, railSeen := true, railFast := s.tb.railSeen && decide (∃ k : Fin 9,
          10 < ((mv[k] : Int) - s.tb.railMv[k]).natAbs) }) →
      envelopeOut u = true → s.tb.envelope = false →
      exec (.railReport dt mv) s = .next (settled (fixedRails (raise (u.modTb (fun t =>
          { t with envelope := true })) 45 0)))) ∧
  (∀ (u : State) (dt : Nat) (mv : Vector Nat 9), s.tb.pllLock = true →
      u = (advance s dt).modTb (fun t => { t with
          railMv := mv, railSeen := true, railFast := s.tb.railSeen && decide (∃ k : Fin 9,
          10 < ((mv[k] : Int) - s.tb.railMv[k]).natAbs) }) →
      envelopeOut u = false ∨ s.tb.envelope = true →
      exec (.railReport dt mv) s = .next (settled (fixedRails (u.modTb (fun t =>
          { t with envelope := envelopeOut u }))))) ∧
  (∀ (dt : Nat), s.tb.ref = .present → s.tb.pllLock = true →
      exec (.timebaseReferenceLoss dt) s = .next (settled (raise ((advance s dt).modTb (fun t => { t with
        ref := .missing (s.clk + dt), refOk := false, lossMasked := t.lossMasked || !sticky s 46 })) 46 0))) ∧
  (∀ (u : State) (dt since : Nat), s.tb.ref = .missing since → since + 20000 ≤ s.clk + dt →
      u = forAll four (fun m s => stopTfu (if s.en m then noteSource s m 46 0
          else s) m) ((advance s dt).modTb (fun t => { t with ref := .holdover, lossMasked := false })) →
      exec (.referenceHoldoverExpiry dt) s = .next (settled (if s.tb.lossMasked then applyMask u 46 else u))) ∧
  (∀ (dt : Nat),
      exec (.referenceReturn dt) s = .next (settled
        ((advance s dt).modTb (fun t => { t with ref := .present, refOk := t.pllLock }))))

/-- What the supply commands do. A wrong order of the supplies is kept once until the end of a start and raised with
source 0.0 after it; a core brown-out leaves nothing but what MRAM, the supply die and the Damper hold; a VANA
brown-out raises 0.10 and forbids and fault-stops the machines that use the analog inputs, until VANA returns with its
checks passed, and raises 0.10 again when they fail; a brown-out of VDAMP takes the Damper down alone and raises 0.15,
and the Damper starts 100 µs later. (02 R46, 02 R61, 02 R637) -/
def Obligations.SupplyCommands : Prop :=
∀ (s : State),
  (∀ (dt : Nat) (v : Supply) (k : SupplyFault), s.start.bootBegun = false →
      exec (.supplyOrderViolation dt v k) s = .next (settled ((advance s dt).modStart (fun x => { x with
        violations := if (v, k) ∈ x.violations then x.violations else x.violations ++ [(v, k)] })))) ∧
  (∀ (dt : Nat) (v : Supply) (k : SupplyFault), s.start.bootBegun = true →
      exec (.supplyOrderViolation dt v k) s = .next (settled (raise (advance s dt) 0 (v.code + 16 * k.code)))) ∧
  (∀ (t : State) (dt : Nat), t = powerLost (advance s dt) →
      exec (.coreBrownOut dt) s = .next (settled t) ∧ t.start.coreUp = false ∧ t.start.bootBegun = false ∧ t.tb = {} ∧
        t.flue = {} ∧ t.drive = State.reset.drive ∧ t.porter = {} ∧ t.can = State.reset.can ∧ t.fabric = {} ∧
        t.hearths = State.reset.hearths ∧ t.mem.mram = s.mem.mram ∧ t.store = s.store ∧
        t.trace.records = s.trace.records ∧ t.safety.damperUp = s.safety.damperUp ∧ t.safety.damper = s.safety.damper) ∧
  (∀ (dt : Nat), s.start.vanaUp = true →
      exec (.vanaBrownOut dt) s = .next (settled (forAll four (fun m s =>
          if usesAnalog s m then
            if s.en m then
              faultStop (noteSource (s.modStart (fun x => { x with
                  forbidAnalog := vmod x.forbidAnalog m (fun _ => true) })) m 10 0) m none
            else s.modStart (fun x => { x with forbidAnalog := vmod x.forbidAnalog m (fun _ => true) })
          else s) (raise ((advance s dt).modStart (fun x => { x with vanaUp := false })) 10 0)))) ∧
  (∀ (dt : Nat), s.start.vanaUp = false →
      exec (.vanaReturn dt true) s = .next (settled ((advance s dt).modStart (fun x => { x with
        vanaUp := true, forbidAnalog := Vector.replicate 4 false })))) ∧
  (∀ (dt : Nat), s.start.vanaUp = false →
      exec (.vanaReturn dt false) s = .next (settled (raise ((advance s dt).modStart (fun x =>
          { x with vanaUp := true })) 10 0))) ∧
  (∀ (t : State) (dt : Nat), t = damperOff (advance s dt) →
      exec (.damperPowerOn dt) s = .next (settled (raise t 15 0)) ∧ t.safety.damperUp = false ∧
        t.safety.outs = Vector.replicate 4 {} ∧ t.safety.set = [] ∧ t.safety.loaded = false ∧ t.safety.cfgFault = true ∧
        t.safety.restartReq = Vector.replicate 4 true ∧ t.start.damperPor = true) ∧
  (∀ (dt : Nat) (pass : Bool), s.safety.damperUp = false → s.safety.damperAt + 20000 ≤ s.clk + dt →
      exec (.damperStart dt pass) s = .next (settled ((advance s dt).modSafety (fun x => { x with
        damperUp := true, damperAt := s.clk + dt, selfTest := pass, hbSeenAt := s.clk + dt }))))

/-- The staged start of the rails. START_REFERENCE begins an attempt with step 1 and reads CLK_SEL once; PLL_LOCK starts
the tick count at 0 with step 2; each STAGED_RELEASE_STEP from 3 to 15 comes at 100 µs times the step less two after
the lock, and step 15 starts the boot; a rail that is not in regulation 80 µs after its release takes the rails off
for 10 ms and, the second time, for good, until RESET_N; RESET_N requests the module reset once the boot ROM has
begun, unless one is pending. (02 R48, 02 R51, 02 R52, 02 R61, 25 R627) -/
def Obligations.StagedStart : Prop :=
∀ (s : State),
  (∀ (dt : Nat), s.start.awaitRef = true → s.start.latchedOff = false → s.start.offUntil = none →
      exec (.startReference dt) s = .next (settled ((advance s dt).modStart (fun x => { x with
        coreUp := true, awaitRef := false, attempt := x.attempt + 1, step := 1, refAt := s.clk + dt, startState :=
            .staged
        refIn := some (x.refIn.getD x.clkSel) })))) ∧
  (∀ (dt : Nat), s.start.coreUp = true → s.start.step = 1 →
      exec (.pllLock dt) s = .next (settled (((advance s dt).modTb (fun t => { t with
        counting := true, now := 0, pllLock := true, refOk := decide (t.ref = .present) })).modStart (fun x => { x with
          step := 2, lockAt := s.clk + dt })))) ∧
  (∀ (dt n : Nat), s.start.step + 1 = n → 3 ≤ n → n < 15 → s.start.lockAt + 20000 * (n - 2) ≤ s.clk + dt →
      exec (.stagedReleaseStep dt) s = .next (settled ((advance s dt).modStart (fun x => { x with step := n })))) ∧
  (∀ (dt : Nat), s.start.step = 14 → s.start.lockAt + 260000 ≤ s.clk + dt →
      exec (.stagedReleaseStep dt) s = .next (settled ((advance s dt).modStart (fun x => { x with
        step := 15, startState := .boot })))) ∧
  (∀ (t : State) (dt at' : Nat), s.start.coreUp = true → s.start.bootBegun = false → railReleasedAt s.start = some at' →
      at' + 16000 ≤ s.clk + dt →
      t = (powerLost (advance s dt)).modStart (fun y => { y with
          awaitRef := false, attempt := s.start.attempt, failedStep := some s.start.step,
          violations := s.start.violations, refIn := s.start.refIn, offUntil := some (s.clk + dt + 2000000),
          latchedOff := decide (2 ≤ s.start.attempt) }) →
      exec (.railRegulationTimeout dt) s = .next (settled t) ∧ t.start.coreUp = false ∧ t.tb.counting = false ∧
        t.mem.mram = s.mem.mram) ∧
  (∀ (dt at' : Nat), s.start.offUntil = some at' → at' ≤ s.clk + dt →
      exec (.railOffPeriodEnd dt) s = .next (settled ((advance s dt).modStart (fun x => { x with
        offUntil := none, awaitRef := !x.latchedOff })))) ∧
  (∀ (dt : Nat), s.start.bootBegun = true →
      exec (.resetNAssert dt) s = .next (settled ((advance s dt).modStart (fun x => { x with
        resetNLow := some (s.clk + dt), resetPending := some (x.resetPending.getD .pin)
        resetPendingAt := if x.resetPending.isSome then x.resetPendingAt else s.clk + dt })))) ∧
  (∀ (dt : Nat), s.start.bootBegun = false → s.start.latchedOff = true →
      exec (.resetNAssert dt) s = .next (settled ((advance s dt).modStart (fun x => { x with
        resetNLow := some (s.clk + dt), latchedOff := false, awaitRef := true, offUntil := none, attempt := 0 })))) ∧
  (∀ (dt : Nat), s.start.bootBegun = false → s.start.latchedOff = false →
      exec (.resetNAssert dt) s = .next (settled ((advance s dt).modStart (fun x =>
          { x with resetNLow := some (s.clk + dt) })))) ∧
  (∀ (dt : Nat),
      exec (.resetNRelease dt) s = .next (settled ((advance s dt).modStart (fun x => { x with
        resetNLow := none, resetNHighAt := s.clk + dt }))))

/-- The boot ROM, the end of the start-up tests and the module reset. The boot ROM makes the raises that are owed, takes
the first image it can start, loads the parameters and the calibration and goes to the tests, or enters HOLD when no
image can be started; the end of the tests takes their results and gives HOLD when one asks for it, else RESTRICTED
when one asks for that, else READY, and out of HOLD it starts the CAN ports and arms the trace; which results ask for
HOLD is stated; a module reset that is due journals FER and NER, writes the journal out and starts the module again at
step 15 with TB, MRAM and the Damper kept and its cause noted. (02 R53, 02 R54, 02 R56, 02 R57, 02 R58, 02 R61, 02
R63, 23 R580) -/
def Obligations.BootAndReset : Prop :=
∀ (s : State),
  (∀ (u v : State) (dt : Nat) (b : Bool), s.start.startState = .boot → s.start.bootBegun = false →
      s.start.resetNLow = none → s.start.resetNHighAt + 2000 ≤ s.clk + dt → u = bootBegins (advance s dt) →
      pickImage (candidates u) u = (some b, v) →
      exec (.bootRomStart dt) s = .next (settled (startImage v ((candidates u).head? != some b) b))) ∧
  (∀ (u v : State) (dt : Nat), s.start.startState = .boot → s.start.bootBegun = false → s.start.resetNLow = none →
      s.start.resetNHighAt + 2000 ≤ s.clk + dt → u = bootBegins (advance s dt) →
      pickImage (candidates u) u = (none, v) →
      exec (.bootRomStart dt) s = .next (settled (endOfStart v .hold))) ∧
  (∀ (v : State) (fallback b : Bool),
      v = s.modStart (fun x => { x with
          imageSel := b, imageFallback := x.imageFallback || fallback, startState := .tests,
          runImage := some (imageOf s b) }) →
      startImage s fallback b = calLoad (loadParams (raiseIf fallback v 4 0))) ∧
  (∀ (u : State) (dt : Nat) (t : StartTests) (hold restricted : Bool), s.start.startState = .tests →
      startTests t (advance s dt) = (u, hold, restricted) →
      exec (.startupTestsEnd dt t) s = .next (settled (if hold then endOfStart u .hold
        else traceArm (forAll six (fun p s => startCan s p) (endOfStart u (if restricted then .restricted
            else .ready)))))) ∧
  (∀ (t : StartTests),
      (startTests t s).2.1 = true ↔ s.start.mustHold = true ∨ t.sramBad = true ∨ t.damper = true
          ∨ t.trivets[(0 : Fin 4)] = true ∨
        (∃ k : Fin 3, t.lanes[(0 : Fin 4)][k] = true) ∨ (∃ h : Fin 4, h ≠ 0 ∧ t.trivets[h] = true) ∨
        (∃ (h : Fin 4) (j k : Fin 3), h ≠ 0 ∧ j ≠ k ∧ t.lanes[h][j] = true ∧ t.lanes[h][k] = true)) ∧
  (∀ (dt : Nat) (c : ResetCause), s.start.resetPending = some c → resetDue (advance s dt) = true →
      exec (.moduleResetTake dt) s = .next (settled (moduleReset (resetJournalled (advance s dt)) c))) ∧
  (∀ (t : State) (c : ResetCause), t = moduleReset s c →
      t.start.startState = .boot ∧ t.start.step = 15 ∧ t.start.bootBegun = false ∧ t.start.resetPending = none ∧
        t.start.cmdReset = (s.start.cmdReset || c == .opcode) ∧ t.start.extReset = (s.start.extReset || c == .pin) ∧
        t.start.flueReset = (s.start.flueReset || c == .flue) ∧ t.tb.now = s.tb.now ∧ t.mem.mram = s.mem.mram ∧
        t.safety.damper = s.safety.damper ∧ t.drive = State.reset.drive ∧ t.porter = {} ∧ t.flue.fer = none ∧
        t.flue.ner = none ∧ t.flue.sticky = 0)

/-- How a packet comes in. A packet that passes the checks becomes an outstanding command at the end of the order of
arrival, its session's newest; one with a wrong CRC only counts CRC and raises 1.1; a first segment begins a packet
and discards the one in progress, the next in count joins it, the last makes it whole, a segment out of count discards
it and counts FORMAT, and so does 100 ms without one; PARAM_STORE, ENABLE and IMAGE_END complete with TIMEOUT 100 ms,
130 s and 2 s after they were accepted. (03 R72, 03 R74, 03 R80, 03 R85, 23 R577) -/
def Obligations.PacketIntake : Prop :=
∀ (s : State) (dt : Nat),
  (∀ (p : ReadyPacket) (rest : List ReadyPacket) (i : OpInfo), s.porter.ready = p :: rest → Passes s p i →
      exec (.commandPacketReceive dt) s = .next (settled
        ((touchSession ((advance s dt).modPorter (fun x => { x with ready := rest })) (parseHdr p.bytes)
            (authSeq (parseHdr p.bytes) p.bytes)).modPorter
          (fun x => { x with cmds := x.cmds ++ [cmdOf s p] })))) ∧
  (∀ (p : ReadyPacket) (rest : List ReadyPacket), s.porter.ready = p :: rest → s.start.bootBegun = true → s.up = true →
      20 ≤ p.bytes.length → (parseHdr p.bytes).length ≤ 1024 → p.bytes.length = packetLen (parseHdr p.bytes) →
      beNat (p.bytes.drop (p.bytes.length - 4)) ≠ (crc32c (p.bytes.take (p.bytes.length - 4))).toNat →
      exec (.commandPacketReceive dt) s = .next (settled
        (countTransport ((advance s dt).modPorter (fun x => { x with ready := rest })) p.tr.index 1))) ∧
  (∀ (p : Fin 6) (b : Fin 512) (o : CanObj) (f : CanFrame) (ctl : Byte) (body : List Byte), requestObj s p = some b →
      canObj s b = some o → o.frame = some f → f.data = ctl :: body → ctl.getLsbD 7 = true →
      (ctl.setWidth 6 : BitVec 6) = 0 →
      exec (.canSegmentReceive dt p) s = .next (settled
        (addSegment (if s.porter.canIn[p].isSome then dropSegment (modObj (advance s dt) b (fun o =>
            { o with new := false })) p
            else modObj (advance s dt) b (fun o => { o with new := false })) p
          { bytes := [], next := 0, lastAt := s.clk + dt } f body (ctl.getLsbD 6)))) ∧
  (∀ (p : Fin 6) (b : Fin 512) (o : CanObj) (f : CanFrame) (ctl : Byte) (body : List Byte) (a : CanAssembly),
      requestObj s p = some b → canObj s b = some o → o.frame = some f → f.data = ctl :: body → ctl.getLsbD 7 = false →
      s.porter.canIn[p] = some a →
      exec (.canSegmentReceive dt p) s = .next (settled
        (if (ctl.setWidth 6 : BitVec 6) = a.next then
            addSegment (modObj (advance s dt) b (fun o => { o with new := false })) p a f body (ctl.getLsbD 6)
          else dropSegment (modObj (advance s dt) b (fun o => { o with new := false })) p))) ∧
  (∀ (p : Fin 6) (a : CanAssembly), s.porter.canIn[p] = some a → a.lastAt + 20000000 ≤ s.clk + dt →
      exec (.canSegmentTimeout dt p) s = .next (settled (dropSegment (advance s dt) p))) ∧
  (∀ (tr : Transport) (tag : BitVec 16) (c : Cmd) (x : Storing), findCmd s tr tag = some c → c.phase = .running →
      c.opcode = 0x0102 → c.startedAt + 20000000 ≤ s.clk + dt → s.porter.storing = some x → x.cmd = c.id →
      exec (.longCommandTimeout dt tr tag) s = .next (settled
        (completeAt ((advance s dt).modPorter (fun p => { p with storing := none })) c.id stTIMEOUT []))) ∧
  (∀ (tr : Transport) (tag : BitVec 16) (c : Cmd), findCmd s tr tag = some c → c.phase = .running → c.opcode = 0x0200 →
      c.startedAt + 26000000000 ≤ s.clk + dt → s.drive[c.m].enabling.any (fun e => e.result.isNone) = true →
      exec (.longCommandTimeout dt tr tag) s = .next (settled
        (faultStop (endEnable (advance s dt) c.m stTIMEOUT []) c.m none))) ∧
  (∀ (tr : Transport) (tag : BitVec 16) (c : Cmd) (x : ImageLoad), findCmd s tr tag = some c → c.phase = .running →
      c.opcode = 0x0A12 → c.startedAt + 400000000 ≤ s.clk + dt → s.porter.load = some x → x.ending ≠ none →
      exec (.longCommandTimeout dt tr tag) s = .next (settled
        (completeAt ((advance s dt).modPorter (fun p => { p with load := none })) c.id stTIMEOUT [])))

/-- The system and safety opcodes that only read. IDENTIFY, STATUS, TIME_READ, BARRIER, SAFETY_STATUS and SAFETY_CRC
without data answer OK with the values the table gives, and change nothing but the reply that is queued. (23 R579, 23
R588, 03 R69, 03 R76) -/
def Obligations.SystemReads : Prop :=
∀ (s : State) (tr : Transport) (tag : BitVec 16) (c : Cmd),
  (c.data = [] → Starts s tr tag 0x0000 c →
      exec (.identify tr tag) s = .next (settled (reply (begun s tr tag) c stOK
      (beBytes 8 Config.uid.toNat ++ beBytes 2 (runningImage s).version.toNat ++ [0x42]
        ++ beBytes 1 (flag s.start.imageSel 0) ++ beBytes 4 (runningImage s).generation.toNat ++ beBytes 4 0x296406B7
        ++ beBytes 1 s.fabric.addr.toNat)))) ∧
  (c.data = [] → Starts s tr tag 0x0001 c →
      exec (.status tr tag) s = .next (settled (reply (begun s tr tag) c stOK (statusData s)))) ∧
  (c.data = [] → Starts s tr tag 0x0006 c →
      exec (.timeRead tr tag) s = .next (settled (reply (begun s tr tag) c stOK
      (beBytes 8 s.tb.now.toNat ++ beBytes 4 (s32 s.fabric.offset) ++ beBytes 1 (flag s.tb.aligned 0))))) ∧
  (c.data = [] → Starts s tr tag 0x0002 c →
      exec (.barrier tr tag) s = .next (settled (reply (begun s tr tag) c stOK []))) ∧
  (c.data = [] → Starts s tr tag 0x0500 c →
      exec (.safetyStatus tr tag) s = .next (settled (reply (begun s tr tag) c stOK
      (four.flatMap (fun m => beBytes 4 (safetyWord s false m)) ++ beBytes 1 (inputBits s false)
        ++ beBytes 1 (outsOn s) ++ beBytes 1 (connsLost s))))) ∧
  (c.data = [] → Starts s tr tag 0x0501 c →
      exec (.safetyCrc tr tag) s = .next (settled (reply (begun s tr tag) c stOK
      ((safetyCrcs s).flatMap (beBytes 4)))))

/-- The system opcodes that act. MODULE_RESET answers OK and requests the reset unless one is pending, BLOCK_RESET resets
the named block and answers OK, KEY_WRITE sets the debug key or a slot at once, SAFETY_VALIDATE with the right CRC
writes one journal entry, ABORT of a waiting command answers it ABORTED and itself OK, and of a long command that runs
ends it before its point of no return (OK) or not at all (LATE). (23 R580, 23 R581, 23 R588, 23 R597, 03 R78, 03 R84) -/
def Obligations.SystemActs : Prop :=
∀ (s : State) (tr : Transport) (tag : BitVec 16) (c : Cmd),
  (Starts s tr tag 0x0004 c → c.data = [] →
      exec (.moduleReset tr tag) s = .next (settled ((reply (begun s tr tag) c stOK []).modStart (fun x =>
        if x.resetPending.isSome then x else { x with resetPending := some .opcode, resetPendingAt := s.clk })))) ∧
  (∀ (k : Byte) (b : Blk), Starts s tr tag 0x0005 c → c.data = [k] → resettable (tIndex c.target) k.toNat = .ok b →
      exec (.blockReset tr tag) s = .next (settled (reply
        (if s.start.resetPending.isSome then begun s tr tag else resetBlock (begun s tr tag) b (some c.id)) c stOK
            []))) ∧
  (∀ (level : Byte) (key : List Byte), Starts s tr tag 0x0A30 c → c.data = 8 :: level :: key → key.length = 32 →
      exec (.keyWrite tr tag) s = .next (settled (reply ((begun s tr tag).modPorter (fun p =>
          { p with debugKey := key })) c stOK []))) ∧
  (∀ (k level : Byte) (key : List Byte), Starts s tr tag 0x0A30 c → c.data = k :: level :: key → key.length = 32 →
      k.toNat ≤ 7 → 1 ≤ level.toNat → level.toNat ≤ 4 →
      exec (.keyWrite tr tag) s = .next (settled (reply ((begun s tr tag).modPorter (fun p => { p with
        keys := vmod p.keys (finOf 8 k.toNat) (fun _ => some ⟨BitVec.ofNat 3 level.toNat, key⟩) })) c stOK []))) ∧
  (∀ (x : Session), Starts s tr tag 0x0502 c → c.data.length = 4 → s.safety.cfgFault = false →
      (safetyCrcs s).any (fun y => y != beNat c.data) = false → openSession s c.session = some x →
      exec (.safetyValidate tr tag) s = .next (settled (reply (journal (begun s tr tag) 6 0
        (c.data ++ beBytes 2 c.session.toNat ++ beBytes 1 x.slot.val ++ [1] ++ List.replicate 4 0)) c stOK []))) ∧
  (∀ (named : BitVec 16) (t : Cmd), Starts s tr tag 0x0003 c → c.data.length = 2 → beNat c.data = named.toNat →
      named ≠ c.tag → findCmd (begun s tr tag) c.tr named = some t → t.phase = .waiting →
      t.level.toNat ≤ c.level.toNat →
      exec (.abort tr tag) s = .next (settled
        (reply (queueFor (begun s tr tag) t.tr t.tag false true stABORTED []) c stOK []))) ∧
  (∀ (named : BitVec 16) (t : Cmd), Starts s tr tag 0x0003 c → c.data.length = 2 → beNat c.data = named.toNat →
      named ≠ c.tag → findCmd (begun s tr tag) c.tr named = some t → t.phase = .running →
      t.level.toNat ≤ c.level.toNat →
      exec (.abort tr tag) s = .next (settled (reply (abortLong (begun s tr tag) t).1 c
        (if (abortLong (begun s tr tag) t).2 then stOK else stLATE) [])))

/-- What the session commands do. SESSION_OPEN takes the lowest free berth for a session that awaits its proof and answers
its berth and the nonce; the right proof opens it with the lesser of the two levels, a new key and a full window;
SESSION_CLOSE frees the berth; an open session that was idle for its timeout is freed with 1.4, and one without proof
after 5 s. (03 R82, 03 R83, 03 R84, 03 R86, 23 R591) -/
def Obligations.SessionCommands : Prop :=
∀ (s : State) (tr : Transport) (tag : BitVec 16) (c : Cmd),
  (∀ (b : Fin 512), Starts s tr tag 0x0700 c → c.data.length = 18 → field c.data 16 1 ≤ 7 →
      s.porter.keys[finOf 8 (field c.data 16 1)] ≠ none → 1 ≤ field c.data 17 1 → field c.data 17 1 ≤ 4 →
      freeBerth s = some b → sessionCount s < 64 →
      exec (.sessionOpen tr tag) s = .next (settled (reply (setBerth (freshNonce (begun s tr tag)).2 b (.session {
          isOpen := false, transport := c.tr, slot := finOf 8 (field c.data 16 1), level :=
              BitVec.ofNat 3 (field c.data 17 1),
          nonces := c.data.take 16 ++ (freshNonce s).1, lastAt := s.clk, openTime := s.tb.now })) c stOK
        (beBytes 2 b.val ++ (freshNonce s).1)))) ∧
  (∀ (x : Session) (k : KeySlot), Starts s tr tag 0x0701 c → c.data.length = 32 →
      s.porter.berths[c.berth] = .session x → x.isOpen = false → s.porter.keys[x.slot] = some k →
      c.data = hmac k.key x.nonces →
      exec (.sessionProve tr tag) s = .next (settled (reply (setBerth (begun s tr tag) c.berth (.session { x with
          isOpen := true, level := if x.level.toNat ≤ k.maxLevel.toNat then x.level else k.maxLevel,
          key := hmac k.key (sessionText ++ x.nonces), seqHigh := 0, window := BitVec.allOnes 32, lastAt :=
              s.clk })) c stOK
        (beBytes 1 (if x.level.toNat ≤ k.maxLevel.toNat then x.level else k.maxLevel).toNat ++ beBytes 2 x.timeout)))) ∧
  (∀ (x : Session), Starts s tr tag 0x0702 c → c.data = [] → openSession s (BitVec.ofNat 9 c.berth.val) = some x →
      exec (.sessionClose tr tag) s = .next (settled (reply (setBerth (begun s tr tag) c.berth .free) c stOK []))) ∧
  (∀ (dt : Nat) (b : Fin 512) (x : Session), s.porter.berths[b] = .session x → x.isOpen = true →
      x.lastAt + 200000000 * x.timeout ≤ s.clk + dt →
      exec (.sessionIdleTimeout dt b) s = .next (settled (raise (setBerth (advance s dt) b .free) 20
          x.transport.index.val))) ∧
  (∀ (dt : Nat) (b : Fin 512) (x : Session), s.porter.berths[b] = .session x → x.isOpen = false →
      x.lastAt + 1000000000 ≤ s.clk + dt →
      exec (.sessionProofTimeout dt b) s = .next (settled (setBerth (advance s dt) b .free)))

/-- What the image commands do. IMAGE_LOAD_BEGIN invalidates the area's header and opens the load; IMAGE_LOAD_DATA writes
its bytes to the area; IMAGE_LOAD_END with a good header is accepted as a long command; its completion writes the
header on trial and answers OK when the signature over the MRAM verifies and EXEC_FAULT when it does not; 60 s without
an opcode close the load; CONFIRM_IMAGE ends the trial and writes the floor to both boot records, the standby copy
first, and does nothing for an image that is on trial no more. (22 R559, 22 R563, 23 R596, 23 R597, 02 R55) -/
def Obligations.ImageCommands : Prop :=
∀ (s : State),
  (∀ (tr : Transport) (tag : BitVec 16) (c : Cmd) (b : Bool) (n : Nat), Starts s tr tag 0x0A10 c → c.data.length = 5 →
      field c.data 0 1 = flag b 0 → field c.data 1 4 = n → throttling s = false → s.porter.load = none →
      (s.start.startState = .hold ∨ b ≠ s.start.imageSel) → 8 ≤ n → n ≤ 8388480 → n % 8 = 0 →
      exec (.imageLoadBegin tr tag) s = .next (settled (reply ((modImage (begun s tr tag) b (fun _ => {})).modPorter
        (fun p => { p with load := some {
          imageB := b, length := n, transport := c.tr,
          session := if s.start.startState = .hold then none else some c.session, lastAt := s.clk } })) c stOK []))) ∧
  (∀ (tr : Transport) (tag : BitVec 16) (c : Cmd) (x : ImageLoad) (t : State) (bad : Bool), Starts s tr tag 0x0A11 c →
      ownLoad (begun s tr tag) c = some x → 12 ≤ c.data.length → c.data.length ≤ 1020 → field c.data 0 4 % 8 = 0 →
      field c.data 0 4 + (c.data.length - 4) ≤ x.length →
      mramWrite ((begun s tr tag).modPorter (fun p => { p with load := some { x with lastAt := s.clk } })) (imageBase
          x.imageB + field c.data 0 4) (c.data.drop 4) bad = (t, true) →
      exec (.imageLoadData tr tag bad) s = .next (settled (reply t c stOK []))) ∧
  (∀ (tr : Transport) (tag : BitVec 16) (c : Cmd) (x : ImageLoad), Starts s tr tag 0x0A12 c →
      ownLoad (begun s tr tag) c = some x → c.data.length = 128 → headerGood c.data = true →
      exec (.imageLoadEnd tr tag) s = .next (settled (accept ((begun s tr tag).modPorter (fun p => { p with
        load := some { x with lastAt := s.clk, ending := some c.data } })) c))) ∧
  (∀ (r : State) (dt : Nat) (x : ImageLoad) (h : List Byte) (bad : Bool), s.porter.load = some x → x.ending = some h →
      (if bad then spareMramRow ((advance s dt).modPorter (fun p => { p with load := none })) (dieOf (imageBase
          x.imageB)) else ((advance s dt).modPorter (fun p => { p with load := none }), true)) = (r, true) →
      Config.imageSigned h (cellsGet r.mem.mram (imageBase x.imageB) x.length) = true →
      exec (.imageLoadEndComplete dt bad) s = .next (settled (complete (journalImage
        (modImage r x.imageB (fun _ => {
          headerOk := true, generation := headerGeneration h, version := headerVersion h, trial := true,
              trialCount := 0,
          notBootable := false, header := h, length := x.length,
          checked := cellsGet r.mem.mram (imageBase x.imageB) x.length, sigOk := true })) 2 x.imageB
        (((endingCmd s).map (fun y => y.2)).getD 0))
        (endingCmd s) stOK []))) ∧
  (∀ (r : State) (dt : Nat) (x : ImageLoad) (h : List Byte) (bad : Bool), s.porter.load = some x → x.ending = some h →
      (if bad then spareMramRow ((advance s dt).modPorter (fun p => { p with load := none })) (dieOf (imageBase
          x.imageB)) else ((advance s dt).modPorter (fun p => { p with load := none }), true)) = (r, true) →
      Config.imageSigned h (cellsGet r.mem.mram (imageBase x.imageB) x.length) = false →
      exec (.imageLoadEndComplete dt bad) s = .next (settled (complete (modImage r x.imageB (fun _ => {
          headerOk := true, generation := headerGeneration h, version := headerVersion h, trial := true,
              trialCount := 0,
          notBootable := false, header := h, length := x.length,
          checked := cellsGet r.mem.mram (imageBase x.imageB) x.length, sigOk := false }))
        (endingCmd s) stEXECFAULT []))) ∧
  (∀ (dt : Nat) (x : ImageLoad), s.porter.load = some x → x.ending = none → x.lastAt + 12000000000 ≤ s.clk + dt →
      exec (.imageLoadIdleTimeout dt) s = .next (settled ((advance s dt).modPorter (fun p =>
          { p with load := none })))) ∧
  (∀ (r : State) (tr : Transport) (tag : BitVec 16) (c : Cmd) (bad : Bool), Starts s tr tag 0x0A13 c → c.data = [] →
      (imageOf s s.start.imageSel).trial = true →
      (if bad then spareMramRow (begun s tr tag) (dieOf (imageBase s.start.imageSel)) else (begun s tr tag,
          true)) = (r, true) →
      exec (.confirmImage tr tag bad) s = .next (settled (reply (journalImage
        (writeBoot (writeBoot (modImage r s.start.imageSel (fun x => { x with trial := false }))
            (bootTarget (modImage r s.start.imageSel (fun x => { x with trial := false })))
            (imageOf (modImage r s.start.imageSel (fun x => { x with trial := false })) s.start.imageSel).version)
          (!bootTarget (modImage r s.start.imageSel (fun x => { x with trial := false })))
          (imageOf (modImage r s.start.imageSel (fun x => { x with trial := false })) s.start.imageSel).version)
        3 s.start.imageSel c.tag) c stOK []))) ∧
  (∀ (tr : Transport) (tag : BitVec 16) (c : Cmd) (bad : Bool), Starts s tr tag 0x0A13 c → c.data = [] →
      (imageOf s s.start.imageSel).trial = false →
      exec (.confirmImage tr tag bad) s = .next (settled (reply (begun s tr tag) c stOK [])))

/-- Register reads and writes. A read of a group's first word takes the group's latch, a write of a register word has the
register's effect, BERTH_READ answers the berth's words, REG_READ and REG_WRITE act on all words once every word is
checked, and REG_MODE over HSPI switches direct register mode. (24 R600, 24 R601, 23 R591, 23 R594, 23 R595, 21 R547) -/
def Obligations.RegisterCommands : Prop :=
∀ (s : State),
  (∀ (dt : Nat) (a : BitVec 32) (v : Nat) (t : State), regRead (advance s dt) a.toNat = some (v, t) →
      exec (.groupReadLatch dt a) s = .next (settled t)) ∧
  (∀ (dt : Nat) (a w : BitVec 32),
      exec (.registerWrite dt a w) s = .next (settled (wordWrite (advance s dt) a.toNat w.toNat))) ∧
  (∀ (tr : Transport) (tag : BitVec 16) (c : Cmd), Starts s tr tag 0x0703 c → c.data = [] →
      exec (.berthRead tr tag) s = .next (settled
      (reply (begun s tr tag) c stOK ((berthWords s c.berth).flatMap (beBytes 4))))) ∧
  (∀ (tr : Transport) (tag : BitVec 16) (c : Cmd) (a n : Nat), Starts s tr tag 0x0A00 c → c.data.length = 5 →
      beNat (c.data.take 4) = a → beNat (c.data.drop 4) = n → 1 ≤ n →
      (∀ i, i < n → readable (begun s tr tag) (a + 4 * i) = true) →
      exec (.regRead tr tag) s = .next (settled
        (reply (readWords n (begun s tr tag) a).2 c stOK (readWords n (begun s tr tag) a).1))) ∧
  (∀ (tr : Transport) (tag : BitVec 16) (c : Cmd) (a n : Nat), Starts s tr tag 0x0A01 c → c.data.length = 5 + 4 * n →
      beNat (c.data.take 4) = a → beNat ((c.data.drop 4).take 1) = n → 1 ≤ n → n ≤ 254 →
      (∀ i, i < n → writeRefused (begun s tr tag) (a + 4 * i) = false) →
      exec (.regWrite tr tag) s = .next (settled
        (reply (writeWords n (begun s tr tag) a (c.data.drop 5)) c stOK []))) ∧
  (∀ (tr : Transport) (tag : BitVec 16) (c : Cmd) (v : Byte), Starts s tr tag 0x0A02 c → c.tr = .hspi → c.data = [v] →
      v.toNat ≤ 1 →
      exec (.regMode tr tag) s = .next (settled
        (reply ((begun s tr tag).modPorter (fun p => { p with regMode := v.toNat == 1 })) c stOK [])))

/-- What the Ethernet commands do. While the module is up and the link is, an IPv4 frame to the own address and an ARP
frame are taken and any other or damaged frame is discarded and counted; a poll that finds half duplex raises 1.12
with cause 2, one that finds no link any more with cause 0, and one that finds the link up with cause 1 after an ARP
announcement; requests and cache entries end after 100 ms and 60 s. (21 R542, 21 R543, 21 R544, 21 R555) -/
def Obligations.EthernetCommands : Prop :=
∀ (s : State) (dt : Nat) (e : Fin 2),
  (∀ (frame : List Byte), s.up = true → s.ports.eth[e].link ≠ 0 → 60 ≤ frame.length → frame.length ≤ 1514 →
      field frame 12 2 = 0x0800 → field frame 0 6 = (Config.mac e.val).toNat →
      exec (.ethFrameReceive dt e frame true) s = .next (settled (ethIp (advance s dt) e (field frame 6 6)
          (frame.drop 14)))) ∧
  (∀ (frame : List Byte), s.up = true → s.ports.eth[e].link ≠ 0 → 60 ≤ frame.length → frame.length ≤ 1514 →
      field frame 12 2 = 0x0806 → (field frame 0 6 = (Config.mac e.val).toNat ∨ field frame 0 6 = 0xFFFFFFFFFFFF) →
      exec (.ethFrameReceive dt e frame true) s = .next (settled (ethArp (advance s dt) e (frame.drop 14)))) ∧
  (∀ (frame : List Byte), s.up = true → s.ports.eth[e].link ≠ 0 → 60 ≤ frame.length → frame.length ≤ 1514 →
      ¬ (field frame 12 2 = 0x0800 ∧ field frame 0 6 = (Config.mac e.val).toNat) →
      ¬ (field frame 12 2 = 0x0806 ∧ (field frame 0 6 = (Config.mac e.val).toNat ∨ field frame 0 6 = 0xFFFFFFFFFFFF)) →
      exec (.ethFrameReceive dt e frame true) s = .next (settled (ethDiscard (advance s dt) e))) ∧
  (∀ (frame : List Byte) (good : Bool), s.up = true → s.ports.eth[e].link ≠ 0 →
      (good = false ∨ frame.length < 60 ∨ 1514 < frame.length) →
      exec (.ethFrameReceive dt e frame good) s = .next (settled (ethDiscard (advance s dt) e))) ∧
  (∀ (speed : Fin 4), s.start.bootBegun = true → speed ≠ 0 →
      exec (.ethPhyPoll dt e speed false) s = .next (settled
        (raise (modEth (advance s dt) e (fun x => { x with link := 0 })) 28 (2 + 16 * e.val)))) ∧
  (∀ (full : Bool), s.start.bootBegun = true → s.ports.eth[e].link ≠ 0 →
      exec (.ethPhyPoll dt e 0 full) s = .next (settled
        (raise (modEth (advance s dt) e (fun x => { x with link := 0 })) 28 (16 * e.val)))) ∧
  (∀ (speed : Fin 4), s.start.bootBegun = true → speed ≠ 0 → s.ports.eth[e].link = 0 → s.p0 (0x1300 + e.val) 5 = 1 →
      s.up = true →
      exec (.ethPhyPoll dt e speed true) s = .next (settled (raise
        (putArp (modEth (advance s dt) e (fun x => { x with
          link := speed.val, ip := BitVec.ofNat 32 (s.p0 (0x1300 + e.val) 2),
          mask := BitVec.ofNat 32 (s.p0 (0x1300 + e.val) 3), gateway := BitVec.ofNat 32 (s.p0 (0x1300 + e.val) 4) }))
          e (BitVec.ofNat 32 (s.p0 (0x1300 + e.val) 2)) (BitVec.ofNat 32 (s.p0 (0x1300 + e.val) 2))) 28 (1 + 16 *
              e.val)))) ∧
  (∀ (speed : Fin 4), s.start.bootBegun = true → speed ≠ 0 → s.ports.eth[e].link ≠ 0 →
      exec (.ethPhyPoll dt e speed true) s = .next (settled (modEth (advance s dt) e (fun x =>
          { x with link := speed.val })))) ∧
  (exec (.arpTimeout dt e) s = .next (settled (raiseIf ((s.porter.replies.filter (arpLate (advance s dt) e)) != [])
        (modEth ((s.porter.replies.filter (arpLate (advance s dt) e)).foldl sentReply (advance s dt)) e (fun x =>
            { x with
          arpWait := x.arpWait.filter (fun w => !decide (w.2 + 20000000 ≤ s.clk + dt)) })) 29 (1 + 16 * e.val)))) ∧
  (exec (.arpEntryExpiry dt e) s = .next (settled (modEth (advance s dt) e (fun x => { x with
        arp := x.arp.filter (fun a => !decide (a.at' + 12000000000 ≤ s.clk + dt)) }))))

/-- What the host does over HSPI. A written packet is taken in while zero bytes go out, a read gives the whole oldest
reply with its length and releases it when all of it was clocked, or three zero bytes when none waits, the status read
clears START, register accesses in direct register mode are made and outside it answered with result 1 (the data of
such a read is a free value), and an unknown command byte counts FORMAT. (21 R545, 21 R546, 21 R547, 21 R548) -/
def Obligations.HostPortCommands : Prop :=
∀ (s : State) (dt : Nat),
  (∀ (bytes : List Byte), hspiLive s = true →
      exec (.hspiWritePacket dt bytes) s = .next (settled (((advance s dt).modPorter (fun p => { p with
        ready := p.ready ++ [{ tr := .hspi, bytes := bytes }] })).put (.hspi (List.replicate bytes.length 0))))) ∧
  (∀ (n : Nat), hspiLive s = true → hspiOldest s = none →
      exec (.hspiReadReply dt n) s = .next (settled ((advance s dt).put (.hspi [0, 0, 0])))) ∧
  (∀ (n : Nat) (r : Reply), hspiLive s = true → hspiOldest s = some r →
      exec (.hspiReadReply dt n) s = .next (settled
        (if r.bytes.length ≤ n then
            sentReply ((advance s dt).put (.hspi ([0] ++ beBytes 2 r.bytes.length ++ r.bytes.take n))) r
          else (advance s dt).put (.hspi ([0] ++ beBytes 2 r.bytes.length ++ r.bytes.take n))))) ∧
  (hspiLive s = true →
      exec (.hspiReadStatus dt) s = .next (settled (((advance s dt).put (.hspi ([0] ++ beBytes 4 (hspiStatus (advance
          s dt))))).modPorts
      (fun p => { p with hspiStart := false })))) ∧
  (∀ (a : BitVec 32) (w : Fin 33), hspiLive s = true → s.porter.regMode = true →
      readable (advance s dt) a.toNat = true →
      exec (.hspiRegisterRead dt a (some w)) s = .next (settled ((wordRead (advance s dt) a.toNat).2.put (.hspi
        (List.replicate w.val 0 ++ [0x5A] ++ beBytes 4 (wordRead (advance s dt) a.toNat).1 ++ [0]))))) ∧
  (∀ (a : BitVec 32) (w : Fin 33), hspiLive s = true →
      (s.porter.regMode = false ∨ readable (advance s dt) a.toNat = false) →
      exec (.hspiRegisterRead dt a (some w)) s = .next (settled ((advance s dt).fresh.2.put (.hspi
        (List.replicate w.val 0 ++ [0x5A] ++ beBytes 4 (advance s dt).fresh.1 ++ [if s.porter.regMode then 2
            else 1]))))) ∧
  (∀ (a w : BitVec 32) (n : Fin 33), hspiLive s = true → s.porter.regMode = false →
      exec (.hspiRegisterWrite dt a w (some n)) s = .next (settled ((advance s dt).put (.hspi
        (List.replicate n.val 0 ++ [0x5A] ++ [1]))))) ∧
  (∀ (a w : BitVec 32) (n : Fin 33) (t : State), hspiLive s = true → s.porter.regMode = true → a.toNat % 4 = 0 →
      (inMemory a.toNat = true ∨ (regWord (advance s dt) a.toNat).isSome = true) →
      Machine.regWrite (advance s dt) a.toNat w.toNat = some t →
      exec (.hspiRegisterWrite dt a w (some n)) s = .next (settled (t.put (.hspi
        (List.replicate n.val 0 ++ [0x5A] ++ [0]))))) ∧
  (∀ (b : Byte), hspiLive s = true → b.toNat ∉ [0x01, 0x02, 0x03, 0x10, 0x11] →
      exec (.hspiUnknownCommand dt b) s = .next (settled (countTransport (advance s dt) 0 0)))

/-- What the serial lines and the debug port do. A serial frame to the own node or to all is unescaped and taken in, a
damaged one discarded; the oldest reply goes out and leaves the queue when its readback matches, and is treated as not
read back otherwise; a boundary instruction with a machine or axis enabled loads BYPASS and raises 1.15; otherwise an
instruction loads; a challenge puts out a new nonce, the right response unlocks and raises 14.14, a wrong one is
counted and raises it with cause 4, the third wrong one locks out for 60 s. (21 R549, 21 R550, 21 R551, 21 R552, 21
R554) -/
def Obligations.SerialAndDebug : Prop :=
∀ (s : State) (dt : Nat),
  (∀ (gap : Nat) (k : Fin 2) (rest l : List Byte) (node : Byte), s.up = true → rest.length < 2198 →
      gap * s.p0 (0x1320 + k.val) 2 ≤ 200000000000 → (node.toNat = s.p0 (0x1320 + k.val) 1 ∨ node = 0xFF) →
      unescape rest = some l →
      exec (.serFrameReceive dt k (node :: rest) false gap) s = .next (settled ((modSer (advance s dt) k (fun p =>
          { p with
        node := s.p0 (0x1320 + k.val) 1, rate := s.p0 (0x1320 + k.val) 2 })).modPorter (fun p => { p with
        ready := p.ready ++ [{ tr := .ser k, bytes := l, silent := node == 0xFF }] })))) ∧
  (∀ (gap : Nat) (k : Fin 2) (bytes : List Byte) (framing : Bool), s.up = true →
      (framing = true ∨ 200000000000 < gap * s.p0 (0x1320 + k.val) 2 ∨ 2198 < bytes.length) →
      exec (.serFrameReceive dt k bytes framing gap) s = .next (settled (serDiscard (modSer (advance s dt) k (fun p
          => { p with
        node := s.p0 (0x1320 + k.val) 1, rate := s.p0 (0x1320 + k.val) 2 })) k))) ∧
  (∀ (idle : Nat) (k : Fin 2) (back : List Byte) (r : Reply), s.up = true →
      s.porter.replies.find? (fun r => r.tr == .ser k) = some r →
      charTimes (advance s dt) k idle (serIdle (advance s dt) k r) = true →
      exec (.serReplySend dt k idle back) s = .next (settled
        (if back = serFrame s k r then
            modSer (sentReply ((advance s dt).put (.ser k (serFrame s k r))) r) k (fun p => { p with resent := false })
          else serReadBack ((advance s dt).put (.ser k (serFrame s k r))) k r false))) ∧
  (∀ (ir : TapIr), ((ir ≠ .extest ∧ ir ≠ .clamp ∧ ir ≠ .highz) ∨ (s.anyMachine || s.anyAxis) = false) →
      exec (.tapInstructionLoad dt ir) s = .next (settled ((advance s dt).modPorts (fun p => { p with ir := ir })))) ∧
  (∀ (ir : TapIr), (ir = .extest ∨ ir = .clamp ∨ ir = .highz) → (s.anyMachine || s.anyAxis) = true →
      exec (.tapInstructionLoad dt ir) s = .next (settled
        (raise ((advance s dt).modPorts (fun p => { p with ir := .bypass })) 31 0))) ∧
  (s.ports.ir = .dbgChallenge → s.ports.lockoutAt = none →
      exec (.dbgChallenge dt) s = .next (settled (((freshNonce (advance s dt)).2.modPorts (fun p => { p with
        challenge := some (freshNonce s).1 })).put (.tap (freshNonce s).1)))) ∧
  (∀ (l : List Byte), s.ports.ir = .dbgResponse → s.ports.lockoutAt = none → responseRight s l = true →
      exec (.dbgResponse dt l) s = .next (settled (raise ((advance s dt).modPorts (fun p => { p with
        unlocked := true, challenge := none })) 238 0))) ∧
  (∀ (l : List Byte), s.ports.ir = .dbgResponse → s.ports.lockoutAt = none → responseRight s l = false →
      s.ports.wrong < 2 →
      exec (.dbgResponse dt l) s = .next (settled (raiseIf (ctrInc 16 s.ports.wrongCount).2 (raise ((advance s
          dt).modPorts (fun p => { p with
        challenge := none, wrongCount := (ctrInc 16 s.ports.wrongCount).1, wrong := p.wrong + 1, lockoutAt :=
            none })) 238 4) 31 2))) ∧
  (∀ (l : List Byte), s.ports.ir = .dbgResponse → s.ports.lockoutAt = none → responseRight s l = false →
      2 ≤ s.ports.wrong →
      exec (.dbgResponse dt l) s = .next (settled (raise (raiseIf (ctrInc 16 s.ports.wrongCount).2 (raise ((advance s
          dt).modPorts (fun p => { p with
        challenge := none, wrongCount := (ctrInc 16 s.ports.wrongCount).1, wrong := 0, lockoutAt :=
            some (s.clk + dt) })) 238 4) 31 2) 31 1))) ∧
  (∀ (at' : Nat), s.ports.lockoutAt = some at' → at' + 12000000000 ≤ s.clk + dt →
      exec (.debugLockoutExpiry dt) s = .next (settled ((advance s dt).modPorts (fun p =>
          { p with lockoutAt := none }))))

/-- What happens on a CAN line. At the start of frame an active port in NORMAL offers its highest-ranked pending frame,
the sample point commits it, a sent frame ends as sent, a lost arbitration ends the attempt, an error counts under the
rules of ISO 11898-1, a received frame is placed in an object, T_OUT withdraws a frame that is not committed, and a
bus-off port recovers after the restart delay; integration restores the state the port had. (19 R500, 19 R503, 19
R505, 19 R507, 19 R508, 19 R509) -/
def Obligations.CanLineCommands : Prop :=
∀ (s : State) (dt : Nat),
  (∀ (p : Fin 6), canActive s p = true → canMode s p = 1 →
      exec (.canStartOfFrame dt p) s = .next (settled
      ((advance s dt).modCan p (fun c => { c with attempt := bestPending s p })))) ∧
  (∀ (p : Fin 6) (b : Fin 512) (o : CanObj) (f : TxPending), s.can[p].attempt = some b → canObj s b = some o →
      o.pend = some f →
      exec (.canSofSamplePoint dt p) s = .next (settled (setBerth ((advance s dt).modCan p (fun c => { c with
        sofStamp := (advance s dt).tb.now })) b (.can { o with pend := some { f with committed := true } })))) ∧
  (∀ (p : Fin 6) (frame : CanFrame), canActive s p = true → (portFormats s p).getLsbD (formatBit frame.format) = true →
      s.can[p].recv < 128 →
      exec (.canFrameReceive dt p frame) s = .next (settled
      (placeFrame (canTally (advance s dt) p s.can[p].tec (s.can[p].recv - 1)) p frame))) ∧
  (∀ (p : Fin 6) (frame : CanFrame), canActive s p = true → (portFormats s p).getLsbD (formatBit frame.format) = true →
      128 ≤ s.can[p].recv →
      exec (.canFrameReceive dt p frame) s = .next (settled
      (placeFrame (canTally (advance s dt).fresh.2 p s.can[p].tec (119 + (advance s dt).fresh.1 % 9)) p frame))) ∧
  (∀ (p : Fin 6) (b : Fin 512) (o : CanObj) (delay : Option (BitVec 8)), canActive s p = true →
      s.can[p].attempt = some b → canObj s b = some o → (delay = none ∨ (o.format ≠ .fdBrs ∧ o.format ≠ .xl)) →
      exec (.canFrameSent dt p delay) s = .next (settled (onAttempt (advance s dt) p (fun b s => frameSent s p b)))) ∧
  (∀ (p : Fin 6) (b : Fin 512) (o : CanObj) (d : BitVec 8), canActive s p = true → s.can[p].attempt = some b →
      canObj s b = some o → (o.format = .fdBrs ∨ o.format = .xl) → d.toNat ≤ 127 →
      d.toNat + s.p0 (0x1210 + p.val) 9 ≤ 127 →
      exec (.canFrameSent dt p (some d)) s = .next (settled (onAttempt (advance s dt) p (fun b s =>
        frameSent (s.modCan p (fun c => { c with loopDelay := d.toNat })) p b)))) ∧
  (∀ (p : Fin 6) (b : Fin 512) (o : CanObj) (d : BitVec 8), canActive s p = true → s.can[p].attempt = some b →
      canObj s b = some o → (o.format = .fdBrs ∨ o.format = .xl) →
      (127 < d.toNat ∨ 127 < d.toNat + s.p0 (0x1210 + p.val) 9) →
      exec (.canFrameSent dt p (some d)) s = .next (settled (onAttempt (advance s dt) p (fun _ s =>
        canError (s.modCan p (fun c => { c with loopDelay := d.toNat })).freshBool.2 p
          (if (s.modCan p (fun c => { c with loopDelay := d.toNat })).freshBool.1 then .bitRecessive
              else .bitDominant) true true false false)))) ∧
  (∀ (p : Fin 6),
      exec (.canArbitrationLost dt p) s = .next (settled (onAttempt (advance s dt) p (fun b s =>
          attemptEnds s p b 1)))) ∧
  (∀ (p : Fin 6) (err : CanErr) (tx d h x : Bool),
      exec (.canBusError dt p err tx d h x none) s = .next (settled (canError (advance s dt) p err tx d h x))) ∧
  (∀ (p : Fin 6) (err : CanErr) (tx d h x : Bool) (delay : BitVec 8),
      exec (.canBusError dt p err tx d h x (some delay)) s = .next (settled (canError
        (if tx && canActive s p then (advance s dt).modCan p (fun c => { c with loopDelay := delay.toNat })
            else advance s dt)
        p err tx d h x))) ∧
  (∀ (b : Fin 512) (o : CanObj) (f : TxPending), canObj s b = some o → o.pend = some f → f.committed = false →
      o.tOut ≠ 0 → f.at' + 200000 * o.tOut ≤ s.clk + dt →
      exec (.canTxTimeout dt b) s = .next (settled (withdraw (advance s dt) b .timeout stTIMEOUT))) ∧
  (∀ (p : Fin 6) (at' : Nat), s.can[p].state = .busOff → s.can[p].restartAt = some at' →
      at' + 200000 * s.p0 (0x1200 + p.val) 4 ≤ s.clk + dt →
      exec (.canRestartDelayExpiry dt p) s = .next (settled ((advance s dt).modCan p (fun c => { c with
        state := .recovering, restartAt := none })))) ∧
  (∀ (p : Fin 6), s.can[p].state = .recovering →
      exec (.canBusOffRecovered dt p) s = .next (settled (canRaise
      ((advance s dt).modCan p (fun c => { c with state := .errorActive, tec := 0, recv := 0 })) p 3 0))) ∧
  (∀ (p : Fin 6), s.can[p].state = .integrating →
      exec (.canIntegrationComplete dt p) s = .next (settled
      ((advance s dt).modCan p (fun c => { c with state := c.saved }))))

/-- Requests, sleep and wake-up of a CAN port. The requests to join the bus, to sleep and to wake act on the port; a port
with a sleep request sleeps at bus idle with its wake-up settings frozen and its fault state kept, and wakes at once
when a wake-up was asked for at that tick; a low level of the filter length wakes it by edge, and an integrated port
by a frame that matches, which is then placed. (19 R509, 19 R511, 19 R512, 19 R513, 19 R514, 19 R515) -/
def Obligations.CanPowerCommands : Prop :=
∀ (s : State) (dt : Nat) (p : Fin 6),
  (exec (.canBusOnRequest dt p) s = .next (settled (canBusOn (advance s dt) p))) ∧
  (canSleepRefused s p = false →
      exec (.canSleepRequest dt p) s = .next (settled (canSleep (advance s dt) p))) ∧
  (exec (.canWakeRequest dt p) s = .next (settled (canWake (advance s dt) p))) ∧
  (s.can[p].sleepReq = true → canActive s p = true → s.can[p].wakeReq ≠ some (s.clk + dt) →
      exec (.canSleepEntry dt p) s = .next (settled ((advance s dt).modCan p (fun c => { c with
        state := .sleep, saved := c.state, wakeSet := some ((List.range 7).map (fun k =>
            s.p0 (0x1220 + p.val) (k + 1))),
        sleepAt := s.clk + dt, sleepReq := false, wakeReq := none, attempt := none })))) ∧
  (s.can[p].sleepReq = true → canActive s p = true → s.can[p].wakeReq = some (s.clk + dt) →
      exec (.canSleepEntry dt p) s = .next (settled (wakeCan ((advance s dt).modCan p (fun c => { c with
        state := .sleep, saved := c.state, wakeSet := some ((List.range 7).map (fun k =>
            s.p0 (0x1220 + p.val) (k + 1))),
        sleepAt := s.clk + dt, sleepReq := false, wakeReq := none, attempt := none })) p 3))) ∧
  (∀ (low filter : Nat) (r : List Nat), s.can[p].wakeSet = some (0 :: filter :: r) → s.can[p].state = .sleep →
      5 * filter ≤ low → s.can[p].sleepAt + 5 * filter ≤ s.clk + dt →
      exec (.canEdgeWake dt p low) s = .next (settled (wakeCan (advance s dt) p 1))) ∧
  (∀ (frame : CanFrame) (flt id mask ide pat dmask : Nat), s.can[p].wakeSet = some [1, flt, id, mask, ide, pat, dmask] →
      s.can[p].state = .sleep → (portFormats s p).getLsbD (formatBit frame.format) = true →
      wakesOn id mask ide pat dmask frame = true →
      exec (.canFrameWake dt p frame true) s = .next (settled (placeFrame (wakeCan (advance s dt) p 2) p frame)))

/-- The opcodes of CAN objects. A valid CAN_OBJ_BIND puts an object of the port into the lowest free berth and answers it;
CAN_OBJ_FREE frees an object without a pending frame; CAN_SEND makes the staged and given bytes pending and is
accepted; CAN_READ answers the frame held from the given byte on, and takes it when its end is read; CAN_STAGE puts
the bytes at their offset, a gap before them filled with free bytes. (19 R501, 19 R502, 19 R504, 19 R506, 23 R591, 23
R592) -/
def Obligations.CanOpcodes : Prop :=
∀ (s : State) (tr : Transport) (tag : BitVec 16) (c : Cmd),
  (∀ (b : Fin 512), Starts s tr tag 0x0710 c → c.data.length = 26 → badBind c = none → freeBerth s = some b →
      (objsOf s (finOf 6 (fld c 0 1)) (fun _ => true)).length < 64 →
      exec (.canObjBind tr tag) s = .next (settled (reply (setBerth (begun s tr tag) b (.can {
        tx := fld c 1 1 == 0, port := finOf 6 (fld c 0 1),
        format := if fld c 1 1 = 0 then formatOf (fld c 2 1) else .classical,
        formats := if fld c 1 1 = 0 then 0 else BitVec.ofNat 3 (fld c 3 1), ide := fld c 4 1 == 1,
        id := BitVec.ofNat 29 (fld c 8 4), mask := if fld c 1 1 = 0 then 0 else BitVec.ofNat 29 (fld c 12 4),
        rtr := BitVec.ofNat 2 (fld c 5 1), xlHdr := if fld c 1 1 = 0 then BitVec.ofNat 32 (fld c 16 4) else 0,
        af := if fld c 1 1 = 0 then BitVec.ofNat 32 (fld c 20 4) else 0, single := fld c 1 1 == 0 && fld c 6 1 == 1,
        overwrite := !(fld c 1 1 == 0) && fld c 7 1 == 1, tOut := if fld c 1 1 = 0 then fld c 24 2
            else 0 })) c stOK (beBytes 2 b.val)))) ∧
  (∀ (o : CanObj), Starts s tr tag 0x0711 c → c.data = [] → userObj s c = some o → o.pend = none →
      exec (.canObjFree tr tag) s = .next (settled (reply (setBerth (begun s tr tag) c.berth .free) c stOK []))) ∧
  (∀ (o : CanObj), Starts s tr tag 0x0712 c → 2 ≤ c.data.length → userObj s c = some o → o.tx = true → o.pend = none →
      canMode s o.port = 1 → s.can[o.port].state ≠ .sleep → s.can[o.port].sleepReq = false →
      fld c 0 2 ≤ o.staged.length → (o.staged.take (fld c 0 2) ++ c.data.drop 2).length ≤ maxData o.format →
      minData o.format ≤ (o.staged.take (fld c 0 2) ++ c.data.drop 2).length →
      exec (.canSend tr tag) s = .next (settled (accept (modObj (begun s tr tag) c.berth (fun o => { o with
        staged := [], pend := some
            { data := (o.staged.take (fld c 0 2) ++ c.data.drop 2), at' := s.clk, cmd := some c.id } })) c))) ∧
  (∀ (o : CanObj) (f : CanFrame), Starts s tr tag 0x0713 c → c.data.length = 2 → userObj s c = some o → o.tx = false →
      o.frame = some f → fld c 0 2 ≤ f.data.length →
      exec (.canRead tr tag) s = .next (settled (reply
        (if f.data.length ≤ fld c 0 2 + 1000 then modObj (begun s tr tag) c.berth (fun o => { o with new := false })
            else begun s tr tag)
        c stOK (beBytes 1 (flag o.new 0) ++ beBytes 8 o.frameTime.toNat ++ beBytes 4 f.id.toNat
          ++ beBytes 1 (flag f.ide 0 + flag f.rtr 1 + flag (f.format == .fd || f.format == .fdBrs) 2
            + flag (f.format == .fdBrs) 3 + flag (f.format == .xl) 4) ++ beBytes 2 f.data.length
          ++ (f.data.drop (fld c 0 2)).take 1000)))) ∧
  (∀ (o : CanObj), Starts s tr tag 0x0714 c → 3 ≤ c.data.length → c.data.length ≤ 1020 → userObj s c = some o →
      o.tx = true → o.pend = none → fld c 0 2 + (c.data.length - 2) ≤ 2048 →
      exec (.canStage tr tag) s = .next (settled (reply (modObj
        { begun s tr tag with freeCtr := s.freeCtr + (fld c 0 2 - o.staged.length) } c.berth (fun o => { o with
        staged := o.staged.take (fld c 0 2) ++ gapBytes s (fld c 0 2 - o.staged.length) ++ c.data.drop 2
          ++ o.staged.drop (fld c 0 2 + (c.data.length - 2)) })) c stOK [])))

/-- Frames and acknowledgements of the fabric. On a link that is not DOWN or DISABLED, a frame that does not read is
counted; a HELLO goes to the link's state machine; on an UP link a SYNC frame is routed without acknowledgement, one
of another class with the sequence number expected is acknowledged and routed, and one out of sequence is answered
with a negative acknowledgement; an acknowledgement frees the frames up to it and sends what waits, a negative one
frees those before it and has the rest sent again, and so has no acknowledgement for 5 µs. (20 R522, 20 R524, 20 R525,
20 R539) -/
def Obligations.FabricFrames : Prop :=
∀ (s : State),
  (∀ (dt : Nat) (l : Fin 4) (body : List Byte), s.fabric.links[l].state ≠ .disabled → s.fabric.links[l].state ≠ .down →
      readFrame body = none →
      exec (.fabricFrameReceive dt l body) s = .next (settled (fabOvf (ctrInc 16 s.fabric.links[l].crcErrors).2
        ((advance s dt).modLink l (fun y => { y with crcErrors := (ctrInc 16 s.fabric.links[l].crcErrors).1 })) 1))) ∧
  (∀ (dt : Nat) (l : Fin 4) (body : List Byte) (f : FabFrame) (u i e : BitVec 64) (p n : Nat) (a : BitVec 8),
      s.fabric.links[l].state ≠ .disabled → s.fabric.links[l].state ≠ .down → readFrame body = some f →
      f.msg = .hello u p a n i e →
      exec (.fabricFrameReceive dt l body) s = .next (settled (takeHello (advance s dt) l u a e))) ∧
  (∀ (dt : Nat) (l : Fin 4) (body : List Byte) (f : FabFrame), s.fabric.links[l].state = .up → readFrame body = some f →
      f.cls = .sync → (∀ u p a n i e, f.msg ≠ .hello u p a n i e) →
      exec (.fabricFrameReceive dt l body) s = .next (settled (routeFrame (advance s dt) l f))) ∧
  (∀ (dt : Nat) (l : Fin 4) (body : List Byte) (f : FabFrame), s.fabric.links[l].state = .up → readFrame body = some f →
      f.cls ≠ .sync → (∀ u p a n i e, f.msg ≠ .hello u p a n i e) → f.lseq = (linkClass s.fabric.links[l] f.cls).rxSeq →
      exec (.fabricFrameReceive dt l body) s = .next (settled (routeFrame (putAck ((advance s dt).modLink l (fun y =>
        setLinkClass y f.cls { linkClass s.fabric.links[l] f.cls with rxSeq := f.lseq + 1 })) l f.cls f.lseq
        (if f.cls = .safe then 0 else 1) false) l f))) ∧
  (∀ (dt : Nat) (l : Fin 4) (body : List Byte) (f : FabFrame), s.fabric.links[l].state = .up → readFrame body = some f →
      f.cls ≠ .sync → (∀ u p a n i e, f.msg ≠ .hello u p a n i e) → f.lseq ≠ (linkClass s.fabric.links[l] f.cls).rxSeq →
      exec (.fabricFrameReceive dt l body) s = .next (settled
        (putAck (advance s dt) l f.cls (linkClass s.fabric.links[l] f.cls).rxSeq 0 true))) ∧
  (∀ (dt : Nat) (l : Fin 4) (word : BitVec 32) (cls : FabClass) (q : BitVec 8) (credits : Nat), isUp s l = true →
      readAck (beBytes 4 word.toNat) = some (cls, q, credits, false) →
      exec (.fabricAckReceive dt l word) s = .next (settled (pumpLink ((advance s dt).modLink l (fun y =>
        setLinkClass y cls { linkClass y cls with
          credits := if cls = .safe then (linkClass y cls).credits else (linkClass y cls).credits + credits,
          unacked := (ackedRest (linkClass y cls).unacked q true).map (fun u =>
              { u with at' := s.clk + dt }) })) l cls))) ∧
  (∀ (t : State) (dt : Nat) (l : Fin 4) (word : BitVec 32) (cls : FabClass) (q : BitVec 8) (credits : Nat),
      isUp s l = true → readAck (beBytes 4 word.toNat) = some (cls, q, credits, true) →
      t = (advance s dt).modLink l (fun y => setLinkClass y cls { linkClass y cls with
          credits := if cls = .safe then (linkClass y cls).credits else (linkClass y cls).credits + credits,
          unacked := (ackedRest (linkClass y cls).unacked q false).map (fun u => { u with at' := s.clk + dt }) }) →
      exec (.fabricAckReceive dt l word) s = .next (settled
        (if (linkClass t.fabric.links[l] cls).unacked = [] then t else resend t l cls))) ∧
  (∀ (dt : Nat) (l : Fin 4) (cls : Fin 3) (u : Unacked) (r : List Unacked), isUp s l = true →
      (linkClass s.fabric.links[l] (classOf cls)).unacked = u :: r → u.at' + 1000 ≤ s.clk + dt →
      exec (.fabricRetryTimeout dt l cls) s = .next (settled (resend (advance s dt) l (classOf cls))))

/-- How a fabric link changes its state. Symbol lock takes a DOWN link that is enabled to TRAINING, its loss takes a
training link DOWN and an UP link through its going down, HELLO goes out every 10 µs in training and every 1 ms when
UP, 5 ms without HELLO take an UP link down, and 1 s ends HELD. (20 R521) -/
def Obligations.FabricLinkStates : Prop :=
∀ (s : State) (dt : Nat) (l : Fin 4),
  (s.fabric.links[l].state = .down → linkEnabled s l = true →
      exec (.fabricSymbolLock dt l) s = .next (settled ((advance s dt).modLink l (fun y => { y with
        symbolLock := true, state := .training, helloRun := 0, echoSeen := false, neighbourUid := 0 })))) ∧
  ((s.fabric.links[l].state ≠ .down ∨ linkEnabled s l = false) →
      exec (.fabricSymbolLock dt l) s = .next (settled ((advance s dt).modLink l (fun y =>
          { y with symbolLock := true })))) ∧
  (s.fabric.links[l].state = .up →
      exec (.fabricLockLoss dt l) s = .next (settled (fabLinkDown (advance s dt) l))) ∧
  ((s.fabric.links[l].state = .training ∨ s.fabric.links[l].state = .hello) →
      exec (.fabricLockLoss dt l) s = .next (settled ((advance s dt).modLink l (fun y => { y with
      state := .down, symbolLock := false, helloRun := 0, echoSeen := false })))) ∧
  ((s.fabric.links[l].state = .training ∨ s.fabric.links[l].state = .hello) →
      s.fabric.links[l].sentHello + 2000 ≤ s.clk + dt →
      exec (.fabricHelloSend dt l) s = .next (settled (sendHello (advance s dt) l))) ∧
  (s.fabric.links[l].state = .up → s.fabric.links[l].sentHello + 200000 ≤ s.clk + dt →
      exec (.fabricHelloSend dt l) s = .next (settled (sendHello (advance s dt) l))) ∧
  (s.fabric.links[l].state = .up → s.fabric.links[l].lastHello + 1000000 ≤ s.clk + dt →
      exec (.fabricHelloTimeout dt l) s = .next (settled (fabLinkDown (advance s dt) l))) ∧
  (s.fabric.links[l].state = .held → s.fabric.links[l].heldAt + 200000000 ≤ s.clk + dt →
      exec (.fabricHeldExpiry dt l) s = .next (settled ((advance s dt).modLink l (fun y => { y with
        state := if y.symbolLock then .training else .down }))))

/-- Topology, election, addresses and time of the fabric. A link state goes out with the next generation and into the
database; the Innkeeper sends every 10 ms; 30 ms without it call an election; an election without candidates leaves
the module discovering, one that it wins makes it Innkeeper, and one that another wins has it follow that one; a ROUTE
commits 1 ms later; reservations end after 10 s; an exchange with the parent records delay, offset and trim, steers by
the offset and judges alignment; FABRIC_TOPOLOGY answers the database and LINK_RESET takes a link down and lets it
train again. (20 R527, 20 R528, 20 R529, 20 R534, 23 R593) -/
def Obligations.FabricRoles : Prop :=
∀ (s : State),
  (∀ (u t : State) (dt : Nat), s.up = true →
      (s.fabric.linkDirty = true ∨ s.fabric.lastLinkState + 20000000 ≤ s.clk + dt) →
      u = (advance s dt).modFabric (fun f => { f with
          ownGen := f.ownGen + 1, linkDirty := false, lastLinkState := s.clk + dt }) →
      t = floodOwn (u.modFabric (fun f => { f with db := putRow f.db (ownRow u) })) (.linkState (ownRow u)) →
      exec (.linkStateSend dt) s = .next (settled
        (if s.fabric.linkDirty || !(s.fabric.db.any (fun r => r.uid == ownUid)) then topologyChanged t else t))) ∧
  (∀ (dt : Nat), s.fabric.state = .innkeeper → s.fabric.lastInnkeeperSent + 2000000 ≤ s.clk + dt →
      exec (.innkeeperSend dt) s = .next (settled (floodOwn ((advance s dt).modFabric (fun f =>
          { f with lastInnkeeperSent := s.clk + dt }))
        (.innkeeper ownUid (s.p0 0x8000 1) s.fabric.epoch (crc32c ((dbWords s.fabric).flatMap (fun w =>
            beBytes 8 w))))))) ∧
  (∀ (dt : Nat) (k : BitVec 64 × Nat), s.fabric.innkeeper = some k →
      (s.fabric.state = .member ∨ s.fabric.state = .discovering) → s.fabric.lastInnkeeper + 6000000 ≤ s.clk + dt →
      exec (.innkeeperTimeout dt) s = .next (settled ((advance s dt).modFabric (fun f =>
          { f with state := .electing })))) ∧
  (∀ (dt : Nat), electing s = true → s.fabric.dbAt + 200000 * s.p0 0x8000 3 ≤ s.clk + dt →
      byRank (s.fabric.db.filter (fun r => decide (0 < r.priority) && decide (r.uid ∈ reachable s))) = [] →
      exec (.electionDecide dt) s = .next (settled ((if s.fabric.innkeeper.isSome then raise (advance s dt) 185 2
          else advance s dt).modFabric (fun f => { f with
        state := .discovering, innkeeper := none, innkeeperAddr := 0xFF })))) ∧
  (∀ (dt : Nat) (r : TopoRow) (rest : List TopoRow), electing s = true →
      s.fabric.dbAt + 200000 * s.p0 0x8000 3 ≤ s.clk + dt → r.uid ≠ ownUid →
      byRank (s.fabric.db.filter (fun r => decide (0 < r.priority) && decide (r.uid ∈ reachable s))) = r :: rest →
      exec (.electionDecide dt) s = .next (settled (adopt (if s.fabric.innkeeper.isSome
          then raise (advance s dt) 185 2 else advance s dt) r.uid r.priority 1))) ∧
  (∀ (dt : Nat) (r : TopoRow) (rest : List TopoRow), electing s = true →
      s.fabric.dbAt + 200000 * s.p0 0x8000 3 ≤ s.clk + dt → r.uid = ownUid →
      byRank (s.fabric.db.filter (fun r => decide (0 < r.priority) && decide (r.uid ∈ reachable s))) = r :: rest →
      exec (.electionDecide dt) s = .next (settled (becomeInnkeeper
        (if s.fabric.innkeeper.isSome then raise (advance s dt) 185 2 else advance s dt) r.priority))) ∧
  (∀ (dt : Nat) (e : BitVec 16) (at' : Nat) (w : List (BitVec 64)), s.fabric.routing = some (e, at', w) →
      at' + 200000 ≤ s.clk + dt →
      exec (.routeCommitTimeout dt) s = .next (settled (commitRoutes (advance s dt)))) ∧
  (∀ (dt : Nat),
      exec (.addressReservationExpiry dt) s = .next (settled ((advance s dt).modFabric (fun f => { f with
      reserved := f.reserved.filter (fun a => !decide (a.2.2 + 2000000000 ≤ s.clk + dt)) })))) ∧
  (∀ (dt : Nat) (l : Fin 4) (t1 t2 t3 t4 root freq : Int),
      four.find? (fun l => s.fabric.links[l].timeParent && isUp s l) = some l →
      exec (.timeExchange dt t1 t2 t3 t4 root freq) s = .next (settled (judgeAligned (steerBy
        (raiseIf (decide (freq ≤ -200000) || decide (200000 ≤ freq))
          (((advance s dt).modLink l (fun y => { y with
              delay := (clampI 0 65535 (neigh (8 * ((t4 - t1) - (t3 - t2))) 5)).toNat })).modFabric (fun f => { f with
            offset := neigh (8 * ((t1 - t2) + (t4 - t3))) 5 + root, trim := clampI (-200000) 200000 freq,
                newParent := false })) 188 2)
        ((neigh (8 * ((t1 - t2) + (t4 - t3))) 5 + root).tdiv 50)) s.fabric.newParent
        (decide (-200 ≤ neigh (8 * ((t1 - t2) + (t4 - t3))) 5 + root)
          && decide (neigh (8 * ((t1 - t2) + (t4 - t3))) 5 + root ≤ 200))))) ∧
  (∀ (tr : Transport) (tag : BitVec 16) (c : Cmd), Starts s tr tag 0x0800 c → c.data = [] →
      exec (.fabricTopology tr tag) s = .next (settled (reply (begun s tr tag) c stOK (beBytes 1 s.fabric.db.length
        ++ s.fabric.db.flatMap (fun r => beBytes 8 r.uid.toNat ++ beBytes 1 (addrOf s r.uid) ++ beBytes 1 r.priority ++
          (r.links.take 4).flatMap (fun k =>
            beBytes 1 (if k.up && edge s.fabric.db r.uid k.neighbour then addrOf s k.neighbour else 0xFF))))))) ∧
  (∀ (tr : Transport) (tag : BitVec 16) (c : Cmd) (k : Byte) (l : Fin 4), Starts s tr tag 0x0801 c → c.data = [k] →
      k.toNat ≤ 3 → l = finOf 4 k.toNat → s.anyMachine = false → isUp s l = true →
      exec (.linkReset tr tag) s = .next (settled (reply ((fabLinkDown (begun s tr tag) l).modLink l (fun y => { y with
        symbolLock := s.fabric.links[l].symbolLock,
        state := if y.state = .down ∧ s.fabric.links[l].symbolLock = true
            ∧ linkEnabled (fabLinkDown (begun s tr tag) l) l = true
          then .training else y.state })) c stOK []))) ∧
  (∀ (u : State) (tr : Transport) (tag : BitVec 16) (c : Cmd) (k : Byte) (l : Fin 4), Starts s tr tag 0x0801 c →
      c.data = [k] → k.toNat ≤ 3 → l = finOf 4 k.toNat → s.anyMachine = false → isUp s l = false →
      u = (if s.fabric.links[l].state = .held ∨ s.fabric.links[l].state = .disabled then begun s tr tag
          else (begun s tr tag).modLink l (fun y => { y with
          state := .down, helloRun := 0, echoSeen := false, neighbourUid := 0 })) →
      exec (.linkReset tr tag) s = .next (settled (reply (u.modLink l (fun y => { y with
        state := if y.state = .down ∧ y.symbolLock = true ∧ linkEnabled u l = true then .training
            else y.state })) c stOK [])))

/-- The phases of a stop. A stop whose speed does not reach zero in time raises 10.(12 + n) with cause 0 and goes to BRAKE
as a fault stop; after the dwell at zero a RAMP stop ramps the torque from its reference and another goes to BRAKE;
t_brake after the request the held torque is ramped out, or STOPPED is reached without torque; at torque 0 a stop
reaches STOPPED, and one that went through BRAKE counts. (12 R330, 12 R331, 12 R338) -/
def Obligations.StopPhases : Prop :=
∀ (s : State) (dt : Nat) (m : Fin 4) (p : Stop),
  (∀ (d : Nat), s.drive[m].stop = some p → d = Nat.max 1 (s.pm m 0x2703 3) → (p.phase = .speed ∨ p.phase = .zero) →
      p.startedAt + ((15625 * p.speed0 + d - 1) / d + 200000000) ≤ s.clk + dt →
      exec (.stopZeroTimeout dt m) s = .next (settled
        (enterBrake (raise (noteSource (advance s dt) m (172 + m.val) 0) (172 + m.val) 0) m
            { p with fault := true, quick := false }))) ∧
  (∀ (at' : Nat), s.drive[m].stop = some p → p.phase = .zero → p.zeroAt = some at' →
      at' + 200000 * s.pm m 0x2703 5 ≤ s.clk + dt → p.kind = .ramp →
      exec (.zeroDwellEnd dt m) s = .next (settled ((advance s dt).modDrive m (fun d => { d with
        stop := some { p with phase := .torqueRamp, torque := torqueRef (advance s dt) m, rampAt := s.clk + dt } })))) ∧
  (∀ (at' : Nat), s.drive[m].stop = some p → p.phase = .zero → p.zeroAt = some at' →
      at' + 200000 * s.pm m 0x2703 5 ≤ s.clk + dt → p.kind ≠ .ramp →
      exec (.zeroDwellEnd dt m) s = .next (settled (enterBrake (advance s dt) m p))) ∧
  (∀ (at' : Nat), s.drive[m].stop = some p → p.brakeAt = some at' → at' + 200000 * s.pm m 0x2506 3 ≤ s.clk + dt →
      p.phase = .brake →
      exec (.brakeHoldExpiry dt m) s = .next (settled ((advance s dt).modDrive m (fun d => { d with
        stop := some { p with phase := .torqueRamp, rampAt := s.clk + dt } })))) ∧
  (∀ (at' : Nat), s.drive[m].stop = some p → p.brakeAt = some at' → at' + 200000 * s.pm m 0x2506 3 ≤ s.clk + dt →
      p.phase = .offWait →
      exec (.brakeHoldExpiry dt m) s = .next (settled (reachStopped (advance s dt) m false))) ∧
  (s.drive[m].stop = some p → p.phase = .torqueRamp → p.brakeAt = none →
      rampTorque p.torque (s.pm m 0x2506 4) (s.clk + dt - p.rampAt) = 0 →
      exec (.torqueRampEnd dt m) s = .next (settled (reachStopped (advance s dt) m p.quick))) ∧
  (∀ (at' : Nat), s.drive[m].stop = some p → p.phase = .torqueRamp → p.brakeAt = some at' →
      rampTorque p.torque (s.pm m 0x2506 4) (s.clk + dt - p.rampAt) = 0 →
      exec (.torqueRampEnd dt m) s = .next (settled (reachStopped
        (raiseIf (ctrInc 16 s.drive[m].brakeStops).2
          ((advance s dt).modDrive m (fun d => { d with brakeStops := (ctrInc 16 s.drive[m].brakeStops).1 })) (172 +
              m.val) 4) m p.quick)))

/-- Brake release, command HOLD and render. t_release after its request the brake release ends its wait; 500 ms without
the request raise cause 3 and stop the machine; a command watchdog that runs out enters HOLD with stop requests to the
profile channels, and HOLD that runs out asks for the configured stop with 10.(8 + n) cause 3; the dwell enters
render, or leaves it with the render torque as preset, and overspeed in render for 100 ms raises cause 5, requests SBC
and the fault stop; a chopper on for t_eff without effect has fault 2 and is held off. (12 R323, 12 R333, 12 R334, 12
R335, 12 R336) -/
def Obligations.BrakeAndHold : Prop :=
∀ (s : State),
  (∀ (dt : Nat) (m : Fin 4) (e : Enabling) (at' : Nat), s.drive[m].enabling = some e → e.releaseAt = some at' →
      at' + 200000 * s.pm m 0x2704 3 ≤ s.clk + dt → e.released = false →
      exec (.brakeReleaseWaitEnd dt m) s = .next (settled ((advance s dt).modDrive m (fun d => { d with
        enabling := some { e with released := true } })))) ∧
  (∀ (u : State) (dt : Nat) (m : Fin 4) (e : Enabling) (at' : Nat), s.drive[m].enabling = some e → braked s m = true →
      e.releaseAt = none → e.result = none → e.softAt = some at' → at' + 100000000 ≤ s.clk + dt →
      u = raise (noteSource (advance s dt) m (172 + m.val) 3) (172 + m.val) 3 →
      exec (.brakeReleaseTimeout dt m) s = .next (settled
        (reachStopped (failStart u m (u.drive[m].enabling.bind (fun e => e.firstSource))) m false))) ∧
  (∀ (dt : Nat) (m : Fin 4) (t : Nat), s.pm m 0x2706 1 = t → t ≠ 0 → s.en m = true → s.drive[m].stop = none →
      s.drive[m].inHold = false → s.drive[m].lastCmd + 200000 * t ≤ s.clk + dt →
      exec (.commandWatchdogExpiry dt m) s = .next (settled (forAll four (fun k s =>
          if bit (s.ps k 0x3001 1) m.val then
            match stoveChan s k with
            | none => s
            | some c => s.modProf c (fun p => { p with reqs := p.reqs ++ [(.stop, none)] })
          else s)
        ((enterDegraded (advance s dt) m .hold (some 2)).modDrive m (fun d => { d with
          holdAt := s.clk + dt }))))) ∧
  (∀ (dt : Nat) (m : Fin 4), s.drive[m].inHold = true → s.en m = true → s.drive[m].stop = none → s.drive[m].reqs = [] →
      s.drive[m].holdAt + 200000 * s.pm m 0x2706 3 ≤ s.clk + dt →
      exec (.commandHoldExpiry dt m) s = .next (settled
        ((raise (noteSource (advance s dt) m (168 + m.val) 3) (168 + m.val) 3).modDrive m (fun d => { d with
          inHold := false, reqs := d.reqs ++ [{ fault := false, quick := false }] })))) ∧
  (∀ (dt : Nat) (m : Fin 4) (at' : Nat), s.startM[m].state = .run → s.drive[m].stop = none →
      s.drive[m].renderAt = some at' → at' + 200000 * s.pm m 0x2707 5 ≤ s.clk + dt → s.drive[m].inRender = false →
      exec (.renderDwellExpiry dt m) s = .next (settled
        (enterDegraded ((advance s dt).modDrive m (fun d => { d with renderAt := none })) m .render (some 4)))) ∧
  (∀ (dt : Nat) (m : Fin 4) (at' : Nat), s.startM[m].state = .run → s.drive[m].stop = none →
      s.drive[m].renderAt = some at' → at' + 200000 * s.pm m 0x2707 5 ≤ s.clk + dt → s.drive[m].inRender = true →
      exec (.renderDwellExpiry dt m) s = .next (settled (((sealPreset ((advance s dt).modDrive m (fun d =>
          { d with renderAt := none })) m
        (renderTorque s m)).modStartM m (fun x => { x with
            heldTorque := renderTorque s m, reacquiring := true })).modDrive m (fun d => { d with
          inRender := false, overspeedAt := none })))) ∧
  (∀ (dt : Nat) (m : Fin 4) (at' : Nat), s.drive[m].inRender = true → running s m = true →
      s.drive[m].overspeedAt = some at' → at' + 20000000 ≤ s.clk + dt →
      exec (.renderOverspeed dt m) s = .next (settled (faultStop (requestSbc
        ((raise (noteSource (advance s dt) m (168 + m.val) 5) (168 + m.val) 5).modDrive m (fun d => { d with
          overspeedAt := none })) m) m none))) ∧
  (∀ (dt : Nat) (m : Fin 4) (at' : Nat), s.drive[m].effAt = some at' → at' + 200 * s.pm m 0x2701 4 ≤ s.clk + dt →
      exec (.chopperTEffExpiry dt m) s = .next (settled (chopperOff (setChop (advance s dt) m 2 true) m)))

/-- The opcodes of a machine. ENABLE whose checks pass is accepted and starts the machine, its completion carries the
status and data that the enable has met; DISABLE and QUICK_STOP ask for their stop; SET_REFERENCE seals one setpoint
of the Stove that serves the machine; MACHINE_STATUS answers its words; the standby whose home has missed two transfer
frames in a row takes over. (23 R583, 23 R584, 23 R585, 23 R586, 13 R352) -/
def Obligations.MachineOpcodes : Prop :=
∀ (s : State),
  (∀ (tr : Transport) (tag : BitVec 16) (c : Cmd), Starts s tr tag 0x0200 c → c.data = [] →
      enableCheck (begun s tr tag) c.m = none →
      exec (.enable tr tag) s = .next (settled (startEnable (accept (begun s tr tag) c) c.m (some c.id)))) ∧
  (∀ (dt : Nat) (m : Fin 4) (e : Enabling) (st : BitVec 16) (data : List Byte), s.drive[m].enabling = some e →
      e.result = some (st, data) →
      exec (.enableComplete dt m) s = .next (settled
        (complete ((advance s dt).modDrive m (fun d => { d with enabling := none })) e.cmd st data))) ∧
  (∀ (tr : Transport) (tag : BitVec 16) (c : Cmd), Starts s tr tag 0x0201 c → c.data = [] →
      exec (.disable tr tag) s = .next (settled (stopByCommand (begun s tr tag) c false))) ∧
  (∀ (tr : Transport) (tag : BitVec 16) (c : Cmd), Starts s tr tag 0x0202 c → c.data = [] →
      exec (.quickStop tr tag) s = .next (settled (stopByCommand (begun s tr tag) c true))) ∧
  (∀ (tr : Transport) (tag : BitVec 16) (c : Cmd) (k : Byte) (v : List Byte) (x : Fin 4), Starts s tr tag 0x0203 c →
      c.data = k :: v → v.length = 4 → k.toNat ≤ 7 → stoveOf (begun s tr tag) c.m = some x →
      exec (.setReference tr tag) s = .next (settled
        (sealGroup (begun s tr tag) [(pkey 4 x.val 0x3003 (k.toNat + 1), beNat v)] false (some c.id)))) ∧
  (∀ (tr : Transport) (tag : BitVec 16) (c : Cmd), Starts s tr tag 0x0204 c → c.data = [] →
      exec (.machineStatus tr tag) s = .next (settled (reply (begun s tr tag) c stOK
        (beBytes 1 s.startM[c.m].state.code ++ [0] ++ beBytes 2 (s16 (per1024 s.tfu[c.m].torque))
          ++ beBytes 2 (s16 (psiAbs s c.m)) ++ beBytes 4 (s32 (measuredSpeed s c.m))
          ++ beBytes 4 (readParam (begun s tr tag) 1 c.m.val 0x2410 0) ++ beBytes 4 (readParam (begun s tr tag) 1
              c.m.val 0x2710 0)
          ++ beBytes 4 (readParam (begun s tr tag) 1 c.m.val 0x8210 1) ++ beBytes 4 (readParam (begun s tr tag) 1
              c.m.val 0x6110 0)
          ++ beBytes 4 (readParam (begun s tr tag) 1 c.m.val 0x9004 0))))) ∧
  (∀ (dt : Nat) (m : Fin 4), xferRole s m = 2 → s.share[m].armed = true → 2 ≤ s.share[m].xferMissed →
      s.share[m].active = false → s.en m = false →
      exec (.homeLostTransfer dt m) s = .next (settled ((advance s dt).modShare m (fun y =>
          { y with xferDue := true }))))

/-- The parameter opcodes. PARAM_READ of one to 64 good entries answers them in order; PARAM_WRITE whose checks pass
writes what is derived from it and seals one update group; PARAM_STORE takes a target copy, whose completion writes
the values and keys that were active and answers OK, or EXEC_FAULT when the write failed; PARAM_INFO answers what the
table says of one parameter. (03 R88, 03 R89, 22 R564, 23 R582) -/
def Obligations.ParameterOpcodes : Prop :=
∀ (s : State) (tr : Transport) (tag : BitVec 16) (c : Cmd),
  (∀ (ks : List Nat), Starts s tr tag 0x0100 c → 0 < c.data.length → c.data.length ≤ 192 → c.data.length % 3 = 0 →
      keysOf c (readPairs (c.data.length / 3) c.data) = .ok ks →
      exec (.paramRead tr tag) s = .next (settled
        (reply (begun s tr tag) c stOK (ks.flatMap (readEntryOf (begun s tr tag)))))) ∧
  (∀ (es : List WEntry) (l : List WCheck) (entries : List (Nat × Nat)), Starts s tr tag 0x0101 c →
      wEntries 256 c.data = some es → es ≠ [] → l = es.map (wCheck c) → entries = l.map (fun x => (x.key, x.raw)) →
      writeFault (begun s tr tag) (withEntries (begun s tr tag) entries) c l = none →
      exec (.paramWrite tr tag) s = .next (settled (sealGroup (withEntries (begun s tr tag)
        (derivedEntries (withEntries (begun s tr tag) entries) entries)) entries (groupNeedsSi7 c l) (some c.id)))) ∧
  (Starts s tr tag 0x0102 c → c.data = [] → throttling s = false → s.porter.storing = none →
      (∀ x ∈ (begun s tr tag).porter.cmds, x.opcode = 0x0102 → x.phase ≠ .ended → (x.tr, x.tag) = c.id) →
      exec (.paramStore tr tag) s = .next (settled
        ((modCopy (accept (begun s tr tag) c) (storeTarget s) (fun x =>
            { x with crcOk := false })).modPorter (fun p => { p with
          storing := some {
            cmd := c.id, target := storeTarget s, values := s.porter.params,
            keys := storeKeys (modCopy (accept (begun s tr tag) c) (storeTarget s) (fun x =>
                { x with crcOk := false })),
            generation := if (copyOf s (!storeTarget s)).crcOk then (copyOf s (!storeTarget s)).generation + 1
                else 1 } })))) ∧
  (∀ (dt : Nat) (x : Storing), s.porter.storing = some x →
      exec (.paramStoreComplete dt false) s = .next (settled (completeAt ((modCopy ((advance s dt).modPorter (fun p
          => { p with
          storing := none })) x.target (fun _ => {
            crcOk := true, generation := x.generation, values := x.values, keys := x.keys })).modStart (fun b =>
                { b with
        needStore := false })) x.cmd stOK []))) ∧
  (∀ (dt : Nat) (x : Storing), s.porter.storing = some x →
      exec (.paramStoreComplete dt true) s = .next (settled (completeAt (raise ((advance s dt).modPorter (fun p =>
          { p with
        storing := none })) 252 0) x.cmd stEXECFAULT []))) ∧
  (∀ (k : Nat) (p : PSpec), Starts s tr tag 0x0103 c → c.data.length = 3 →
      keyFor c (beNat (c.data.take 2)) (beNat (c.data.drop 2)) = .ok k →
      pinfo (keyKind k) (beNat (c.data.take 2)) (beNat (c.data.drop 2)) = some p →
      exec (.paramInfo tr tag) s = .next (settled (reply (begun s tr tag) c stOK (infoBytes k p))))

/-- The commands of the control grid. A strobe latches the words of the machine's channels and of its other bridges,
counts into the means, waits for its step 9 and, where the TFU runs, for its decision, and runs the DC-link and
calibration checks and the trace; before the boot ROM it is only numbered. The sample boundary takes the fine words
and runs its work in the order commit, ports, TFU, brakes, shares, Stoves, trace. A decision takes the oldest words,
of a pair with those of the second channel. Step 9 sends nothing before the links are released; the idle frame of a
machine that is not enabled, in which a chopper it fits is not available; the trip frame; the all-off frame; the frame
of its own decision, with the integration of its vector; or the answer to a miss, which for a pair is judged once for
both channels. (01 R24, 01 R28, 01 R30, 01 R32, 01 R38, 01 R39, 01 R41, 05 R140, 06 R172, 02 R48) -/
def Obligations.ControlGrid : Prop :=
∀ (s : State),
  (∀ (x : State) (dt : Nat) (m : Fin 4) (iu iv idc vdc vlow : BitVec 58) (br : Vector (BitVec 58 × BitVec 58) 3) (w :
      StrobeWords) (live : Bool),
      strobeDue (advance s dt) m = true → s.runs = true →
      x = portStrobe (latchStrobe ((advance s dt).modTb (fun b => { b with strobes := vmod b.strobes m (· + 1) })) m
          iu iv idc vdc br) m →
      w = strobeWords x m vlow → live = tfuLive x m →
      exec (.decisionStrobe dt m iu iv idc vdc vlow br) s = .next (settled (traceAt (calStrobe (dcStrobe
        ((x.modTfu m (fun t => { t with
            vdcSum := t.vdcSum + correct x m 3 w.vdc, vdcCount := t.vdcCount + 1, vdcLast := correct x m 3 w.vdc,
            inputs := if live then (match t.inputs with
              | a :: _ :: _ => [a, w]
              | l => l ++ [w]) else t.inputs })).modTb (fun b => { b with
          lastStrobe := vmod b.lastStrobe m (fun _ => some x.clk),
          waiting9 := vmod b.waiting9 m (fun l => l.drop (l.length - 2) ++
              [{ at' := x.clk, k := b.strobes[m], ready := false, live := live }]) }))
        m w.vdc) m w) m true))) ∧
  (∀ (dt : Nat) (m : Fin 4) (iu iv idc vdc vlow : BitVec 58) (br : Vector (BitVec 58 × BitVec 58) 3),
      strobeDue (advance s dt) m = true → s.runs = false →
      exec (.decisionStrobe dt m iu iv idc vdc vlow br) s = .next (settled ((advance s dt).modTb (fun b => { b with
        strobes := vmod b.strobes m (· + 1), lastStrobe := vmod b.lastStrobe m (fun _ => some (s.clk + dt)),
        waiting9 := vmod b.waiting9 m (fun l => l.drop (l.length - 2) ++
          [{ at' := s.clk + dt, k := b.strobes[m] + 1, ready := false, live := false }]) })))) ∧
  (∀ (t u : State) (dt : Nat) (m : Fin 4) (fine : Vector (BitVec 766) 4), s.runs = true →
      s.tb.lastStrobe[m] = some (s.clk + dt) → ((advance s dt).tb.now.toNat - s.phi m) / s.D m % s.N m = 0 →
      s.tb.lastBoundary[m] ≠ some (s.clk + dt) →
      t = (forAll four (fun c s => s.modChan m c (fun x => { x with
          fine := fineWord fine[c], fineAge := 3825 + latchAge s m c })) (advance s dt)).modTb (fun b =>
          { b with lastBoundary := vmod b.lastBoundary m (fun _ => some (s.clk + dt)), boundaries := vmod b.boundaries m (· + 1) }) →
      u = (if m = 0 then steerStep t else t) →
      exec (.sampleBoundary dt m fine) s = .next (settled (traceAt (forAll four (fun k s => ceilingDrop s k)
        (forAll four (fun k s => if commitMachine s k = m then stoveBoundary s k else s)
          (shareBoundary (stillBoundary (brakeEnergy (renderCheck (releaseCheck (zeroCheck (tfuBoundary
              (portsBoundary (beginRun
            (factorCommit (portCalCommit (calCommit (commitGroups (takeStops (standbyStart u m) m) (.machine m)) m)
                m) m)
            m) m) m) m) m) m) m) m) m))) m false))) ∧
  (∀ (dt : Nat) (m : Fin 4) (w : StrobeWords) (r : List StrobeWords), s.isSecond m = false → isPair s m = false →
      s.tfu[m].inputs = w :: r → s.en m = true → s.tfu[m].stopped = false → w.at' ≤ s.clk + dt →
      exec (.tfuDecision dt m) s = .next (settled
        (decision ((advance s dt).modTfu m (fun t => { t with inputs := r })) m w none))) ∧
  (∀ (dt : Nat) (m : Fin 4) (w y : StrobeWords) (r : List StrobeWords), s.isSecond m = false → isPair s m = true →
      s.tfu[m].inputs = w :: r → s.tfu[second m].inputs.find? (fun y => y.at' == w.at') = some y → s.en m = true →
      s.tfu[m].stopped = false → w.at' ≤ s.clk + dt →
      exec (.tfuDecision dt m) s = .next (settled (decision (((advance s dt).modTfu (second m) (fun t => { t with
        inputs := t.inputs.filter (fun z => decide (w.at' < z.at')) })).modTfu m (fun t =>
            { t with inputs := r })) m w (some y)))) ∧
  (∀ (dt : Nat) (m : Fin 4) (w : StrobeWords) (r : List StrobeWords), s.isSecond m = false → isPair s m = true →
      s.tfu[m].inputs = w :: r → s.tfu[second m].inputs.find? (fun y => y.at' == w.at') = none → setLost s m = true →
      s.en m = true → s.tfu[m].stopped = false → w.at' ≤ s.clk + dt →
      exec (.tfuDecision dt m) s = .next (settled
        (decision ((advance s dt).modTfu m (fun t => { t with inputs := r })) m w none))) ∧
  (∀ (dt : Nat) (m : Fin 4), s.isSecond m = true →
      exec (.tfuDecision dt m) s = .next (settled ((advance s dt).modTb (fun b => { b with
        waiting9 := vmod b.waiting9 m (fun l => l.map (fun w =>
          if s.tfu[m].ready.any (fun r => w.at' == r.strobe && decide (s.clk + dt ≤ r.strobe + 120))
              then { w with ready := true } else w)) })))) ∧
  (∀ (dt : Nat) (m : Fin 4) (w : Waiting9) (r : List Waiting9), s.tb.waiting9[m] = w :: r → w.at' + 120 ≤ s.clk + dt →
      s.start.step < 14 →
      exec (.frameLaunch dt m) s = .next (settled (dropStrobe (advance s dt) m w r))) ∧
  (∀ (u : State) (dt : Nat) (m : Fin 4) (w : Waiting9) (r : List Waiting9), s.tb.waiting9[m] = w :: r →
      w.at' + 120 ≤ s.clk + dt → 14 ≤ s.start.step → (s.en (lead s m) = false ∨ (bridgeOwner s m).isSome = true) →
      u = idleFrame (setRunTfu (dropStrobe (advance s dt) m w r) m 0) m (w.at' + 120) →
      exec (.frameLaunch dt m) s = .next (settled (if chopFitted u m then chopUnavail u m .standby else u))) ∧
  (∀ (dt : Nat) (m : Fin 4) (w : Waiting9) (r : List Waiting9), s.tb.waiting9[m] = w :: r → w.at' + 120 ≤ s.clk + dt →
      14 ≤ s.start.step → s.en (lead s m) = true → bridgeOwner s m = none → s.tfu[lead s m].tripped = true →
      exec (.frameLaunch dt m) s = .next (settled (launched (launchFrame (setRunTfu (dropStrobe (advance s dt) m w r)
          m 0) m
        (w.at' + 120) .trip 0 s.drive[m].brk 0) m (w.at' + 120) w.k { off := true } 0))) ∧
  (∀ (dt : Nat) (m : Fin 4) (w : Waiting9) (r : List Waiting9), s.tb.waiting9[m] = w :: r → w.at' + 120 ≤ s.clk + dt →
      14 ≤ s.start.step → s.en (lead s m) = true → bridgeOwner s m = none → s.tfu[lead s m].tripped = false →
      (s.tfu[lead s m].allOff = true ∨ s.tfu[lead s m].stopped = true ∨ s.gl[m].shutdown = true
          ∨ onLostSet s m = true ∨ w.live = false) →
      exec (.frameLaunch dt m) s = .next (settled (launched (launchFrame (setRunTfu (dropStrobe (advance s dt) m w r)
          m 0) m
        (w.at' + 120) .off 0 false 0) m (w.at' + 120) w.k { off := true } 0))) ∧
  (∀ (dt : Nat) (m : Fin 4) (w : Waiting9) (r : List Waiting9) (f : ReadyFrame), s.tb.waiting9[m] = w :: r →
      w.at' + 120 ≤ s.clk + dt → 14 ≤ s.start.step → s.en (lead s m) = true → bridgeOwner s m = none →
      s.tfu[lead s m].tripped = false → sendsOff s m w = false → isPair s (lead s m) = false →
      s.tfu[m].ready.find? (fun x => x.strobe == w.at') = some f → w.ready = true →
      exec (.frameLaunch dt m) s = .next (settled
        (if f.vec.off then launchOff (setRunTfu (dropStrobe (advance s dt) m w r) m 0) m (w.at' + 120) w.k
          else launched (launchFrame (setRunTfu (dropStrobe (advance s dt) m w r) m 0) m (w.at' + 120) .run f.vec.on
              f.brk f.shift) m
            (w.at' + 120) w.k f.vec f.shift))) ∧
  (∀ (dt : Nat) (m : Fin 4) (w : Waiting9) (r : List Waiting9), s.tb.waiting9[m] = w :: r → w.at' + 120 ≤ s.clk + dt →
      14 ≤ s.start.step → s.en (lead s m) = true → bridgeOwner s m = none → s.tfu[lead s m].tripped = false →
      sendsOff s m w = false → isPair s (lead s m) = false →
      (s.tfu[m].ready.find? (fun x => x.strobe == w.at') = none ∨ w.ready = false) →
      exec (.frameLaunch dt m) s = .next (settled (frameMissed (dropStrobe (advance s dt) m w r) m (w.at' + 120)
          w.k))) ∧
  (∀ (u : State) (dt : Nat) (m : Fin 4) (w : Waiting9) (r : List Waiting9), s.tb.waiting9[m] = w :: r →
      w.at' + 120 ≤ s.clk + dt → 14 ≤ s.start.step → s.en (lead s m) = true → bridgeOwner s m = none →
      s.tfu[lead s m].tripped = false → sendsOff s m w = false → isPair s (lead s m) = true →
      u = dropStrobe (pairJudge (advance s dt) (lead s m) w.at') m w r →
      exec (.frameLaunch dt m) s = .next (settled
        (if u.tfu[lead s m].stopped then launchOff u m (w.at' + 120) w.k
          else if u.tfu[lead s m].pairStep9.any (·.2) then repeatFrame u m (w.at' + 120)
          else match s.tfu[m].ready.find? (fun x => x.strobe == w.at') with
            | none => repeatFrame u m (w.at' + 120)
            | some f =>
              if !w.ready then repeatFrame u m (w.at' + 120)
              else if f.vec.off then launchOff u m (w.at' + 120) w.k
              else launched (launchFrame u m (w.at' + 120) .run f.vec.on f.brk f.shift) m (w.at' + 120) w.k f.vec
                  f.shift)))

/-- Trip frames and uplinks of a gate link. At a character boundary with the line free a trip frame that is due leaves, or
else the OFF frame that is due; a bad uplink and an uplink that is missing 800 ns after its frame count as bad; a good
uplink in time becomes the last one, a configuration report in it is kept, and its checks run; a good one that is late
counts as bad. (10 R265, 10 R282, 10 R283, 04 R107, 15 R379) -/
def Obligations.GateLinkCommands : Prop :=
∀ (s : State),
  (∀ (dt : Nat) (m : Fin 4), stampOf (advance s dt) (s.clk + dt) % 8 = 0 → s.gl[m].busyUntil ≤ s.clk + dt →
      s.tfu[m].tripFrameDue = true →
      exec (.tripFrameLaunch dt m) s = .next (settled (sendFrame (((advance s dt).modTfu m (fun t => { t with
        tripFrameDue := false })).modGl m (fun g => { g with offDue := false })) m (((s.clk + dt : Nat) : Int) - 2)
            .trip 0 s.drive[m].brk 0))) ∧
  (∀ (dt : Nat) (m : Fin 4), stampOf (advance s dt) (s.clk + dt) % 8 = 0 → s.gl[m].busyUntil ≤ s.clk + dt →
      s.tfu[m].tripFrameDue = false → s.gl[m].offDue = true →
      exec (.tripFrameLaunch dt m) s = .next (settled (sendFrame ((advance s dt).modGl m (fun g => { g with
        offDue := false })) m (((s.clk + dt : Nat) : Int) - 2) .off 0 false 0))) ∧
  (∀ (dt : Nat) (m : Fin 4) (w : BitVec 8 × FrameCode × Nat) (r : List (BitVec 8 × FrameCode × Nat)),
      s.gl[m].awaits = w :: r → w.2.2 + 160 ≤ s.clk + dt →
      exec (.uplinkMissing dt m) s = .next (settled (uplinkBad ((advance s dt).modGl m (fun g =>
          { g with awaits := r })) m))) ∧
  (∀ (dt : Nat) (m : Fin 4) (f : BitVec 64) (w : BitVec 8 × FrameCode × Nat) (r : List (BitVec 8 × FrameCode × Nat)),
      s.gl[m].awaits = w :: r → upGood f = false →
      exec (.uplinkFrameReceive dt m f) s = .next (settled (uplinkBad ((advance s dt).modGl m (fun g =>
          { g with awaits := r })) m))) ∧
  (∀ (t u : State) (dt : Nat) (m : Fin 4) (f : BitVec 64) (w : BitVec 8 × FrameCode × Nat), upGood f = true →
      s.gl[m].awaits.find? (fun w => w.1 == upEcho f) = some w → s.clk + dt ≤ w.2.2 + 160 →
      t = (advance s dt).modGl m (fun g => { g with
          awaits := g.awaits.filter (fun x => x.1 != w.1), up := f, upOk := true, missRun := 0 }) →
      u = (if upBit f 15 = true ∧ (upGs f).toNat / 65536 < 51 then t.modGl m (fun g =>
          { g with items := vmod g.items (finOf 51 ((upGs f).toNat / 65536)) (fun _ => (upGs f).setWidth 16), checkReported := g.checkReported || (upGs f).toNat / 65536 == 50 }) else t) →
      exec (.uplinkFrameReceive dt m f) s = .next (settled (uplinkChecks u m f w.2.1 (s.clk + dt - 64)))) ∧
  (∀ (dt : Nat) (m : Fin 4) (f : BitVec 64) (w : BitVec 8 × FrameCode × Nat), upGood f = true →
      s.gl[m].awaits.find? (fun w => w.1 == upEcho f) = some w → w.2.2 + 160 < s.clk + dt →
      exec (.uplinkFrameReceive dt m f) s = .next (settled (uplinkBad ((advance s dt).modGl m (fun g => { g with
        awaits := g.awaits.filter (fun x => x.1 != w.1) })) m)))

/-- Converters, trips and the position inputs. A detector or comparator beyond its limits raises 3.(4 + n) and trips the
machine it belongs to if that is enabled, one of an unowned input raises 3.14; a SAR conversion starts at its instant,
a scan in a free slot, and the word is taken 500 ns later, unless it is disturbed, which counts; a step of A and B
that has passed the filter moves the count and the position, a double step counts an error, an index records the count
and is checked against whole turns; an SSI transfer becomes the position, or counts a frame error. (04 R103, 04 R106,
04 R107, 04 R108, 04 R114, 04 R115, 04 R116, 04 R117, 06 R176, 06 R179) -/
def Obligations.SensorCommands : Prop :=
∀ (s : State),
  (∀ (dt : Nat) (m n : Fin 4) (c : Fin 5) (seen : BitVec 15) (level : BitVec 10), tripOf s m c seen level = some n →
      s.en n = true →
      exec (.overcurrentTrip dt m c seen level) s = .next (settled (tripMachine
        (raise (noteSource (advance s dt) n (52 + (tripSource s m c).val) c.val) (52 + (tripSource s m c).val) c.val)
            n))) ∧
  (∀ (dt : Nat) (m n : Fin 4) (c : Fin 5) (seen : BitVec 15) (level : BitVec 10), tripOf s m c seen level = some n →
      s.en n = false →
      exec (.overcurrentTrip dt m c seen level) s = .next (settled
        (raise (noteSource (advance s dt) n (52 + (tripSource s m c).val) c.val) (52 + (tripSource s m c).val)
            c.val))) ∧
  (∀ (dt : Nat) (a : Fin 16) (level : BitVec 10), ainOwned s a = false → windowTrips s a level = true →
      exec (.unownedWindowTrip dt a level) s = .next (settled (raise (advance s dt) 62 a.val))) ∧
  (∀ (dt : Nat) (m c : Fin 4), analogUp s = true → s.tb.counting = true →
      startsAt (advance s dt) m (finOf 5 c.val) 0 = true →
      exec (.sarConversionStart dt m (finOf 6 c.val)) s = .next (settled
        ((takeSar (advance s dt) (if sarOf s m (finOf 5 c.val) then 1 else 0)).modChan m c (fun x =>
            { x with converting := some (s.clk + dt) })))) ∧
  (∀ (dt : Nat) (m : Fin 4), analogUp s = true → s.tb.counting = true → startsAt (advance s dt) m 4 0 = true →
      exec (.sarConversionStart dt m 4) s = .next (settled
        ((takeSar (advance s dt) (if sarOf s m 4 then 1 else 0)).modTfu m (fun t =>
            { t with npConv := some (s.clk + dt) })))) ∧
  (∀ (dt : Nat) (m : Fin 4) (k : Fin 2) (a : Fin 16), analogUp s = true → s.tb.counting = true → k = finOf 2 m.val →
      s.sar[k].busyUntil ≤ s.clk + dt → ownedSoon (advance s dt) k = false → nextScan s k = some a →
      exec (.sarConversionStart dt m 5) s = .next (settled { advance s dt with
        sar := vmod s.sar k (fun x => { x with
            busyUntil := s.clk + dt + 100, last := some a, scan := some (a, s.clk + dt) }) })) ∧
  (∀ (u : State) (dt : Nat) (m c : Fin 4) (at' : Nat) (w : BitVec 16), s.chans[m][c].converting = some at' →
      at' + 100 ≤ s.clk + dt →
      u = { (advance s dt).modChan m c (fun x => { x with converting := none, endRun := endRunOf x.endRun w }) with
          ain := vmod s.ain (ainOf m c) (fun _ => w.toInt) } →
      exec (.sarConversionComplete dt m (finOf 6 c.val) w) s = .next (settled
        (if disturbed u m (finOf 5 c.val) at' then countDisturbed u m
          else u.modChan m c (fun x => { x with sar := some (w.toInt, at'), disturbedRun := 0 })))) ∧
  (∀ (u : State) (dt : Nat) (m : Fin 4) (at' : Nat) (w : BitVec 16) (a : Fin 16), s.tfu[m].npConv = some at' →
      at' + 100 ≤ s.clk + dt → npAin s m = some a →
      u = { (advance s dt).modTfu m (fun x => { x with npConv := none, npEnd := endRunOf x.npEnd w }) with
          ain := vmod s.ain a (fun _ => w.toInt) } →
      exec (.sarConversionComplete dt m 4 w) s = .next (settled
        (if disturbed u m 4 at' then countDisturbed u m
          else u.modTfu m (fun x => { x with npSar := some (w.toInt, at'), npRun := 0 })))) ∧
  (∀ (dt : Nat) (m : Fin 4) (k : Fin 2) (at' : Nat) (w : BitVec 16) (a : Fin 16), k = finOf 2 m.val →
      s.sar[k].scan = some (a, at') → at' + 100 ≤ s.clk + dt →
      exec (.sarConversionComplete dt m 5 w) s = .next (settled { advance s dt with
        sar := vmod s.sar k (fun x => { x with scan := none }), ain := vmod s.ain a (fun _ => w.toInt) })) ∧
  (∀ (dt stable : Nat) (p : Fin 4) (a b : Bool) (q : Int), portMode s p = 3 → portFilter s p ≤ stable →
      quadStep s.posPorts[p].levelA s.posPorts[p].levelB a b = q → q ≠ 0 → q ≠ 2 →
      exec (.abzEdge dt p a b stable) s = .next (settled ((advance s dt).modPort p (fun x => { x with
        levelA := a, levelB := b, count := x.count + q, lastEdge := some (x.count + q, at25 (advance s dt)),
        posTick := at25 (advance s dt), pos := posOfCount (x.count + q) (portPar s p 7),
        counts := keepFrom (s.clk + dt - 200) ((at25 (advance s dt), x.count + q) :: x.counts) })))) ∧
  (∀ (dt stable : Nat) (p : Fin 4) (a b : Bool), portMode s p = 3 → portFilter s p ≤ stable →
      quadStep s.posPorts[p].levelA s.posPorts[p].levelB a b = 2 →
      exec (.abzEdge dt p a b stable) s = .next (settled (countError ((advance s dt).modPort p (fun x =>
          { x with levelA := a, levelB := b })) p))) ∧
  (∀ (dt stable : Nat) (p : Fin 4), portMode s p = 3 → portFilter s p ≤ stable →
      exec (.zIndexEdge dt p stable) s = .next (settled
        (if zBad s p s.posPorts[p].count then
            countError ((advance s dt).modPort p (fun x => { x with zCount := some x.count })) p
          else (advance s dt).modPort p (fun x => { x with zCount := some x.count })))) ∧
  (∀ (dt : Nat) (p : Fin 4) (raw : BitVec 32) (at' len v : Nat) (expect : Option (BitVec 32)) (got : BitVec 32),
      s.posPorts[p].ssiAt = some at' → len = bits (portPar s p 10) 5 0 →
      (len + 2) * 200000 ≤ (s.clk + dt - at') * bits (portPar s p 10) 31 16 →
      v = (if bit (portPar s p 10) 8 then grayGo 32 (lowBits len raw.toNat) else lowBits len raw.toNat) →
      expect = (if s.posPorts[p].locked then some (ssiExpect s p at') else none) → got = ssiPos s p len v expect →
      (∀ e, expect = some e → (got - e).toInt.natAbs ≤ portPar s p 12) →
      exec (.ssiTransferComplete dt p raw false) s = .next (settled ((advance s dt).modPort p (fun x => { x with
        ssiAt := none, frameRun := 0, locked := true, pos := got, posTick := at' })))) ∧
  (∀ (dt : Nat) (p : Fin 4) (raw : BitVec 32) (at' len : Nat), s.posPorts[p].ssiAt = some at' →
      len = bits (portPar s p 10) 5 0 → (len + 2) * 200000 ≤ (s.clk + dt - at') * bits (portPar s p 10) 31 16 →
      exec (.ssiTransferComplete dt p raw true) s = .next (settled (frameError (advance s dt) p)))

/-- The end of a Stove run and the freeze of a speed ramp. At the end of a run the stages and the stage words hold the
run's results, its presets are spent, and the outputs named for each enabled machine of the pool are placed for commit
if the run was in time; a late one places nothing; then the saturated stages are counted. While the freeze in force of
the ramp stage named for a machine differs from whether CEILING is set in some machine of the pool that names that
stage, H1 seals the freeze to follow it; while it does not, nothing is sealed. (05 R150, 08 R220, 08 R221, 08 R233) -/
def Obligations.StoveAndCeiling : Prop :=
∀ (s : State) (dt : Nat) (k : Fin 4),
  (∀ (at' : Nat) (st : Vector Stage 64), s.stove[k].runAt = some at' → s.stove[k].late = false →
      st = runStages (advance s dt) k →
      exec (.stoveRunEnd dt k) s = .next (settled (runCounters ((advance s dt).modStove k (fun v => { v with
        stages := st, shown := st.map stageWord, runAt := none, late := false, presets := Vector.replicate 4 none,
        softStart := Vector.replicate 4 false,
        placed := Vector.ofFn (fun m : Fin 4 =>
          if m ∈ stovePool (advance s dt) k ∧ s.en m = true then some (refsOf (advance s dt) k m st)
              else none) })) k))) ∧
  (∀ (at' : Nat) (st : Vector Stage 64), s.stove[k].runAt = some at' → s.stove[k].late = true →
      st = runStages (advance s dt) k →
      exec (.stoveRunEnd dt k) s = .next (settled (runCounters ((advance s dt).modStove k (fun v => { v with
        stages := st, shown := st.map stageWord, runAt := none, late := false, presets := Vector.replicate 4 none,
        softStart := Vector.replicate 4 false, placed := Vector.replicate 4 none })) k))) ∧
  (∀ (m : Fin 4) (n : Nat) (now want : Bool), stoveOf s m = some k → n = namedStage s k m 8 →
      now = s.stove[k].freezeSealed[m].getD (decide (n < 64) && s.stove[k].stages[finOf 64 n].frozen) →
      want = (stovePool s k).any (fun j => namedStage s k j 8 == n && s.tfu[j].ceiling) →
      exec (.ceilingRampFreeze dt m) s = .next (settled (if s.en m = true ∧ now ≠ want then
        (advance s dt).modStove k (fun v => { v with freezeSealed := vmod v.freezeSealed m (fun _ => some want) })
      else advance s dt)))

/-- The profile channels and the latch inputs. PROFILE_APPEND and PROFILE_BLEND whose segments pass the checks seal them
for the channel's commit point, PROFILE_STOP, PROFILE_FAULT_STOP and AXIS_STOP request their stop, and PROFILE_STATUS
answers the five values; a reference that is not ready at its deadline is a miss, one that is ready is none; a
selected edge that has stood for the filter time on a free latch input stores the filtered time and the position at
that time, or waits for the sample that gives it, and is recorded in each channel that names the input; one on an
input that holds a latch counts an overrun and raises 3.15; an edge that is not selected stores nothing. (01 R38, 04
R119, 04 R120, 09 R242, 09 R243, 09 R244, 09 R247, 09 R249, 09 R252, 23 R587) -/
def Obligations.ProfileCommands : Prop :=
∀ (s : State) (tr : Transport) (tag : BitVec 16) (c : Cmd),
  (∀ (segs : List Segment) (z : Sealed), Starts s tr tag 0x0300 c → c.data ≠ [] → c.data.length ≤ 1024 →
      c.data.length % 16 = 0 → consumerCode s c.chan ≠ 0xFF → s.prof[c.chan].state ≠ .off →
      s.prof[c.chan].state ≠ .stopping → z = sealedEnd s c.chan → segs = recordsGo 64 c.data →
      segsFault (chanVmax s c.chan) (s.pp c.chan 0x4001 2) 0 z.pos z.vel z.known segs = none →
      z.fill + segs.length ≤ 64 →
      exec (.profileAppend tr tag) s = .next (settled ((waitCommit (begun s tr tag) c).modProf c.chan
        (fun x => { x with reqs := x.reqs ++ [(.append segs, some c.id)] })))) ∧
  (∀ (segs : List Segment) (z : Sealed), Starts s tr tag 0x0301 c → c.data ≠ [] → c.data.length ≤ 1024 →
      c.data.length % 16 = 0 → consumerCode s c.chan ≠ 0xFF → s.prof[c.chan].state ≠ .off →
      s.prof[c.chan].state ≠ .stopping → z = sealedEnd s c.chan → segs = recordsGo 64 c.data → z.fill = 0 →
      segsFault (chanVmax s c.chan) (s.pp c.chan 0x4001 2) 0 z.pos z.vel z.known segs = none →
      exec (.profileBlend tr tag) s = .next (settled ((waitCommit (begun s tr tag) c).modProf c.chan
        (fun x => { x with reqs := x.reqs ++ [(.blend segs, some c.id)] })))) ∧
  (∀ (g : Segment) (rest : List Segment) (z : Sealed), Starts s tr tag 0x0301 c → c.data ≠ [] → c.data.length ≤ 1024 →
      c.data.length % 16 = 0 → consumerCode s c.chan ≠ 0xFF → s.prof[c.chan].state ≠ .off →
      s.prof[c.chan].state ≠ .stopping → z = sealedEnd s c.chan → recordsGo 64 c.data = g :: rest → z.fill ≠ 0 →
      segsFault (chanVmax s c.chan) (s.pp c.chan 0x4001 2) 1 (g.target z.pos) (g.endVel * 65536) (!g.rel) rest = none →
      exec (.profileBlend tr tag) s = .next (settled ((waitCommit (begun s tr tag) c).modProf c.chan
        (fun x => { x with reqs := x.reqs ++ [(.blend (g :: rest), some c.id)] })))) ∧
  (Starts s tr tag 0x0302 c → c.data = [] →
      exec (.profileStop tr tag) s = .next (settled (chanStopReq (begun s tr tag) c (some c.chan) .stop))) ∧
  (Starts s tr tag 0x0303 c → c.data = [] →
      exec (.profileFaultStop tr tag) s = .next (settled (chanStopReq (begun s tr tag) c (some c.chan) .faultStop))) ∧
  (Starts s tr tag 0x0402 c → c.data = [] →
      exec (.axisStop tr tag) s = .next (settled (chanStopReq (begun s tr tag) c (axisChan s c.axis) .stop))) ∧
  (Starts s tr tag 0x0304 c → c.data = [] →
      exec (.profileStatus tr tag) s = .next (settled (reply (begun s tr tag) c stOK (beBytes 1
          s.prof[c.chan].state.code
        ++ beBytes 1 s.prof[c.chan].fill ++ beBytes 4 (Channel09.whole s.prof[c.chan].pos).toNat
        ++ beBytes 4 (lowBits 32 s.prof[c.chan].speedUnits) ++ beBytes 4 s.prof[c.chan].segmentsDone.toNat)))) ∧
  (∀ (dt : Nat) (k : Fin 4) (ch : Fin 12) (ready : Bool), stoveChan s k = some ch → s.tb.counting = true →
      s.prof[ch].state ≠ .off → s.phi (commitMachine s k) ≤ (advance s dt).tb.now.toNat + 10 →
      ((advance s dt).tb.now.toNat + 10 - s.phi (commitMachine s k)) % s.Ts (commitMachine s k) = 0 →
      exec (.profileRefDeadline dt k ready) s = .next (settled (if ready = true ∧ s.prof[ch].refReady = true
          then advance s dt
        else profMiss ((advance s dt).modProf ch (fun x => { x with refReady := false })) ch))) ∧
  (∀ (dt stable w f t : Nat) (k : Fin 8) (rising : Bool) (p : Fin 4) (stamp : Stamp) (x : Option (BitVec 32)),
      w = s.p0 0x0400 (k.val + 1) → bit w (if rising then 14 else 15) = true → f = 5 * bits w 13 8 → f ≤ stable →
      s.lats[k].valid = false → p = finOf 4 (bits w 1 0) → t = at25 (advance s dt) - f →
      stamp = (advance s dt).tb.now - BitVec.ofNat 56 (s.clk + dt - t) → x = captured (advance s dt) p t →
      exec (.latEdge dt k rising stable) s = .next (settled
        (forAll twelve (fun ch u => if u.pp ch 0x4002 1 = k.val then chanLatch u ch stamp t else u)
          ((advance s dt).modLat k (fun l => { l with
            edgeAt := some (s.clk + dt), stamp := stamp,
            pos := x.getD (posNow (advance s dt) p), valid := true, waiting := if x.isSome then none
                else some t }))))) ∧
  (∀ (dt stable w f t : Nat) (k : Fin 8) (rising : Bool) (p : Fin 4) (stamp : Stamp) (x : Option (BitVec 32)),
      w = s.p0 0x0400 (k.val + 1) → bit w (if rising then 14 else 15) = true → f = 5 * bits w 13 8 → f ≤ stable →
      s.lats[k].valid = true → p = finOf 4 (bits w 1 0) → t = at25 (advance s dt) - f →
      stamp = (advance s dt).tb.now - BitVec.ofNat 56 (s.clk + dt - t) → x = captured (advance s dt) p t →
      exec (.latEdge dt k rising stable) s = .next (settled (raiseIf (ctrInc 8 s.lats[k].overruns).2
        (raise ((advance s dt).modLat k (fun l => { l with
          edgeAt := some (s.clk + dt), overruns := (ctrInc 8 s.lats[k].overruns).1,
          missed := some (s.clk + dt, stamp, x.getD (posNow (advance s dt) p),
              s.lats[k].overruns) })) 63 k.val) 63 k.val))) ∧
  (∀ (dt stable w : Nat) (k : Fin 8) (rising : Bool), w = s.p0 0x0400 (k.val + 1) →
      bit w (if rising then 14 else 15) = false → 5 * bits w 13 8 ≤ stable →
      exec (.latEdge dt k rising stable) s = .next (settled ((advance s dt).modLat k (fun l =>
          { l with edgeAt := some (s.clk + dt) }))))

/-- The protection of the legs of the auxiliary die. A wanted switch goes on once its dead time has passed; 2 µs without
the other gate sensed off latch a handshake fault and disable the axis with 9.8; a low side below its threshold
disables its axis with 9.7, the die's supply every axis; a bootstrap below its threshold starts the soft off of a leg
whose high side is on, a recovered one marks the leg good and lets it return, and 1 ms without recovery disables with
9.6, 20 ms fail an enable; a comparator that trips latches the leg, switches its coil off, enters the trip record and
disables the axis with 9.k; the soft off of an axis ends when every joined leg has spent its time. (11 R297, 11 R298,
11 R299, 11 R300, 11 R301, 11 R302, 11 R303, 11 R306, 11 R307, 11 R309) -/
def Obligations.LegProtection : Prop :=
∀ (s : State) (dt : Nat),
  (∀ (l : Fin 12), s.legs[l].waiting = true → s.legs[l].wanted ≠ .bothOff → s.legs[l].latched = false →
      s.legs[l].softOff = false → s.legs[l].lowOk = true → s.legs[l].wanted = .lowOn ∨ s.legs[l].bootOk = true →
      s.legs[l].turnOffAt + deadTime s (axisOfLeg l) ≤ s.clk + dt →
      exec (.auxSwitchOn dt l) s = .next (settled ((advance s dt).modLeg l (fun g => { g with
        sw := g.wanted, waiting := false, blankAt := s.clk + dt, refresh := g.refresh || g.boot == .refresh })))) ∧
  (∀ (l : Fin 12), s.legs[l].waiting = true → s.legs[l].turnOffAt + 400 ≤ s.clk + dt →
      exec (.auxHandshakeTimeout dt l) s = .next (settled (report (dieDisables (normalOff ((joinSoft (advance s dt)
          l).modLeg l
        (fun g => { g with hsFault := true, latched := true, boot := .none' })) (otherLeg l)) (axisOfLeg l) 152 0)
        (some l) (axisOfLeg l) 6 false))) ∧
  (∀ (l : Fin 12), s.legs[l].lowOk = true →
      exec (.auxLowUvlo dt (some l)) s = .next (settled (report (dieDisables (normalOff (lowUvlo (advance s dt) l)
          (otherLeg l))
        (axisOfLeg l) 151 0) (some l) (axisOfLeg l) 5 false))) ∧
  (twelve.any (fun l => s.legs[l].lowOk) = true →
      exec (.auxLowUvlo dt none) s = .next (settled (report (forAll six (fun k u => dieDisables u k 151 0)
        (forAll twelve (fun l u => lowUvlo u l) (advance s dt))) none 0 7 false))) ∧
  (∀ (l : Fin 12),
      exec (.lowSideUvloRise dt l) s = .next (settled ((advance s dt).modLeg l (fun g => { g with lowOk := true })))) ∧
  (∀ (l : Fin 12), s.legs[l].bootOk = true → s.legs[l].sw ≠ .highOn →
      exec (.auxBootUvlo dt l) s = .next (settled (report ((advance s dt).modLeg l (fun g => { g with
        bootOk := false, uvBoot := true })) (some l) (axisOfLeg l) 2 false))) ∧
  (∀ (l : Fin 12), s.legs[l].bootOk = true → s.legs[l].sw = .highOn →
      exec (.auxBootUvlo dt l) s = .next (settled (report ((joinSoft ((advance s dt).modLeg l (fun g => { g with
        bootOk := false, uvBoot := true })) l).modLeg l (fun g => { g with boot := .softOff, bootAt := s.clk + dt }))
        (some l) (axisOfLeg l) 2 false))) ∧
  (∀ (l : Fin 12) (u : State), s.legs[l].boot = .refresh → s.legs[l].sw = .lowOn →
      s.legs[l].blankAt + 400 ≤ s.clk + dt →
      u = (wantSw (advance s dt) l .bothOff).modLeg l (fun g => { g with boot := .wait }) →
      exec (.auxRefreshEnd dt l) s = .next (settled (if s.legs[l].bootOk = true then bootReturn u l else u))) ∧
  (∀ (l : Fin 12) (u : State), u = (advance s dt).modLeg l (fun g => { g with bootOk := true }) →
      exec (.auxBootRecovered dt l) s = .next (settled
      (axisEnabled (if s.legs[l].boot = .wait then bootReturn u l else u) (axisOfLeg l)))) ∧
  (∀ (l : Fin 12), s.axes[axisOfLeg l].enabling = none → s.legs[l].boot ≠ .none' → s.legs[l].bootOk = false →
      s.legs[l].bootAt + 200000 ≤ s.clk + dt →
      exec (.auxBootRecoveryTimeout dt l) s = .next (settled (report (dieDisables ((normalOff (normalOff (advance s
          dt) l)
        (otherLeg l)).modLeg l (fun g => { g with boot := .none' })) (axisOfLeg l) 150 1) (some l) (axisOfLeg l) 3
            false))) ∧
  (∀ (l : Fin 12) (at' : Nat) (id : Option (Transport × BitVec 16)), s.axes[axisOfLeg l].enabling = some (at', id) →
      s.legs[l].bootOk = false → at' + 4000000 ≤ s.clk + dt →
      exec (.auxBootRecoveryTimeout dt l) s = .next (settled (raise (axisEnableFails (advance s dt) (axisOfLeg l) 150
          2) 150 (l.val + 32)))) ∧
  (∀ (l : Fin 12) (hard : Bool) (k : Fin 6) (first : Option (Nat × Fin 12)), k = axisOfLeg l →
      s.legs[l].sw ≠ .bothOff ∨ (s.axes[k].softLegs ≠ [] ∧ ∀ x ∈ s.axes[k].softLegs, x.1 ≠ l) →
      s.legs[l].blankAt + (if hard then 16 else 50 * dieSet s k 3) ≤ s.clk + dt → s.legs[l].scTrip = false →
      s.legs[l].scHard = false → first = s.auxLink.burst.filter (fun b => decide (s.clk + dt ≤ b.1 + 5)) →
      exec (.auxOvercurrentTrip dt l hard) s = .next (settled (dieDisables ((latchTrip (advance s dt) l hard
          first).modAux (fun a =>
        { tripRecord a (s.clk + dt) l first with
          reports := putTrip a.reports
              { leg := some l, axis := k, kind := if hard then 1 else 0, coincident := first.isSome, foundAt := s.clk + dt } })) k (144 + k.val) (if hard then 1 else 0)))) ∧
  (∀ (k : Fin 6), s.axes[k].softLegs ≠ [] → ∀ x ∈ s.axes[k].softLegs, x.2 + 200 * dieSet s k 6 ≤ s.clk + dt →
      exec (.auxSoftOffFullSink dt k) s = .next (settled (s.axes[k].softLegs.foldl (fun u x => softOffEnds u k x.1)
        ((advance s dt).modAxis k (fun a => { a with softLegs := [], fullSink := true })))))

/-- The current choppers and the axis settings. A coil that reaches its reference after the blanking time begins its fast
or slow decay, the fast decay goes over to slow, and the off time ends in an on phase with the reference held back, if
any; in SHORT the braking legs change over each 25 µs; a due microstep moves the applied count and the phase and takes
the references, a due reference or leg mode is applied; an idle axis whose time runs out goes to its standstill, its
leg mode sent at a commit point of the axis grid. (09 R254, 09 R257, 09 R258, 09 R260, 11 R294, 11 R295, 11 R301) -/
def Obligations.CoilChopping : Prop :=
∀ (s : State) (dt : Nat) (l : Fin 12) (k : Fin 6),
  (k = axisOfLeg l → s.legs[l].phase = .on → s.legs[l].sw = polarity s.legs[l].ref → legFree s l = true →
      s.legs[l].blankAt + 50 * dieSet s k 3 ≤ s.clk + dt →
      exec (.chopperCurrentReached dt l) s = .next (settled
        (beginPhase (advance s dt) l (if dieSet s k 10 = 0 then .slow else .fast)))) ∧
  (k = axisOfLeg l → s.legs[l].phase = .fast → dieSet s k 10 < 8 → legFree s l = true →
      s.legs[l].phaseAt + 25 * dieSet s k 9 * dieSet s k 10 ≤ s.clk + dt →
      exec (.chopperFastDecayEnd dt l) s = .next (settled
        (releaseRef ((wantSw (advance s dt) l .bothOff).modLeg l (fun g => { g with phase := .slow })) l))) ∧
  (k = axisOfLeg l → s.legs[l].phase = .fast ∨ s.legs[l].phase = .slow → legFree s l = true →
      s.legs[l].phaseAt + 200 * dieSet s k 9 ≤ s.clk + dt →
      exec (.chopperOffExpiry dt l) s = .next (settled (beginPhase ((advance s dt).modLeg l (fun g => { g with
        ref := g.refHeld.getD g.ref, refHeld := none })) l .on))) ∧
  (k = axisOfLeg l → s.axes[k].state = .short → s.legs[l].latched = false → s.legs[l].softOff = false →
      s.auxLink.linkLost = false → s.legs[l].boot = .none' → s.legs[l].phaseAt + 5000 ≤ s.clk + dt →
      exec (.chopperOffExpiry dt l) s = .next (settled ((wantSw (advance s dt) l (if s.legs[l].wanted = .highOn
          then .lowOn else .highOn)).modLeg l
        (fun g => { g with phaseAt := s.clk + dt })))) ∧
  (∀ (u : State) (j : Fin 6) (forward : Bool) (at' : Nat) (rest : List AuxItem),
      u = releaseRef (releaseRef (advance s dt) (legOf k false)) (legOf k true) → u.auxLink.linkLost = false →
      takeItem (dueItem u k true) u.auxLink.dieQueue = some (.step j forward at', rest) →
      exec (.microstepApply dt k) s = .next (settled (takeRefs ((u.modAux (fun a =>
          { a with dieQueue := rest })).modAxis k
        (fun a => { a with
          history := (a.history ++ [(s.clk + dt, a.applied)]).drop (a.history.length - 7),
          applied := if forward then a.applied + 1 else a.applied - 1, mu := if forward then a.mu + 1 else a.mu - 1,
          stepped := some (s.clk + dt, (match a.stepped with
            | some (t, n) => if t = s.clk + dt then n else 0
            | none => 0) + (if forward then 1 else -1)) })) k))) ∧
  (∀ (j : Fin 6) (i at' : Nat) (rest : List AuxItem), s.auxLink.linkLost = false →
      takeItem (dueItem (advance s dt) k false) s.auxLink.dieQueue = some (.reference j i at', rest) →
      exec (.auxSettingApply dt k) s = .next (settled (takeRefs (((advance s dt).modAux (fun a =>
          { a with dieQueue := rest })).modAxis k
        (fun a => { a with iSet := i })) k))) ∧
  (∀ (j : Fin 6) (md : AxisState) (at' : Nat) (rest : List AuxItem), s.auxLink.linkLost = false →
      takeItem (dueItem (advance s dt) k false) s.auxLink.dieQueue = some (.legMode j md at', rest) →
      exec (.auxSettingApply dt k) s = .next (settled (applyMode ((advance s dt).modAux (fun a =>
          { a with dieQueue := rest })) k md))) ∧
  (∀ (at' : Nat) (md : Option AxisState) (u : State), s.axes[k].enabled = true → s.axes[k].standstill = false →
      s.axes[k].idleAt = some at' → at' + 200000 * s.axes[k].idleSet.2.1 ≤ s.clk + dt →
      md = (if s.axes[k].idleSet.2.2 = 1 then some .off else if s.axes[k].idleSet.2.2 = 2 then some (if shortAsOff s
          then .off else .short) else none) →
      u = (advance s dt).modAxis k (fun a => { a with standstill := true }) →
      exec (.standstillIdleExpiry dt k) s = .next (settled (match md with
        | none => u
        | some x => if s.tb.lastGrid = some (s.clk + dt) then
            u.modAux (fun a => { a with outbox := a.outbox ++ [AuxItem.legMode k x (s.clk + dt + 4000)] })
          else u.modAxis k (fun a => { a with modeDue := some x }))))

/-- The auxiliary command link and the enable of an axis. Each slot of 1 µs carries down the next item, a frame to be sent
again first, or an idle frame, with the next sequence number, and up the oldest report; a good frame down gives its
item to the die once and counts towards the return of a lost link, which needs 16; the third bad one in a row loses
the link; a good frame up ends the wait for the frame it echoes and hands over its report, and the third bad one in a
row raises 9.9 and disables every axis; frames without an echo for two slots go again, three times at most; the axis
grid commits every axis; AXIS_ENABLE clears the latches of the axis's legs and sends its settings, and AXIS_DISABLE
waits for the next commit point. (09 R239, 11 R290, 11 R292, 11 R293, 11 R294, 11 R311, 23 R587) -/
def Obligations.AuxiliaryLink : Prop :=
∀ (s : State),
  (∀ (dt : Nat) (d : BitVec 80) (up : AuxFrame), s.tb.counting = true → s.runs = true →
      (advance s dt).tb.now.toNat % 200 = 0 → s.auxLink.slotAt ≠ some (s.clk + dt) → s.auxLink.again = [] →
      d = downData (advance s dt) s.auxLink.outbox.head? →
      up = auxFrame (upData (advance s dt) s.auxLink.reports.head? s.auxLink.lastGood) (s.auxLink.upSeq + 1) →
      exec (.auxLinkSlot dt) s = .next (settled ((((advance s dt).modAux (fun a => { a with
        slotAt := some (s.clk + dt), outbox := a.outbox.drop 1, seq := a.seq + 1, downLine :=
            some (auxFrame d (a.seq + 1)),
        unechoed := a.unechoed ++ [(d, a.seq + 1, s.clk + dt, 0)], upSeq := a.upSeq + 1,
        upLine := some (up, a.reports.head?), reports := a.reports.drop 1 })).put (.auxDown (auxFrame d
            (s.auxLink.seq + 1)))).put (.auxUp up)))) ∧
  (∀ (dt : Nat) (d : BitVec 80) (q : BitVec 4) (n : Nat) (xs : List (BitVec 80 × BitVec 4 × Nat)) (up : AuxFrame),
      s.tb.counting = true → s.runs = true → (advance s dt).tb.now.toNat % 200 = 0 →
      s.auxLink.slotAt ≠ some (s.clk + dt) → s.auxLink.again = (d, q, n) :: xs →
      up = auxFrame (upData (advance s dt) s.auxLink.reports.head? s.auxLink.lastGood) (s.auxLink.upSeq + 1) →
      exec (.auxLinkSlot dt) s = .next (settled ((((advance s dt).modAux (fun a => { a with
        slotAt := some (s.clk + dt), again := xs, downLine := some (auxFrame d q), unechoed := a.unechoed ++ [(d, q,
            s.clk + dt, n)],
        upSeq := a.upSeq + 1, upLine := some (up, a.reports.head?), reports :=
            a.reports.drop 1 })).put (.auxDown (auxFrame d q))).put (.auxUp up)))) ∧
  (∀ (u : State) (dt : Nat) (flip : Option (BitVec 92)) (x : AuxFrame), auxReceived s.auxLink.downLine flip = some x →
      s.auxLink.linkLost = false →
      u = (advance s dt).modAux (fun a => { a with
          downLine := none, badDown := 0, lastGood := some x.seq, taken := (x.seq :: a.taken).take 8,
          goodDown := if s.anyAxis then 0 else Nat.min 16 (a.goodDown + 1) }) →
      exec (.auxDownlinkReceive dt flip) s = .next (settled (match downItem u x.data with
        | some y => if x.seq ∈ s.auxLink.taken then u else dieTake u y
        | none => u))) ∧
  (∀ (dt : Nat) (flip : Option (BitVec 92)) (x : AuxFrame), auxReceived s.auxLink.downLine flip = some x →
      s.auxLink.linkLost = true →
      exec (.auxDownlinkReceive dt flip) s = .next (settled ((advance s dt).modAux (fun a => { a with
        downLine := none, badDown := 0, lastGood := some x.seq, taken := (x.seq :: a.taken).take 8,
        goodDown := if s.anyAxis then 0 else Nat.min 16 (a.goodDown + 1),
        linkLost := s.anyAxis || decide (a.goodDown < 15) })))) ∧
  (∀ (u : State) (dt : Nat) (flip : Option (BitVec 92)), auxReceived s.auxLink.downLine flip = none →
      u = (advance s dt).modAux (fun a => { a with
          downLine := none, badDown := Nat.min 3 (a.badDown + 1), goodDown := 0 }) →
      exec (.auxDownlinkReceive dt flip) s = .next (settled (if 2 ≤ s.auxLink.badDown ∧ s.auxLink.linkLost = false
          then dieLost u else u))) ∧
  (∀ (u : State) (dt : Nat) (flip : Option (BitVec 92)) (x : AuxFrame),
      auxReceived (s.auxLink.upLine.map (fun x => x.1)) flip = some x →
      u = (advance s dt).modAux (fun a => { a with
          upLine := none, badUp := 0, unechoed := a.unechoed.filter (fun y => decide (upEchoOf x.data ≠ some y.2.1)),
          again := a.again.filter (fun y => decide (upEchoOf x.data ≠ some y.2.1)) }) →
      exec (.auxUplinkReceive dt flip) s = .next (settled (match upReport x.data with
        | some r => takeDieReport u r
        | none => u))) ∧
  (∀ (u : State) (dt : Nat) (flip : Option (BitVec 92)), auxReceived (s.auxLink.upLine.map (fun x => x.1)) flip = none →
      u = (advance s dt).modAux (fun a => { a with upLine := none, badUp := a.badUp + 1, reports := match s.auxLink.upLine with | some (_, some r) => r :: a.reports | _ => a.reports }) →
      exec (.auxUplinkReceive dt flip) s = .next (settled (if s.auxLink.badUp = 2 then
        forAll six (fun k v => disableAxis (axisEnableFails v k 153 0) k)
          (raiseIf (ctrInc 16 s.auxLink.errors).2 (raise (u.modAux (fun a =>
              { a with errors := (ctrInc 16 s.auxLink.errors).1 })) 153 0) 154 4)
        else u))) ∧
  (∀ (dt : Nat),
      exec (.auxResendTimeout dt) s = .next (settled ((advance s dt).modAux (fun a => { a with
      unechoed := a.unechoed.filter (fun x => !decide (x.2.2.1 + 400 ≤ s.clk + dt)),
      again := a.again ++ ((s.auxLink.unechoed.filter (fun x => decide (x.2.2.1 + 400 ≤ s.clk + dt))).filter
        (fun x => decide (x.2.2.2 < 3))).map (fun x => (x.1, x.2.1, x.2.2.2 + 1)) })))) ∧
  (∀ (dt : Nat) (late : BitVec 6), s.tb.counting = true → s.runs = true → (advance s dt).tb.now.toNat % 2000 = 0 →
      s.tb.lastGrid ≠ some (s.clk + dt) →
      exec (.axisGridTick dt late) s = .next (settled (forAll six (fun k u => axisCommit u k (late.getLsbD k.val))
        ((advance s dt).modTb (fun t => { t with lastGrid := some (s.clk + dt) }))))) ∧
  (∀ (tr : Transport) (tag : BitVec 16) (c : Cmd), Starts s tr tag 0x0401 c → c.data = [] →
      exec (.axisDisable tr tag) s = .next (settled ((waitCommit (match s.axes[c.axis].disableReq with
        | some w => replyAt (begun s tr tag) w stOK []
        | none => begun s tr tag) c).modAxis c.axis (fun a => { a with disableReq := some (some c.id) })))) ∧
  (∀ (u : State) (tr : Transport) (tag : BitVec 16) (c : Cmd), Starts s tr tag 0x0400 c → c.data = [] →
      enableForbidden (begun s tr tag) none = false → s.axes[c.axis].enabled = false → s.axes[c.axis].enabling = none →
      axisChan s c.axis ≠ none → s.auxLink.linkLost = false → s.legs[legOf c.axis false].lowOk = true →
      s.legs[legOf c.axis true].lowOk = true →
      u = (accept (((begun s tr tag).modLeg (legOf c.axis false) clearedLeg).modLeg (legOf c.axis true) clearedLeg)
          c).modAxis c.axis (fun x => { x with
          enabling := some (s.clk, some c.id), scRaised := false, softLegs := [], fullSink := false }) →
      exec (.axisEnable tr tag) s = .next (settled (axisEnabled (u.modAux (fun l => { l with
        outbox := l.outbox ++ (if s.auxLink.hyst.isNone then [.hysteresis (s.p0 0x94F0 1) (s.p0 0x94F0 2)] else [])
          ++ [.setting c.axis (axisSettings s c.axis)] })) c.axis)))

/-- The journal, the scrubber, the patrol and an uncorrectable read. JOURNAL_WRITE stores the next entry at its place of
the ring and counts it, an entry that reports lost ones first; a bad write is tried on a spared row or loses the
entry; JOURNAL_READ answers with the entries from the SEQ asked for, or from the oldest held, each with its flag byte,
and with the SEQ after the last; a scrub pass counts its corrected words and spares a row that gave a corrected error
at the pass before; a patrol counts what it corrected; an uncorrectable read is raised and counted, and a lasting one
spares its row and loses the word: a Hearth halts, an update group is answered EXEC_FAULT, a trace record, an image, a
copy or a boot sector is marked damaged, a journal entry, a packet or a reply is discarded. (22 R557, 22 R560, 22
R562, 22 R564, 22 R565, 22 R566, 22 R567, 23 R590) -/
def Obligations.JournalAndErrors : Prop :=
∀ (s : State),
  (∀ (dt : Nat) (e : JournalItem) (rest : List JournalItem) (bad : Bool) (u : State), s.journal.lostPending = 0 →
      s.journal.queue = e :: rest → u = (advance s dt).modJournal (fun j => { j with queue := rest }) →
      exec (.journalWrite dt bad) s = .next (settled (if (ringPut u e bad).2 then (ringPut u e bad).1
          else entryLost (ringPut u e bad).1))) ∧
  (∀ (dt : Nat) (e : JournalItem) (bad : Bool), 0 < s.journal.lostPending →
      e = ⟨8, 0, (advance s dt).tb.now, beBytes 4 s.journal.lostPending ++ List.replicate 8 0⟩ →
      exec (.journalWrite dt bad) s = .next (settled (if (ringPut (advance s dt) e bad).2 then
          (ringPut (advance s dt) e bad).1.modJournal (fun j => { j with
              lostPending := j.lostPending - s.journal.lostPending })
        else (ringPut (advance s dt) e bad).1))) ∧
  (∀ (e : JournalItem),
      ringPut s e false = ((s.modMem (fun m => { m with
        mram := cellsPut m.mram (ringAddr s.journal.nextSeq.toNat) (entryBytes s.journal.nextSeq e),
        poisoned := m.poisoned.filter (fun w => !(decide (ringAddr s.journal.nextSeq.toNat ≤ w + 7) &&
          decide (w < ringAddr s.journal.nextSeq.toNat + (entryBytes s.journal.nextSeq e).length))) })).modJournal
              (fun j => { j with
        nextSeq := j.nextSeq + 1, held := Nat.min 524288 (j.held + 1) }), true)) ∧
  (∀ (tr : Transport) (tag : BitVec 16) (c : Cmd) (first n back : Nat), Starts s tr tag 0x0603 c → c.data.length = 5 →
      beNat (c.data.take 4) = first → beNat (c.data.drop 4) = n → 1 ≤ n → n ≤ 30 →
      back = (s.journal.nextSeq.toNat + 2 ^ 32 - first) % 2 ^ 32 → back ≤ s.journal.held →
      exec (.journalRead tr tag) s = .next (settled (reply (begun s tr tag) c stOK (beBytes 4 ((first + Nat.min n
          back) % 2 ^ 32) ++
        (List.range (Nat.min n back)).flatMap (fun i => readEntry s ((first + i) % 2 ^ 32)))))) ∧
  (∀ (tr : Transport) (tag : BitVec 16) (c : Cmd) (first n back : Nat), Starts s tr tag 0x0603 c → c.data.length = 5 →
      beNat (c.data.take 4) = first → beNat (c.data.drop 4) = n → 1 ≤ n → n ≤ 30 →
      back = (s.journal.nextSeq.toNat + 2 ^ 32 - first) % 2 ^ 32 → s.journal.held < back →
      exec (.journalRead tr tag) s = .next (settled (reply (begun s tr tag) c stOK (if back ≤ 2 ^ 31 then
        beBytes 4 ((oldestSeq s + Nat.min n s.journal.held) % 2 ^ 32) ++
          (List.range (Nat.min n s.journal.held)).flatMap (fun i => readEntry s ((oldestSeq s + i) % 2 ^ 32))
        else beBytes 4 (first % 2 ^ 32))))) ∧
  (∀ (dt : Nat) (row : Fin 16384),
      exec (.sramScrub dt row 0) s = .next (settled ((advance s dt).modMem (fun m => { m with
      rowMarks := m.rowMarks.filter (· != row.val) })))) ∧
  (∀ (dt : Nat) (row : Fin 16384) (n : Nat) (u : State), n ≠ 0 → u = memCount (advance s dt) 0 n →
      exec (.sramScrub dt row n) s = .next (settled (if row.val ∈ s.mem.rowMarks then
          spareSramRow (u.modMem (fun m => { m with rowMarks := m.rowMarks.filter (· != row.val) }))
        else u.modMem (fun m => { m with rowMarks := row.val :: m.rowMarks })))) ∧
  (∀ (dt n : Nat),
      exec (.mramPatrol dt n) s = .next (settled (memCount (advance s dt) 2 n))) ∧
  (∀ (dt a k : Nat) (h : Fin 4) (entry : Bool),
      exec (.uncorrectableRead dt true a false h k entry) s = .next (settled
      (memCount (raiseBy (advance s dt) (hearthMaster (advance s dt) h) 249 a 2 .transient) 1 1))) ∧
  (∀ (dt a k : Nat) (h : Fin 4) (entry : Bool),
      exec (.uncorrectableRead dt false a false h k entry) s = .next (settled
      (memCount (raiseOp (advance s dt) 250 a 2 .transient) 3 1))) ∧
  (∀ (u v : State) (dt a k : Nat) (h : Fin 4) (entry : Bool),
      u = memCount (raiseBy (advance s dt) (hearthMaster (advance s dt) h) 249 a 2 .lasting) 1 1 →
      v = (spareSramRow u).modMem (fun m => { m with
          poisoned := if a / 4 * 4 ∈ m.poisoned then m.poisoned else m.poisoned ++ [a / 4 * 4] }) →
      a < 0x00C00000 →
      exec (.uncorrectableRead dt true a true h k entry) s = .next (settled (haltHearth v h 3 0))) ∧
  (∀ (u v : State) (dt a k : Nat) (h : Fin 4) (entry : Bool),
      u = memCount (raiseBy (advance s dt) (hearthMaster (advance s dt) h) 249 a 2 .lasting) 1 1 →
      v = (spareSramRow u).modMem (fun m => { m with
          poisoned := if a / 4 * 4 ∈ m.poisoned then m.poisoned else m.poisoned ++ [a / 4 * 4] }) →
      0x00C00000 ≤ a → a < 0x00E00000 →
      exec (.uncorrectableRead dt true a true h k entry) s = .next (settled (match v.porter.groups[k]? with
        | some g => replyAt (v.modPorter (fun p => { p with groups := p.groups.eraseIdx k })) g.cmd stEXECFAULT []
        | none => v))) ∧
  (∀ (u v : State) (dt a k : Nat) (h : Fin 4) (entry : Bool),
      u = memCount (raiseBy (advance s dt) (hearthMaster (advance s dt) h) 249 a 2 .lasting) 1 1 →
      v = (spareSramRow u).modMem (fun m => { m with
          poisoned := if a / 4 * 4 ∈ m.poisoned then m.poisoned else m.poisoned ++ [a / 4 * 4] }) →
      0x00E00000 ≤ a → a < 0x00F00000 →
      exec (.uncorrectableRead dt true a true h k entry) s = .next (settled (v.modTrace (fun t => { t with
        damaged := true, staging := t.staging.modify k (fun l => l.map (fun _ => 0x80000000)) })))) ∧
  (∀ (u v : State) (dt a k : Nat) (h : Fin 4) (entry : Bool),
      u = memCount (raiseBy (advance s dt) (hearthMaster (advance s dt) h) 249 a 2 .lasting) 1 1 →
      v = (spareSramRow u).modMem (fun m => { m with
          poisoned := if a / 4 * 4 ∈ m.poisoned then m.poisoned else m.poisoned ++ [a / 4 * 4] }) →
      0x00F00000 ≤ a → entry = true →
      exec (.uncorrectableRead dt true a true h k entry) s = .next (settled (if k < v.journal.queue.length then
        entryLost (v.modJournal (fun j => { j with queue := j.queue.eraseIdx k })) else v))) ∧
  (∀ (u v : State) (dt a k : Nat) (h : Fin 4) (entry : Bool),
      u = memCount (raiseBy (advance s dt) (hearthMaster (advance s dt) h) 249 a 2 .lasting) 1 1 →
      v = (spareSramRow u).modMem (fun m => { m with
          poisoned := if a / 4 * 4 ∈ m.poisoned then m.poisoned else m.poisoned ++ [a / 4 * 4] }) →
      0x00F00000 ≤ a → entry = false →
      exec (.uncorrectableRead dt true a true h k entry) s = .next (settled (if k < v.porter.ready.length then
        v.modPorter (fun p => { p with ready := p.ready.eraseIdx k })
      else match v.porter.replies[k - v.porter.ready.length]? with
        | some r => sentReply v r
        | none => v))) ∧
  (∀ (u v : State) (dt a k : Nat) (h : Fin 4) (entry : Bool),
      u = (spareMramRow (memCount (raiseOp (advance s dt) 250 a 2 .lasting) 3 1) (dieOf a)).1 →
      v = u.modMem (fun m => { m with
          poisoned := if a / 8 * 8 ∈ m.poisoned then m.poisoned else m.poisoned ++ [a / 8 * 8] }) →
      exec (.uncorrectableRead dt false a true h k entry) s = .next (settled (
        if a < 0x10800000 then v.modStore (fun x => { x with imageA := { x.imageA with sigOk := false } })
        else if a < 0x10900000 then v.modStore (fun x => { x with copy0 := { x.copy0 with crcOk := false } })
        else if a < 0x10910000 then v.modStore (fun x => { x with boot0 := { x.boot0 with crcOk := false } })
        else if a < 0x12000000 then v
        else if a < 0x14000000 then v.modTrace (fun t => { t with
            records := t.records.modify k (fun r => { r with damaged := true }) })
        else if a < 0x14800000 then v.modStore (fun x => { x with imageB := { x.imageB with sigOk := false } })
        else if a < 0x14900000 then v.modStore (fun x => { x with copy1 := { x.copy1 with crcOk := false } })
        else if a < 0x14910000 then v.modStore (fun x => { x with boot1 := { x.boot1 with crcOk := false } })
        else v.modTrace (fun t => { t with records := t.records.modify k (fun r => { r with damaged := true }) }))))

/-- The trace recorder and its opcodes. A condition of its mask triggers the recorder, as TRACE_TRIGGER does: it begins
the share after the trigger, joins a trigger of its own tick, of which the first in order names the cause, and is
counted and raised otherwise; a capture whose share after the trigger is full is copied; the end of a copy stores the
record under the next number, raises 15.14 and arms again, on a spared row if the write was bad; TRACE_LIST lists the
records, TRACE_READ returns bytes of one, and TRACE_PROTECT protects and unprotects a record, but refuses to unprotect
one whose cause is a source of group 13 or 14. (22 R568, 22 R569, 22 R570, 22 R571, 23 R598) -/
def Obligations.TraceRecorder : Prop :=
∀ (s : State),
  (∀ (dt : Nat) (n : Fin 256), bit (s.p0 0x0720 (21 + n.val / 64)) (n.val % 64) = true →
      raisedNow (advance s dt) n.val ≠ none →
      exec (.traceTriggerCondition dt (.source n)) s = .next (settled (traceTrigger (advance s dt) (.source n)))) ∧
  (∀ (dt : Nat), s.trace.crossed = true → s.p0 0x0720 25 % 16 ∈ traceChannels s →
      exec (.traceTriggerCondition dt .level) s = .next (settled (traceTrigger (advance s dt) .level))) ∧
  (∀ (dt : Nat) (k : Fin 8), s.p0 0x0720 27 = k.val → s.lats[k].edgeAt = some (s.clk + dt) →
      exec (.traceTriggerCondition dt .lat) s = .next (settled (traceTrigger (advance s dt) .lat))) ∧
  (∀ (x : TraceCause), s.trace.phase = .pre →
      traceTrigger s x = s.modTrace (fun t => { t with
        phase := .post, trigger := some (s.tb.now, x, x.protects), postLeft := traceCapacity s - tracePre s })) ∧
  (∀ (x y : TraceCause) (at' : Stamp) (prot : Bool), s.trace.phase = .post ∨ s.trace.phase = .copy →
      s.trace.trigger = some (at', y, prot) →
      traceTrigger s x = (if at' = s.tb.now then
          s.modTrace (fun t => { t with trigger := some (at', if x.rank < y.rank then x else y, prot || x.protects) })
        else raise (s.modTrace (fun t => { t with later := t.later + 1 })) 254 1)) ∧
  (∀ (dt : Nat), s.trace.phase = .post → s.trace.postLeft = 0 →
      exec (.traceRecordCopy dt) s = .next (settled ((advance s dt).modTrace (fun t => { t with phase := .copy })))) ∧
  (∀ (u : State) (dt : Nat) (at' : Stamp) (cause : TraceCause) (prot bad : Bool) (r : TraceRec), s.trace.phase = .copy →
      s.trace.trigger = some (at', cause, prot) → (bad = true → 0 < s.mem.spareMram[0]) →
      u = (if bad then (spareMramRow (advance s dt) 0).1 else advance s dt) →
      r = { number := u.trace.nextNumber, stamp := at', cause := cause, channels := traceChannels u, isProtected := prot, damaged := u.trace.damaged, laterTriggers := u.trace.later, data := u.trace.staging.flatten } →
      exec (.traceCopyComplete dt bad) s = .next (settled (traceArm (journal
        (raise (storeRecord (u.modTrace (fun t => { t with nextNumber := t.nextNumber + 1 })) r) 254 0) 9 0
        (beBytes 2 r.number.toNat ++ beBytes 1 cause.code.toNat ++ beBytes 1 (flag prot 0 + flag r.damaged 1) ++
            beBytes 4 r.len
          ++ List.replicate 4 0))))) ∧
  (∀ (dt : Nat) (at' : Stamp) (cause : TraceCause) (prot : Bool), s.trace.phase = .copy →
      s.trace.trigger = some (at', cause, prot) → s.mem.spareMram[0] = 0 →
      exec (.traceCopyComplete dt true) s = .next (settled (traceArm (spareMramRow (advance s dt) 0).1))) ∧
  (∀ (tr : Transport) (tag : BitVec 16) (c : Cmd), Starts s tr tag 0x0B00 c → c.data = [] →
      exec (.traceTrigger tr tag) s = .next (settled (reply (traceTrigger (begun s tr tag) .opcode) c
        (if s.trace.phase = .pre then stOK else stREFUSED) []))) ∧
  (∀ (tr : Transport) (tag : BitVec 16) (c : Cmd) (l : List TraceRec), Starts s tr tag 0x0B01 c → c.data = [] →
      l = s.trace.records.drop (s.trace.records.length - 63) →
      exec (.traceList tr tag) s = .next (settled (reply (begun s tr tag) c stOK (beBytes 1 l.length ++
        l.flatMap (fun r => beBytes 2 r.number.toNat ++ beBytes 8 r.stamp.toNat ++ beBytes 1 r.cause.code.toNat
          ++ beBytes 1 (flag r.isProtected 0 + flag r.damaged 1) ++ beBytes 4 r.len))))) ∧
  (∀ (tr : Transport) (tag : BitVec 16) (c : Cmd) (r : TraceRec) (off n : Nat), Starts s tr tag 0x0B02 c →
      c.data.length = 8 → s.trace.records.find? (fun x => x.number.toNat == beNat (c.data.take 2)) = some r →
      beNat ((c.data.drop 2).take 4) = off → beNat (c.data.drop 6) = n → 1 ≤ n → n ≤ 1000 → off + n ≤ r.len →
      exec (.traceRead tr tag) s = .next (settled (reply (begun s tr tag) c stOK ((r.bytes.drop off).take n)))) ∧
  (∀ (tr : Transport) (tag : BitVec 16) (c : Cmd) (r : TraceRec) (num : Nat), Starts s tr tag 0x0B03 c →
      c.data.length = 3 → beNat (c.data.take 2) = num →
      s.trace.records.find? (fun x => x.number.toNat == num) = some r → beNat (c.data.drop 2) = 0 →
      r.cause.protects = false →
      exec (.traceProtect tr tag) s = .next (settled (reply ((begun s tr tag).modTrace (fun t => { t with
        records := t.records.map (fun x => if x.number = r.number then { x with isProtected := false }
            else x) })) c stOK []))) ∧
  (∀ (tr : Transport) (tag : BitVec 16) (c : Cmd) (r : TraceRec) (num : Nat), Starts s tr tag 0x0B03 c →
      c.data.length = 3 → beNat (c.data.take 2) = num →
      s.trace.records.find? (fun x => x.number.toNat == num) = some r → beNat (c.data.drop 2) = 0 →
      r.cause.protects = true →
      exec (.traceProtect tr tag) s = .next (settled (reply (begun s tr tag) c stREFUSED []))) ∧
  (∀ (tr : Transport) (tag : BitVec 16) (c : Cmd) (r : TraceRec) (num : Nat) (l : List TraceRec × Bool),
      Starts s tr tag 0x0B03 c → c.data.length = 3 → beNat (c.data.take 2) = num →
      s.trace.records.find? (fun x => x.number.toNat == num) = some r → beNat (c.data.drop 2) = 1 →
      l = (if r.isProtected then (s.trace.records, false) else freeProtected r.len 81 s.trace.records) →
      exec (.traceProtect tr tag) s = .next (settled (reply (raiseIf l.2 ((begun s tr tag).modTrace (fun t => { t with
        records := l.1.map (fun x => if x.number = r.number then { x with isProtected := true }
            else x) })) 254 2) c stOK [])))

/-- The Flue's events and opcodes. A block raises a source with its master, kind, address and retry; the quiet check
recovers each source that is due, of the short or of the long quiet periods, and none in W1C mode; a Hearth in service
takes its oldest message and binds it to its next transaction, and the room it leaves reports a drop; a write to the
sticky words clears the sources it names in W1C mode and nothing else; FAULT_CLEAR clears the named sources whose line
is quiet and answers the others; RECORD_RELEASE releases the first-error record that it names. (16 R427, 17 R453, 17
R457, 17 R460, 17 R463, 17 R466, 17 R467, 17 R469, 23 R589) -/
def Obligations.FaultOpcodes : Prop :=
∀ (s : State),
  (∀ (dt : Nat) (src : Fin 256) (master : BitVec 8) (a : BitVec 32) (kind : BitVec 3) (r : Retry),
      exec (.errorLineRaise dt src master a kind r) s = .next (settled (raiseBy (advance s dt) master src.val a.toNat
          kind.toNat r))) ∧
  (∀ (dt : Nat) (slow : Bool), s.p0 0x0610 1 ≠ 1 → checkDue (advance s dt) slow = true →
      exec (.quietCheck dt slow) s = .next (settled ((List.range 256).foldl (fun u src =>
        if decide (1000 ≤ u.pe src 0x7010 1) == slow && quietDue u src then recover u src else u)
      ((advance s dt).modFlue (fun f => { f with
          checkAt := f.checkAt.set (if slow then 1 else 0 : Fin 2) (some (s.clk + dt)) }))))) ∧
  (∀ (dt : Nat) (slow : Bool), s.p0 0x0610 1 = 1 →
      exec (.quietCheck dt slow) s = .next (settled (advance s dt))) ∧
  (∀ (u : State) (dt : Nat) (h : Fin 4), hearthTakes s.hearths[h] = true →
      u = (match s.flue.queue.find? (fun m => m.hearth == h) with | some m => bindInput ((advance s dt).modFlue (fun f => { f with queue := takeMessage h f.queue })) h (.message m) | none => advance s dt) →
      exec (.eventMessageTake dt h) s = .next (settled (if s.flue.dropOwed = true ∧ u.flue.queue.length < 64 then
        raise (u.modFlue (fun f => { f with dropOwed := false })) 240 0 else u))) ∧
  (∀ (h : Fin 4) (v : HearthInput),
      bindInput s h v = s.modHearth h (fun x => { x with
        bound := x.bound ++ [{ number := x.issued[(issuers x).headD 0], input := v }] })) ∧
  (∀ (dt : Nat),
      exec (.ferRelease dt) s = .next (settled (releaseFer (advance s dt)))) ∧
  (∀ (dt : Nat) (i : Fin 8) (w : BitVec 32),
      exec (.stickyClearWrite dt i w) s = .next (settled (if s.p0 0x0610 1 = 1 then
        (List.range 32).foldl (fun u b => if w.getLsbD b then clearSource u (32 * i.val + b) else u) (advance s dt)
            else advance s dt))) ∧
  (∀ (tr : Transport) (tag : BitVec 16) (c : Cmd), Starts s tr tag 0x0600 c → c.data = [] →
      exec (.flueRead tr tag) s = .next (settled (reply (begun s tr tag) c stOK (([flueSum s] ++
        (List.range 8).map (word256 s.flue.sticky) ++ (List.range 8).map (word256 s.flue.live) ++ recWords s.flue.fer ++
        recWords s.flue.ner).flatMap (beBytes 4))))) ∧
  (∀ (tr : Transport) (tag : BitVec 16) (c : Cmd) (named kept : List Nat), Starts s tr tag 0x0601 c →
      c.data.length = 32 → named = (List.range 256).filter (maskBit c.data) →
      kept = named.filter (fun src => sticky s src && live s src) →
      exec (.faultClear tr tag) s = .next (settled (reply (named.foldl clearSource (begun s tr tag)) c stOK
        ((List.range 32).map (fun i => BitVec.ofNat 8 ((List.range 8).foldl (fun a b =>
            a + flag ((8 * (31 - i) + b) ∈ kept) b) 0)))))) ∧
  (∀ (tr : Transport) (tag : BitVec 16) (c : Cmd) (r : FaultRec), Starts s tr tag 0x0602 c → c.data.length = 5 →
      s.flue.fer = some r → r.source.toNat = beNat (c.data.take 1) → r.stamp.toNat % 2 ^ 32 = beNat (c.data.drop 1) →
      exec (.recordRelease tr tag) s = .next (settled (reply (releaseFer (begun s tr tag)) c stOK [])))

/-- Voting, classification, digests and resynchronisation of a Hearth. A vote on which lanes and Trivets agree issues the
transaction once, counts it and returns the read data; one that agrees after the retry is a voter transient; one that
does not waits for its class, by which a minority core or lane is masked and the majority issued, a Trivet fails, or
the Hearth halts; equal digests of three cores end the run of latent divergences, a differing one is a latent
divergence of its core; a resynchronised core with equal digests returns to service, one with a differing digest is
retired; the online test of a Trivet steps through its 288 patterns, and a failed one fails the Trivet. (16 R425, 16
R426, 16 R427, 16 R429, 16 R430, 16 R431, 16 R432, 16 R433, 16 R434, 16 R437, 16 R439) -/
def Obligations.VotesAndDigests : Prop :=
∀ (s : State),
  (∀ (u : State) (dt : Nat) (h : Fin 4) (offers : List (Fin 3 × LaneEntry)) (misread again : Vector (Option
      LaneEntry) 3) (bad badAgain : Vector Bool 2) (x : Hearth) (first : Fin 3),
      s.start.bootBegun = true → votes s.hearths[h] = true → u = issueOffers (advance s dt) h offers →
      x = u.hearths[h] → first = (if x.mode = .split then 0 else (votedLanes x).headD 0) → x.disagreed = none →
      lanesPresent x = true → votesAgree x (laneHeads x misread) = true → trivetsAgree x bad = true →
      exec (.transactionVote dt h offers misread again bad badAgain) s = .next (settled (issue u h (laneHeads x
          misread)[first]))) ∧
  (∀ (u : State) (dt : Nat) (h : Fin 4) (offers : List (Fin 3 × LaneEntry)) (misread again : Vector (Option
      LaneEntry) 3) (bad badAgain : Vector Bool 2) (x : Hearth) (first : Fin 3),
      s.start.bootBegun = true → votes s.hearths[h] = true → u = issueOffers (advance s dt) h offers →
      x = u.hearths[h] → first = (if x.mode = .split then 0 else (votedLanes x).headD 0) → x.disagreed = none →
      lanesPresent x = true → (votesAgree x (laneHeads x misread) && trivetsAgree x bad) = false →
      votesAgree x (laneHeads x again) = true → trivetsAgree x badAgain = true →
      exec (.transactionVote dt h offers misread again bad badAgain) s = .next (settled (issue
        (bumpHearth (classify u h .transient 0 (laneHeads x again)[first].seq) h 32 (fun y => y.transients)
          (fun c y => { y with transients := c }) (232 + h.val) (hearthAddr h 4 0 0)) h (laneHeads x again)[first]))) ∧
  (∀ (u : State) (dt : Nat) (h : Fin 4) (offers : List (Fin 3 × LaneEntry)) (misread again : Vector (Option
      LaneEntry) 3) (bad badAgain : Vector Bool 2) (x : Hearth) (first : Fin 3),
      s.start.bootBegun = true → votes s.hearths[h] = true → u = issueOffers (advance s dt) h offers →
      x = u.hearths[h] → first = (if x.mode = .split then 0 else (votedLanes x).headD 0) → x.disagreed = none →
      lanesPresent x = true → (votesAgree x (laneHeads x misread) && trivetsAgree x bad) = false →
      (votesAgree x (laneHeads x again) && trivetsAgree x badAgain) = false →
      exec (.transactionVote dt h offers misread again bad badAgain) s = .next (settled (u.modHearth h (fun y =>
          { y with
        disagreed := some (laneHeads x again, badAgain) })))) ∧
  (∀ (u : State) (h : Fin 4) (e : LaneEntry),
      u = (s.modHearth h (fun x => { x with
          txn := x.txn + 1, disagreed := none, lanes := x.lanes.map (fun l => l.drop 1) })).put (.bus h e) →
      issue s h e = (if e.kind = 2 then busStore u h e
      else feedCores ((busStore (busLoad u e).2 h e).modHearth h (fun x => { x with
        readBack := some (s.hearths[h].txn, (busLoad u e).1) })) h)) ∧
  (∀ (dt : Nat) (h : Fin 4) (l : Vector LaneEntry 3) (bad : Vector Bool 2) (dg : Vector (BitVec 32) 3),
      s.start.bootBegun = true → votes s.hearths[h] = true → s.hearths[h].disagreed = some (l, bad) →
      s.hearths[h].mode = .split →
      exec (.disagreementClassify dt h dg) s = .next (settled
        (haltHearth (classify (advance s dt) h .undecidable 0 l[(0 : Fin 3)].seq) h 3 0))) ∧
  (∀ (dt : Nat) (h : Fin 4) (l : Vector LaneEntry 3) (bad : Vector Bool 2) (dg : Vector (BitVec 32) 3),
      s.start.bootBegun = true → votes s.hearths[h] = true → s.hearths[h].disagreed = some (l, bad) →
      s.hearths[h].mode ≠ .split → (votedLanes s.hearths[h]).length = 3 → oddLane s.hearths[h] l = none →
      exec (.disagreementClassify dt h dg) s = .next (settled (haltHearth
        (classify (advance s dt) h .undecidable 0 (BitVec.ofNat 8 s.hearths[h].txn)) h
        (if s.hearths[h].trivetOk[(0 : Fin 2)] && s.hearths[h].trivetOk[(1 : Fin 2)] then 3 else 4) 0))) ∧
  (∀ (u v : State) (dt : Nat) (h : Fin 4) (l : Vector LaneEntry 3) (bad : Vector Bool 2) (dg : Vector (BitVec 32) 3)
      (i k : Fin 3) (both : Bool),
      s.start.bootBegun = true → votes s.hearths[h] = true → s.hearths[h].disagreed = some (l, bad) →
      s.hearths[h].mode ≠ .split → (votedLanes s.hearths[h]).length = 3 → oddLane s.hearths[h] l = some i →
      k = (if i = 0 then 1 else 0) → both = (s.hearths[h].trivetOk[(0 : Fin 2)] && s.hearths[h].trivetOk[(1 : Fin 2)]) →
      (both && (bad[(0 : Fin 2)] || bad[(1 : Fin 2)])) = false →
      u = (if dg[i] ≠ dg[k] then coreFault (advance s dt) h i l[i] (sameFields l[i] l[k] == false)
          else laneFault (advance s dt) h i l[i]) →
      exec (.disagreementClassify dt h dg) s = .next (settled (if u.hearths[h].mode = .halted then u
          else issue u h l[k]))) ∧
  (∀ (u v : State) (dt : Nat) (h : Fin 4) (l : Vector LaneEntry 3) (bad : Vector Bool 2) (dg : Vector (BitVec 32) 3)
      (i k : Fin 3) (both : Bool),
      s.start.bootBegun = true → votes s.hearths[h] = true → s.hearths[h].disagreed = some (l, bad) →
      s.hearths[h].mode ≠ .split → (votedLanes s.hearths[h]).length = 3 → oddLane s.hearths[h] l = some i →
      k = (if i = 0 then 1 else 0) → both = (s.hearths[h].trivetOk[(0 : Fin 2)] && s.hearths[h].trivetOk[(1 : Fin 2)]) →
      both = true → bad = Vector.replicate 2 true →
      exec (.disagreementClassify dt h dg) s = .next (settled (haltHearth (classify (advance s dt) h .trivet 0
          l[k].seq) h 3 0))) ∧
  (∀ (u v : State) (dt : Nat) (h : Fin 4) (l : Vector LaneEntry 3) (bad : Vector Bool 2) (dg : Vector (BitVec 32) 3)
      (i k : Fin 3) (both : Bool),
      s.start.bootBegun = true → votes s.hearths[h] = true → s.hearths[h].disagreed = some (l, bad) →
      s.hearths[h].mode ≠ .split → (votedLanes s.hearths[h]).length = 3 → oddLane s.hearths[h] l = some i →
      k = (if i = 0 then 1 else 0) → both = (s.hearths[h].trivetOk[(0 : Fin 2)] && s.hearths[h].trivetOk[(1 : Fin 2)]) →
      both = true → (bad[(0 : Fin 2)] ^^ bad[(1 : Fin 2)]) = true →
      u = failTrivet (classify (advance s dt) h .trivet 0 l[k].seq) h (if bad[(0 : Fin 2)] then 0
          else 1) l[k].seq.toNat →
      exec (.disagreementClassify dt h dg) s = .next (settled (if u.hearths[h].mode = .halted then u
          else issue u h l[k]))) ∧
  (∀ (dt : Nat) (h : Fin 4) (l : Vector LaneEntry 3) (bad : Vector Bool 2) (dg : Vector (BitVec 32) 3) (i j : Fin 3),
      s.start.bootBegun = true → votes s.hearths[h] = true → s.hearths[h].disagreed = some (l, bad) →
      s.hearths[h].mode ≠ .split → votedLanes s.hearths[h] = [i, j] →
      exec (.disagreementClassify dt h dg) s = .next (settled (classifyTwo (advance s dt) h l dg i j))) ∧
  (∀ (u : State) (dt : Nat) (h : Fin 4) (dg : Vector (BitVec 32) 3) (a b c : Fin 3), s.start.bootBegun = true →
      votes s.hearths[h] = true → s.hearths[h].mode ≠ .split → s.hearths[h].mode ≠ .resync →
      s.hearths[h].disagreed = none → (∀ a, s.hearths[h].digestAt = some a → a + 200000 ≤ s.clk + dt) →
      coresIn s.hearths[h] = [a, b, c] →
      u = (advance s dt).modHearth h (fun y => { y with digestAt := some (s.clk + dt) }) → dg[a] = dg[b] →
      dg[a] = dg[c] →
      exec (.digestPoint dt h dg) s = .next (settled (u.modHearth h (fun y =>
          { y with latentRun := Vector.replicate 3 0 })))) ∧
  (∀ (u : State) (dt : Nat) (h : Fin 4) (dg : Vector (BitVec 32) 3) (a b c : Fin 3), s.start.bootBegun = true →
      votes s.hearths[h] = true → s.hearths[h].mode ≠ .split → s.hearths[h].mode ≠ .resync →
      s.hearths[h].disagreed = none → (∀ a, s.hearths[h].digestAt = some a → a + 200000 ≤ s.clk + dt) →
      coresIn s.hearths[h] = [a, b, c] →
      u = (advance s dt).modHearth h (fun y => { y with digestAt := some (s.clk + dt) }) → dg[a] = dg[b] →
      dg[a] ≠ dg[c] →
      exec (.digestPoint dt h dg) s = .next (settled (latentDivergence u h c))) ∧
  (∀ (u : State) (dt : Nat) (h : Fin 4) (dg : Vector (BitVec 32) 3) (a b c : Fin 3), s.start.bootBegun = true →
      votes s.hearths[h] = true → s.hearths[h].mode ≠ .split → s.hearths[h].mode ≠ .resync →
      s.hearths[h].disagreed = none → (∀ a, s.hearths[h].digestAt = some a → a + 200000 ≤ s.clk + dt) →
      coresIn s.hearths[h] = [a, b, c] →
      u = (advance s dt).modHearth h (fun y => { y with digestAt := some (s.clk + dt) }) → dg[a] ≠ dg[b] →
      dg[a] = dg[c] →
      exec (.digestPoint dt h dg) s = .next (settled (latentDivergence u h b))) ∧
  (∀ (u : State) (dt : Nat) (h : Fin 4) (dg : Vector (BitVec 32) 3) (a b c : Fin 3), s.start.bootBegun = true →
      votes s.hearths[h] = true → s.hearths[h].mode ≠ .split → s.hearths[h].mode ≠ .resync →
      s.hearths[h].disagreed = none → (∀ a, s.hearths[h].digestAt = some a → a + 200000 ≤ s.clk + dt) →
      coresIn s.hearths[h] = [a, b, c] →
      u = (advance s dt).modHearth h (fun y => { y with digestAt := some (s.clk + dt) }) → dg[a] ≠ dg[b] →
      dg[a] ≠ dg[c] → dg[b] = dg[c] →
      exec (.digestPoint dt h dg) s = .next (settled (latentDivergence u h a))) ∧
  (∀ (u : State) (dt : Nat) (h : Fin 4) (dg : Vector (BitVec 32) 3) (a b c : Fin 3), s.start.bootBegun = true →
      votes s.hearths[h] = true → s.hearths[h].mode ≠ .split → s.hearths[h].mode ≠ .resync →
      s.hearths[h].disagreed = none → (∀ a, s.hearths[h].digestAt = some a → a + 200000 ≤ s.clk + dt) →
      coresIn s.hearths[h] = [a, b, c] →
      u = (advance s dt).modHearth h (fun y => { y with digestAt := some (s.clk + dt) }) → dg[a] ≠ dg[b] →
      dg[a] ≠ dg[c] → dg[b] ≠ dg[c] →
      exec (.digestPoint dt h dg) s = .next (settled (haltHearth (classify u h .undecidable a (BitVec.ofNat 8
          s.hearths[h].txn)) h 3 0))) ∧
  (∀ (u : State) (dt : Nat) (h : Fin 4) (dg : Vector (BitVec 32) 3) (a b : Fin 3), s.start.bootBegun = true →
      votes s.hearths[h] = true → s.hearths[h].mode ≠ .split → s.hearths[h].mode ≠ .resync →
      s.hearths[h].disagreed = none → (∀ a, s.hearths[h].digestAt = some a → a + 200000 ≤ s.clk + dt) →
      coresIn s.hearths[h] = [a, b] →
      u = (advance s dt).modHearth h (fun y => { y with digestAt := some (s.clk + dt) }) →
      exec (.digestPoint dt h dg) s = .next (settled (if dg[a] = dg[b] then u else
        haltHearth (classify u h .undecidable a (BitVec.ofNat 8 s.hearths[h].txn)) h 4 0))) ∧
  (∀ (dt : Nat) (h : Fin 4) (r : Resync) (dg : Vector (BitVec 32) 3), s.hearths[h].resync = some r →
      (coresIn s.hearths[h]).all (fun i => dg[i] == dg[r.source]) = true →
      exec (.resyncComplete dt h dg) s = .next (settled (dropLine ((advance s dt).modHearth h (fun y =>
        placeCore { y with resync := none, mode := serviceMode y } r.core)) (224 + h.val)))) ∧
  (∀ (dt : Nat) (h : Fin 4) (r : Resync) (dg : Vector (BitVec 32) 3), s.hearths[h].resync = some r →
      (coresIn s.hearths[h]).all (fun i => dg[i] == dg[r.source]) = false →
      exec (.resyncComplete dt h dg) s = .next (settled (retireCore (advance s dt) h r.core))) ∧
  (∀ (u : State) (dt : Nat) (h : Fin 4) (pass : Bool) (t : Fin 2), s.start.bootBegun = true →
      votes s.hearths[h] = true → s.hearths[h].mode = .triplex →
      (∀ a, s.hearths[h].testAt = some a → a + 200000000 ≤ s.clk + dt) →
      t = (if s.hearths[h].nextTest < 144 then 0 else 1) →
      u = (advance s dt).modHearth h (fun y => { y with
          testAt := some (s.clk + dt), nextTest := (y.nextTest + 1) % 288 }) →
      exec (.trivetOnlineTest dt h pass) s = .next (settled (if pass then u else failTrivet
        (raise u (232 + h.val) (hearthAddr h 3 t.val (s.hearths[h].txn % 256))) h t (s.hearths[h].txn % 256))))

/-- Split, rejoin and debug of a Hearth. HEARTH_SPLIT of a Hearth in TRIPLEX that may be split begins the split, otherwise
it is refused; the split completes with mode SPLIT, 14.13 and its count; HEARTH_REJOIN begins the rejoin that its
reply waits for, as the end of a core test does; a rejoin with equal digests returns the Hearth to service, one
without makes the copy once more, then retires the core that differs or answers EXEC_FAULT; a halt keeps the copies in
REPLAY mode and splits otherwise, one of H0 sets every shutdown line first, and a resume with equal digests ends the
halt; a debug write to a shared place is one bus write, one to a core is logged in REPLAY mode, and the 257th leaves
it; while unlocked, a debug access selects the mode of the next halt. (16 R441, 16 R442, 16 R443, 16 R444, 16 R445, 16
R446, 16 R447, 16 R448, 23 R594) -/
def Obligations.SplitAndDebug : Prop :=
∀ (s : State),
  (∀ (dt : Nat) (h : Fin 4) (tr : Transport) (tag : BitVec 16) (c : Cmd) (n mode : Byte), Starts s tr tag 0x0A20 c →
      c.data = [n, mode] → n.toNat = h.val → 1 ≤ h.val → mode.toNat ≤ 1 → s.hearths[h].splitting = none →
      s.hearths[h].mode = .triplex → maySplit s h = true →
      exec (.hearthSplit tr tag) s = .next (settled (reply ((begun s tr tag).modHearth h (fun y => { y with
          splitting := some { startedAt := s.clk, test := mode == 1, debug := false } })) c stOK []))) ∧
  (∀ (dt : Nat) (h : Fin 4) (tr : Transport) (tag : BitVec 16) (c : Cmd) (n mode : Byte), Starts s tr tag 0x0A20 c →
      c.data = [n, mode] → n.toNat = h.val → 1 ≤ h.val →
      s.hearths[h].mode ≠ .triplex ∨ maySplit s h = false ∨ s.hearths[h].splitting ≠ none →
      exec (.hearthSplit tr tag) s = .next (settled (reply (begun s tr tag) c stREFUSED []))) ∧
  (∀ (dt : Nat) (h : Fin 4) (r : SplitRun), s.hearths[h].splitting = some r → s.hearths[h].resync = none →
      s.hearths[h].disagreed = none → s.hearths[h].mode ≠ .halted →
      (∀ i ∈ votedLanes s.hearths[h], s.hearths[h].lanes[i] = []) →
      exec (.splitComplete dt h) s = .next (settled (bumpHearth (raise ((advance s dt).modHearth h (fun y => { y with
        splitting := none, testing := r.test, mode := .split, debugSplit := y.debugSplit || r.debug,
        lanes := (y.lanes.set 1 []).set 2 [] })) 237 (hearthAddr h 0 0 0)) h 16 (fun y => y.splits)
        (fun c y => { y with splits := c }) 237 (hearthAddr h 3 0 0)))) ∧
  (∀ (dt : Nat) (h : Fin 4) (tr : Transport) (tag : BitVec 16) (c : Cmd) (n : Byte), Starts s tr tag 0x0A21 c →
      c.data = [n] → n.toNat = h.val → 1 ≤ h.val → s.hearths[h].mode = .split → s.hearths[h].rejoining = none →
      exec (.hearthRejoin tr tag) s = .next (settled (waitCommit ((begun s tr tag).modHearth h (fun y => { y with
        testing := false, waitsFor := some c.id, rejoining := some
            { startedAt := s.clk, test := false, debug := false } })) c))) ∧
  (∀ (dt : Nat) (h : Fin 4), s.hearths[h].testing = true → s.hearths[h].mode = .split →
      exec (.coreTestEnd dt h) s = .next (settled ((advance s dt).modHearth h (fun y => { y with
        testing := false, rejoining := some { startedAt := s.clk + dt, test := true, debug := false } })))) ∧
  (∀ (u : State) (dt : Nat) (h : Fin 4) (r : SplitRun) (dg : Vector (BitVec 32) 3) (off : List (Fin 3)),
      s.hearths[h].rejoining = some r → s.hearths[h].splitting = none →
      off = (coresIn s.hearths[h]).filter (fun i => i != 0 && dg[i] != dg[(0 : Fin 3)]) → off = [] →
      u = (raise ((advance s dt).modHearth h rejoined) 237 (hearthAddr h 1 0 0)).modHearth h (fun y =>
          { y with waitsFor := none, rejoining := none, debugHalted := false }) →
      exec (.rejoinComplete dt h dg) s = .next (settled (replyAt u s.hearths[h].waitsFor stOK [BitVec.ofNat 8
          u.hearths[h].mode.code]))) ∧
  (∀ (u : State) (dt : Nat) (h : Fin 4) (r : SplitRun) (dg : Vector (BitVec 32) 3) (off : List (Fin 3)),
      s.hearths[h].rejoining = some r → s.hearths[h].splitting = none →
      off = (coresIn s.hearths[h]).filter (fun i => i != 0 && dg[i] != dg[(0 : Fin 3)]) → off ≠ [] → r.second = false →
      exec (.rejoinComplete dt h dg) s = .next (settled ((advance s dt).modHearth h (fun y => { y with
        rejoining := some { r with second := true } })))) ∧
  (∀ (u : State) (dt : Nat) (h : Fin 4) (r : SplitRun) (dg : Vector (BitVec 32) 3) (off : List (Fin 3)) (i : Fin 3),
      s.hearths[h].rejoining = some r → s.hearths[h].splitting = none →
      off = (coresIn s.hearths[h]).filter (fun i => i != 0 && dg[i] != dg[(0 : Fin 3)]) → off = [i] → r.second = true →
      u = (retireCore ((advance s dt).modHearth h rejoined) h i).modHearth h (fun y =>
          { y with waitsFor := none, rejoining := none, debugHalted := false }) →
      exec (.rejoinComplete dt h dg) s = .next (settled (replyAt u s.hearths[h].waitsFor stOK [BitVec.ofNat 8
          u.hearths[h].mode.code]))) ∧
  (∀ (u : State) (dt : Nat) (h : Fin 4) (r : SplitRun) (dg : Vector (BitVec 32) 3) (off : List (Fin 3)),
      s.hearths[h].rejoining = some r → s.hearths[h].splitting = none →
      off = (coresIn s.hearths[h]).filter (fun i => i != 0 && dg[i] != dg[(0 : Fin 3)]) → 2 ≤ off.length →
      r.second = true →
      exec (.rejoinComplete dt h dg) s = .next (settled (replyAt (raise ((advance s dt).modHearth h (fun y => { y with
        waitsFor := none, rejoining := none, debugHalted := false })) 237 (hearthAddr h 2 0 0)) s.hearths[h].waitsFor
            stEXECFAULT []))) ∧
  (∀ (u : State) (dt : Nat) (h : Fin 4), s.ports.unlocked = true → s.hearths[h].debugHalted = false →
      s.hearths[h].mode ≠ .halted → h = 0 ∨ maySplit s h = true →
      u = (if h = 0 then forAll four (fun m v => setShutdown v m true) (advance s dt) else advance s dt) →
      exec (.debugHalt dt h) s = .next (settled (raise (u.modHearth h (fun y =>
          if y.replaySel then { y with debugHalted := true, log := [] }
          else if y.mode = .split then { y with debugHalted := true, debugSplit := true }
          else { y with debugHalted := true, splitting := some { startedAt := s.clk + dt, test := false, debug := true } }))
        238 (hearthAddr h 1 0 0)))) ∧
  (∀ (dt : Nat) (h : Fin 4) (single : Bool) (dg : Vector (BitVec 32) 3) (agree : Bool), s.ports.unlocked = true →
      s.hearths[h].debugHalted = true → s.hearths[h].rejoining = none → inReplay s.hearths[h] = true →
      agree = (coresIn s.hearths[h]).all (fun i => dg[i] == dg[(0 : Fin 3)]) →
      exec (.debugResume dt h single dg) s = .next (settled (
        if agree ∧ single then (advance s dt).modHearth h (fun y => { y with log := [] })
        else if agree then raise ((advance s dt).modHearth h (fun y =>
            { y with debugHalted := false, log := [] })) 238 (hearthAddr h 2 0 0)
        else if single then enterSplit (advance s dt) h true
        else (raise (enterSplit (advance s dt) h true) 238 (hearthAddr h 2 0 0)).modHearth h (fun y => { y with
        rejoining := some { startedAt := s.clk + dt, test := false, debug := true } })))) ∧
  (∀ (dt : Nat) (h : Fin 4) (single : Bool) (dg : Vector (BitVec 32) 3) (agree : Bool), s.ports.unlocked = true →
      s.hearths[h].debugHalted = true → s.hearths[h].rejoining = none → inReplay s.hearths[h] = false →
      exec (.debugResume dt h single dg) s = .next (settled (if single then advance s dt
        else (raise (advance s dt) 238 (hearthAddr h 2 0 0)).modHearth h (fun y => { y with
        rejoining := some { startedAt := s.clk + dt, test := false, debug := true } })))) ∧
  (∀ (dt : Nat) (h : Fin 4) (a v : BitVec 32) (e : LaneEntry), s.ports.unlocked = true →
      s.hearths[h].debugHalted = true →
      e = { addr := a, data := if a.getLsbD 2 then v.setWidth 64 else v.setWidth 64 <<< 32, enables := if a.getLsbD 2 then 0x0F else 0xF0, kind := 2, attr := 0, seq := BitVec.ofNat 8 s.hearths[h].txn, parityOk := true } →
      exec (.replayWrite dt h true a v) s = .next (settled (busStore ((advance s dt).put (.bus h e)) h e))) ∧
  (∀ (dt : Nat) (h : Fin 4) (a v : BitVec 32), s.ports.unlocked = true → s.hearths[h].debugHalted = true →
      inReplay s.hearths[h] = true →
      exec (.replayWrite dt h false a v) s = .next (settled (if s.hearths[h].log.length < 256 then
          (advance s dt).modHearth h (fun y => { y with log := y.log ++ [⟨a, v⟩] })
        else raise (enterSplit ((advance s dt).modHearth h (fun y => { y with log := [] })) h true) 238 (hearthAddr h
            3 0 0)))) ∧
  (∀ (dt : Nat) (h : Fin 4) (b : Bool), s.ports.unlocked = true → s.ports.ir = .dbgAccess →
      s.hearths[h].debugHalted = false →
      exec (.dbgAccess dt h (some b)) s = .next (settled ((advance s dt).modHearth h (fun y =>
          { y with replaySel := b })))) ∧
  (∀ (dt : Nat) (h : Fin 4),
      exec (.dbgAccess dt h none) s = .next (settled (advance s dt)))

/-- Temperatures, their factors and the loss of a sensor. An evaluation that is due tests the reading of its sensor, then
the rail envelope, and lets what a throttle held go on when it ends; one whose sensor is off marks it off; a changed
throttling factor is sealed for the next commit point; an acknowledgement of a replaced sensor unfreezes its level and
raises 12.13 cause 1; the loss of a channel, of a position port and of the neutral-point input is taken when its test
holds, and the last stops the TFU and raises 3.m cause 3. (18 R480, 18 R483, 18 R485, 18 R490, 04 R121, 06 R164, 01
R23) -/
def Obligations.ThermalCommands : Prop :=
∀ (s : State) (dt : Nat),
  (∀ (n : Fin 44) (rd : ThermalInput) (raw : Option Int), sensorOn (advance s dt) n = true →
      (∀ a, s.thermal.sensors[n].evalAt = some a → a + evalEvery s n ≤ s.clk + dt) →
      readingOf (advance s dt) n rd = some raw →
      exec (.thermalEvaluation dt n rd) s = .next (settled
        (throttleEnds (throttling (advance s dt)) (envelopeCheck (evalSensor (advance s dt) n raw (rd == .noItem)))))) ∧
  (∀ (n : Fin 44) (rd : ThermalInput), sensorOn (advance s dt) n = false →
      exec (.thermalEvaluation dt n rd) s = .next (settled (sensorOff (advance s dt) n))) ∧
  (∀ (m : Fin 4) (k : Nat), k = factorOf (advance s dt) (machineLevel (advance s dt) m).1 →
      (s.thermal.kSealed[m]).getD s.thermal.k[m] ≠ k →
      exec (.thermalFactorSeal dt m) s = .next (settled ((advance s dt).modThermal (fun t => { t with
        kSealed := vmod t.kSealed m (fun _ => some k) })))) ∧
  (∀ (n : Fin 44), s.thermal.sensors[n].state = .replaced ∨ s.thermal.sensors[n].state = .noEst →
      exec (.thermalAck dt n) s = .next (settled
      (raise ((advance s dt).modSensor n (fun y => { y with frozen := false })) 205 (n.val + 256)))) ∧
  (∀ (m : Fin 4) (i : Fin 5) (c : Fin 4) (seen : LossTest), i.val = c.val → channelTest s m c seen = true →
      exec (.sensorLoss dt m i false seen) s = .next (settled (channelLost (advance s dt) m c))) ∧
  (∀ (m : Fin 4) (i : Fin 5) (seen : LossTest), portTest (advance s dt) m seen = true →
      exec (.sensorLoss dt m i true seen) s = .next (settled (portLoss (advance s dt) m))) ∧
  (∀ (m : Fin 4) (seen : LossTest), npAin s m ≠ none → s.tfu[m].npLost = false → 3 ≤ s.tfu[m].npEnd →
      exec (.sensorLoss dt m 4 false seen) s = .next (settled
      (stopTfu (raise (noteSource ((advance s dt).modTfu m (fun t => { t with npLost := true })) m (48 + m.val) 3)
          (48 + m.val) 3) m)))

/-- The calibration of currents and position ports. A full window, or one of 1 s, is closed and a new one begins; a closed
window is fitted while the calibration runs and H3 is voted, and dropped otherwise; the standstill capture begins
after 100 ms and is judged after 256 boundaries; a half period of a resolver port gives the angle its first value and
then moves the loop; a sin/cos sample moves the count, the angle and the loop, and an angle outside the counted period
counts an error; a collected set of sums is fitted, rejected where it is unsteady, too long or without amplitude;
CAL_RESTART and PORT_CAL_RESTART start a stopped calibration again and refuse one that runs. (04 R111, 04 R113, 14
R362, 14 R363, 14 R365, 14 R366, 14 R367, 14 R371, 23 R593) -/
def Obligations.LiveCalibration : Prop :=
∀ (s : State),
  (∀ (dt : Nat) (m : Fin 4) (k : Fin 3), s.cal.machines[m].stopped = false → s.cal.machines[m].suspended = false →
      s.pm m 0x9003 1 ≤ s.cal.machines[m].win[k].sums.n ∨ s.cal.machines[m].win[k].at' + 200000000 ≤ s.clk + dt →
      exec (.calWindowClose dt m k) s = .next (settled ((advance s dt).modCalM m (fun c => { c with
        closed := vmod c.closed k (fun _ => some s.cal.machines[m].win[k]), win := vmod c.win k (fun _ =>
            { at' := s.clk + dt }) })))) ∧
  (∀ (dt : Nat) (m : Fin 4) (k : Fin 3) (w : CalWindow), s.cal.machines[m].closed[k] = some w →
      s.cal.machines[m].stopped = true ∨ h3Voted s = false →
      exec (.calFit dt m k) s = .next (settled ((advance s dt).modCalM m (fun c =>
          { c with closed := vmod c.closed k (fun _ => none) })))) ∧
  (∀ (u : State) (dt : Nat) (m : Fin 4) (k : Fin 3) (w : CalWindow), s.cal.machines[m].closed[k] = some w →
      s.cal.machines[m].stopped = false → h3Voted s = true →
      u = (advance s dt).modCalM m (fun c => { c with closed := vmod c.closed k (fun _ => none) }) →
      exec (.calFit dt m k) s = .next (settled (if k = 0 then fitPhase u m 0 w else if k = 1 then fitPhase u m 1 w
          else fitZero u m w))) ∧
  (∀ (dt : Nat) (m : Fin 4) (at' : Nat), s.cal.machines[m].stillAt = some at' → at' + 20000000 ≤ s.clk + dt →
      s.cal.machines[m].capture = none → s.cal.machines[m].captured = false →
      exec (.standstillCaptureStart dt m) s = .next (settled ((advance s dt).modCalM m (fun k => { k with
        capture := some (0, [(0, 0, 0), (0, 0, 0), (0, 0, 0)]) })))) ∧
  (∀ (dt : Nat) (m : Fin 4) (n : Nat) (l : List (Int × Int × Int)), s.cal.machines[m].capture = some (n, l) → n < 256 →
      exec (.standstillCaptureEnd dt m) s = .next (settled (advance s dt))) ∧
  (∀ (u : State) (dt : Nat) (m : Fin 4) (n : Nat) (l : List (Int × Int × Int)) (used : List ((Int × Int × Int) × Nat)),
      s.cal.machines[m].capture = some (n, l) → 256 ≤ n →
      used = l.zipIdx.filter (fun x => chanSource s m (finOf 4 x.2) != 0) →
      u = (advance s dt).modCalM m (fun k => { k with capture := none, captured := true }) →
      exec (.standstillCaptureEnd dt m) s = .next (settled (
        if used.all (fun x => decide ((neigh x.1.1 256 - baseOffset s m (finOf 4 x.2)).natAbs ≤ ((256 * s.pm m 0x9003
            3 : Nat) : Int))
          && decide (x.1.2.2 - x.1.2.1 ≤ 16384))
        then used.foldl (fun v x => sealCal v m (finOf 4 x.2) v.cal.machines[m].gain[finOf 4 x.2] (neigh x.1.1 256)) u
        else raise u (192 + m.val) 3))) ∧
  (∀ (u v : State) (dt : Nat) (m : Fin 4) (samples : List (BitVec 14 × BitVec 14)) (sn cs : Int) (x : Int × Int) (r :
      Nat),
      portMode s m = 1 → analogUp s = true → sn = demodulated s m (samples.map (·.1)) →
      cs = demodulated s m (samples.map (·.2)) → r = 1 + Config.outside 2 [m.val] % 8 →
      u = (advance s dt).modPort m (fun y => { y with
          ampRun := if ampBad m sn cs then Nat.min 4 (y.ampRun + 1) else 0 }) →
      x = portCorrect u m sn cs → v = portCollect u m sn cs (atan16 x.1 x.2) s.posPorts[m].loopSpeed →
      s.posPorts[m].locked = false →
      exec (.resolverHalfPeriod dt m samples) s = .next (settled (v.modPort m (fun y => { y with
        pos := BitVec.ofInt 32 (neigh (atan16 x.1 x.2).toNat r), posTick := s.clk + dt, locked := true })))) ∧
  (∀ (u v : State) (dt : Nat) (m : Fin 4) (samples : List (BitVec 14 × BitVec 14)) (sn cs : Int) (x : Int × Int) (r :
      Nat) (now : BitVec 32) (e : Int),
      portMode s m = 1 → analogUp s = true → sn = demodulated s m (samples.map (·.1)) →
      cs = demodulated s m (samples.map (·.2)) → r = 1 + Config.outside 2 [m.val] % 8 →
      u = (advance s dt).modPort m (fun y => { y with
          ampRun := if ampBad m sn cs then Nat.min 4 (y.ampRun + 1) else 0 }) →
      x = portCorrect u m sn cs → v = portCollect u m sn cs (atan16 x.1 x.2) s.posPorts[m].loopSpeed →
      s.posPorts[m].locked = true → now = posNow v m →
      e = angleDiff (atan16 x.1 x.2) (BitVec.ofNat 16 (now.toNat * r)) →
      exec (.resolverHalfPeriod dt m samples) s = .next (settled (v.modPort m (fun y => { y with
        pos := now + BitVec.ofInt 32 (neigh (Config.filter 0 e (s.clk + dt - s.posPorts[m].posTick) (portPar s m 6)) r),
        posTick := s.clk + dt,
        loopSpeed := clampI (-8388352) 8388352
          (y.loopSpeed + Config.filter 1 e (s.clk + dt - s.posPorts[m].posTick) (portPar s m 6)) })))) ∧
  (∀ (u v w : State) (dt : Nat) (m : Fin 4) (cross : Option Bool) (sn cs : BitVec 16) (fast off : Bool) (n ref frac
      ang e : Int) (x : Int × Int),
      portMode s m = 2 → analogUp s = true →
      n = s.posPorts[m].count + (if cross = some true then 1 else if cross = some false then -1 else 0) →
      ref = (if cross = some true then 4096 * n else if cross = some false then 4096 * (n + 1)
          else s.posPorts[m].angle) →
      u = (advance s dt).modPort m (fun y => { y with
          ampAt := if ampBad m sn.toInt cs.toInt then some (y.ampAt.getD (s.clk + dt)) else none }) →
      x = portCorrect u m sn.toInt cs.toInt →
      v = portCollect u m sn.toInt cs.toInt (atan16 x.1 x.2) s.posPorts[m].loopSpeed →
      frac = neigh (atan16 x.1 x.2).toNat 16 →
      ang = (if fast then 4096 * n else ref + ((frac - ref + 2048) % 4096 - 2048)) →
      off = (!fast && (if cross.isSome then decide (1024 < (ang - ref).natAbs)
          else decide (ang < 4096 * n - 1024) || decide (4096 * (n + 1) + 1024 < ang))) →
      w = (if off then countError v m else v) →
      e = (ang - s.posPorts[m].angle) - neigh (s.posPorts[m].loopSpeed * ((s.clk + dt - s.posPorts[m].posTick : Nat)
          : Int) * 4096 * (portPar s m 7 : Nat)) (4 * 65536 * 46875000) →
      exec (.sincosPeriodCount dt m cross sn cs fast) s = .next (settled (w.modPort m (fun y => { y with
        count := if off then ang / 4096 else n,
        angle := ang, interpOff := fast, pos := BitVec.ofInt 32 (neigh (ang * 4 * 65536) (4096 * portPar s m 7)),
            posTick := s.clk + dt,
        loopSpeed := clampI (-8388352) 8388352
          (y.loopSpeed + Config.filter 1 e (s.clk + dt - s.posPorts[m].posTick) (portPar s m 6)) })))) ∧
  (∀ (u : State) (dt : Nat) (m : Fin 4) (x : PortSums), s.cal.ports[m].closed = some x →
      s.cal.ports[m].stopped = false → s.p0 (0x9100 + m.val) 1 ≠ 0 → h3Voted s = true →
      portMode s m = 1 ∨ portMode s m = 2 →
      u = (advance s dt).modCal (fun c => { c with ports := vmod c.ports m (fun y => { y with closed := none }) }) →
      x.steady (if portMode s m = 1 then some (portPar s m 2) else none) = false ∨ 2000000000 < x.span
          ∨ portFitOf x = none →
      exec (.portCalFit dt m) s = .next (settled (portRejected u m))) ∧
  (∀ (u : State) (dt : Nat) (m : Fin 4) (x : PortSums) (f : Int × Int × Int × Int × Int),
      s.cal.ports[m].closed = some x → s.cal.ports[m].stopped = false → s.p0 (0x9100 + m.val) 1 ≠ 0 → h3Voted s = true →
      portMode s m = 1 ∨ portMode s m = 2 →
      u = (advance s dt).modCal (fun c => { c with ports := vmod c.ports m (fun y => { y with closed := none }) }) →
      x.steady (if portMode s m = 1 then some (portPar s m 2) else none) = true → x.span ≤ 2000000000 →
      portFitOf x = some f →
      exec (.portCalFit dt m) s = .next (settled (takePortFit u m f))) ∧
  (∀ (dt : Nat) (m : Fin 4) (tr : Transport) (tag : BitVec 16) (c : Cmd), Starts s tr tag 0x0900 c → c.data = [] →
      s.cal.machines[c.m].stopped = true →
      exec (.calRestart tr tag) s = .next (settled (reply ((begun s tr tag).modCalM c.m (fun k => { k with
        stopped := false, stopCause := 0, consRun := Vector.replicate 2 0, beyondRun :=
            Vector.replicate 2 0 })) c stOK []))) ∧
  (∀ (dt : Nat) (m : Fin 4) (tr : Transport) (tag : BitVec 16) (c : Cmd), Starts s tr tag 0x0900 c →
      s.cal.machines[c.m].stopped = false →
      exec (.calRestart tr tag) s = .next (settled (reply (begun s tr tag) c stREFUSED []))) ∧
  (∀ (dt : Nat) (m : Fin 4) (tr : Transport) (tag : BitVec 16) (c : Cmd) (b : Byte), Starts s tr tag 0x0901 c →
      c.data = [b] → b.toNat = m.val →
      exec (.portCalRestart tr tag) s = .next (settled (if s.cal.ports[m].stopped = true
          then reply ((begun s tr tag).modCal (fun k => { k with
        ports := vmod k.ports m (fun y => { y with stopped := false, beyondRun := 0 }) })) c stOK []
      else reply (begun s tr tag) c stREFUSED [])))

/-- The margins, the rails and the sensors of the control die. A due measurement records the two margins of its region,
and a difference beyond 15 % fixes the region's rail and raises 12.5 cause 1; every 10 ms each region is adjusted in
turn; every second each sensor is compared with the others, and the trims run once the module has been quiet for a
minute and no machine or axis is enabled. (14 R368, 14 R369, 14 R370) -/
def Obligations.RailsAndDieSensors : Prop :=
∀ (s : State),
  (∀ (u : State) (dt : Nat) (k : Fin 9) (m0 m1 : Int),
      (∀ a, s.cal.regions[k].measuredAt = some a → a + 200000 ≤ s.clk + dt) →
      u = (advance s dt).modCal (fun x => { x with
          regions := vmod x.regions k (fun r => { r with margins := (clampI 0 65535 m0, clampI 0 65535 m1), measuredAt := some (s.clk + dt) }) }) →
      exec (.replicaMeasure dt k m0 m1) s = .next (settled (if 150 < (m0 - m1).natAbs
          ∧ s.cal.regions[k].fixed = false then
        raise (u.modCal (fun x => { x with regions := vmod x.regions k (fun r => { r with fixed := true }) })) 197
            (k.val + 16)
      else u))) ∧
  (∀ (dt : Nat), (∀ a, s.cal.railAt = some a → a + 2000000 ≤ s.clk + dt) →
      exec (.railMarginAdjust dt) s = .next (settled (forAll [0, 1, 2, 3, 4, 5, 6, 7, 8] adjustRegion
      ((advance s dt).modCal (fun x => { x with railAt := some (s.clk + dt) }))))) ∧
  (∀ (dt at' : Nat), s.cal.railAt = some at' → s.clk + dt < at' + 2000000 →
      exec (.railMarginAdjust dt) s = .next (settled (advance s dt))) ∧
  (∀ (u : State) (dt : Nat), (∀ a, s.cal.checkAt = some a → a + 200000000 ≤ s.clk + dt) →
      u = forAll tenSensors crossCheck ((advance s dt).modCal (fun x => { x with checkAt := some (s.clk + dt) })) →
      exec (.sensorCrossCheck dt) s = .next (settled (
        if u.anyMachine = false ∧ u.anyAxis = false ∧ u.cal.quietAt + 12000000000 ≤ u.clk then
          (match u.cal.trimAt with
          | some _ => trimSensors u
          | none => u.modCal (fun x => { x with trimAt := some u.clk }))
        else u.modCal (fun x => { x with trimAt := none }))))

/-- Member reports, shares, misses and the transfer. A member report goes to every master of the module, and a share to
every machine that it names; without one nothing changes; a master whose demand is ready distributes once in a sample
and sends a share to each member with a report; a missing report is held and counted, the second in a row marks the
member lost; a missing share is counted, and the second in a row loses the master of a follower; a frame of the
partner arms the transfer when the CRCs agree and disarms it when they do not; a standby channel that is not in RUN in
time takes its fault stop. (13 R344, 13 R345, 13 R346, 13 R348, 13 R349, 13 R350, 13 R352, 13 R353, 13 R354) -/
def Obligations.LoadSharing : Prop :=
∀ (s : State),
  (∀ (dt : Nat) (f : FabFrame) (r : MemberReport) (u : State), f.msg = .memberReport r →
      takeInbox (advance s dt) (fun f => match f.msg with | .memberReport _ => true | _ => false) = some (f, u) →
      exec (.memberReportReceive dt) s = .next (settled (forAll four (fun m v => takeReport v m r f.src) u))) ∧
  (∀ (dt : Nat), s.fabric.inbox = [] →
      exec (.memberReportReceive dt) s = .next (settled (advance s dt)) ∧
      exec (.shareReceive dt) s = .next (settled (advance s dt)) ∧ exec (.transferFrameReceive dt) s = .next (settled
          (advance s dt))) ∧
  (∀ (dt : Nat) (f : FabFrame) (g sender k : Nat) (v : Int) (last : Bool) (u : State),
      f.msg = .share g sender k v last →
      takeInbox (advance s dt) (fun f => match f.msg with | .share .. => true | _ => false) = some (f, u) →
      exec (.shareReceive dt) s = .next (settled (forAll four (fun m s =>
        if member s m ∧ shareGroup s m = g ∧ shareIndex s m = k then takeShare s m sender v last f.src else s) u))) ∧
  (∀ (dt : Nat) (m j : Fin 4) (l : List (Fin 8 × Int)) (sat : Bool) (td den : Int) (n : Counter × Bool),
      isMaster s m = true → s.en m = true → s.share[m].distributed = false → stoveOf s m = some j →
      s.stove[j].running = true → s.stove[j].runAt = none → reportsIn (advance s dt) m = true →
      distribute (advance s dt) m = (l, sat, td, den) →
      n = (if sat then ctrInc 32 s.share[m].saturated else (s.share[m].saturated, false)) →
      exec (.distributorRun dt m) s = .next (settled (sendShares (raiseIf n.2 (raiseIf (sat && !s.share[m].sat)
        ((advance s dt).modShare m (fun x => { x with
          distributed := true, sat := sat, saturated := n.1, td := nearest td den,
          satLimit := if sat then some (decide (0 < td)) else none })) 180 (16 * m.val)) 180 (16 * m.val + 1)) m l))) ∧
  (∀ (u : State) (dt : Nat) (m : Fin 4) (k : Fin 8) (x : MemberSeen) (b : Nat), s.share[m].members[k] = x →
      isMaster s m = true → x.report.isSome = true → x.arrived = false → x.heldNow = false → x.lost = false →
      s.tb.lastBoundary[m] = some b → b + (600 + 400 * groupHops (advance s dt) m) ≤ s.clk + dt →
      u = countMiss ((advance s dt).modShare m (fun y => { y with
          members := vmod y.members k (fun y => { y with heldNow := true, missed := y.missed + 1, rejoin := 0 }) })) m →
      exec (.reportShareMiss dt m (some k)) s = .next (settled (if u.share[m].members[k].missed < 2 then u else
        raiseIf (ctrInc 16 u.share[m].losses).2 (raise (u.modShare m (fun y => { y with
          losses := (ctrInc 16 u.share[m].losses).1,
          members := vmod y.members k (fun y => { y with lost := true, alive := false, missed := 0 }) })) (176 +
              m.val) 0) (176 + m.val) 3))) ∧
  (∀ (u : State) (dt : Nat) (m : Fin 4) (b : Nat), member s m = true → s.en m = true → s.share[m].received = none →
      s.share[m].heldNow = false → s.share[m].masterLost = false → s.tb.lastBoundary[m] = some b →
      b + (s.Ts m - 400) ≤ s.clk + dt →
      u = (countMiss (advance s dt) m).modShare m (fun y => { y with missed := y.missed + 1 }) →
      exec (.reportShareMiss dt m none) s = .next (settled (if 2 ≤ u.share[m].missed ∧ shareRole u m = 1 then
        masterLost (u.modShare m (fun y => { y with missed := 0 })) m else u))) ∧
  (∀ (dt : Nat) (f : FabFrame) (n : Fin 4) (st : Nat) (enabled : Bool) (crc : Option (BitVec 32)) (u : State),
      f.msg = .transfer n st enabled crc →
      takeInbox (advance s dt) (fun f => match f.msg with | .transfer .. => true | _ => false) = some (f, u) →
      exec (.transferFrameReceive dt) s = .next (settled (forAll four (fun m v =>
        if xferRole v m ≠ 0 ∧ v.pm m 0x8201 2 = f.src.toNat ∧ v.pm m 0x8201 3 = n.val
            then takeTransfer v m enabled crc else v) u))) ∧
  (∀ (m : Fin 4) (enabled same : Bool) (c : BitVec 32), same = (c == xferCrc s m) →
      takeTransfer s m enabled (some c) = raiseIf (s.share[m].armed && !same) (s.modShare m (fun x => { x with
        partnerSeen := true, xferArrived := true, xferMissed := 0, partnerActive := enabled, armed :=
            same })) 182 (16 * m.val + 2)) ∧
  (∀ (m : Fin 4) (enabled : Bool),
      takeTransfer s m enabled none = s.modShare m (fun x => { x with
        partnerSeen := true, xferArrived := true, xferMissed := 0, partnerActive := enabled })) ∧
  (∀ (dt : Nat) (m : Fin 4), s.share[m].active = true → s.startM[m].state ≠ .run → s.startM[m].reachedRun = false →
      s.en m = true → s.share[m].xferAt + 200000 * s.pm m 0x8201 4 ≤ s.clk + dt →
      exec (.transferTimeout dt m) s = .next (settled (faultStop (raise (advance s dt) 182 (16 * m.val + 1)) m none)))

/-- The limits of starting, and the TFU decision. A catch that found nothing runs again after 100 ms; a catch, a
magnetising and an open-loop phase that last too long fail the start with causes 4, 5 and 6, and the open-loop one
loses the rotor of a machine that had reached RUN; a machine banked too long loses its rotor; a decision takes the
oldest words of the input latch, on a six-phase pair with those of the second channel for the same strobe, or alone
where a set is lost; on the second channel it only marks the frame that stands ready in time. (01 R28, 01 R30, 06
R171, 07 R189, 07 R190, 07 R195, 07 R200, 07 R205, 05 R140) -/
def Obligations.StartingLimits : Prop :=
∀ (s : State) (dt : Nat) (m : Fin 4),
  (∀ (c : CatchState), s.startM[m].catchSt = some c → s.startM[m].state = .catch' → c.phase = 4 →
      c.startedAt + 20000000 ≤ s.clk + dt →
      exec (.catchRepeat dt m) s = .next (settled (beginCatch (advance s dt) m c.enabledAt))) ∧
  (∀ (c : CatchState), s.startM[m].catchSt = some c → s.startM[m].state = .catch' →
      c.enabledAt + 200000 * (100 * startPar s m 0x2503 6) ≤ s.clk + dt →
      exec (.catchTimeout dt m) s = .next (settled (startFails (advance s dt) m 4))) ∧
  (s.startM[m].state = .magnetise → s.startM[m].magnetiseAt + 200000 * (4 * startPar s m 0x2504 2) ≤ s.clk + dt →
      exec (.magnetiseTimeout dt m) s = .next (settled (startFails (advance s dt) m 5))) ∧
  (s.startM[m].state = .openLoop → s.startM[m].openAt + 200000 * startPar s m 0x2505 10 ≤ s.clk + dt →
      exec (.openTimeout dt m) s = .next (settled
        (if s.startM[m].reachedRun then lostRotor (advance s dt) m 2 else startFails (advance s dt) m 6))) ∧
  (s.startM[m].state = .banked → s.startM[m].reacquiring = false →
      s.startM[m].bankedAt + 200000 * s.pm m 0x2506 1 ≤ s.clk + dt →
      exec (.bankHoldExpiry dt m) s = .next (settled (lostRotor (advance s dt) m 0))) ∧
  (∀ (w : StrobeWords) (rest : List StrobeWords), s.isSecond m = false → isPair s m = false →
      s.tfu[m].inputs = w :: rest → s.en m = true → s.tfu[m].stopped = false → w.at' ≤ s.clk + dt →
      exec (.tfuDecision dt m) s = .next (settled (decision ((advance s dt).modTfu m (fun t =>
          { t with inputs := rest })) m w none))) ∧
  (∀ (w y : StrobeWords) (rest : List StrobeWords), s.isSecond m = false → isPair s m = true →
      s.tfu[m].inputs = w :: rest → s.en m = true → s.tfu[m].stopped = false → w.at' ≤ s.clk + dt →
      s.tfu[second m].inputs.find? (fun z => z.at' == w.at') = some y →
      exec (.tfuDecision dt m) s = .next (settled (decision (((advance s dt).modTfu (second m) (fun t => { t with
        inputs := t.inputs.filter (fun z => decide (w.at' < z.at')) })).modTfu m (fun t =>
            { t with inputs := rest })) m w (some y)))) ∧
  (∀ (w : StrobeWords) (rest : List StrobeWords), s.isSecond m = false → isPair s m = true →
      s.tfu[m].inputs = w :: rest → s.en m = true → s.tfu[m].stopped = false → w.at' ≤ s.clk + dt →
      s.tfu[second m].inputs.find? (fun z => z.at' == w.at') = none →
      exec (.tfuDecision dt m) s = .next (settled (if setLost s m then
        decision ((advance s dt).modTfu m (fun t => { t with inputs := rest })) m w none else advance s dt))) ∧
  (s.isSecond m = true →
      exec (.tfuDecision dt m) s = .next (settled ((advance s dt).modTb (fun b => { b with
        waiting9 := vmod b.waiting9 m (fun l => l.map (fun w =>
          if s.tfu[m].ready.any (fun r => w.at' == r.strobe && decide (s.clk + dt ≤ r.strobe + 120))
              then { w with ready := true } else w)) }))))

/-- Heartbeats, the oscillator and the cross-link. H0 and the Damper send their heartbeats every 100 µs with the next
count, and no sooner; the Damper takes a heartbeat with the next count and a code other than halted and resetting as
good, ends a loss after 10 ms of good ones, and loses the heartbeat on any other and after 500 µs; H0 that misses the
Damper sets every shutdown line and raises 13.12, and what it takes over the cross-link it binds to a transaction; an
oscillator window outside 39,200 to 40,800 and a lost reference are oscillator faults, and 100 good windows end one;
what H0 requests of a machine the Damper carries out; the window of the Damper is refreshed whole and shows an enable
its GEN. (15 R379, 15 R380, 15 R381, 15 R382, 15 R387, 16 R427, 24 R609, 24 R636) -/
def Obligations.SafetyWatch : Prop :=
∀ (s : State),
  (∀ (dt : Nat), h0Runs s = true → (∀ a, s.safety.hbH0At = some a → a + 20000 ≤ s.clk + dt) →
      exec (.heartbeatSend dt true) s = .next (settled
      (((advance s dt).modSafety (fun x => { x with hbH0 := x.hbH0 + 1, hbH0At := some (s.clk + dt) })).put
        (.heartbeat true (s.safety.hbH0 + 1) ((h0Code s).setWidth 32))))) ∧
  (∀ (dt at' : Nat), s.safety.hbH0At = some at' → s.clk + dt < at' + 20000 →
      exec (.heartbeatSend dt true) s = .next (settled (advance s dt))) ∧
  (∀ (dt : Nat), s.safety.damperUp = true → (∀ a, s.safety.hbDamperAt = some a → a + 20000 ≤ s.clk + dt) →
      exec (.heartbeatSend dt false) s = .next (settled
      (((advance s dt).modSafety (fun x => { x with hbDamper := x.hbDamper + 1, hbDamperAt := some (s.clk + dt) })).put
        (.heartbeat false (s.safety.hbDamper + 1) (damperUsec (advance s dt)))))) ∧
  (∀ (u : State) (dt since : Nat) (n : BitVec 4) (code : BitVec 8), s.safety.damperUp = true →
      (∀ x, s.safety.hbSeen = some x → n = x + 1) → code ≠ 4 → code ≠ 5 → since = s.safety.hbGoodAt.getD (s.clk + dt) →
      u = (advance s dt).modSafety (fun x => { x with
          hbSeen := some n, hbSeenAt := s.clk + dt, h0Code := code, hbGoodAt := some since }) →
      exec (.damperHeartbeatReceive dt n code) s = .next (settled (if s.safety.hbLost = true
          ∧ since + 2000000 ≤ s.clk + dt then
        evalSafety (u.modSafety (fun x => { x with hbLost := false })) else u))) ∧
  (∀ (dt : Nat) (n : BitVec 4) (code : BitVec 8), s.safety.damperUp = true →
      code = 4 ∨ code = 5 ∨ ∃ x, s.safety.hbSeen = some x ∧ n ≠ x + 1 →
      exec (.damperHeartbeatReceive dt n code) s = .next (settled (heartbeatLost ((advance s dt).modSafety (fun x =>
          { x with
        hbSeen := some n, hbSeenAt := s.clk + dt, h0Code := code }))))) ∧
  (∀ (dt : Nat), s.safety.damperUp = true → s.safety.hbSeenAt + 100000 ≤ s.clk + dt →
      exec (.damperHeartbeatTimeout dt) s = .next (settled (heartbeatLost (advance s dt)))) ∧
  (∀ (dt : Nat), h0Runs s = true → s.safety.dampLost = false → s.safety.dampSeenAt + 100000 ≤ s.clk + dt →
      exec (.h0HeartbeatTimeout dt) s = .next (settled (evalSafety (forAll four (fun m s => setShutdown s m true)
        (raise ((advance s dt).modSafety (fun x => { x with dampLost := true })) 220 0))))) ∧
  (∀ (dt : Nat) (us : BitVec 32), h0Runs s = true →
      exec (.h0CrosslinkReceive dt us) s = .next (settled (evalSafety (forAll four (fun m v =>
        match v.safety.damper.fns[m].ss1 with
        | some x => startSs1 v true m x.timed
        | none => v)
      (bindInput ((advance s dt).modSafety (fun x => { x with
        dampSeenAt := s.clk + dt, dampSeenUs := us, dampLost := false })) 0 (.crossLink us)))))) ∧
  (∀ (u v : State) (dt : Nat) (m : Fin 4), s.safety.damperUp = true →
      u = (if s.safety.stoReq[m] then modFn (advance s dt) false m (fun f => { f with stoReaction := true })
          else advance s dt) →
      v = (match u.safety.h0.fns[m].ss1 with | some x => startSs1 u false m x.timed | none => u) →
      exec (.crosslinkRequest dt m) s = .next (settled (evalSafety (if v.safety.sbcReq[m] then
        forAll (outsOf v false m) (fun o x => driveOut x o false) v else v)))) ∧
  (∀ (dt : Nat) (n : BitVec 16), s.safety.damperUp = true → n.toNat < 39200 ∨ 40800 < n.toNat →
      exec (.oscWindowEnd dt n) s = .next (settled (oscFails ((advance s dt).modSafety (fun x =>
          { x with oscCount := n }))))) ∧
  (∀ (u : State) (dt : Nat) (n : BitVec 16), s.safety.damperUp = true → 39200 ≤ n.toNat → n.toNat ≤ 40800 →
      u = (advance s dt).modSafety (fun x => { x with oscCount := n, oscGood := Nat.min 100 (x.oscGood + 1) }) →
      exec (.oscWindowEnd dt n) s = .next (settled (if s.safety.oscFault = true ∧ 99 ≤ s.safety.oscGood then
        evalSafety (u.modSafety (fun x => { x with oscFault := false })) else u))) ∧
  (∀ (dt : Nat), s.safety.damperUp = true →
      exec (.damperReferenceTimeout dt) s = .next (settled (oscFails (advance s dt)))) ∧
  (∀ (dt : Nat) (m : Fin 4), s.gl[m].shutdown = false → stoIn s true m = true →
      exec (.shutdownLineSet dt m) s = .next (settled (setShutdown (advance s dt) m true))) ∧
  (∀ (dt a : Nat) (m h : Fin 4), s.gl[m].shutdown = false → h = 1 ∨ h = 2 → s.hearths[h].mode = .halted →
      s.hearths[h].brakeWait = some a → a + 200000 * s.pm m 0x2506 3 ≤ s.clk + dt → s.en m = true → braked s m = true →
      exec (.shutdownLineSet dt m) s = .next (settled (setShutdown (advance s dt) m true))) ∧
  (∀ (dt : Nat), s.safety.damperUp = true →
      exec (.damperWindowRefresh dt) s = .next (settled (forAll four (fun m v => if dmpGen v m then
          v.modDrive m (fun d => { d with enabling := d.enabling.map (fun e => { e with genSeen := true }) })
        else v)
      ((advance s dt).modSafety (fun x => { x with dmp := dmpWords (advance s dt) })))))

/-- Safe inputs, safe outputs and the gate enables. A level that changes starts its filter in both views and a level that
has been stable long enough is accepted in a view; a discrepancy that lasts is a fault of the input; a failed test of
an input path holds the input off until 16 passes; a readback that differs is a fault of the output, as a missing
feedback is; a readback of GEN that differs takes GEN low; the Damper raises GEN only when it is granted, and turns a
brake output on only with GEN high and no SBC. (15 R388, 15 R391, 15 R396, 15 R397, 15 R398, 15 R401, 15 R402, 15
R403, 15 R404) -/
def Obligations.SafeInputsOutputs : Prop :=
∀ (s : State),
  (∀ (dt : Nat) (k : Fin 9) (chB level : Bool),
      exec (.safeInputChange dt k chB level) s = .next (settled
        (changeLevel (changeLevel (advance s dt) false k chB level) true k chB level))) ∧
  (∀ (h0 : Bool) (k : Fin 9) (level : Bool),
      changeLevel s h0 k false level = modInput s h0 k (fun x => { x with
        levelA := level, filterA := if x.levelA = level then x.filterA
          else if levelOn s h0 k false level = x.accA then none else some s.clk })) ∧
  (∀ (h0 : Bool) (k : Fin 9) (level : Bool),
      changeLevel s h0 k true level = modInput s h0 k (fun x => { x with
        levelB := level, filterB := if x.levelB = level then x.filterB
          else if levelOn s h0 k true level = x.accB then none else some s.clk })) ∧
  (∀ (dt at' : Nat) (h0 chB : Bool) (k : Fin 9),
      (if chB then (safeView s h0).inputs[k].filterB else (safeView s h0).inputs[k].filterA) = some at' →
      at' + (196 * inFilter s h0 k - 20) ≤ s.clk + dt →
      h0 = true ∨ (s.safety.damperUp = true ∧ s.safety.loaded = true) →
      exec (.safeInputFilterExpiry dt h0 k chB) s = .next (settled (inputChanged (modInput (advance s dt) h0 k (fun x =>
        if chB then { x with accB := levelOn (advance s dt) h0 k true x.levelB, filterB := none }
        else { x with accA := levelOn (advance s dt) h0 k false x.levelA, filterA := none })) h0 k (inputOn (advance
            s dt) h0 k)))) ∧
  (∀ (u : State) (dt : Nat) (h0 : Bool) (k : Fin 9) (at' : Nat), (safeView s h0).inputs[k].discAt = some at' →
      at' + 200000 * inDisc s h0 k ≤ s.clk + dt → (safeView s h0).inputs[k].disc = false →
      u = modInput (advance s dt) h0 k (fun x => { x with disc := true, onAt := none }) →
      exec (.safeInputDiscrepancy dt h0 k) s = .next (settled (evalSafety
        (if (safeView s (!h0)).inputs[k].disc = false then inputFaultRaise u k 0 else u)))) ∧
  (∀ (u : State) (dt : Nat) (k : Fin 9), s.safety.damperUp = true →
      (∀ a, s.safety.testAt[k] = some a → a + 2000000 ≤ s.clk + dt) →
      u = (advance s dt).modSafety (fun x => { x with
          testAt := vmod x.testAt k (fun _ => some (s.clk + dt)), testHold := vmod x.testHold k (fun _ => some 16),
          inFault := vmod x.inFault k (fun _ => true) }) →
      exec (.safeInputTest dt k false) s = .next (settled (evalSafety
        (if s.safety.inFault[k] = false ∨ s.safety.testHold[k] = none then inputFaultRaise u k 1 else u)))) ∧
  (∀ (dt : Nat) (k : Fin 9), s.safety.damperUp = true → (∀ a, s.safety.testAt[k] = some a → a + 2000000 ≤ s.clk + dt) →
      exec (.safeInputTest dt k true) s = .next (settled ((advance s dt).modSafety (fun x => { x with
        testAt := vmod x.testAt k (fun _ => some (s.clk + dt)),
        testHold := vmod x.testHold k (fun h => h.bind (fun n => if 2 ≤ n then some (n - 1) else none)) })))) ∧
  (∀ (u : State) (dt : Nat) (o : Fin 4) (chB read after : Bool), s.safety.damperUp = true →
      outTestDue (advance s dt) o chB = true →
      u = (advance s dt).modSafety (fun x => { x with
          outs := vmod x.outs o (fun y => if chB then { y with testB := some (s.clk + dt), readB := after } else { y with testA := some (s.clk + dt), readA := after }) }) →
      exec (.safeOutputTest dt o chB read after) s = .next (settled (
        if (read = true ∨ after ≠ (if chB then s.safety.outs[o].b else s.safety.outs[o].a))
            ∧ s.safety.outs[o].fault = false
        then evalSafety (outFails u o 0) else u))) ∧
  (∀ (dt : Nat) (m : Fin 4) (a b : Bool), s.safety.damperUp = true → s.safety.genFault[m] = false →
      (a ≠ s.safety.genA[m] ∨ b ≠ s.safety.genB[m]) →
      exec (.genReadbackFault dt m a b) s = .next (settled (evalSafety (genLow (needRestart
        (raise ((advance s dt).modSafety (fun x => { x with genFault := vmod x.genFault m (fun _ => true) })) 217 (16
            * m.val + 2))
        (fun j => j == m)) m 217 2)))) ∧
  (∀ (dt : Nat) (m : Fin 4), genGranted (advance s dt) m = true →
      exec (.genRaise dt m) s = .next (settled ((advance s dt).modSafety (fun x => { x with
      genA := vmod x.genA m (fun _ => true), genB := vmod x.genB m (fun _ => true) })))) ∧
  (∀ (dt : Nat) (m : Fin 4), genGranted (advance s dt) m = false →
      exec (.genRaise dt m) s = .next (settled (advance s dt))) ∧
  (∀ (dt : Nat) (m : Fin 4) (e : Enabling) (at' : Nat), s.drive[m].enabling = some e → e.genSeen = false →
      e.result = none → s.safety.genReq[m] = some at' → at' + 200000 ≤ s.clk + dt →
      exec (.genRaiseTimeout dt m) s = .next (settled (reachStopped (endEnable (advance s dt) m stEXECFAULT [0xFF,
          0]) m false))) ∧
  (∀ (dt : Nat) (o m : Fin 4), outMachine s o = some m → s.safety.damperUp = true → s.safety.releaseReq[m] = true →
      s.safety.genA[m] = true → s.safety.genB[m] = true → sbcIn s m = false → s.safety.sbcReq[m] = false →
      s.safety.outs[o].fault = false →
      exec (.brakeReleaseRequest dt o) s = .next (settled (driveOut (advance s dt) o true))) ∧
  (∀ (dt : Nat) (o m : Fin 4), outMachine s o = some m → s.safety.damperUp = true → s.safety.releaseReq[m] = true →
      s.safety.genA[m] = false ∨ s.safety.genB[m] = false →
      exec (.brakeReleaseRequest dt o) s = .next (settled ((advance s dt).modSafety (fun x => { x with
        releaseReq := vmod x.releaseReq m (fun _ => false) })))) ∧
  (∀ (dt : Nat) (o : Fin 4) (at' fb : Nat), s.safety.outs[o].feedbackAt = some at' →
      fb = v0 s false (0x6020 + o.val) 4 → at' + 200000 * v0 s false (0x6020 + o.val) 5 ≤ s.clk + dt →
      exec (.brakeFeedbackTimeout dt o) s = .next (settled (
        if fb < 7 ∧ inputOn s false (finOf 9 fb) ≠ (s.safety.outs[o].a && s.safety.outs[o].b) then
          evalSafety (outFails (advance s dt) o 1)
        else (advance s dt).modSafety (fun y => { y with
            outs := vmod y.outs o (fun z => { z with feedbackAt := none }) }))))

/-- The monitoring of motion. The end of t_ss1 ends SS1 with STO, or SBC first; t_sbc_sto after SBC follows STO; t_sos
after the demand the position is captured; t_reach after a lower selection the lower limit is in force; an edge of a
safe position port that has stood for its filter counts up or down by its direction and is checked, and a change of
both levels at once is a fault of the port; the end of a sub-gate shifts the gates and checks the speed; H0 checks the
motion of every machine with a safe position port each 1 ms. (15 R389, 15 R390, 15 R391, 15 R392, 15 R393, 15 R399, 15
R400) -/
def Obligations.MotionMonitoring : Prop :=
∀ (s : State),
  (∀ (dt : Nat) (h0 : Bool) (m : Fin 4) (x : Ss1), (safeView s h0).fns[m].ss1 = some x → x.sbcAt = none →
      x.startedAt + 200000 * vm s h0 m 0x6102 2 ≤ s.clk + dt →
      exec (.ss1TimeExpiry dt h0 m) s = .next (settled (evalSafety (ss1Ends (advance s dt) h0 m)))) ∧
  (∀ (dt : Nat) (h0 : Bool) (m : Fin 4) (x : Ss1) (at' : Nat), (safeView s h0).fns[m].ss1 = some x →
      x.sbcAt = some at' → at' + 200000 * vm s h0 m 0x6101 3 ≤ s.clk + dt →
      exec (.sbcStoDelayExpiry dt h0 m) s = .next (settled (evalSafety (modFn (advance s dt) h0 m (fun f => { f with
        stoReaction := true, ss1 := none }))))) ∧
  (∀ (dt : Nat) (h0 : Bool) (m : Fin 4) (at' : Nat), (safeView s h0).fns[m].sosPos = none →
      (safeView s h0).fns[m].sosAt = some at' → at' + 200000 * vm s h0 m 0x6103 1 ≤ s.clk + dt →
      exec (.sosMonitorStart dt h0 m) s = .next (settled
        (modFn (advance s dt) h0 m (fun f => { f with sosPos := some (viewPos (advance s dt) h0 m).1 })))) ∧
  (∀ (dt : Nat) (h0 : Bool) (m j : Fin 4) (at' : Nat), (safeView s h0).fns[m].slsNext = some (j, at') →
      at' + 200000 * vm s h0 m 0x6104 5 ≤ s.clk + dt →
      exec (.slsReachExpiry dt h0 m) s = .next (settled (modFn (advance s dt) h0 m (fun f =>
          { f with slsSel := j, slsNext := none })))) ∧
  (∀ (u : State) (dt stable : Nat) (q : Fin 2) (a b up : Bool), s.safety.damperUp = true →
      5 * v0 s false (0x6030 + q.val) 3 ≤ stable → (s.safety.ports[q].levelA ≠ a) ≠ (s.safety.ports[q].levelB ≠ b) →
      up = (if s.safety.ports[q].levelA ≠ a then a != b else a == b) →
      u = (advance s dt).modSafety (fun y => { y with
          ports := vmod y.ports q (fun z => { z with levelA := a, levelB := b, pos := if up then z.pos + 1 else z.pos - 1, current := z.current + 1, positive := up }) }) →
      exec (.spPortEdge dt q a b stable) s = .next (settled (match spMachine s q with
        | none => u
        | some m => motionChecks u false m))) ∧
  (∀ (u : State) (dt stable : Nat) (q : Fin 2) (a b : Bool), s.safety.damperUp = true →
      5 * v0 s false (0x6030 + q.val) 3 ≤ stable → s.safety.ports[q].levelA ≠ a → s.safety.ports[q].levelB ≠ b →
      u = (advance s dt).modSafety (fun y => { y with
          ports := vmod y.ports q (fun z => { z with levelA := a, levelB := b, fault := true }) }) →
      exec (.spPortEdge dt q a b stable) s = .next (settled (match spMachine s q with
        | none => u
        | some m => if s.safety.ports[q].fault = true then u else spFails u q m 0 false))) ∧
  (∀ (u : State) (dt : Nat) (q : Fin 2), s.safety.damperUp = true →
      (∀ a, s.safety.ports[q].gateAt = some a → a + 200 * (125 * v0 s false (0x6030 + q.val) 4) ≤ s.clk + dt) →
      u = (advance s dt).modSafety (fun y => { y with
          ports := vmod y.ports q (fun z => { z with gates := Vector.ofFn (fun i : Fin 8 => if i.val = 0 then z.current else z.gates[finOf 8 (i.val - 1)]), current := 0, gateAt := some (s.clk + dt) }) }) →
      exec (.spSubgateEnd dt q) s = .next (settled (match spMachine s q with
        | none => u
        | some m => speedChecks u false m))) ∧
  (∀ (dt : Nat), h0Runs s = true → (∀ a, s.safety.h0CheckAt = some a → a + 200000 ≤ s.clk + dt) →
      exec (.h0SafetyCheck dt) s = .next (settled (forAll four (fun m v => h0Check v m)
        ((advance s dt).modSafety (fun x => { x with h0CheckAt := some (s.clk + dt) }))))) ∧
  (∀ (u : State) (m : Fin 4) (q : Fin 2), spOf s true m = some q →
      u = crossSpeed (motionChecks (speedChecks s true m) true m) q m →
      h0Check s m = (if (∃ p, portOf u m = some p ∧ u.posPorts[p].lost = true) ∧ u.safety.xchk[m] = false then
        spFails u q m 2 true else u))

/-- Safety connections and the safety set. The oldest PDU is checked by both channels when it belongs to a connection, and
dropped otherwise; a connection whose send period is over, or whose status bits have changed for 1 ms, sends its
status with the next SEQ, its time and its CRC, unless the two channels form different ones, which is counted; a
watchdog that runs out loses the connection; SAFETY_SET_LOAD computes the CRC in H0, which raises 13.14 when it is
wrong, and loads the set into a Damper that is up, whose CFG_FAULT tells whether its own CRC is wrong. (15 R407, 15
R410, 15 R411, 15 R412, 15 R413, 15 R416, 15 R417) -/
def Obligations.SafetyConnections : Prop :=
∀ (s : State),
  (∀ (dt tr : Nat) (l : List Byte) (rest : List (Nat × List Byte)) (u : State), s.safety.pduIn = (tr, l) :: rest →
      u = (advance s dt).modSafety (fun x => { x with pduIn := rest }) →
      exec (.safetyPduReceive dt) s = .next (settled (match pduConn u tr l with
        | none => u
        | some c => if s.safety.damperUp then pduBoth u c l else u))) ∧
  (∀ (dt : Nat) (c : Fin 8) (pdu : List Byte), connOn s true c = true → h0Runs s = true → s.safety.damperUp = true →
      (∀ a, s.safety.links[c].sentAt = some a → a + 200000 * s.p0 (0x6040 + c.val) 7 ≤ s.clk + dt
          ∨ (a + 200000 ≤ s.clk + dt ∧ statusPayload (advance s dt) true ≠ s.safety.links[c].sentBits)) →
      pdu = statusPdu (advance s dt) true c (s.safety.links[c].seq + 1) →
      statusPdu (advance s dt) false c (s.safety.links[c].seq + 1) = pdu →
      exec (.safetyPduSend dt c) s = .next (settled (carryPdu ((modLinkS (advance s dt) c (fun y => { y with
        seq := y.seq + 1, sentAt := some (s.clk + dt), sentBits := statusPayload (advance s dt) true })).put
            (.safetyPdu c pdu)) c pdu))) ∧
  (∀ (dt : Nat) (c : Fin 8) (pdu : List Byte), connOn s true c = true → h0Runs s = true → s.safety.damperUp = true →
      (∀ a, s.safety.links[c].sentAt = some a → a + 200000 * s.p0 (0x6040 + c.val) 7 ≤ s.clk + dt
          ∨ (a + 200000 ≤ s.clk + dt ∧ statusPayload (advance s dt) true ≠ s.safety.links[c].sentBits)) →
      pdu = statusPdu (advance s dt) true c (s.safety.links[c].seq + 1) →
      statusPdu (advance s dt) false c (s.safety.links[c].seq + 1) ≠ pdu →
      exec (.safetyPduSend dt c) s = .next (settled (raiseIf (ctrInc 16 s.safety.links[c].disagreements).2
        (modLinkS (advance s dt) c (fun y => { y with
          disagreements := (ctrInc 16 s.safety.links[c].disagreements).1, sentAt :=
              some (s.clk + dt) })) 223 (16 * c.val + 2)))) ∧
  (∀ (h0 : Bool) (c : Fin 8) (seq : BitVec 16) (texp : BitVec 32) (body : List Byte),
      texp = (if timeMaster s h0 c then damperUsec s else (safeView s h0).conns[c].lastTexp) →
      body = beBytes 2 (v0 s h0 (0x6040 + c.val) 4) ++ beBytes 2 seq.toNat ++ beBytes 4 texp.toNat ++ statusPayload s
          h0 →
      statusPdu s h0 c seq = body ++ beBytes 4 (pduCrc (ownId s h0) (partnerId s h0 c) body).toNat) ∧
  (∀ (dt : Nat) (h0 : Bool) (c : Fin 8) (at' : Nat), connOn s h0 c = true → (safeView s h0).conns[c].lost = false →
      (safeView s h0).conns[c].lastAt = some at' → at' + 200000 * v0 s h0 (0x6040 + c.val) 6 ≤ s.clk + dt →
      exec (.safetyWatchdogExpiry dt h0 c) s = .next (settled (connLost (advance s dt) h0 c (some 6)))) ∧
  (∀ (u v w : State) (dt : Nat) (crc : BitVec 32) (bad : Bool), h0Runs s = true → crc = safetyCrc (advance s dt) →
      bad = decide (crc ≠ BitVec.ofNat 32 (s.p0 0x6000 1)) →
      u = raiseIf bad ((advance s dt).modSafety (fun x => { x with crcH0 := crc })) 222 0 →
      v = raiseIf bad (u.modSafety (fun x => { x with
          crcDamper := crc, loaded := true, cfgFault := bad,
          set := u.porter.params.filter (fun c => decide (0x6000 ≤ keyIdx c.1) && decide (keyIdx c.1 < 0x7000)) }))
          222 1 →
      w = (if bad then needRestart v (fun _ => true) else v) →
      exec (.safetySetLoad dt) s = .next (settled (if u.safety.damperUp = false then u else
        evalSafety (startWatchdogs (startWatchdogs (if u.safety.loaded = false then startFilters w
            else w) false) true))))

/-- A step runs the command at the front of the queue. For every command and state, a step of the state with the command
at the front of its queue is the command's execution on the state with the rest of the queue. (95 What each step
holds) -/
def Obligations.StepRunsFront : Prop :=
∀ (s : State) (c : Instr) (rest : List Instr), step { s with pending := c :: rest } = exec c { s with pending := rest }

/-- Every command completes, and an empty queue lets one tick pass. Every command answers a next state on every state and
operands, with the reactions and the replies that follow it; on an empty queue one tick passes, which is the model's
choice (log 1). (95 What each step holds) -/
def Obligations.StepAlwaysAnswers : Prop :=
(∀ (c : Instr) (s : State), ∃ u : State, exec c s = .next (settled u)) ∧
(∀ s : State, s.pending = [] → step s = .next (advance s 1)) ∧
(∀ (c : Instr) (rest : List Instr) (s : State), s.pending = c :: rest → ∃ t : State, step s = .next t)

/-- What reset leaves. After reset the status words read their reset values, HRT_STAT 0x07F8_0000 on every Hearth,
TB_STAT, FLUE_SUM and the time stamp 0, DMP status 0x80E0_0800 of every machine; no command waits and no reply is
left. (15 R420, 16 R449, 17 R471, 24 R603, 02 R48) -/
def Obligations.ResetState : Prop :=
(∀ h : Fin 4, regWord State.reset (0x40030000 + 0x100 * h.val) = some 0x07F80000) ∧
regWord State.reset 0x40000008 = some 0 ∧ regWord State.reset 0x40010000 = some 0 ∧ State.reset.tb.now = 0 ∧
(∀ m : Fin 4, regWord State.reset (0x40100010 + 4 * m.val) = some 0x80E00800) ∧
State.reset.pending = [] ∧ Calm State.reset ∧ Silent State.reset ∧ Flushed State.reset
    ∧ Memory.wf State.reset.mem = true

/-- After every step, only packets that must wait are left in the reply queue. In every state that a step reaches from a
state with the same property, no packet for the fabric is left in the reply queue, and one for Ethernet is left only
while an ARP request for its next hop is out. (03 R79, 21 R544, 20 R531) -/
def Obligations.RepliesLeave : Prop :=
∀ (s t : State), Flushed s → step s = .next t → Flushed t

/-- What follows a command changes nothing of the machines. When no reaction is requested and nothing is left to send,
what follows a command changes nothing; when no reaction is requested, the replies that leave change nothing but the
Porter, the ports, CAN, the fabric, what a raise writes and what the module puts out. (03 R79, 17 R457, 17 R470) -/
def Obligations.CommandAftermath : Prop :=
(∀ s : State, Calm s → Silent s → settled s = s) ∧
(∀ s : State, Calm s → (settled s).clk = s.clk ∧ (settled s).tb = s.tb ∧ (settled s).store = s.store
    ∧ (settled s).trace = s.trace ∧
  (settled s).mem.sram = s.mem.sram ∧ (settled s).mem.mram = s.mem.mram ∧ (settled s).thermal = s.thermal
      ∧ (settled s).chans = s.chans ∧
  (settled s).ain = s.ain ∧ (settled s).sar = s.sar ∧ (settled s).posPorts = s.posPorts ∧ (settled s).lats = s.lats
      ∧ (settled s).tfu = s.tfu ∧
  (settled s).obs = s.obs ∧ (settled s).startM = s.startM ∧ (settled s).stove = s.stove ∧ (settled s).prof = s.prof ∧
  (settled s).axes = s.axes ∧ (settled s).legs = s.legs ∧ (settled s).auxLink = s.auxLink ∧ (settled s).gl = s.gl ∧
  (settled s).drive = s.drive ∧ (settled s).share = s.share ∧ (settled s).cal = s.cal ∧ (settled s).safety = s.safety ∧
  (settled s).hearths = s.hearths ∧ (settled s).pending = s.pending ∧ (settled s).porter.params = s.porter.params)

/-- A diagnostic counter stops at its greatest value and sets OVF once. An increment adds one below 2^w − 1 and there
keeps the count and sets OVF, its event comes on the step of OVF from 0 to 1 only, a written one clears OVF and not
the count; n increments from 0 give the lesser of n and 2^w − 1, with OVF set from the increment 2^w on. (00 R8) -/
def Obligations.DiagnosticCounter : Prop :=
∀ (w : Nat),
  (∀ (c : Counter), c.val + 1 < 2 ^ w → ctrInc w c = ({ c with val := c.val + 1 }, false)) ∧
  (∀ (c : Counter), c.val + 1 = 2 ^ w → ctrInc w c = ({ c with ovf := true }, !c.ovf)) ∧
  (∀ (c : Counter) (b : Bool), (ctrClr c b).val = c.val ∧ (ctrClr c b).ovf = (c.ovf && !b)) ∧
  (∀ (n : Nat), (Nat.repeat (fun c : Counter => (ctrInc w c).1) n {}) =
      { val := Nat.min n (2 ^ w - 1), ovf := decide (2 ^ w ≤ n) })

/-- The time stamp counts ticks and wraps. While the tick count runs and no steering step is due, the 56-bit stamp counts
every tick modulo 2^56; the pass over its greatest value raises the timebase wrap event, source 2.15, once, and
without one nothing is raised. (00 R4) -/
def Obligations.TimeStamp : Prop :=
(∀ (s : State) (dt : Nat), s.tb.counting = true → s.tb.stepDue = 0 →
    (advance s dt).tb.now.toNat = (s.tb.now.toNat + dt) % 2 ^ 56) ∧
(∀ (s : State) (dt : Nat), s.tb.counting = true → s.tb.stepDue = 0 → 2 ^ 56 ≤ s.tb.now.toNat + dt →
    exec (.timebaseWrap dt) s = .next (settled (raise ((advance s dt).modTb (fun t =>
        { t with wrapDue := false })) 47 0))) ∧
(∀ (s : State) (dt : Nat), s.tb.wrapDue = false → s.tb.stepDue = 0 → s.tb.now.toNat + dt < 2 ^ 56 →
    exec (.timebaseWrap dt) s = .next (settled (advance s dt)))

/-- A steering step changes the grid by one tick. With steering left and 100 µs since the last step, a sample boundary of
M0 makes one step, shows STEPPED, and the stamp then counts one tick fewer or more once; without, STEPPED goes and
nothing else changes. (01 R26, 20 R534, 24 R603) -/
def Obligations.SteeringStep : Prop :=
∀ (s : State),
  (s.tb.steer ≠ 0 → (∀ a : Nat, s.tb.stepAt = some a → a + 20000 ≤ s.clk) → s.tb.stepDue = 0 →
    (steerStep s).tb.stepped = true ∧ (steerStep s).tb.steer.natAbs + 1 = s.tb.steer.natAbs
        ∧ (steerStep s).tb.now = s.tb.now ∧
    (∀ d : Nat, s.tb.counting = true → s.tb.now.toNat + d + 3 < 2 ^ 56 →
      ((advance (steerStep s) (d + 2)).tb.now.toNat : Int) = s.tb.now.toNat + d + 2 - s.tb.steer.sign ∧
      (advance (advance (steerStep s) 1) (d + 1)).tb = (advance (steerStep s) (d + 2)).tb)) ∧
  (s.tb.steer = 0 → steerStep s = s.modTb (fun t => { t with stepped := false }))

/-- A raise sets the sticky bit of its source, and FLUE_SUM and FLUE_LIVE show the sources. Once the boot ROM has begun,
every raise of a source, as an event or as the report of an operation whose line was inactive, leaves the sticky bit
of that source set; bit g of FLUE_SUM is set exactly while a sticky bit of group g is, and the words of FLUE_LIVE show
the level of every line. (17 R455) -/
def Obligations.StickyBits : Prop :=
(∀ (s : State) (src : Fin 256) (addr : Nat), s.start.bootBegun = true → sticky (raise s src.val addr) src.val = true) ∧
(∀ (s : State) (src : Fin 256) (addr kind : Nat) (r : Retry), s.start.bootBegun = true → live s src.val = false →
    sticky (raiseOp s src.val addr kind r) src.val = true) ∧
(∀ (s : State) (g : Fin 16), bit (flueSum s) g.val = true ↔ ∃ b : Fin 16, sticky s (16 * g.val + b.val) = true) ∧
(∀ (s : State) (i : Fin 8), ∃ w : Nat, regWord s (0x40010040 + 4 * i.val) = some w ∧
    ∀ b : Fin 32, bit w b.val = live s (32 * i.val + b.val))

/-- A first-error record stays latched until its release. A raise keeps the source, the stamp and the address of the
first-error and next-error records that are latched, as a recovery does; a release moves the next-error record into
the first with MOVED set, and frees it; a next-error record of the release's own tick is latched after it, as a
first-error record that has not moved. (17 R462, 17 R463) -/
def Obligations.RecordsStay : Prop :=
∀ (s : State) (r : FaultRec),
  (∀ (src addr : Nat), s.flue.fer = some r → ∃ r' : FaultRec, (raise s src addr).flue.fer = some r' ∧
    r'.source = r.source ∧ r'.stamp = r.stamp ∧ r'.addr = r.addr ∧ r'.recovered = r.recovered) ∧
  (∀ (src addr : Nat) (f : FaultRec), s.flue.fer = some f → s.flue.ner = some r → ∃ r' : FaultRec,
      (raise s src addr).flue.ner = some r' ∧
    r'.source = r.source ∧ r'.stamp = r.stamp ∧ r'.addr = r.addr) ∧
  (∀ (src : Nat), s.flue.fer = some r → r.source.toNat = src → ∃ r' : FaultRec, (recover s src).flue.fer = some r' ∧
    r'.source = r.source ∧ r'.stamp = r.stamp ∧ r'.recovered = true) ∧
  (s.flue.ner = some r → s.flue.raisedAt ≠ s.clk →
    (releaseFer s).flue.fer = some { r with moved := true } ∧ (releaseFer s).flue.ner = none) ∧
  (s.flue.ner = some r → latchedNow s r = true →
    (releaseFer s).flue.fer = some { r with sameTick := false } ∧ (releaseFer s).flue.ner = none) ∧
  (s.flue.ner = none → (releaseFer s).flue.fer = none)

/-- A sequence number is accepted once. A sequence number that was accepted is refused afterwards; one that is refused
stays refused when another is accepted, as long as it is not 2^31 or more behind; the other numbers of the window that
were not yet accepted stay acceptable. (03 R84, 00 R9) -/
def Obligations.ReplayWindow : Prop :=
∀ (x : Session) (q : BitVec 32), seqOk x q = true →
  seqOk (seqTake x q) q = false ∧
  (∀ r : BitVec 32, seqOk x r = false → ((seqTake x q).seqHigh - r).toNat ≤ 2 ^ 31 → seqOk (seqTake x q) r = false) ∧
  (∀ r : BitVec 32, seqOk x r = true → r ≠ q → ((seqTake x q).seqHigh - r).toNat ≤ 32 → seqOk (seqTake x q) r = true)

/-- Carriage of a packet on CAN and on a serial port. The segments of a packet hold its bytes in order, each at most one
control byte and the bytes that the frame takes, with FIRST in the first only, LAST in the last only and the count
modulo 64; escaping leaves no frame byte in the packet, and the receiver undoes it. (03 R79, 03 R80) -/
def Obligations.PacketCarriage : Prop :=
(∀ (f : CanFormat) (l : List Byte), (segments f l).flatMap List.tail = l ∧
  ∀ (k : Nat) (h : k < (segments f l).length), (segments f l)[k].length ≤ segBytes f + 1 ∧
    (segments f l)[k].head? = some (BitVec.ofNat 8 (flag (k == 0) 7 + flag (k + 1 == (segments f l).length) 6 + k %
        64))) ∧
(∀ (l : List Byte), unescape (escape l) = some l ∧ (0x7E : Byte) ∉ escape l)

/-- The packets that the module sends have the layout that it parses. Every reply and completion has the length that its
header names, ends with the CRC of what stands before it, and gives back its kind, opcode with bit 15 set, tag,
status, length, level, session and data. (03 R65, 03 R68, 03 R69, 03 R70) -/
def Obligations.PacketLayout : Prop :=
∀ (r : Reply), r.data.length ≤ 1024 → ∃ h : Hdr, parseHdr r.bytes = h ∧ r.bytes.length = packetLen h ∧
  beNat (r.bytes.drop (r.bytes.length - 4)) = (crc32c (r.bytes.take (r.bytes.length - 4))).toNat ∧
  h.version = 3 ∧ h.reserved = false ∧ h.hop = 0 ∧ h.completion = r.completion ∧ h.auth = (r.sv && !r.key.isEmpty) ∧
  h.opcode = r.opcode ||| 0x8000#16 ∧ h.tag = r.tag ∧ h.target = r.status ∧ h.length = r.data.length
      ∧ h.level = r.level ∧
  h.sv = r.sv ∧ h.session = r.session ∧ (r.bytes.drop 16).take h.length = r.data

/-- An entry that is written is read back whole. On a memory in canonical form, the entry that JOURNAL_WRITE takes from
the queue stands in the ring with the next SEQ and reads back undamaged, and the bytes of every other place of the
ring stay as they were. (22 R565, 22 R566, 23 R590) -/
def Obligations.JournalKeepsEntries : Prop :=
∀ (s : State) (dt : Nat) (e : JournalItem) (rest : List JournalItem), Memory.wf s.mem = true
    → s.journal.lostPending = 0 →
  s.journal.queue = e :: rest → ∃ u : State, exec (.journalWrite dt false) s = .next (settled u) ∧
    readEntry u s.journal.nextSeq.toNat = 0 :: entryBytes s.journal.nextSeq e
        ∧ u.journal.nextSeq = s.journal.nextSeq + 1 ∧
    (∀ q : Nat, q % 524288 ≠ s.journal.nextSeq.toNat % 524288 →
      cellsGet u.mem.mram (ringAddr q) 32 = cellsGet s.mem.mram (ringAddr q) 32) ∧
    u.mem.sram = s.mem.sram ∧ u.drive = s.drive ∧ u.tfu = s.tfu

/-- The commands that write memory keep it in canonical form. From a memory in canonical form, the write of a journal
entry, of a voted transaction and of a debug access leave one. (22 R556, 22 R558, 22 R565) -/
def Obligations.MemoryStaysCanonical : Prop :=
∀ (s : State) (dt : Nat), Memory.wf s.mem = true →
  (∀ (bad : Bool), ∃ u : State, exec (.journalWrite dt bad) s = .next (settled u) ∧ Memory.wf u.mem = true) ∧
  (∀ (h : Fin 4) (l : List (Fin 3 × LaneEntry)) (m g : Vector (Option LaneEntry) 3) (b c : Vector Bool 2), ∃ u : State,
    exec (.transactionVote dt h l m g b c) s = .next (settled u) ∧ Memory.wf u.mem = true) ∧
  (∀ (h : Fin 4) (shared : Bool) (a v : BitVec 32), ∃ u : State,
    exec (.replayWrite dt h shared a v) s = .next (settled u) ∧ Memory.wf u.mem = true)
end

