-- ==== Sys2Proof/Laws/State.lean ====
section
/-! SUPPORT. The small laws of the state: for each update of one block, every other field is unchanged and the block is
its image; the same for the passage of time and for what is put out. -/
namespace Sys2Proof.Machine

/-- `modTb` changes `tb` alone. -/
@[simp] theorem State.modTb_fields (s : State) (f : Timebase → Timebase) :
     (s.modTb f).clk = s.clk ∧ (s.modTb f).freeCtr = s.freeCtr ∧ (s.modTb f).out = s.out ∧ (s.modTb f).start = s.start ∧
    (s.modTb f).store = s.store ∧ (s.modTb f).flue = s.flue ∧ (s.modTb f).journal = s.journal ∧
    (s.modTb f).trace = s.trace ∧ (s.modTb f).mem = s.mem ∧ (s.modTb f).porter = s.porter ∧
    (s.modTb f).thermal = s.thermal ∧ (s.modTb f).can = s.can ∧ (s.modTb f).fabric = s.fabric ∧
    (s.modTb f).ports = s.ports ∧ (s.modTb f).chans = s.chans ∧ (s.modTb f).ain = s.ain ∧ (s.modTb f).sar = s.sar ∧
    (s.modTb f).posPorts = s.posPorts ∧ (s.modTb f).lats = s.lats ∧ (s.modTb f).tfu = s.tfu ∧ (s.modTb f).obs = s.obs ∧
    (s.modTb f).startM = s.startM ∧ (s.modTb f).stove = s.stove ∧ (s.modTb f).prof = s.prof ∧
    (s.modTb f).axes = s.axes ∧ (s.modTb f).legs = s.legs ∧ (s.modTb f).auxLink = s.auxLink ∧ (s.modTb f).gl = s.gl ∧
    (s.modTb f).drive = s.drive ∧ (s.modTb f).share = s.share ∧ (s.modTb f).cal = s.cal ∧
    (s.modTb f).safety = s.safety ∧ (s.modTb f).hearths = s.hearths ∧ (s.modTb f).pending = s.pending ∧
    (s.modTb f).tb = f s.tb := by
  repeat' (first | refine ⟨?_, ?_⟩ | rfl)

/-- `modStart` changes `start` alone. -/
@[simp] theorem State.modStart_fields (s : State) (f : Start → Start) :
     (s.modStart f).clk = s.clk ∧ (s.modStart f).freeCtr = s.freeCtr ∧ (s.modStart f).out = s.out ∧
    (s.modStart f).tb = s.tb ∧ (s.modStart f).store = s.store ∧ (s.modStart f).flue = s.flue ∧
    (s.modStart f).journal = s.journal ∧ (s.modStart f).trace = s.trace ∧ (s.modStart f).mem = s.mem ∧
    (s.modStart f).porter = s.porter ∧ (s.modStart f).thermal = s.thermal ∧ (s.modStart f).can = s.can ∧
    (s.modStart f).fabric = s.fabric ∧ (s.modStart f).ports = s.ports ∧ (s.modStart f).chans = s.chans ∧
    (s.modStart f).ain = s.ain ∧ (s.modStart f).sar = s.sar ∧ (s.modStart f).posPorts = s.posPorts ∧ (s.modStart f).lats = s.lats ∧
    (s.modStart f).tfu = s.tfu ∧ (s.modStart f).obs = s.obs ∧ (s.modStart f).startM = s.startM ∧
    (s.modStart f).stove = s.stove ∧ (s.modStart f).prof = s.prof ∧ (s.modStart f).axes = s.axes ∧
    (s.modStart f).legs = s.legs ∧ (s.modStart f).auxLink = s.auxLink ∧ (s.modStart f).gl = s.gl ∧
    (s.modStart f).drive = s.drive ∧ (s.modStart f).share = s.share ∧ (s.modStart f).cal = s.cal ∧
    (s.modStart f).safety = s.safety ∧ (s.modStart f).hearths = s.hearths ∧ (s.modStart f).pending = s.pending ∧
    (s.modStart f).start = f s.start := by
  repeat' (first | refine ⟨?_, ?_⟩ | rfl)

/-- `modStore` changes `store` alone. -/
@[simp] theorem State.modStore_fields (s : State) (f : Store → Store) :
     (s.modStore f).clk = s.clk ∧ (s.modStore f).freeCtr = s.freeCtr ∧ (s.modStore f).out = s.out ∧
    (s.modStore f).tb = s.tb ∧ (s.modStore f).start = s.start ∧ (s.modStore f).flue = s.flue ∧
    (s.modStore f).journal = s.journal ∧ (s.modStore f).trace = s.trace ∧ (s.modStore f).mem = s.mem ∧
    (s.modStore f).porter = s.porter ∧ (s.modStore f).thermal = s.thermal ∧ (s.modStore f).can = s.can ∧
    (s.modStore f).fabric = s.fabric ∧ (s.modStore f).ports = s.ports ∧ (s.modStore f).chans = s.chans ∧
    (s.modStore f).ain = s.ain ∧ (s.modStore f).sar = s.sar ∧ (s.modStore f).posPorts = s.posPorts ∧ (s.modStore f).lats = s.lats ∧
    (s.modStore f).tfu = s.tfu ∧ (s.modStore f).obs = s.obs ∧ (s.modStore f).startM = s.startM ∧
    (s.modStore f).stove = s.stove ∧ (s.modStore f).prof = s.prof ∧ (s.modStore f).axes = s.axes ∧
    (s.modStore f).legs = s.legs ∧ (s.modStore f).auxLink = s.auxLink ∧ (s.modStore f).gl = s.gl ∧
    (s.modStore f).drive = s.drive ∧ (s.modStore f).share = s.share ∧ (s.modStore f).cal = s.cal ∧
    (s.modStore f).safety = s.safety ∧ (s.modStore f).hearths = s.hearths ∧ (s.modStore f).pending = s.pending ∧
    (s.modStore f).store = f s.store := by
  repeat' (first | refine ⟨?_, ?_⟩ | rfl)

/-- `modFlue` changes `flue` alone. -/
@[simp] theorem State.modFlue_fields (s : State) (f : Flue → Flue) :
     (s.modFlue f).clk = s.clk ∧ (s.modFlue f).freeCtr = s.freeCtr ∧ (s.modFlue f).out = s.out ∧ (s.modFlue f).tb = s.tb ∧
    (s.modFlue f).start = s.start ∧ (s.modFlue f).store = s.store ∧ (s.modFlue f).journal = s.journal ∧
    (s.modFlue f).trace = s.trace ∧ (s.modFlue f).mem = s.mem ∧ (s.modFlue f).porter = s.porter ∧
    (s.modFlue f).thermal = s.thermal ∧ (s.modFlue f).can = s.can ∧ (s.modFlue f).fabric = s.fabric ∧
    (s.modFlue f).ports = s.ports ∧ (s.modFlue f).chans = s.chans ∧ (s.modFlue f).ain = s.ain ∧ (s.modFlue f).sar = s.sar ∧
    (s.modFlue f).posPorts = s.posPorts ∧ (s.modFlue f).lats = s.lats ∧ (s.modFlue f).tfu = s.tfu ∧
    (s.modFlue f).obs = s.obs ∧ (s.modFlue f).startM = s.startM ∧ (s.modFlue f).stove = s.stove ∧
    (s.modFlue f).prof = s.prof ∧ (s.modFlue f).axes = s.axes ∧ (s.modFlue f).legs = s.legs ∧
    (s.modFlue f).auxLink = s.auxLink ∧ (s.modFlue f).gl = s.gl ∧ (s.modFlue f).drive = s.drive ∧
    (s.modFlue f).share = s.share ∧ (s.modFlue f).cal = s.cal ∧ (s.modFlue f).safety = s.safety ∧
    (s.modFlue f).hearths = s.hearths ∧ (s.modFlue f).pending = s.pending ∧ (s.modFlue f).flue = f s.flue := by
  repeat' (first | refine ⟨?_, ?_⟩ | rfl)

/-- `modJournal` changes `journal` alone. -/
@[simp] theorem State.modJournal_fields (s : State) (f : Journal → Journal) :
     (s.modJournal f).clk = s.clk ∧ (s.modJournal f).freeCtr = s.freeCtr ∧ (s.modJournal f).out = s.out ∧
    (s.modJournal f).tb = s.tb ∧ (s.modJournal f).start = s.start ∧ (s.modJournal f).store = s.store ∧
    (s.modJournal f).flue = s.flue ∧ (s.modJournal f).trace = s.trace ∧ (s.modJournal f).mem = s.mem ∧
    (s.modJournal f).porter = s.porter ∧ (s.modJournal f).thermal = s.thermal ∧ (s.modJournal f).can = s.can ∧
    (s.modJournal f).fabric = s.fabric ∧ (s.modJournal f).ports = s.ports ∧ (s.modJournal f).chans = s.chans ∧
    (s.modJournal f).ain = s.ain ∧ (s.modJournal f).sar = s.sar ∧ (s.modJournal f).posPorts = s.posPorts ∧ (s.modJournal f).lats = s.lats ∧
    (s.modJournal f).tfu = s.tfu ∧ (s.modJournal f).obs = s.obs ∧ (s.modJournal f).startM = s.startM ∧
    (s.modJournal f).stove = s.stove ∧ (s.modJournal f).prof = s.prof ∧ (s.modJournal f).axes = s.axes ∧
    (s.modJournal f).legs = s.legs ∧ (s.modJournal f).auxLink = s.auxLink ∧ (s.modJournal f).gl = s.gl ∧
    (s.modJournal f).drive = s.drive ∧ (s.modJournal f).share = s.share ∧ (s.modJournal f).cal = s.cal ∧
    (s.modJournal f).safety = s.safety ∧ (s.modJournal f).hearths = s.hearths ∧ (s.modJournal f).pending = s.pending ∧
    (s.modJournal f).journal = f s.journal := by
  repeat' (first | refine ⟨?_, ?_⟩ | rfl)

/-- `modTrace` changes `trace` alone. -/
@[simp] theorem State.modTrace_fields (s : State) (f : Trace → Trace) :
     (s.modTrace f).clk = s.clk ∧ (s.modTrace f).freeCtr = s.freeCtr ∧ (s.modTrace f).out = s.out ∧
    (s.modTrace f).tb = s.tb ∧ (s.modTrace f).start = s.start ∧ (s.modTrace f).store = s.store ∧
    (s.modTrace f).flue = s.flue ∧ (s.modTrace f).journal = s.journal ∧ (s.modTrace f).mem = s.mem ∧
    (s.modTrace f).porter = s.porter ∧ (s.modTrace f).thermal = s.thermal ∧ (s.modTrace f).can = s.can ∧
    (s.modTrace f).fabric = s.fabric ∧ (s.modTrace f).ports = s.ports ∧ (s.modTrace f).chans = s.chans ∧
    (s.modTrace f).ain = s.ain ∧ (s.modTrace f).sar = s.sar ∧ (s.modTrace f).posPorts = s.posPorts ∧ (s.modTrace f).lats = s.lats ∧
    (s.modTrace f).tfu = s.tfu ∧ (s.modTrace f).obs = s.obs ∧ (s.modTrace f).startM = s.startM ∧
    (s.modTrace f).stove = s.stove ∧ (s.modTrace f).prof = s.prof ∧ (s.modTrace f).axes = s.axes ∧
    (s.modTrace f).legs = s.legs ∧ (s.modTrace f).auxLink = s.auxLink ∧ (s.modTrace f).gl = s.gl ∧
    (s.modTrace f).drive = s.drive ∧ (s.modTrace f).share = s.share ∧ (s.modTrace f).cal = s.cal ∧
    (s.modTrace f).safety = s.safety ∧ (s.modTrace f).hearths = s.hearths ∧ (s.modTrace f).pending = s.pending ∧
    (s.modTrace f).trace = f s.trace := by
  repeat' (first | refine ⟨?_, ?_⟩ | rfl)

/-- `modMem` changes `mem` alone. -/
@[simp] theorem State.modMem_fields (s : State) (f : Mem → Mem) :
     (s.modMem f).clk = s.clk ∧ (s.modMem f).freeCtr = s.freeCtr ∧ (s.modMem f).out = s.out ∧ (s.modMem f).tb = s.tb ∧
    (s.modMem f).start = s.start ∧ (s.modMem f).store = s.store ∧ (s.modMem f).flue = s.flue ∧
    (s.modMem f).journal = s.journal ∧ (s.modMem f).trace = s.trace ∧ (s.modMem f).porter = s.porter ∧
    (s.modMem f).thermal = s.thermal ∧ (s.modMem f).can = s.can ∧ (s.modMem f).fabric = s.fabric ∧
    (s.modMem f).ports = s.ports ∧ (s.modMem f).chans = s.chans ∧ (s.modMem f).ain = s.ain ∧ (s.modMem f).sar = s.sar ∧
    (s.modMem f).posPorts = s.posPorts ∧ (s.modMem f).lats = s.lats ∧ (s.modMem f).tfu = s.tfu ∧
    (s.modMem f).obs = s.obs ∧ (s.modMem f).startM = s.startM ∧ (s.modMem f).stove = s.stove ∧
    (s.modMem f).prof = s.prof ∧ (s.modMem f).axes = s.axes ∧ (s.modMem f).legs = s.legs ∧
    (s.modMem f).auxLink = s.auxLink ∧ (s.modMem f).gl = s.gl ∧ (s.modMem f).drive = s.drive ∧
    (s.modMem f).share = s.share ∧ (s.modMem f).cal = s.cal ∧ (s.modMem f).safety = s.safety ∧
    (s.modMem f).hearths = s.hearths ∧ (s.modMem f).pending = s.pending ∧ (s.modMem f).mem = f s.mem := by
  repeat' (first | refine ⟨?_, ?_⟩ | rfl)

/-- `modPorter` changes `porter` alone. -/
@[simp] theorem State.modPorter_fields (s : State) (f : Porter → Porter) :
     (s.modPorter f).clk = s.clk ∧ (s.modPorter f).freeCtr = s.freeCtr ∧ (s.modPorter f).out = s.out ∧
    (s.modPorter f).tb = s.tb ∧ (s.modPorter f).start = s.start ∧ (s.modPorter f).store = s.store ∧
    (s.modPorter f).flue = s.flue ∧ (s.modPorter f).journal = s.journal ∧ (s.modPorter f).trace = s.trace ∧
    (s.modPorter f).mem = s.mem ∧ (s.modPorter f).thermal = s.thermal ∧ (s.modPorter f).can = s.can ∧
    (s.modPorter f).fabric = s.fabric ∧ (s.modPorter f).ports = s.ports ∧ (s.modPorter f).chans = s.chans ∧
    (s.modPorter f).ain = s.ain ∧ (s.modPorter f).sar = s.sar ∧ (s.modPorter f).posPorts = s.posPorts ∧ (s.modPorter f).lats = s.lats ∧
    (s.modPorter f).tfu = s.tfu ∧ (s.modPorter f).obs = s.obs ∧ (s.modPorter f).startM = s.startM ∧
    (s.modPorter f).stove = s.stove ∧ (s.modPorter f).prof = s.prof ∧ (s.modPorter f).axes = s.axes ∧
    (s.modPorter f).legs = s.legs ∧ (s.modPorter f).auxLink = s.auxLink ∧ (s.modPorter f).gl = s.gl ∧
    (s.modPorter f).drive = s.drive ∧ (s.modPorter f).share = s.share ∧ (s.modPorter f).cal = s.cal ∧
    (s.modPorter f).safety = s.safety ∧ (s.modPorter f).hearths = s.hearths ∧ (s.modPorter f).pending = s.pending ∧
    (s.modPorter f).porter = f s.porter := by
  repeat' (first | refine ⟨?_, ?_⟩ | rfl)

/-- `modThermal` changes `thermal` alone. -/
@[simp] theorem State.modThermal_fields (s : State) (f : Thermal → Thermal) :
     (s.modThermal f).clk = s.clk ∧ (s.modThermal f).freeCtr = s.freeCtr ∧ (s.modThermal f).out = s.out ∧
    (s.modThermal f).tb = s.tb ∧ (s.modThermal f).start = s.start ∧ (s.modThermal f).store = s.store ∧
    (s.modThermal f).flue = s.flue ∧ (s.modThermal f).journal = s.journal ∧ (s.modThermal f).trace = s.trace ∧
    (s.modThermal f).mem = s.mem ∧ (s.modThermal f).porter = s.porter ∧ (s.modThermal f).can = s.can ∧
    (s.modThermal f).fabric = s.fabric ∧ (s.modThermal f).ports = s.ports ∧ (s.modThermal f).chans = s.chans ∧
    (s.modThermal f).ain = s.ain ∧ (s.modThermal f).sar = s.sar ∧ (s.modThermal f).posPorts = s.posPorts ∧ (s.modThermal f).lats = s.lats ∧
    (s.modThermal f).tfu = s.tfu ∧ (s.modThermal f).obs = s.obs ∧ (s.modThermal f).startM = s.startM ∧
    (s.modThermal f).stove = s.stove ∧ (s.modThermal f).prof = s.prof ∧ (s.modThermal f).axes = s.axes ∧
    (s.modThermal f).legs = s.legs ∧ (s.modThermal f).auxLink = s.auxLink ∧ (s.modThermal f).gl = s.gl ∧
    (s.modThermal f).drive = s.drive ∧ (s.modThermal f).share = s.share ∧ (s.modThermal f).cal = s.cal ∧
    (s.modThermal f).safety = s.safety ∧ (s.modThermal f).hearths = s.hearths ∧ (s.modThermal f).pending = s.pending ∧
    (s.modThermal f).thermal = f s.thermal := by
  repeat' (first | refine ⟨?_, ?_⟩ | rfl)

/-- `modSensor` changes `thermal` alone. -/
@[simp] theorem State.modSensor_fields (s : State) (i : Fin 44) (f : Sensor → Sensor) :
     (s.modSensor i f).clk = s.clk ∧ (s.modSensor i f).freeCtr = s.freeCtr ∧ (s.modSensor i f).out = s.out ∧
    (s.modSensor i f).tb = s.tb ∧ (s.modSensor i f).start = s.start ∧ (s.modSensor i f).store = s.store ∧
    (s.modSensor i f).flue = s.flue ∧ (s.modSensor i f).journal = s.journal ∧ (s.modSensor i f).trace = s.trace ∧
    (s.modSensor i f).mem = s.mem ∧ (s.modSensor i f).porter = s.porter ∧ (s.modSensor i f).can = s.can ∧
    (s.modSensor i f).fabric = s.fabric ∧ (s.modSensor i f).ports = s.ports ∧ (s.modSensor i f).chans = s.chans ∧
    (s.modSensor i f).ain = s.ain ∧ (s.modSensor i f).sar = s.sar ∧ (s.modSensor i f).posPorts = s.posPorts ∧ (s.modSensor i f).lats = s.lats ∧
    (s.modSensor i f).tfu = s.tfu ∧ (s.modSensor i f).obs = s.obs ∧ (s.modSensor i f).startM = s.startM ∧
    (s.modSensor i f).stove = s.stove ∧ (s.modSensor i f).prof = s.prof ∧ (s.modSensor i f).axes = s.axes ∧
    (s.modSensor i f).legs = s.legs ∧ (s.modSensor i f).auxLink = s.auxLink ∧ (s.modSensor i f).gl = s.gl ∧
    (s.modSensor i f).drive = s.drive ∧ (s.modSensor i f).share = s.share ∧ (s.modSensor i f).cal = s.cal ∧
    (s.modSensor i f).safety = s.safety ∧ (s.modSensor i f).hearths = s.hearths ∧
    (s.modSensor i f).pending = s.pending ∧
    (s.modSensor i f).thermal = { s.thermal with sensors := vmod s.thermal.sensors i f } := by
  repeat' (first | refine ⟨?_, ?_⟩ | rfl)

/-- `modCan` changes `can` alone. -/
@[simp] theorem State.modCan_fields (s : State) (p : Fin 6) (f : CanPort → CanPort) :
     (s.modCan p f).clk = s.clk ∧ (s.modCan p f).freeCtr = s.freeCtr ∧ (s.modCan p f).out = s.out ∧
    (s.modCan p f).tb = s.tb ∧ (s.modCan p f).start = s.start ∧ (s.modCan p f).store = s.store ∧
    (s.modCan p f).flue = s.flue ∧ (s.modCan p f).journal = s.journal ∧ (s.modCan p f).trace = s.trace ∧
    (s.modCan p f).mem = s.mem ∧ (s.modCan p f).porter = s.porter ∧ (s.modCan p f).thermal = s.thermal ∧
    (s.modCan p f).fabric = s.fabric ∧ (s.modCan p f).ports = s.ports ∧ (s.modCan p f).chans = s.chans ∧
    (s.modCan p f).ain = s.ain ∧ (s.modCan p f).sar = s.sar ∧ (s.modCan p f).posPorts = s.posPorts ∧ (s.modCan p f).lats = s.lats ∧
    (s.modCan p f).tfu = s.tfu ∧ (s.modCan p f).obs = s.obs ∧ (s.modCan p f).startM = s.startM ∧
    (s.modCan p f).stove = s.stove ∧ (s.modCan p f).prof = s.prof ∧ (s.modCan p f).axes = s.axes ∧
    (s.modCan p f).legs = s.legs ∧ (s.modCan p f).auxLink = s.auxLink ∧ (s.modCan p f).gl = s.gl ∧
    (s.modCan p f).drive = s.drive ∧ (s.modCan p f).share = s.share ∧ (s.modCan p f).cal = s.cal ∧
    (s.modCan p f).safety = s.safety ∧ (s.modCan p f).hearths = s.hearths ∧ (s.modCan p f).pending = s.pending ∧
    (s.modCan p f).can = vmod s.can p f := by
  repeat' (first | refine ⟨?_, ?_⟩ | rfl)

/-- `modFabric` changes `fabric` alone. -/
@[simp] theorem State.modFabric_fields (s : State) (f : Fabric → Fabric) :
     (s.modFabric f).clk = s.clk ∧ (s.modFabric f).freeCtr = s.freeCtr ∧ (s.modFabric f).out = s.out ∧
    (s.modFabric f).tb = s.tb ∧ (s.modFabric f).start = s.start ∧ (s.modFabric f).store = s.store ∧
    (s.modFabric f).flue = s.flue ∧ (s.modFabric f).journal = s.journal ∧ (s.modFabric f).trace = s.trace ∧
    (s.modFabric f).mem = s.mem ∧ (s.modFabric f).porter = s.porter ∧ (s.modFabric f).thermal = s.thermal ∧
    (s.modFabric f).can = s.can ∧ (s.modFabric f).ports = s.ports ∧ (s.modFabric f).chans = s.chans ∧
    (s.modFabric f).ain = s.ain ∧ (s.modFabric f).sar = s.sar ∧ (s.modFabric f).posPorts = s.posPorts ∧ (s.modFabric f).lats = s.lats ∧
    (s.modFabric f).tfu = s.tfu ∧ (s.modFabric f).obs = s.obs ∧ (s.modFabric f).startM = s.startM ∧
    (s.modFabric f).stove = s.stove ∧ (s.modFabric f).prof = s.prof ∧ (s.modFabric f).axes = s.axes ∧
    (s.modFabric f).legs = s.legs ∧ (s.modFabric f).auxLink = s.auxLink ∧ (s.modFabric f).gl = s.gl ∧
    (s.modFabric f).drive = s.drive ∧ (s.modFabric f).share = s.share ∧ (s.modFabric f).cal = s.cal ∧
    (s.modFabric f).safety = s.safety ∧ (s.modFabric f).hearths = s.hearths ∧ (s.modFabric f).pending = s.pending ∧
    (s.modFabric f).fabric = f s.fabric := by
  repeat' (first | refine ⟨?_, ?_⟩ | rfl)

/-- `modLink` changes `fabric` alone. -/
@[simp] theorem State.modLink_fields (s : State) (l : Fin 4) (f : FabLink → FabLink) :
     (s.modLink l f).clk = s.clk ∧ (s.modLink l f).freeCtr = s.freeCtr ∧ (s.modLink l f).out = s.out ∧
    (s.modLink l f).tb = s.tb ∧ (s.modLink l f).start = s.start ∧ (s.modLink l f).store = s.store ∧
    (s.modLink l f).flue = s.flue ∧ (s.modLink l f).journal = s.journal ∧ (s.modLink l f).trace = s.trace ∧
    (s.modLink l f).mem = s.mem ∧ (s.modLink l f).porter = s.porter ∧ (s.modLink l f).thermal = s.thermal ∧
    (s.modLink l f).can = s.can ∧ (s.modLink l f).ports = s.ports ∧ (s.modLink l f).chans = s.chans ∧
    (s.modLink l f).ain = s.ain ∧ (s.modLink l f).sar = s.sar ∧ (s.modLink l f).posPorts = s.posPorts ∧ (s.modLink l f).lats = s.lats ∧
    (s.modLink l f).tfu = s.tfu ∧ (s.modLink l f).obs = s.obs ∧ (s.modLink l f).startM = s.startM ∧
    (s.modLink l f).stove = s.stove ∧ (s.modLink l f).prof = s.prof ∧ (s.modLink l f).axes = s.axes ∧
    (s.modLink l f).legs = s.legs ∧ (s.modLink l f).auxLink = s.auxLink ∧ (s.modLink l f).gl = s.gl ∧
    (s.modLink l f).drive = s.drive ∧ (s.modLink l f).share = s.share ∧ (s.modLink l f).cal = s.cal ∧
    (s.modLink l f).safety = s.safety ∧ (s.modLink l f).hearths = s.hearths ∧ (s.modLink l f).pending = s.pending ∧
    (s.modLink l f).fabric = { s.fabric with links := vmod s.fabric.links l f } := by
  repeat' (first | refine ⟨?_, ?_⟩ | rfl)

/-- `modPorts` changes `ports` alone. -/
@[simp] theorem State.modPorts_fields (s : State) (f : Ports → Ports) :
     (s.modPorts f).clk = s.clk ∧ (s.modPorts f).freeCtr = s.freeCtr ∧ (s.modPorts f).out = s.out ∧
    (s.modPorts f).tb = s.tb ∧ (s.modPorts f).start = s.start ∧ (s.modPorts f).store = s.store ∧
    (s.modPorts f).flue = s.flue ∧ (s.modPorts f).journal = s.journal ∧ (s.modPorts f).trace = s.trace ∧
    (s.modPorts f).mem = s.mem ∧ (s.modPorts f).porter = s.porter ∧ (s.modPorts f).thermal = s.thermal ∧
    (s.modPorts f).can = s.can ∧ (s.modPorts f).fabric = s.fabric ∧ (s.modPorts f).chans = s.chans ∧
    (s.modPorts f).ain = s.ain ∧ (s.modPorts f).sar = s.sar ∧ (s.modPorts f).posPorts = s.posPorts ∧ (s.modPorts f).lats = s.lats ∧
    (s.modPorts f).tfu = s.tfu ∧ (s.modPorts f).obs = s.obs ∧ (s.modPorts f).startM = s.startM ∧
    (s.modPorts f).stove = s.stove ∧ (s.modPorts f).prof = s.prof ∧ (s.modPorts f).axes = s.axes ∧
    (s.modPorts f).legs = s.legs ∧ (s.modPorts f).auxLink = s.auxLink ∧ (s.modPorts f).gl = s.gl ∧
    (s.modPorts f).drive = s.drive ∧ (s.modPorts f).share = s.share ∧ (s.modPorts f).cal = s.cal ∧
    (s.modPorts f).safety = s.safety ∧ (s.modPorts f).hearths = s.hearths ∧ (s.modPorts f).pending = s.pending ∧
    (s.modPorts f).ports = f s.ports := by
  repeat' (first | refine ⟨?_, ?_⟩ | rfl)

/-- `modChan` changes `chans` alone. -/
@[simp] theorem State.modChan_fields (s : State) (m : Fin 4) (c : Fin 4) (f : Channel → Channel) :
     (s.modChan m c f).clk = s.clk ∧ (s.modChan m c f).freeCtr = s.freeCtr ∧ (s.modChan m c f).out = s.out ∧
    (s.modChan m c f).tb = s.tb ∧ (s.modChan m c f).start = s.start ∧ (s.modChan m c f).store = s.store ∧
    (s.modChan m c f).flue = s.flue ∧ (s.modChan m c f).journal = s.journal ∧ (s.modChan m c f).trace = s.trace ∧
    (s.modChan m c f).mem = s.mem ∧ (s.modChan m c f).porter = s.porter ∧ (s.modChan m c f).thermal = s.thermal ∧
    (s.modChan m c f).can = s.can ∧ (s.modChan m c f).fabric = s.fabric ∧ (s.modChan m c f).ports = s.ports ∧
    (s.modChan m c f).ain = s.ain ∧ (s.modChan m c f).sar = s.sar ∧ (s.modChan m c f).posPorts = s.posPorts ∧ (s.modChan m c f).lats = s.lats ∧
    (s.modChan m c f).tfu = s.tfu ∧ (s.modChan m c f).obs = s.obs ∧ (s.modChan m c f).startM = s.startM ∧
    (s.modChan m c f).stove = s.stove ∧ (s.modChan m c f).prof = s.prof ∧ (s.modChan m c f).axes = s.axes ∧
    (s.modChan m c f).legs = s.legs ∧ (s.modChan m c f).auxLink = s.auxLink ∧ (s.modChan m c f).gl = s.gl ∧
    (s.modChan m c f).drive = s.drive ∧ (s.modChan m c f).share = s.share ∧ (s.modChan m c f).cal = s.cal ∧
    (s.modChan m c f).safety = s.safety ∧ (s.modChan m c f).hearths = s.hearths ∧
    (s.modChan m c f).pending = s.pending ∧ (s.modChan m c f).chans = vmod s.chans m (fun v => vmod v c f) := by
  repeat' (first | refine ⟨?_, ?_⟩ | rfl)

/-- `modPort` changes `posPorts` alone. -/
@[simp] theorem State.modPort_fields (s : State) (p : Fin 4) (f : Port → Port) :
     (s.modPort p f).clk = s.clk ∧ (s.modPort p f).freeCtr = s.freeCtr ∧ (s.modPort p f).out = s.out ∧
    (s.modPort p f).tb = s.tb ∧ (s.modPort p f).start = s.start ∧ (s.modPort p f).store = s.store ∧
    (s.modPort p f).flue = s.flue ∧ (s.modPort p f).journal = s.journal ∧ (s.modPort p f).trace = s.trace ∧
    (s.modPort p f).mem = s.mem ∧ (s.modPort p f).porter = s.porter ∧ (s.modPort p f).thermal = s.thermal ∧
    (s.modPort p f).can = s.can ∧ (s.modPort p f).fabric = s.fabric ∧ (s.modPort p f).ports = s.ports ∧
    (s.modPort p f).chans = s.chans ∧ (s.modPort p f).ain = s.ain ∧ (s.modPort p f).sar = s.sar ∧ (s.modPort p f).lats = s.lats ∧
    (s.modPort p f).tfu = s.tfu ∧ (s.modPort p f).obs = s.obs ∧ (s.modPort p f).startM = s.startM ∧
    (s.modPort p f).stove = s.stove ∧ (s.modPort p f).prof = s.prof ∧ (s.modPort p f).axes = s.axes ∧
    (s.modPort p f).legs = s.legs ∧ (s.modPort p f).auxLink = s.auxLink ∧ (s.modPort p f).gl = s.gl ∧
    (s.modPort p f).drive = s.drive ∧ (s.modPort p f).share = s.share ∧ (s.modPort p f).cal = s.cal ∧
    (s.modPort p f).safety = s.safety ∧ (s.modPort p f).hearths = s.hearths ∧ (s.modPort p f).pending = s.pending ∧
    (s.modPort p f).posPorts = vmod s.posPorts p f := by
  repeat' (first | refine ⟨?_, ?_⟩ | rfl)

/-- `modLat` changes `lats` alone. -/
@[simp] theorem State.modLat_fields (s : State) (k : Fin 8) (f : Lat → Lat) :
     (s.modLat k f).clk = s.clk ∧ (s.modLat k f).freeCtr = s.freeCtr ∧ (s.modLat k f).out = s.out ∧
    (s.modLat k f).tb = s.tb ∧ (s.modLat k f).start = s.start ∧ (s.modLat k f).store = s.store ∧
    (s.modLat k f).flue = s.flue ∧ (s.modLat k f).journal = s.journal ∧ (s.modLat k f).trace = s.trace ∧
    (s.modLat k f).mem = s.mem ∧ (s.modLat k f).porter = s.porter ∧ (s.modLat k f).thermal = s.thermal ∧
    (s.modLat k f).can = s.can ∧ (s.modLat k f).fabric = s.fabric ∧ (s.modLat k f).ports = s.ports ∧
    (s.modLat k f).chans = s.chans ∧ (s.modLat k f).ain = s.ain ∧ (s.modLat k f).sar = s.sar ∧ (s.modLat k f).posPorts = s.posPorts ∧
    (s.modLat k f).tfu = s.tfu ∧ (s.modLat k f).obs = s.obs ∧ (s.modLat k f).startM = s.startM ∧
    (s.modLat k f).stove = s.stove ∧ (s.modLat k f).prof = s.prof ∧ (s.modLat k f).axes = s.axes ∧
    (s.modLat k f).legs = s.legs ∧ (s.modLat k f).auxLink = s.auxLink ∧ (s.modLat k f).gl = s.gl ∧
    (s.modLat k f).drive = s.drive ∧ (s.modLat k f).share = s.share ∧ (s.modLat k f).cal = s.cal ∧
    (s.modLat k f).safety = s.safety ∧ (s.modLat k f).hearths = s.hearths ∧ (s.modLat k f).pending = s.pending ∧
    (s.modLat k f).lats = vmod s.lats k f := by
  repeat' (first | refine ⟨?_, ?_⟩ | rfl)

/-- `modTfu` changes `tfu` alone. -/
@[simp] theorem State.modTfu_fields (s : State) (m : Fin 4) (f : Tfu → Tfu) :
     (s.modTfu m f).clk = s.clk ∧ (s.modTfu m f).freeCtr = s.freeCtr ∧ (s.modTfu m f).out = s.out ∧
    (s.modTfu m f).tb = s.tb ∧ (s.modTfu m f).start = s.start ∧ (s.modTfu m f).store = s.store ∧
    (s.modTfu m f).flue = s.flue ∧ (s.modTfu m f).journal = s.journal ∧ (s.modTfu m f).trace = s.trace ∧
    (s.modTfu m f).mem = s.mem ∧ (s.modTfu m f).porter = s.porter ∧ (s.modTfu m f).thermal = s.thermal ∧
    (s.modTfu m f).can = s.can ∧ (s.modTfu m f).fabric = s.fabric ∧ (s.modTfu m f).ports = s.ports ∧
    (s.modTfu m f).chans = s.chans ∧ (s.modTfu m f).ain = s.ain ∧ (s.modTfu m f).sar = s.sar ∧ (s.modTfu m f).posPorts = s.posPorts ∧
    (s.modTfu m f).lats = s.lats ∧ (s.modTfu m f).obs = s.obs ∧ (s.modTfu m f).startM = s.startM ∧
    (s.modTfu m f).stove = s.stove ∧ (s.modTfu m f).prof = s.prof ∧ (s.modTfu m f).axes = s.axes ∧
    (s.modTfu m f).legs = s.legs ∧ (s.modTfu m f).auxLink = s.auxLink ∧ (s.modTfu m f).gl = s.gl ∧
    (s.modTfu m f).drive = s.drive ∧ (s.modTfu m f).share = s.share ∧ (s.modTfu m f).cal = s.cal ∧
    (s.modTfu m f).safety = s.safety ∧ (s.modTfu m f).hearths = s.hearths ∧ (s.modTfu m f).pending = s.pending ∧
    (s.modTfu m f).tfu = vmod s.tfu m f := by
  repeat' (first | refine ⟨?_, ?_⟩ | rfl)

/-- `modObs` changes `obs` alone. -/
@[simp] theorem State.modObs_fields (s : State) (m : Fin 4) (f : Observer → Observer) :
     (s.modObs m f).clk = s.clk ∧ (s.modObs m f).freeCtr = s.freeCtr ∧ (s.modObs m f).out = s.out ∧
    (s.modObs m f).tb = s.tb ∧ (s.modObs m f).start = s.start ∧ (s.modObs m f).store = s.store ∧
    (s.modObs m f).flue = s.flue ∧ (s.modObs m f).journal = s.journal ∧ (s.modObs m f).trace = s.trace ∧
    (s.modObs m f).mem = s.mem ∧ (s.modObs m f).porter = s.porter ∧ (s.modObs m f).thermal = s.thermal ∧
    (s.modObs m f).can = s.can ∧ (s.modObs m f).fabric = s.fabric ∧ (s.modObs m f).ports = s.ports ∧
    (s.modObs m f).chans = s.chans ∧ (s.modObs m f).ain = s.ain ∧ (s.modObs m f).sar = s.sar ∧ (s.modObs m f).posPorts = s.posPorts ∧
    (s.modObs m f).lats = s.lats ∧ (s.modObs m f).tfu = s.tfu ∧ (s.modObs m f).startM = s.startM ∧
    (s.modObs m f).stove = s.stove ∧ (s.modObs m f).prof = s.prof ∧ (s.modObs m f).axes = s.axes ∧
    (s.modObs m f).legs = s.legs ∧ (s.modObs m f).auxLink = s.auxLink ∧ (s.modObs m f).gl = s.gl ∧
    (s.modObs m f).drive = s.drive ∧ (s.modObs m f).share = s.share ∧ (s.modObs m f).cal = s.cal ∧
    (s.modObs m f).safety = s.safety ∧ (s.modObs m f).hearths = s.hearths ∧ (s.modObs m f).pending = s.pending ∧
    (s.modObs m f).obs = vmod s.obs m f := by
  repeat' (first | refine ⟨?_, ?_⟩ | rfl)

/-- `modStartM` changes `startM` alone. -/
@[simp] theorem State.modStartM_fields (s : State) (m : Fin 4) (f : StartMachine → StartMachine) :
     (s.modStartM m f).clk = s.clk ∧ (s.modStartM m f).freeCtr = s.freeCtr ∧ (s.modStartM m f).out = s.out ∧
    (s.modStartM m f).tb = s.tb ∧ (s.modStartM m f).start = s.start ∧ (s.modStartM m f).store = s.store ∧
    (s.modStartM m f).flue = s.flue ∧ (s.modStartM m f).journal = s.journal ∧ (s.modStartM m f).trace = s.trace ∧
    (s.modStartM m f).mem = s.mem ∧ (s.modStartM m f).porter = s.porter ∧ (s.modStartM m f).thermal = s.thermal ∧
    (s.modStartM m f).can = s.can ∧ (s.modStartM m f).fabric = s.fabric ∧ (s.modStartM m f).ports = s.ports ∧
    (s.modStartM m f).chans = s.chans ∧ (s.modStartM m f).ain = s.ain ∧ (s.modStartM m f).sar = s.sar ∧ (s.modStartM m f).posPorts = s.posPorts ∧
    (s.modStartM m f).lats = s.lats ∧ (s.modStartM m f).tfu = s.tfu ∧ (s.modStartM m f).obs = s.obs ∧
    (s.modStartM m f).stove = s.stove ∧ (s.modStartM m f).prof = s.prof ∧ (s.modStartM m f).axes = s.axes ∧
    (s.modStartM m f).legs = s.legs ∧ (s.modStartM m f).auxLink = s.auxLink ∧ (s.modStartM m f).gl = s.gl ∧
    (s.modStartM m f).drive = s.drive ∧ (s.modStartM m f).share = s.share ∧ (s.modStartM m f).cal = s.cal ∧
    (s.modStartM m f).safety = s.safety ∧ (s.modStartM m f).hearths = s.hearths ∧
    (s.modStartM m f).pending = s.pending ∧ (s.modStartM m f).startM = vmod s.startM m f := by
  repeat' (first | refine ⟨?_, ?_⟩ | rfl)

/-- `modStove` changes `stove` alone. -/
@[simp] theorem State.modStove_fields (s : State) (i : Fin 4) (f : Stove → Stove) :
     (s.modStove i f).clk = s.clk ∧ (s.modStove i f).freeCtr = s.freeCtr ∧ (s.modStove i f).out = s.out ∧
    (s.modStove i f).tb = s.tb ∧ (s.modStove i f).start = s.start ∧ (s.modStove i f).store = s.store ∧
    (s.modStove i f).flue = s.flue ∧ (s.modStove i f).journal = s.journal ∧ (s.modStove i f).trace = s.trace ∧
    (s.modStove i f).mem = s.mem ∧ (s.modStove i f).porter = s.porter ∧ (s.modStove i f).thermal = s.thermal ∧
    (s.modStove i f).can = s.can ∧ (s.modStove i f).fabric = s.fabric ∧ (s.modStove i f).ports = s.ports ∧
    (s.modStove i f).chans = s.chans ∧ (s.modStove i f).ain = s.ain ∧ (s.modStove i f).sar = s.sar ∧ (s.modStove i f).posPorts = s.posPorts ∧
    (s.modStove i f).lats = s.lats ∧ (s.modStove i f).tfu = s.tfu ∧ (s.modStove i f).obs = s.obs ∧
    (s.modStove i f).startM = s.startM ∧ (s.modStove i f).prof = s.prof ∧ (s.modStove i f).axes = s.axes ∧
    (s.modStove i f).legs = s.legs ∧ (s.modStove i f).auxLink = s.auxLink ∧ (s.modStove i f).gl = s.gl ∧
    (s.modStove i f).drive = s.drive ∧ (s.modStove i f).share = s.share ∧ (s.modStove i f).cal = s.cal ∧
    (s.modStove i f).safety = s.safety ∧ (s.modStove i f).hearths = s.hearths ∧ (s.modStove i f).pending = s.pending ∧
    (s.modStove i f).stove = vmod s.stove i f := by
  repeat' (first | refine ⟨?_, ?_⟩ | rfl)

/-- `modProf` changes `prof` alone. -/
@[simp] theorem State.modProf_fields (s : State) (c : Fin 12) (f : Channel09 → Channel09) :
     (s.modProf c f).clk = s.clk ∧ (s.modProf c f).freeCtr = s.freeCtr ∧ (s.modProf c f).out = s.out ∧
    (s.modProf c f).tb = s.tb ∧ (s.modProf c f).start = s.start ∧ (s.modProf c f).store = s.store ∧
    (s.modProf c f).flue = s.flue ∧ (s.modProf c f).journal = s.journal ∧ (s.modProf c f).trace = s.trace ∧
    (s.modProf c f).mem = s.mem ∧ (s.modProf c f).porter = s.porter ∧ (s.modProf c f).thermal = s.thermal ∧
    (s.modProf c f).can = s.can ∧ (s.modProf c f).fabric = s.fabric ∧ (s.modProf c f).ports = s.ports ∧
    (s.modProf c f).chans = s.chans ∧ (s.modProf c f).ain = s.ain ∧ (s.modProf c f).sar = s.sar ∧ (s.modProf c f).posPorts = s.posPorts ∧
    (s.modProf c f).lats = s.lats ∧ (s.modProf c f).tfu = s.tfu ∧ (s.modProf c f).obs = s.obs ∧
    (s.modProf c f).startM = s.startM ∧ (s.modProf c f).stove = s.stove ∧ (s.modProf c f).axes = s.axes ∧
    (s.modProf c f).legs = s.legs ∧ (s.modProf c f).auxLink = s.auxLink ∧ (s.modProf c f).gl = s.gl ∧
    (s.modProf c f).drive = s.drive ∧ (s.modProf c f).share = s.share ∧ (s.modProf c f).cal = s.cal ∧
    (s.modProf c f).safety = s.safety ∧ (s.modProf c f).hearths = s.hearths ∧ (s.modProf c f).pending = s.pending ∧
    (s.modProf c f).prof = vmod s.prof c f := by
  repeat' (first | refine ⟨?_, ?_⟩ | rfl)

/-- `modAxis` changes `axes` alone. -/
@[simp] theorem State.modAxis_fields (s : State) (k : Fin 6) (f : Axis → Axis) :
     (s.modAxis k f).clk = s.clk ∧ (s.modAxis k f).freeCtr = s.freeCtr ∧ (s.modAxis k f).out = s.out ∧
    (s.modAxis k f).tb = s.tb ∧ (s.modAxis k f).start = s.start ∧ (s.modAxis k f).store = s.store ∧
    (s.modAxis k f).flue = s.flue ∧ (s.modAxis k f).journal = s.journal ∧ (s.modAxis k f).trace = s.trace ∧
    (s.modAxis k f).mem = s.mem ∧ (s.modAxis k f).porter = s.porter ∧ (s.modAxis k f).thermal = s.thermal ∧
    (s.modAxis k f).can = s.can ∧ (s.modAxis k f).fabric = s.fabric ∧ (s.modAxis k f).ports = s.ports ∧
    (s.modAxis k f).chans = s.chans ∧ (s.modAxis k f).ain = s.ain ∧ (s.modAxis k f).sar = s.sar ∧ (s.modAxis k f).posPorts = s.posPorts ∧
    (s.modAxis k f).lats = s.lats ∧ (s.modAxis k f).tfu = s.tfu ∧ (s.modAxis k f).obs = s.obs ∧
    (s.modAxis k f).startM = s.startM ∧ (s.modAxis k f).stove = s.stove ∧ (s.modAxis k f).prof = s.prof ∧
    (s.modAxis k f).legs = s.legs ∧ (s.modAxis k f).auxLink = s.auxLink ∧ (s.modAxis k f).gl = s.gl ∧
    (s.modAxis k f).drive = s.drive ∧ (s.modAxis k f).share = s.share ∧ (s.modAxis k f).cal = s.cal ∧
    (s.modAxis k f).safety = s.safety ∧ (s.modAxis k f).hearths = s.hearths ∧ (s.modAxis k f).pending = s.pending ∧
    (s.modAxis k f).axes = vmod s.axes k f := by
  repeat' (first | refine ⟨?_, ?_⟩ | rfl)

/-- `modLeg` changes `legs` alone. -/
@[simp] theorem State.modLeg_fields (s : State) (l : Fin 12) (f : Leg → Leg) :
     (s.modLeg l f).clk = s.clk ∧ (s.modLeg l f).freeCtr = s.freeCtr ∧ (s.modLeg l f).out = s.out ∧
    (s.modLeg l f).tb = s.tb ∧ (s.modLeg l f).start = s.start ∧ (s.modLeg l f).store = s.store ∧
    (s.modLeg l f).flue = s.flue ∧ (s.modLeg l f).journal = s.journal ∧ (s.modLeg l f).trace = s.trace ∧
    (s.modLeg l f).mem = s.mem ∧ (s.modLeg l f).porter = s.porter ∧ (s.modLeg l f).thermal = s.thermal ∧
    (s.modLeg l f).can = s.can ∧ (s.modLeg l f).fabric = s.fabric ∧ (s.modLeg l f).ports = s.ports ∧
    (s.modLeg l f).chans = s.chans ∧ (s.modLeg l f).ain = s.ain ∧ (s.modLeg l f).sar = s.sar ∧ (s.modLeg l f).posPorts = s.posPorts ∧
    (s.modLeg l f).lats = s.lats ∧ (s.modLeg l f).tfu = s.tfu ∧ (s.modLeg l f).obs = s.obs ∧
    (s.modLeg l f).startM = s.startM ∧ (s.modLeg l f).stove = s.stove ∧ (s.modLeg l f).prof = s.prof ∧
    (s.modLeg l f).axes = s.axes ∧ (s.modLeg l f).auxLink = s.auxLink ∧ (s.modLeg l f).gl = s.gl ∧
    (s.modLeg l f).drive = s.drive ∧ (s.modLeg l f).share = s.share ∧ (s.modLeg l f).cal = s.cal ∧
    (s.modLeg l f).safety = s.safety ∧ (s.modLeg l f).hearths = s.hearths ∧ (s.modLeg l f).pending = s.pending ∧
    (s.modLeg l f).legs = vmod s.legs l f := by
  repeat' (first | refine ⟨?_, ?_⟩ | rfl)

/-- `modAux` changes `auxLink` alone. -/
@[simp] theorem State.modAux_fields (s : State) (f : AuxLink → AuxLink) :
     (s.modAux f).clk = s.clk ∧ (s.modAux f).freeCtr = s.freeCtr ∧ (s.modAux f).out = s.out ∧ (s.modAux f).tb = s.tb ∧
    (s.modAux f).start = s.start ∧ (s.modAux f).store = s.store ∧ (s.modAux f).flue = s.flue ∧
    (s.modAux f).journal = s.journal ∧ (s.modAux f).trace = s.trace ∧ (s.modAux f).mem = s.mem ∧
    (s.modAux f).porter = s.porter ∧ (s.modAux f).thermal = s.thermal ∧ (s.modAux f).can = s.can ∧
    (s.modAux f).fabric = s.fabric ∧ (s.modAux f).ports = s.ports ∧ (s.modAux f).chans = s.chans ∧
    (s.modAux f).ain = s.ain ∧ (s.modAux f).sar = s.sar ∧ (s.modAux f).posPorts = s.posPorts ∧ (s.modAux f).lats = s.lats ∧
    (s.modAux f).tfu = s.tfu ∧ (s.modAux f).obs = s.obs ∧ (s.modAux f).startM = s.startM ∧
    (s.modAux f).stove = s.stove ∧ (s.modAux f).prof = s.prof ∧ (s.modAux f).axes = s.axes ∧
    (s.modAux f).legs = s.legs ∧ (s.modAux f).gl = s.gl ∧ (s.modAux f).drive = s.drive ∧ (s.modAux f).share = s.share ∧
    (s.modAux f).cal = s.cal ∧ (s.modAux f).safety = s.safety ∧ (s.modAux f).hearths = s.hearths ∧
    (s.modAux f).pending = s.pending ∧ (s.modAux f).auxLink = f s.auxLink := by
  repeat' (first | refine ⟨?_, ?_⟩ | rfl)

/-- `modGl` changes `gl` alone. -/
@[simp] theorem State.modGl_fields (s : State) (m : Fin 4) (f : GateLink → GateLink) :
     (s.modGl m f).clk = s.clk ∧ (s.modGl m f).freeCtr = s.freeCtr ∧ (s.modGl m f).out = s.out ∧ (s.modGl m f).tb = s.tb ∧
    (s.modGl m f).start = s.start ∧ (s.modGl m f).store = s.store ∧ (s.modGl m f).flue = s.flue ∧
    (s.modGl m f).journal = s.journal ∧ (s.modGl m f).trace = s.trace ∧ (s.modGl m f).mem = s.mem ∧
    (s.modGl m f).porter = s.porter ∧ (s.modGl m f).thermal = s.thermal ∧ (s.modGl m f).can = s.can ∧
    (s.modGl m f).fabric = s.fabric ∧ (s.modGl m f).ports = s.ports ∧ (s.modGl m f).chans = s.chans ∧
    (s.modGl m f).ain = s.ain ∧ (s.modGl m f).sar = s.sar ∧ (s.modGl m f).posPorts = s.posPorts ∧ (s.modGl m f).lats = s.lats ∧
    (s.modGl m f).tfu = s.tfu ∧ (s.modGl m f).obs = s.obs ∧ (s.modGl m f).startM = s.startM ∧
    (s.modGl m f).stove = s.stove ∧ (s.modGl m f).prof = s.prof ∧ (s.modGl m f).axes = s.axes ∧
    (s.modGl m f).legs = s.legs ∧ (s.modGl m f).auxLink = s.auxLink ∧ (s.modGl m f).drive = s.drive ∧
    (s.modGl m f).share = s.share ∧ (s.modGl m f).cal = s.cal ∧ (s.modGl m f).safety = s.safety ∧
    (s.modGl m f).hearths = s.hearths ∧ (s.modGl m f).pending = s.pending ∧ (s.modGl m f).gl = vmod s.gl m f := by
  repeat' (first | refine ⟨?_, ?_⟩ | rfl)

/-- `modDrive` changes `drive` alone. -/
@[simp] theorem State.modDrive_fields (s : State) (m : Fin 4) (f : Drive → Drive) :
     (s.modDrive m f).clk = s.clk ∧ (s.modDrive m f).freeCtr = s.freeCtr ∧ (s.modDrive m f).out = s.out ∧
    (s.modDrive m f).tb = s.tb ∧ (s.modDrive m f).start = s.start ∧ (s.modDrive m f).store = s.store ∧
    (s.modDrive m f).flue = s.flue ∧ (s.modDrive m f).journal = s.journal ∧ (s.modDrive m f).trace = s.trace ∧
    (s.modDrive m f).mem = s.mem ∧ (s.modDrive m f).porter = s.porter ∧ (s.modDrive m f).thermal = s.thermal ∧
    (s.modDrive m f).can = s.can ∧ (s.modDrive m f).fabric = s.fabric ∧ (s.modDrive m f).ports = s.ports ∧
    (s.modDrive m f).chans = s.chans ∧ (s.modDrive m f).ain = s.ain ∧ (s.modDrive m f).sar = s.sar ∧ (s.modDrive m f).posPorts = s.posPorts ∧
    (s.modDrive m f).lats = s.lats ∧ (s.modDrive m f).tfu = s.tfu ∧ (s.modDrive m f).obs = s.obs ∧
    (s.modDrive m f).startM = s.startM ∧ (s.modDrive m f).stove = s.stove ∧ (s.modDrive m f).prof = s.prof ∧
    (s.modDrive m f).axes = s.axes ∧ (s.modDrive m f).legs = s.legs ∧ (s.modDrive m f).auxLink = s.auxLink ∧
    (s.modDrive m f).gl = s.gl ∧ (s.modDrive m f).share = s.share ∧ (s.modDrive m f).cal = s.cal ∧
    (s.modDrive m f).safety = s.safety ∧ (s.modDrive m f).hearths = s.hearths ∧ (s.modDrive m f).pending = s.pending ∧
    (s.modDrive m f).drive = vmod s.drive m f := by
  repeat' (first | refine ⟨?_, ?_⟩ | rfl)

/-- `modShare` changes `share` alone. -/
@[simp] theorem State.modShare_fields (s : State) (m : Fin 4) (f : Share → Share) :
     (s.modShare m f).clk = s.clk ∧ (s.modShare m f).freeCtr = s.freeCtr ∧ (s.modShare m f).out = s.out ∧
    (s.modShare m f).tb = s.tb ∧ (s.modShare m f).start = s.start ∧ (s.modShare m f).store = s.store ∧
    (s.modShare m f).flue = s.flue ∧ (s.modShare m f).journal = s.journal ∧ (s.modShare m f).trace = s.trace ∧
    (s.modShare m f).mem = s.mem ∧ (s.modShare m f).porter = s.porter ∧ (s.modShare m f).thermal = s.thermal ∧
    (s.modShare m f).can = s.can ∧ (s.modShare m f).fabric = s.fabric ∧ (s.modShare m f).ports = s.ports ∧
    (s.modShare m f).chans = s.chans ∧ (s.modShare m f).ain = s.ain ∧ (s.modShare m f).sar = s.sar ∧ (s.modShare m f).posPorts = s.posPorts ∧
    (s.modShare m f).lats = s.lats ∧ (s.modShare m f).tfu = s.tfu ∧ (s.modShare m f).obs = s.obs ∧
    (s.modShare m f).startM = s.startM ∧ (s.modShare m f).stove = s.stove ∧ (s.modShare m f).prof = s.prof ∧
    (s.modShare m f).axes = s.axes ∧ (s.modShare m f).legs = s.legs ∧ (s.modShare m f).auxLink = s.auxLink ∧
    (s.modShare m f).gl = s.gl ∧ (s.modShare m f).drive = s.drive ∧ (s.modShare m f).cal = s.cal ∧
    (s.modShare m f).safety = s.safety ∧ (s.modShare m f).hearths = s.hearths ∧ (s.modShare m f).pending = s.pending ∧
    (s.modShare m f).share = vmod s.share m f := by
  repeat' (first | refine ⟨?_, ?_⟩ | rfl)

/-- `modCal` changes `cal` alone. -/
@[simp] theorem State.modCal_fields (s : State) (f : Cal → Cal) :
     (s.modCal f).clk = s.clk ∧ (s.modCal f).freeCtr = s.freeCtr ∧ (s.modCal f).out = s.out ∧ (s.modCal f).tb = s.tb ∧
    (s.modCal f).start = s.start ∧ (s.modCal f).store = s.store ∧ (s.modCal f).flue = s.flue ∧
    (s.modCal f).journal = s.journal ∧ (s.modCal f).trace = s.trace ∧ (s.modCal f).mem = s.mem ∧
    (s.modCal f).porter = s.porter ∧ (s.modCal f).thermal = s.thermal ∧ (s.modCal f).can = s.can ∧
    (s.modCal f).fabric = s.fabric ∧ (s.modCal f).ports = s.ports ∧ (s.modCal f).chans = s.chans ∧
    (s.modCal f).ain = s.ain ∧ (s.modCal f).sar = s.sar ∧ (s.modCal f).posPorts = s.posPorts ∧ (s.modCal f).lats = s.lats ∧
    (s.modCal f).tfu = s.tfu ∧ (s.modCal f).obs = s.obs ∧ (s.modCal f).startM = s.startM ∧
    (s.modCal f).stove = s.stove ∧ (s.modCal f).prof = s.prof ∧ (s.modCal f).axes = s.axes ∧
    (s.modCal f).legs = s.legs ∧ (s.modCal f).auxLink = s.auxLink ∧ (s.modCal f).gl = s.gl ∧
    (s.modCal f).drive = s.drive ∧ (s.modCal f).share = s.share ∧ (s.modCal f).safety = s.safety ∧
    (s.modCal f).hearths = s.hearths ∧ (s.modCal f).pending = s.pending ∧ (s.modCal f).cal = f s.cal := by
  repeat' (first | refine ⟨?_, ?_⟩ | rfl)

/-- `modCalM` changes `cal` alone. -/
@[simp] theorem State.modCalM_fields (s : State) (m : Fin 4) (f : CalMachine → CalMachine) :
     (s.modCalM m f).clk = s.clk ∧ (s.modCalM m f).freeCtr = s.freeCtr ∧ (s.modCalM m f).out = s.out ∧
    (s.modCalM m f).tb = s.tb ∧ (s.modCalM m f).start = s.start ∧ (s.modCalM m f).store = s.store ∧
    (s.modCalM m f).flue = s.flue ∧ (s.modCalM m f).journal = s.journal ∧ (s.modCalM m f).trace = s.trace ∧
    (s.modCalM m f).mem = s.mem ∧ (s.modCalM m f).porter = s.porter ∧ (s.modCalM m f).thermal = s.thermal ∧
    (s.modCalM m f).can = s.can ∧ (s.modCalM m f).fabric = s.fabric ∧ (s.modCalM m f).ports = s.ports ∧
    (s.modCalM m f).chans = s.chans ∧ (s.modCalM m f).ain = s.ain ∧ (s.modCalM m f).sar = s.sar ∧ (s.modCalM m f).posPorts = s.posPorts ∧
    (s.modCalM m f).lats = s.lats ∧ (s.modCalM m f).tfu = s.tfu ∧ (s.modCalM m f).obs = s.obs ∧
    (s.modCalM m f).startM = s.startM ∧ (s.modCalM m f).stove = s.stove ∧ (s.modCalM m f).prof = s.prof ∧
    (s.modCalM m f).axes = s.axes ∧ (s.modCalM m f).legs = s.legs ∧ (s.modCalM m f).auxLink = s.auxLink ∧
    (s.modCalM m f).gl = s.gl ∧ (s.modCalM m f).drive = s.drive ∧ (s.modCalM m f).share = s.share ∧
    (s.modCalM m f).safety = s.safety ∧ (s.modCalM m f).hearths = s.hearths ∧ (s.modCalM m f).pending = s.pending ∧
    (s.modCalM m f).cal = { s.cal with machines := vmod s.cal.machines m f } := by
  repeat' (first | refine ⟨?_, ?_⟩ | rfl)

/-- `modSafety` changes `safety` alone. -/
@[simp] theorem State.modSafety_fields (s : State) (f : Safety → Safety) :
     (s.modSafety f).clk = s.clk ∧ (s.modSafety f).freeCtr = s.freeCtr ∧ (s.modSafety f).out = s.out ∧
    (s.modSafety f).tb = s.tb ∧ (s.modSafety f).start = s.start ∧ (s.modSafety f).store = s.store ∧
    (s.modSafety f).flue = s.flue ∧ (s.modSafety f).journal = s.journal ∧ (s.modSafety f).trace = s.trace ∧
    (s.modSafety f).mem = s.mem ∧ (s.modSafety f).porter = s.porter ∧ (s.modSafety f).thermal = s.thermal ∧
    (s.modSafety f).can = s.can ∧ (s.modSafety f).fabric = s.fabric ∧ (s.modSafety f).ports = s.ports ∧
    (s.modSafety f).chans = s.chans ∧ (s.modSafety f).ain = s.ain ∧ (s.modSafety f).sar = s.sar ∧ (s.modSafety f).posPorts = s.posPorts ∧
    (s.modSafety f).lats = s.lats ∧ (s.modSafety f).tfu = s.tfu ∧ (s.modSafety f).obs = s.obs ∧
    (s.modSafety f).startM = s.startM ∧ (s.modSafety f).stove = s.stove ∧ (s.modSafety f).prof = s.prof ∧
    (s.modSafety f).axes = s.axes ∧ (s.modSafety f).legs = s.legs ∧ (s.modSafety f).auxLink = s.auxLink ∧
    (s.modSafety f).gl = s.gl ∧ (s.modSafety f).drive = s.drive ∧ (s.modSafety f).share = s.share ∧
    (s.modSafety f).cal = s.cal ∧ (s.modSafety f).hearths = s.hearths ∧ (s.modSafety f).pending = s.pending ∧
    (s.modSafety f).safety = f s.safety := by
  repeat' (first | refine ⟨?_, ?_⟩ | rfl)

/-- `modHearth` changes `hearths` alone. -/
@[simp] theorem State.modHearth_fields (s : State) (h : Fin 4) (f : Hearth → Hearth) :
     (s.modHearth h f).clk = s.clk ∧ (s.modHearth h f).freeCtr = s.freeCtr ∧ (s.modHearth h f).out = s.out ∧
    (s.modHearth h f).tb = s.tb ∧ (s.modHearth h f).start = s.start ∧ (s.modHearth h f).store = s.store ∧
    (s.modHearth h f).flue = s.flue ∧ (s.modHearth h f).journal = s.journal ∧ (s.modHearth h f).trace = s.trace ∧
    (s.modHearth h f).mem = s.mem ∧ (s.modHearth h f).porter = s.porter ∧ (s.modHearth h f).thermal = s.thermal ∧
    (s.modHearth h f).can = s.can ∧ (s.modHearth h f).fabric = s.fabric ∧ (s.modHearth h f).ports = s.ports ∧
    (s.modHearth h f).chans = s.chans ∧ (s.modHearth h f).ain = s.ain ∧ (s.modHearth h f).sar = s.sar ∧ (s.modHearth h f).posPorts = s.posPorts ∧
    (s.modHearth h f).lats = s.lats ∧ (s.modHearth h f).tfu = s.tfu ∧ (s.modHearth h f).obs = s.obs ∧
    (s.modHearth h f).startM = s.startM ∧ (s.modHearth h f).stove = s.stove ∧ (s.modHearth h f).prof = s.prof ∧
    (s.modHearth h f).axes = s.axes ∧ (s.modHearth h f).legs = s.legs ∧ (s.modHearth h f).auxLink = s.auxLink ∧
    (s.modHearth h f).gl = s.gl ∧ (s.modHearth h f).drive = s.drive ∧ (s.modHearth h f).share = s.share ∧
    (s.modHearth h f).cal = s.cal ∧ (s.modHearth h f).safety = s.safety ∧ (s.modHearth h f).pending = s.pending ∧
    (s.modHearth h f).hearths = vmod s.hearths h f := by
  repeat' (first | refine ⟨?_, ?_⟩ | rfl)

/-- What a command puts out changes nothing else. -/
@[simp] theorem State.put_fields (s : State) (o : Out) :
     (s.put o).clk = s.clk ∧ (s.put o).freeCtr = s.freeCtr ∧ (s.put o).tb = s.tb ∧ (s.put o).start = s.start ∧
    (s.put o).store = s.store ∧ (s.put o).flue = s.flue ∧ (s.put o).journal = s.journal ∧ (s.put o).trace = s.trace ∧
    (s.put o).mem = s.mem ∧ (s.put o).porter = s.porter ∧ (s.put o).thermal = s.thermal ∧ (s.put o).can = s.can ∧
    (s.put o).fabric = s.fabric ∧ (s.put o).ports = s.ports ∧ (s.put o).chans = s.chans ∧ (s.put o).ain = s.ain ∧ (s.put o).sar = s.sar ∧
    (s.put o).posPorts = s.posPorts ∧ (s.put o).lats = s.lats ∧ (s.put o).tfu = s.tfu ∧ (s.put o).obs = s.obs ∧
    (s.put o).startM = s.startM ∧ (s.put o).stove = s.stove ∧ (s.put o).prof = s.prof ∧ (s.put o).axes = s.axes ∧
    (s.put o).legs = s.legs ∧ (s.put o).auxLink = s.auxLink ∧ (s.put o).gl = s.gl ∧ (s.put o).drive = s.drive ∧
    (s.put o).share = s.share ∧ (s.put o).cal = s.cal ∧ (s.put o).safety = s.safety ∧ (s.put o).hearths = s.hearths ∧
    (s.put o).pending = s.pending ∧ (s.put o).out = s.out ++ [o] := by
  repeat' (first | refine ⟨?_, ?_⟩ | rfl)

/-- Time changes the clocks and clears what was put out. -/
@[simp] theorem advance_fields (s : State) (dt : Nat) :
     (advance s dt).freeCtr = s.freeCtr ∧ (advance s dt).start = s.start ∧ (advance s dt).store = s.store ∧
    (advance s dt).flue = s.flue ∧ (advance s dt).journal = s.journal ∧ (advance s dt).trace = s.trace ∧
    (advance s dt).mem = s.mem ∧ (advance s dt).porter = s.porter ∧ (advance s dt).thermal = s.thermal ∧
    (advance s dt).can = s.can ∧ (advance s dt).fabric = s.fabric ∧ (advance s dt).ports = s.ports ∧
    (advance s dt).chans = s.chans ∧ (advance s dt).ain = s.ain ∧ (advance s dt).sar = s.sar ∧ (advance s dt).posPorts = s.posPorts ∧
    (advance s dt).lats = s.lats ∧ (advance s dt).tfu = s.tfu ∧ (advance s dt).obs = s.obs ∧
    (advance s dt).startM = s.startM ∧ (advance s dt).stove = s.stove ∧ (advance s dt).prof = s.prof ∧
    (advance s dt).axes = s.axes ∧ (advance s dt).legs = s.legs ∧ (advance s dt).auxLink = s.auxLink ∧
    (advance s dt).gl = s.gl ∧ (advance s dt).drive = s.drive ∧ (advance s dt).share = s.share ∧
    (advance s dt).cal = s.cal ∧ (advance s dt).safety = s.safety ∧ (advance s dt).hearths = s.hearths ∧
    (advance s dt).pending = s.pending ∧ (advance s dt).clk = s.clk + dt ∧ (advance s dt).out = [] := by
  repeat' (first | refine ⟨?_, ?_⟩ | rfl)

/-- Of the timebase only the count passes. -/
@[simp] theorem advance_tb (s : State) (dt : Nat) :
    (advance s dt).tb.counting = s.tb.counting ∧
    (advance s dt).tb.pllLock = s.tb.pllLock ∧
    (advance s dt).tb.ref = s.tb.ref ∧
    (advance s dt).tb.refOk = s.tb.refOk ∧
    (advance s dt).tb.aligned = s.tb.aligned ∧
    (advance s dt).tb.stepped = s.tb.stepped ∧
    (advance s dt).tb.steer = s.tb.steer ∧
    (advance s dt).tb.stepAt = s.tb.stepAt ∧
    (advance s dt).tb.railMv = s.tb.railMv ∧
    (advance s dt).tb.railSeen = s.tb.railSeen ∧
    (advance s dt).tb.railFast = s.tb.railFast ∧
    (advance s dt).tb.lossMasked = s.tb.lossMasked ∧
    (advance s dt).tb.strobes = s.tb.strobes ∧
    (advance s dt).tb.envelope = s.tb.envelope ∧
    (advance s dt).tb.missTfu = s.tb.missTfu ∧
    (advance s dt).tb.missStove = s.tb.missStove ∧
    (advance s dt).tb.missProf = s.tb.missProf ∧
    (advance s dt).tb.runTfu = s.tb.runTfu ∧
    (advance s dt).tb.runStove = s.tb.runStove ∧
    (advance s dt).tb.lastStrobe = s.tb.lastStrobe ∧
    (advance s dt).tb.lastBoundary = s.tb.lastBoundary ∧
    (advance s dt).tb.lastGrid = s.tb.lastGrid ∧
    (advance s dt).tb.boundaries = s.tb.boundaries ∧
    (advance s dt).tb.waiting9 = s.tb.waiting9 := by
  unfold advance Timebase.count; split <;> repeat' (first | refine ⟨?_, ?_⟩ | rfl)

/-- Time changes no parameter and nothing that is read from the parameters, the drives, the axes or the Flue. -/
@[simp] theorem advance_reads (s : State) (dt : Nat) :
    (∀ k n i j, (advance s dt).par k n i j = s.par k n i j) ∧ (∀ i j, (advance s dt).p0 i j = s.p0 i j) ∧
    (∀ m i j, (advance s dt).pm m i j = s.pm m i j) ∧ (∀ k i j, (advance s dt).pa k i j = s.pa k i j) ∧
    (∀ c i j, (advance s dt).pp c i j = s.pp c i j) ∧ (∀ k i j, (advance s dt).ps k i j = s.ps k i j) ∧
    (∀ n i j, (advance s dt).pe n i j = s.pe n i j) ∧ (∀ m, (advance s dt).isSecond m = s.isSecond m) ∧
    (∀ m, (advance s dt).gridOf m = s.gridOf m) ∧ (∀ m, (advance s dt).D m = s.D m) ∧ (∀ m, (advance s dt).phi m = s.phi m) ∧
    (∀ m, (advance s dt).N m = s.N m) ∧ (∀ m, (advance s dt).Ts m = s.Ts m) ∧ (∀ m, (advance s dt).en m = s.en m) ∧
    (advance s dt).anyMachine = s.anyMachine ∧ (∀ k, (advance s dt).axisOn k = s.axisOn k) ∧
    (advance s dt).anyAxis = s.anyAxis ∧ throttling (advance s dt) = throttling s ∧ (advance s dt).runs = s.runs ∧
    (advance s dt).up = s.up ∧ (∀ n, sticky (advance s dt) n = sticky s n) ∧ (∀ n, live (advance s dt) n = live s n) ∧
    (∀ n, (advance s dt).reaction n = s.reaction n) := by
  repeat' (first | refine ⟨?_, ?_⟩ | (intros; rfl))

/-- A timer in terms of the state before the time passed. -/
@[simp] theorem elapsed_advance (s : State) (dt at' lim : Nat) :
    elapsed (advance s dt) at' lim = decide (at' + lim ≤ s.clk + dt) := rfl

@[simp] theorem elapsedO_advance (s : State) (dt : Nat) (at' : Option Nat) (lim : Nat) :
    elapsedO (advance s dt) at' lim = at'.any (fun a => decide (a + lim ≤ s.clk + dt)) := by
  cases at' <;> rfl

/-- The changed element of a vector, and the others. The index stands as a number, which is simp's normal form of it. -/
@[simp] theorem vmod_self {α : Type} {n : Nat} (v : Vector α n) (k : Fin n) (f : α → α) : (vmod v k f)[(k : Nat)] = f v[(k : Nat)] := by
  simp [vmod]

@[simp] theorem vmod_other {α : Type} {n : Nat} (v : Vector α n) {j k : Fin n} (f : α → α) (h : ¬ j = k) :
    (vmod v k f)[(j : Nat)] = v[(j : Nat)] := by
  have : k.val ≠ j.val := fun e => h (Fin.ext e.symm)
  simp [vmod, this]

/-- Two changes of one element are one change. -/
@[simp] theorem vmod_vmod {α : Type} {n : Nat} (v : Vector α n) (k : Fin n) (f g : α → α) :
    vmod (vmod v k f) k g = vmod v k (fun x => g (f x)) := by
  simp [vmod]

end Sys2Proof.Machine
end

