-- ==== Sys2Proof/Laws/Compose.lean ====
section
/-! SUPPORT. Two updates of one part of the state are one update. -/
namespace Sys2Proof.Machine

@[simp] theorem State.modTb_modTb (s : State) (f g : Timebase → Timebase) :
    (s.modTb f).modTb g = s.modTb (fun x => g (f x)) := rfl
@[simp] theorem State.modStart_modStart (s : State) (f g : Start → Start) :
    (s.modStart f).modStart g = s.modStart (fun x => g (f x)) := rfl
@[simp] theorem State.modStore_modStore (s : State) (f g : Store → Store) :
    (s.modStore f).modStore g = s.modStore (fun x => g (f x)) := rfl
@[simp] theorem State.modFlue_modFlue (s : State) (f g : Flue → Flue) :
    (s.modFlue f).modFlue g = s.modFlue (fun x => g (f x)) := rfl
@[simp] theorem State.modJournal_modJournal (s : State) (f g : Journal → Journal) :
    (s.modJournal f).modJournal g = s.modJournal (fun x => g (f x)) := rfl
@[simp] theorem State.modTrace_modTrace (s : State) (f g : Trace → Trace) :
    (s.modTrace f).modTrace g = s.modTrace (fun x => g (f x)) := rfl
@[simp] theorem State.modMem_modMem (s : State) (f g : Mem → Mem) :
    (s.modMem f).modMem g = s.modMem (fun x => g (f x)) := rfl
@[simp] theorem State.modPorter_modPorter (s : State) (f g : Porter → Porter) :
    (s.modPorter f).modPorter g = s.modPorter (fun x => g (f x)) := rfl
@[simp] theorem State.modThermal_modThermal (s : State) (f g : Thermal → Thermal) :
    (s.modThermal f).modThermal g = s.modThermal (fun x => g (f x)) := rfl
@[simp] theorem State.modFabric_modFabric (s : State) (f g : Fabric → Fabric) :
    (s.modFabric f).modFabric g = s.modFabric (fun x => g (f x)) := rfl
@[simp] theorem State.modPorts_modPorts (s : State) (f g : Ports → Ports) :
    (s.modPorts f).modPorts g = s.modPorts (fun x => g (f x)) := rfl
@[simp] theorem State.modAux_modAux (s : State) (f g : AuxLink → AuxLink) :
    (s.modAux f).modAux g = s.modAux (fun x => g (f x)) := rfl
@[simp] theorem State.modCal_modCal (s : State) (f g : Cal → Cal) :
    (s.modCal f).modCal g = s.modCal (fun x => g (f x)) := rfl
@[simp] theorem State.modSafety_modSafety (s : State) (f g : Safety → Safety) :
    (s.modSafety f).modSafety g = s.modSafety (fun x => g (f x)) := rfl
@[simp] theorem State.modSensor_modSensor (s : State) (i : Fin 44) (f g : Sensor → Sensor) :
    (s.modSensor i f).modSensor i g = s.modSensor i (fun x => g (f x)) := by simp [State.modSensor]
@[simp] theorem State.modCan_modCan (s : State) (p : Fin 6) (f g : CanPort → CanPort) :
    (s.modCan p f).modCan p g = s.modCan p (fun x => g (f x)) := by simp [State.modCan]
@[simp] theorem State.modLink_modLink (s : State) (l : Fin 4) (f g : FabLink → FabLink) :
    (s.modLink l f).modLink l g = s.modLink l (fun x => g (f x)) := by simp [State.modLink]
@[simp] theorem State.modPort_modPort (s : State) (p : Fin 4) (f g : Port → Port) :
    (s.modPort p f).modPort p g = s.modPort p (fun x => g (f x)) := by simp [State.modPort]
@[simp] theorem State.modLat_modLat (s : State) (k : Fin 8) (f g : Lat → Lat) :
    (s.modLat k f).modLat k g = s.modLat k (fun x => g (f x)) := by simp [State.modLat]
@[simp] theorem State.modTfu_modTfu (s : State) (m : Fin 4) (f g : Tfu → Tfu) :
    (s.modTfu m f).modTfu m g = s.modTfu m (fun x => g (f x)) := by simp [State.modTfu]
@[simp] theorem State.modObs_modObs (s : State) (m : Fin 4) (f g : Observer → Observer) :
    (s.modObs m f).modObs m g = s.modObs m (fun x => g (f x)) := by simp [State.modObs]
@[simp] theorem State.modStartM_modStartM (s : State) (m : Fin 4) (f g : StartMachine → StartMachine) :
    (s.modStartM m f).modStartM m g = s.modStartM m (fun x => g (f x)) := by simp [State.modStartM]
@[simp] theorem State.modStove_modStove (s : State) (i : Fin 4) (f g : Stove → Stove) :
    (s.modStove i f).modStove i g = s.modStove i (fun x => g (f x)) := by simp [State.modStove]
@[simp] theorem State.modProf_modProf (s : State) (c : Fin 12) (f g : Channel09 → Channel09) :
    (s.modProf c f).modProf c g = s.modProf c (fun x => g (f x)) := by simp [State.modProf]
@[simp] theorem State.modAxis_modAxis (s : State) (k : Fin 6) (f g : Axis → Axis) :
    (s.modAxis k f).modAxis k g = s.modAxis k (fun x => g (f x)) := by simp [State.modAxis]
@[simp] theorem State.modLeg_modLeg (s : State) (l : Fin 12) (f g : Leg → Leg) :
    (s.modLeg l f).modLeg l g = s.modLeg l (fun x => g (f x)) := by simp [State.modLeg]
@[simp] theorem State.modGl_modGl (s : State) (m : Fin 4) (f g : GateLink → GateLink) :
    (s.modGl m f).modGl m g = s.modGl m (fun x => g (f x)) := by simp [State.modGl]
@[simp] theorem State.modDrive_modDrive (s : State) (m : Fin 4) (f g : Drive → Drive) :
    (s.modDrive m f).modDrive m g = s.modDrive m (fun x => g (f x)) := by simp [State.modDrive]
@[simp] theorem State.modShare_modShare (s : State) (m : Fin 4) (f g : Share → Share) :
    (s.modShare m f).modShare m g = s.modShare m (fun x => g (f x)) := by simp [State.modShare]
@[simp] theorem State.modCalM_modCalM (s : State) (m : Fin 4) (f g : CalMachine → CalMachine) :
    (s.modCalM m f).modCalM m g = s.modCalM m (fun x => g (f x)) := by simp [State.modCalM]
@[simp] theorem State.modHearth_modHearth (s : State) (h : Fin 4) (f g : Hearth → Hearth) :
    (s.modHearth h f).modHearth h g = s.modHearth h (fun x => g (f x)) := by simp [State.modHearth]
@[simp] theorem State.modChan_modChan (s : State) (m : Fin 4) (c : Fin 4) (f g : Channel → Channel) :
    (s.modChan m c f).modChan m c g = s.modChan m c (fun x => g (f x)) := by simp [State.modChan]

end Sys2Proof.Machine
end

