-- ==== Sys2Proof/Laws/Exec.lean ====
section
/-! SUPPORT. The arms of exec, one equation for each command: later proofs rewrite with these and never unfold exec. -/
namespace Sys2Proof.Machine

@[simp] theorem exec_timebaseWrap (dt : Nat) (s : State) :
    exec (.timebaseWrap dt) s = execTimebaseWrap dt s := rfl
@[simp] theorem exec_decisionStrobe (dt : Nat) (m : Fin 4) (iu iv idc vdc vlow : BitVec 58) (bridges : Vector (BitVec 58 × BitVec 58) 3) (s : State) :
    exec (.decisionStrobe dt m iu iv idc vdc vlow bridges) s = execDecisionStrobe dt m iu iv idc vdc vlow bridges s := rfl
@[simp] theorem exec_sampleBoundary (dt : Nat) (m : Fin 4) (fine : Vector (BitVec 766) 4) (s : State) :
    exec (.sampleBoundary dt m fine) s = execSampleBoundary dt m fine s := rfl
@[simp] theorem exec_tfuDecision (dt : Nat) (m : Fin 4) (s : State) :
    exec (.tfuDecision dt m) s = execTfuDecision dt m s := rfl
@[simp] theorem exec_frameLaunch (dt : Nat) (m : Fin 4) (s : State) :
    exec (.frameLaunch dt m) s = execFrameLaunch dt m s := rfl
@[simp] theorem exec_tripFrameLaunch (dt : Nat) (m : Fin 4) (s : State) :
    exec (.tripFrameLaunch dt m) s = execTripFrameLaunch dt m s := rfl
@[simp] theorem exec_overcurrentTrip (dt : Nat) (m : Fin 4) (c : Fin 5) (seen : BitVec 15) (level : BitVec 10) (s : State) :
    exec (.overcurrentTrip dt m c seen level) s = execOvercurrentTrip dt m c seen level s := rfl
@[simp] theorem exec_unownedWindowTrip (dt : Nat) (a : Fin 16) (level : BitVec 10) (s : State) :
    exec (.unownedWindowTrip dt a level) s = execUnownedWindowTrip dt a level s := rfl
@[simp] theorem exec_profileRefDeadline (dt : Nat) (i : Fin 4) (ready : Bool) (s : State) :
    exec (.profileRefDeadline dt i ready) s = execProfileRefDeadline dt i ready s := rfl
@[simp] theorem exec_railReport (dt : Nat) (mv : Vector Nat 9) (s : State) :
    exec (.railReport dt mv) s = execRailReport dt mv s := rfl
@[simp] theorem exec_timebaseReferenceLoss (dt : Nat) (s : State) :
    exec (.timebaseReferenceLoss dt) s = execTimebaseReferenceLoss dt s := rfl
@[simp] theorem exec_referenceHoldoverExpiry (dt : Nat) (s : State) :
    exec (.referenceHoldoverExpiry dt) s = execReferenceHoldoverExpiry dt s := rfl
@[simp] theorem exec_referenceReturn (dt : Nat) (s : State) :
    exec (.referenceReturn dt) s = execReferenceReturn dt s := rfl
@[simp] theorem exec_supplyOrderViolation (dt : Nat) (supply : Supply) (kind : SupplyFault) (s : State) :
    exec (.supplyOrderViolation dt supply kind) s = execSupplyOrderViolation dt supply kind s := rfl
@[simp] theorem exec_coreBrownOut (dt : Nat) (s : State) :
    exec (.coreBrownOut dt) s = execCoreBrownOut dt s := rfl
@[simp] theorem exec_vanaBrownOut (dt : Nat) (s : State) :
    exec (.vanaBrownOut dt) s = execVanaBrownOut dt s := rfl
@[simp] theorem exec_vanaReturn (dt : Nat) (ok : Bool) (s : State) :
    exec (.vanaReturn dt ok) s = execVanaReturn dt ok s := rfl
@[simp] theorem exec_damperPowerOn (dt : Nat) (s : State) :
    exec (.damperPowerOn dt) s = execDamperPowerOn dt s := rfl
@[simp] theorem exec_damperStart (dt : Nat) (pass : Bool) (s : State) :
    exec (.damperStart dt pass) s = execDamperStart dt pass s := rfl
@[simp] theorem exec_startReference (dt : Nat) (s : State) :
    exec (.startReference dt) s = execStartReference dt s := rfl
@[simp] theorem exec_pllLock (dt : Nat) (s : State) :
    exec (.pllLock dt) s = execPllLock dt s := rfl
@[simp] theorem exec_stagedReleaseStep (dt : Nat) (s : State) :
    exec (.stagedReleaseStep dt) s = execStagedReleaseStep dt s := rfl
@[simp] theorem exec_railRegulationTimeout (dt : Nat) (s : State) :
    exec (.railRegulationTimeout dt) s = execRailRegulationTimeout dt s := rfl
@[simp] theorem exec_railOffPeriodEnd (dt : Nat) (s : State) :
    exec (.railOffPeriodEnd dt) s = execRailOffPeriodEnd dt s := rfl
@[simp] theorem exec_bootRomStart (dt : Nat) (s : State) :
    exec (.bootRomStart dt) s = execBootRomStart dt s := rfl
@[simp] theorem exec_startupTestsEnd (dt : Nat) (t : StartTests) (s : State) :
    exec (.startupTestsEnd dt t) s = execStartupTestsEnd dt t s := rfl
@[simp] theorem exec_resetNAssert (dt : Nat) (s : State) :
    exec (.resetNAssert dt) s = execResetNAssert dt s := rfl
@[simp] theorem exec_resetNRelease (dt : Nat) (s : State) :
    exec (.resetNRelease dt) s = execResetNRelease dt s := rfl
@[simp] theorem exec_moduleResetTake (dt : Nat) (s : State) :
    exec (.moduleResetTake dt) s = execModuleResetTake dt s := rfl
@[simp] theorem exec_commandPacketReceive (dt : Nat) (s : State) :
    exec (.commandPacketReceive dt) s = execCommandPacketReceive dt s := rfl
@[simp] theorem exec_canSegmentReceive (dt : Nat) (p : Fin 6) (s : State) :
    exec (.canSegmentReceive dt p) s = execCanSegmentReceive dt p s := rfl
@[simp] theorem exec_canSegmentTimeout (dt : Nat) (p : Fin 6) (s : State) :
    exec (.canSegmentTimeout dt p) s = execCanSegmentTimeout dt p s := rfl
@[simp] theorem exec_sessionIdleTimeout (dt : Nat) (b : Fin 512) (s : State) :
    exec (.sessionIdleTimeout dt b) s = execSessionIdleTimeout dt b s := rfl
@[simp] theorem exec_sessionProofTimeout (dt : Nat) (b : Fin 512) (s : State) :
    exec (.sessionProofTimeout dt b) s = execSessionProofTimeout dt b s := rfl
@[simp] theorem exec_longCommandTimeout (dt : Nat) (tr : Transport) (tag : BitVec 16) (s : State) :
    exec (.longCommandTimeout dt tr tag) s = execLongCommandTimeout dt tr tag s := rfl
@[simp] theorem exec_identify (tr : Transport) (tag : BitVec 16) (s : State) :
    exec (.identify tr tag) s = execIdentify tr tag s := rfl
@[simp] theorem exec_status (tr : Transport) (tag : BitVec 16) (s : State) :
    exec (.status tr tag) s = execStatus tr tag s := rfl
@[simp] theorem exec_barrier (tr : Transport) (tag : BitVec 16) (s : State) :
    exec (.barrier tr tag) s = execBarrier tr tag s := rfl
@[simp] theorem exec_abort (tr : Transport) (tag : BitVec 16) (s : State) :
    exec (.abort tr tag) s = execAbort tr tag s := rfl
@[simp] theorem exec_moduleReset (tr : Transport) (tag : BitVec 16) (s : State) :
    exec (.moduleReset tr tag) s = execModuleReset tr tag s := rfl
@[simp] theorem exec_blockReset (tr : Transport) (tag : BitVec 16) (s : State) :
    exec (.blockReset tr tag) s = execBlockReset tr tag s := rfl
@[simp] theorem exec_timeRead (tr : Transport) (tag : BitVec 16) (s : State) :
    exec (.timeRead tr tag) s = execTimeRead tr tag s := rfl
@[simp] theorem exec_paramRead (tr : Transport) (tag : BitVec 16) (s : State) :
    exec (.paramRead tr tag) s = execParamRead tr tag s := rfl
@[simp] theorem exec_paramWrite (tr : Transport) (tag : BitVec 16) (s : State) :
    exec (.paramWrite tr tag) s = execParamWrite tr tag s := rfl
@[simp] theorem exec_thermalAck (dt : Nat) (sensor : Fin 44) (s : State) :
    exec (.thermalAck dt sensor) s = execThermalAck dt sensor s := rfl
@[simp] theorem exec_paramStore (tr : Transport) (tag : BitVec 16) (s : State) :
    exec (.paramStore tr tag) s = execParamStore tr tag s := rfl
@[simp] theorem exec_paramStoreComplete (dt : Nat) (bad : Bool) (s : State) :
    exec (.paramStoreComplete dt bad) s = execParamStoreComplete dt bad s := rfl
@[simp] theorem exec_paramInfo (tr : Transport) (tag : BitVec 16) (s : State) :
    exec (.paramInfo tr tag) s = execParamInfo tr tag s := rfl
@[simp] theorem exec_enable (tr : Transport) (tag : BitVec 16) (s : State) :
    exec (.enable tr tag) s = execEnable tr tag s := rfl
@[simp] theorem exec_enableComplete (dt : Nat) (m : Fin 4) (s : State) :
    exec (.enableComplete dt m) s = execEnableComplete dt m s := rfl
@[simp] theorem exec_disable (tr : Transport) (tag : BitVec 16) (s : State) :
    exec (.disable tr tag) s = execDisable tr tag s := rfl
@[simp] theorem exec_quickStop (tr : Transport) (tag : BitVec 16) (s : State) :
    exec (.quickStop tr tag) s = execQuickStop tr tag s := rfl
@[simp] theorem exec_setReference (tr : Transport) (tag : BitVec 16) (s : State) :
    exec (.setReference tr tag) s = execSetReference tr tag s := rfl
@[simp] theorem exec_machineStatus (tr : Transport) (tag : BitVec 16) (s : State) :
    exec (.machineStatus tr tag) s = execMachineStatus tr tag s := rfl
@[simp] theorem exec_profileAppend (tr : Transport) (tag : BitVec 16) (s : State) :
    exec (.profileAppend tr tag) s = execProfileAppend tr tag s := rfl
@[simp] theorem exec_profileBlend (tr : Transport) (tag : BitVec 16) (s : State) :
    exec (.profileBlend tr tag) s = execProfileBlend tr tag s := rfl
@[simp] theorem exec_profileStop (tr : Transport) (tag : BitVec 16) (s : State) :
    exec (.profileStop tr tag) s = execProfileStop tr tag s := rfl
@[simp] theorem exec_profileFaultStop (tr : Transport) (tag : BitVec 16) (s : State) :
    exec (.profileFaultStop tr tag) s = execProfileFaultStop tr tag s := rfl
@[simp] theorem exec_profileStatus (tr : Transport) (tag : BitVec 16) (s : State) :
    exec (.profileStatus tr tag) s = execProfileStatus tr tag s := rfl
@[simp] theorem exec_axisEnable (tr : Transport) (tag : BitVec 16) (s : State) :
    exec (.axisEnable tr tag) s = execAxisEnable tr tag s := rfl
@[simp] theorem exec_axisDisable (tr : Transport) (tag : BitVec 16) (s : State) :
    exec (.axisDisable tr tag) s = execAxisDisable tr tag s := rfl
@[simp] theorem exec_axisStop (tr : Transport) (tag : BitVec 16) (s : State) :
    exec (.axisStop tr tag) s = execAxisStop tr tag s := rfl
@[simp] theorem exec_safetyStatus (tr : Transport) (tag : BitVec 16) (s : State) :
    exec (.safetyStatus tr tag) s = execSafetyStatus tr tag s := rfl
@[simp] theorem exec_safetyCrc (tr : Transport) (tag : BitVec 16) (s : State) :
    exec (.safetyCrc tr tag) s = execSafetyCrc tr tag s := rfl
@[simp] theorem exec_safetyValidate (tr : Transport) (tag : BitVec 16) (s : State) :
    exec (.safetyValidate tr tag) s = execSafetyValidate tr tag s := rfl
@[simp] theorem exec_flueRead (tr : Transport) (tag : BitVec 16) (s : State) :
    exec (.flueRead tr tag) s = execFlueRead tr tag s := rfl
@[simp] theorem exec_faultClear (tr : Transport) (tag : BitVec 16) (s : State) :
    exec (.faultClear tr tag) s = execFaultClear tr tag s := rfl
@[simp] theorem exec_recordRelease (tr : Transport) (tag : BitVec 16) (s : State) :
    exec (.recordRelease tr tag) s = execRecordRelease tr tag s := rfl
@[simp] theorem exec_journalRead (tr : Transport) (tag : BitVec 16) (s : State) :
    exec (.journalRead tr tag) s = execJournalRead tr tag s := rfl
@[simp] theorem exec_sessionOpen (tr : Transport) (tag : BitVec 16) (s : State) :
    exec (.sessionOpen tr tag) s = execSessionOpen tr tag s := rfl
@[simp] theorem exec_sessionProve (tr : Transport) (tag : BitVec 16) (s : State) :
    exec (.sessionProve tr tag) s = execSessionProve tr tag s := rfl
@[simp] theorem exec_sessionClose (tr : Transport) (tag : BitVec 16) (s : State) :
    exec (.sessionClose tr tag) s = execSessionClose tr tag s := rfl
@[simp] theorem exec_berthRead (tr : Transport) (tag : BitVec 16) (s : State) :
    exec (.berthRead tr tag) s = execBerthRead tr tag s := rfl
@[simp] theorem exec_canObjBind (tr : Transport) (tag : BitVec 16) (s : State) :
    exec (.canObjBind tr tag) s = execCanObjBind tr tag s := rfl
@[simp] theorem exec_canObjFree (tr : Transport) (tag : BitVec 16) (s : State) :
    exec (.canObjFree tr tag) s = execCanObjFree tr tag s := rfl
@[simp] theorem exec_canSend (tr : Transport) (tag : BitVec 16) (s : State) :
    exec (.canSend tr tag) s = execCanSend tr tag s := rfl
@[simp] theorem exec_canRead (tr : Transport) (tag : BitVec 16) (s : State) :
    exec (.canRead tr tag) s = execCanRead tr tag s := rfl
@[simp] theorem exec_canStage (tr : Transport) (tag : BitVec 16) (s : State) :
    exec (.canStage tr tag) s = execCanStage tr tag s := rfl
@[simp] theorem exec_fabricTopology (tr : Transport) (tag : BitVec 16) (s : State) :
    exec (.fabricTopology tr tag) s = execFabricTopology tr tag s := rfl
@[simp] theorem exec_linkReset (tr : Transport) (tag : BitVec 16) (s : State) :
    exec (.linkReset tr tag) s = execLinkReset tr tag s := rfl
@[simp] theorem exec_calRestart (tr : Transport) (tag : BitVec 16) (s : State) :
    exec (.calRestart tr tag) s = execCalRestart tr tag s := rfl
@[simp] theorem exec_portCalRestart (tr : Transport) (tag : BitVec 16) (s : State) :
    exec (.portCalRestart tr tag) s = execPortCalRestart tr tag s := rfl
@[simp] theorem exec_regRead (tr : Transport) (tag : BitVec 16) (s : State) :
    exec (.regRead tr tag) s = execRegRead tr tag s := rfl
@[simp] theorem exec_regWrite (tr : Transport) (tag : BitVec 16) (s : State) :
    exec (.regWrite tr tag) s = execRegWrite tr tag s := rfl
@[simp] theorem exec_regMode (tr : Transport) (tag : BitVec 16) (s : State) :
    exec (.regMode tr tag) s = execRegMode tr tag s := rfl
@[simp] theorem exec_imageLoadBegin (tr : Transport) (tag : BitVec 16) (s : State) :
    exec (.imageLoadBegin tr tag) s = execImageLoadBegin tr tag s := rfl
@[simp] theorem exec_imageLoadData (tr : Transport) (tag : BitVec 16) (bad : Bool) (s : State) :
    exec (.imageLoadData tr tag bad) s = execImageLoadData tr tag bad s := rfl
@[simp] theorem exec_imageLoadEnd (tr : Transport) (tag : BitVec 16) (s : State) :
    exec (.imageLoadEnd tr tag) s = execImageLoadEnd tr tag s := rfl
@[simp] theorem exec_imageLoadEndComplete (dt : Nat) (bad : Bool) (s : State) :
    exec (.imageLoadEndComplete dt bad) s = execImageLoadEndComplete dt bad s := rfl
@[simp] theorem exec_imageLoadIdleTimeout (dt : Nat) (s : State) :
    exec (.imageLoadIdleTimeout dt) s = execImageLoadIdleTimeout dt s := rfl
@[simp] theorem exec_confirmImage (tr : Transport) (tag : BitVec 16) (bad : Bool) (s : State) :
    exec (.confirmImage tr tag bad) s = execConfirmImage tr tag bad s := rfl
@[simp] theorem exec_hearthSplit (tr : Transport) (tag : BitVec 16) (s : State) :
    exec (.hearthSplit tr tag) s = execHearthSplit tr tag s := rfl
@[simp] theorem exec_hearthRejoin (tr : Transport) (tag : BitVec 16) (s : State) :
    exec (.hearthRejoin tr tag) s = execHearthRejoin tr tag s := rfl
@[simp] theorem exec_keyWrite (tr : Transport) (tag : BitVec 16) (s : State) :
    exec (.keyWrite tr tag) s = execKeyWrite tr tag s := rfl
@[simp] theorem exec_traceTrigger (tr : Transport) (tag : BitVec 16) (s : State) :
    exec (.traceTrigger tr tag) s = execTraceTrigger tr tag s := rfl
@[simp] theorem exec_traceList (tr : Transport) (tag : BitVec 16) (s : State) :
    exec (.traceList tr tag) s = execTraceList tr tag s := rfl
@[simp] theorem exec_traceRead (tr : Transport) (tag : BitVec 16) (s : State) :
    exec (.traceRead tr tag) s = execTraceRead tr tag s := rfl
@[simp] theorem exec_traceProtect (tr : Transport) (tag : BitVec 16) (s : State) :
    exec (.traceProtect tr tag) s = execTraceProtect tr tag s := rfl
@[simp] theorem exec_sarConversionStart (dt : Nat) (m : Fin 4) (c : Fin 6) (s : State) :
    exec (.sarConversionStart dt m c) s = execSarConversionStart dt m c s := rfl
@[simp] theorem exec_sarConversionComplete (dt : Nat) (m : Fin 4) (c : Fin 6) (word : BitVec 16) (s : State) :
    exec (.sarConversionComplete dt m c word) s = execSarConversionComplete dt m c word s := rfl
@[simp] theorem exec_abzEdge (dt : Nat) (p : Fin 4) (a b : Bool) (stable : Nat) (s : State) :
    exec (.abzEdge dt p a b stable) s = execAbzEdge dt p a b stable s := rfl
@[simp] theorem exec_zIndexEdge (dt : Nat) (p : Fin 4) (stable : Nat) (s : State) :
    exec (.zIndexEdge dt p stable) s = execZIndexEdge dt p stable s := rfl
@[simp] theorem exec_ssiTransferComplete (dt : Nat) (p : Fin 4) (raw : BitVec 32) (bad : Bool) (s : State) :
    exec (.ssiTransferComplete dt p raw bad) s = execSsiTransferComplete dt p raw bad s := rfl
@[simp] theorem exec_latEdge (dt : Nat) (k : Fin 8) (rising : Bool) (stable : Nat) (s : State) :
    exec (.latEdge dt k rising stable) s = execLatEdge dt k rising stable s := rfl
@[simp] theorem exec_sensorLoss (dt : Nat) (m : Fin 4) (i : Fin 5) (port : Bool) (seen : LossTest) (s : State) :
    exec (.sensorLoss dt m i port seen) s = execSensorLoss dt m i port seen s := rfl
@[simp] theorem exec_ceilingRampFreeze (dt : Nat) (m : Fin 4) (s : State) :
    exec (.ceilingRampFreeze dt m) s = execCeilingRampFreeze dt m s := rfl
@[simp] theorem exec_catchRepeat (dt : Nat) (m : Fin 4) (s : State) :
    exec (.catchRepeat dt m) s = execCatchRepeat dt m s := rfl
@[simp] theorem exec_catchTimeout (dt : Nat) (m : Fin 4) (s : State) :
    exec (.catchTimeout dt m) s = execCatchTimeout dt m s := rfl
@[simp] theorem exec_magnetiseTimeout (dt : Nat) (m : Fin 4) (s : State) :
    exec (.magnetiseTimeout dt m) s = execMagnetiseTimeout dt m s := rfl
@[simp] theorem exec_openTimeout (dt : Nat) (m : Fin 4) (s : State) :
    exec (.openTimeout dt m) s = execOpenTimeout dt m s := rfl
@[simp] theorem exec_bankHoldExpiry (dt : Nat) (m : Fin 4) (s : State) :
    exec (.bankHoldExpiry dt m) s = execBankHoldExpiry dt m s := rfl
@[simp] theorem exec_stoveRunEnd (dt : Nat) (i : Fin 4) (s : State) :
    exec (.stoveRunEnd dt i) s = execStoveRunEnd dt i s := rfl
@[simp] theorem exec_axisGridTick (dt : Nat) (late : BitVec 6) (s : State) :
    exec (.axisGridTick dt late) s = execAxisGridTick dt late s := rfl
@[simp] theorem exec_microstepApply (dt : Nat) (k : Fin 6) (s : State) :
    exec (.microstepApply dt k) s = execMicrostepApply dt k s := rfl
@[simp] theorem exec_auxSettingApply (dt : Nat) (k : Fin 6) (s : State) :
    exec (.auxSettingApply dt k) s = execAuxSettingApply dt k s := rfl
@[simp] theorem exec_chopperCurrentReached (dt : Nat) (l : Fin 12) (s : State) :
    exec (.chopperCurrentReached dt l) s = execChopperCurrentReached dt l s := rfl
@[simp] theorem exec_chopperFastDecayEnd (dt : Nat) (l : Fin 12) (s : State) :
    exec (.chopperFastDecayEnd dt l) s = execChopperFastDecayEnd dt l s := rfl
@[simp] theorem exec_chopperOffExpiry (dt : Nat) (l : Fin 12) (s : State) :
    exec (.chopperOffExpiry dt l) s = execChopperOffExpiry dt l s := rfl
@[simp] theorem exec_standstillIdleExpiry (dt : Nat) (k : Fin 6) (s : State) :
    exec (.standstillIdleExpiry dt k) s = execStandstillIdleExpiry dt k s := rfl
@[simp] theorem exec_uplinkFrameReceive (dt : Nat) (m : Fin 4) (frame : BitVec 64) (s : State) :
    exec (.uplinkFrameReceive dt m frame) s = execUplinkFrameReceive dt m frame s := rfl
@[simp] theorem exec_uplinkMissing (dt : Nat) (m : Fin 4) (s : State) :
    exec (.uplinkMissing dt m) s = execUplinkMissing dt m s := rfl
@[simp] theorem exec_chopperTEffExpiry (dt : Nat) (o : Fin 4) (s : State) :
    exec (.chopperTEffExpiry dt o) s = execChopperTEffExpiry dt o s := rfl
@[simp] theorem exec_shutdownLineSet (dt : Nat) (m : Fin 4) (s : State) :
    exec (.shutdownLineSet dt m) s = execShutdownLineSet dt m s := rfl
@[simp] theorem exec_stopZeroTimeout (dt : Nat) (m : Fin 4) (s : State) :
    exec (.stopZeroTimeout dt m) s = execStopZeroTimeout dt m s := rfl
@[simp] theorem exec_zeroDwellEnd (dt : Nat) (m : Fin 4) (s : State) :
    exec (.zeroDwellEnd dt m) s = execZeroDwellEnd dt m s := rfl
@[simp] theorem exec_brakeHoldExpiry (dt : Nat) (m : Fin 4) (s : State) :
    exec (.brakeHoldExpiry dt m) s = execBrakeHoldExpiry dt m s := rfl
@[simp] theorem exec_torqueRampEnd (dt : Nat) (m : Fin 4) (s : State) :
    exec (.torqueRampEnd dt m) s = execTorqueRampEnd dt m s := rfl
@[simp] theorem exec_brakeReleaseWaitEnd (dt : Nat) (m : Fin 4) (s : State) :
    exec (.brakeReleaseWaitEnd dt m) s = execBrakeReleaseWaitEnd dt m s := rfl
@[simp] theorem exec_brakeReleaseTimeout (dt : Nat) (m : Fin 4) (s : State) :
    exec (.brakeReleaseTimeout dt m) s = execBrakeReleaseTimeout dt m s := rfl
@[simp] theorem exec_commandWatchdogExpiry (dt : Nat) (m : Fin 4) (s : State) :
    exec (.commandWatchdogExpiry dt m) s = execCommandWatchdogExpiry dt m s := rfl
@[simp] theorem exec_commandHoldExpiry (dt : Nat) (m : Fin 4) (s : State) :
    exec (.commandHoldExpiry dt m) s = execCommandHoldExpiry dt m s := rfl
@[simp] theorem exec_renderDwellExpiry (dt : Nat) (m : Fin 4) (s : State) :
    exec (.renderDwellExpiry dt m) s = execRenderDwellExpiry dt m s := rfl
@[simp] theorem exec_renderOverspeed (dt : Nat) (m : Fin 4) (s : State) :
    exec (.renderOverspeed dt m) s = execRenderOverspeed dt m s := rfl
@[simp] theorem exec_memberReportReceive (dt : Nat) (s : State) :
    exec (.memberReportReceive dt) s = execMemberReportReceive dt s := rfl
@[simp] theorem exec_distributorRun (dt : Nat) (m : Fin 4) (s : State) :
    exec (.distributorRun dt m) s = execDistributorRun dt m s := rfl
@[simp] theorem exec_shareReceive (dt : Nat) (s : State) :
    exec (.shareReceive dt) s = execShareReceive dt s := rfl
@[simp] theorem exec_reportShareMiss (dt : Nat) (m : Fin 4) (k : Option (Fin 8)) (s : State) :
    exec (.reportShareMiss dt m k) s = execReportShareMiss dt m k s := rfl
@[simp] theorem exec_transferFrameReceive (dt : Nat) (s : State) :
    exec (.transferFrameReceive dt) s = execTransferFrameReceive dt s := rfl
@[simp] theorem exec_homeLostTransfer (dt : Nat) (m : Fin 4) (s : State) :
    exec (.homeLostTransfer dt m) s = execHomeLostTransfer dt m s := rfl
@[simp] theorem exec_transferTimeout (dt : Nat) (m : Fin 4) (s : State) :
    exec (.transferTimeout dt m) s = execTransferTimeout dt m s := rfl
@[simp] theorem exec_calWindowClose (dt : Nat) (m : Fin 4) (k : Fin 3) (s : State) :
    exec (.calWindowClose dt m k) s = execCalWindowClose dt m k s := rfl
@[simp] theorem exec_calFit (dt : Nat) (m : Fin 4) (k : Fin 3) (s : State) :
    exec (.calFit dt m k) s = execCalFit dt m k s := rfl
@[simp] theorem exec_standstillCaptureStart (dt : Nat) (m : Fin 4) (s : State) :
    exec (.standstillCaptureStart dt m) s = execStandstillCaptureStart dt m s := rfl
@[simp] theorem exec_standstillCaptureEnd (dt : Nat) (m : Fin 4) (s : State) :
    exec (.standstillCaptureEnd dt m) s = execStandstillCaptureEnd dt m s := rfl
@[simp] theorem exec_portCalFit (dt : Nat) (p : Fin 4) (s : State) :
    exec (.portCalFit dt p) s = execPortCalFit dt p s := rfl
@[simp] theorem exec_replicaMeasure (dt : Nat) (k : Fin 9) (m0 m1 : Int) (s : State) :
    exec (.replicaMeasure dt k m0 m1) s = execReplicaMeasure dt k m0 m1 s := rfl
@[simp] theorem exec_railMarginAdjust (dt : Nat) (s : State) :
    exec (.railMarginAdjust dt) s = execRailMarginAdjust dt s := rfl
@[simp] theorem exec_sensorCrossCheck (dt : Nat) (s : State) :
    exec (.sensorCrossCheck dt) s = execSensorCrossCheck dt s := rfl
@[simp] theorem exec_heartbeatSend (dt : Nat) (fromH0 : Bool) (s : State) :
    exec (.heartbeatSend dt fromH0) s = execHeartbeatSend dt fromH0 s := rfl
@[simp] theorem exec_damperHeartbeatReceive (dt : Nat) (counter : BitVec 4) (code : BitVec 8) (s : State) :
    exec (.damperHeartbeatReceive dt counter code) s = execDamperHeartbeatReceive dt counter code s := rfl
@[simp] theorem exec_damperHeartbeatTimeout (dt : Nat) (s : State) :
    exec (.damperHeartbeatTimeout dt) s = execDamperHeartbeatTimeout dt s := rfl
@[simp] theorem exec_h0HeartbeatTimeout (dt : Nat) (s : State) :
    exec (.h0HeartbeatTimeout dt) s = execH0HeartbeatTimeout dt s := rfl
@[simp] theorem exec_crosslinkRequest (dt : Nat) (m : Fin 4) (s : State) :
    exec (.crosslinkRequest dt m) s = execCrosslinkRequest dt m s := rfl
@[simp] theorem exec_oscWindowEnd (dt : Nat) (count : BitVec 16) (s : State) :
    exec (.oscWindowEnd dt count) s = execOscWindowEnd dt count s := rfl
@[simp] theorem exec_safeInputChange (dt : Nat) (k : Fin 9) (chB : Bool) (level : Bool) (s : State) :
    exec (.safeInputChange dt k chB level) s = execSafeInputChange dt k chB level s := rfl
@[simp] theorem exec_safeInputFilterExpiry (dt : Nat) (h0 : Bool) (k : Fin 9) (chB : Bool) (s : State) :
    exec (.safeInputFilterExpiry dt h0 k chB) s = execSafeInputFilterExpiry dt h0 k chB s := rfl
@[simp] theorem exec_safeInputDiscrepancy (dt : Nat) (h0 : Bool) (k : Fin 9) (s : State) :
    exec (.safeInputDiscrepancy dt h0 k) s = execSafeInputDiscrepancy dt h0 k s := rfl
@[simp] theorem exec_safeInputTest (dt : Nat) (k : Fin 9) (pass : Bool) (s : State) :
    exec (.safeInputTest dt k pass) s = execSafeInputTest dt k pass s := rfl
@[simp] theorem exec_safeOutputTest (dt : Nat) (o : Fin 4) (chB : Bool) (read : Bool) (readAfter : Bool) (s : State) :
    exec (.safeOutputTest dt o chB read readAfter) s = execSafeOutputTest dt o chB read readAfter s := rfl
@[simp] theorem exec_genReadbackFault (dt : Nat) (m : Fin 4) (readA readB : Bool) (s : State) :
    exec (.genReadbackFault dt m readA readB) s = execGenReadbackFault dt m readA readB s := rfl
@[simp] theorem exec_genRaise (dt : Nat) (m : Fin 4) (s : State) :
    exec (.genRaise dt m) s = execGenRaise dt m s := rfl
@[simp] theorem exec_genRaiseTimeout (dt : Nat) (m : Fin 4) (s : State) :
    exec (.genRaiseTimeout dt m) s = execGenRaiseTimeout dt m s := rfl
@[simp] theorem exec_ss1TimeExpiry (dt : Nat) (h0 : Bool) (m : Fin 4) (s : State) :
    exec (.ss1TimeExpiry dt h0 m) s = execSs1TimeExpiry dt h0 m s := rfl
@[simp] theorem exec_sbcStoDelayExpiry (dt : Nat) (h0 : Bool) (m : Fin 4) (s : State) :
    exec (.sbcStoDelayExpiry dt h0 m) s = execSbcStoDelayExpiry dt h0 m s := rfl
@[simp] theorem exec_sosMonitorStart (dt : Nat) (h0 : Bool) (m : Fin 4) (s : State) :
    exec (.sosMonitorStart dt h0 m) s = execSosMonitorStart dt h0 m s := rfl
@[simp] theorem exec_slsReachExpiry (dt : Nat) (h0 : Bool) (m : Fin 4) (s : State) :
    exec (.slsReachExpiry dt h0 m) s = execSlsReachExpiry dt h0 m s := rfl
@[simp] theorem exec_spSubgateEnd (dt : Nat) (q : Fin 2) (s : State) :
    exec (.spSubgateEnd dt q) s = execSpSubgateEnd dt q s := rfl
@[simp] theorem exec_h0SafetyCheck (dt : Nat) (s : State) :
    exec (.h0SafetyCheck dt) s = execH0SafetyCheck dt s := rfl
@[simp] theorem exec_brakeReleaseRequest (dt : Nat) (o : Fin 4) (s : State) :
    exec (.brakeReleaseRequest dt o) s = execBrakeReleaseRequest dt o s := rfl
@[simp] theorem exec_brakeFeedbackTimeout (dt : Nat) (o : Fin 4) (s : State) :
    exec (.brakeFeedbackTimeout dt o) s = execBrakeFeedbackTimeout dt o s := rfl
@[simp] theorem exec_safetyPduReceive (dt : Nat) (s : State) :
    exec (.safetyPduReceive dt) s = execSafetyPduReceive dt s := rfl
@[simp] theorem exec_safetyPduSend (dt : Nat) (c : Fin 8) (s : State) :
    exec (.safetyPduSend dt c) s = execSafetyPduSend dt c s := rfl
@[simp] theorem exec_safetyWatchdogExpiry (dt : Nat) (h0 : Bool) (c : Fin 8) (s : State) :
    exec (.safetyWatchdogExpiry dt h0 c) s = execSafetyWatchdogExpiry dt h0 c s := rfl
@[simp] theorem exec_safetySetLoad (dt : Nat) (s : State) :
    exec (.safetySetLoad dt) s = execSafetySetLoad dt s := rfl
@[simp] theorem exec_transactionVote (dt : Nat) (h : Fin 4) (offers : List (Fin 3 × LaneEntry)) (misread again : Vector (Option LaneEntry) 3) (bad badAgain : Vector Bool 2) (s : State) :
    exec (.transactionVote dt h offers misread again bad badAgain) s = execTransactionVote dt h offers misread again bad badAgain s := rfl
@[simp] theorem exec_disagreementClassify (dt : Nat) (h : Fin 4) (digests : Vector (BitVec 32) 3) (s : State) :
    exec (.disagreementClassify dt h digests) s = execDisagreementClassify dt h digests s := rfl
@[simp] theorem exec_digestPoint (dt : Nat) (h : Fin 4) (digests : Vector (BitVec 32) 3) (s : State) :
    exec (.digestPoint dt h digests) s = execDigestPoint dt h digests s := rfl
@[simp] theorem exec_resyncComplete (dt : Nat) (h : Fin 4) (digests : Vector (BitVec 32) 3) (s : State) :
    exec (.resyncComplete dt h digests) s = execResyncComplete dt h digests s := rfl
@[simp] theorem exec_trivetOnlineTest (dt : Nat) (h : Fin 4) (pass : Bool) (s : State) :
    exec (.trivetOnlineTest dt h pass) s = execTrivetOnlineTest dt h pass s := rfl
@[simp] theorem exec_splitComplete (dt : Nat) (h : Fin 4) (s : State) :
    exec (.splitComplete dt h) s = execSplitComplete dt h s := rfl
@[simp] theorem exec_rejoinComplete (dt : Nat) (h : Fin 4) (digests : Vector (BitVec 32) 3) (s : State) :
    exec (.rejoinComplete dt h digests) s = execRejoinComplete dt h digests s := rfl
@[simp] theorem exec_debugHalt (dt : Nat) (h : Fin 4) (s : State) :
    exec (.debugHalt dt h) s = execDebugHalt dt h s := rfl
@[simp] theorem exec_debugResume (dt : Nat) (h : Fin 4) (single : Bool) (digests : Vector (BitVec 32) 3) (s : State) :
    exec (.debugResume dt h single digests) s = execDebugResume dt h single digests s := rfl
@[simp] theorem exec_replayWrite (dt : Nat) (h : Fin 4) (shared : Bool) (target value : BitVec 32) (s : State) :
    exec (.replayWrite dt h shared target value) s = execReplayWrite dt h shared target value s := rfl
@[simp] theorem exec_errorLineRaise (dt : Nat) (src : Fin 256) (master : BitVec 8) (addr : BitVec 32) (kind : BitVec 3) (retry : Retry) (s : State) :
    exec (.errorLineRaise dt src master addr kind retry) s = execErrorLineRaise dt src master addr kind retry s := rfl
@[simp] theorem exec_quietCheck (dt : Nat) (slow : Bool) (s : State) :
    exec (.quietCheck dt slow) s = execQuietCheck dt slow s := rfl
@[simp] theorem exec_eventMessageTake (dt : Nat) (h : Fin 4) (s : State) :
    exec (.eventMessageTake dt h) s = execEventMessageTake dt h s := rfl
@[simp] theorem exec_ferRelease (dt : Nat) (s : State) :
    exec (.ferRelease dt) s = execFerRelease dt s := rfl
@[simp] theorem exec_stickyClearWrite (dt : Nat) (i : Fin 8) (w : BitVec 32) (s : State) :
    exec (.stickyClearWrite dt i w) s = execStickyClearWrite dt i w s := rfl
@[simp] theorem exec_groupReadLatch (dt : Nat) (a : BitVec 32) (s : State) :
    exec (.groupReadLatch dt a) s = execGroupReadLatch dt a s := rfl
@[simp] theorem exec_registerWrite (dt : Nat) (a w : BitVec 32) (s : State) :
    exec (.registerWrite dt a w) s = execRegisterWrite dt a w s := rfl
@[simp] theorem exec_thermalEvaluation (dt : Nat) (sensor : Fin 44) (rd : ThermalInput) (s : State) :
    exec (.thermalEvaluation dt sensor rd) s = execThermalEvaluation dt sensor rd s := rfl
@[simp] theorem exec_thermalFactorSeal (dt : Nat) (m : Fin 4) (s : State) :
    exec (.thermalFactorSeal dt m) s = execThermalFactorSeal dt m s := rfl
@[simp] theorem exec_canStartOfFrame (dt : Nat) (p : Fin 6) (s : State) :
    exec (.canStartOfFrame dt p) s = execCanStartOfFrame dt p s := rfl
@[simp] theorem exec_canSofSamplePoint (dt : Nat) (p : Fin 6) (s : State) :
    exec (.canSofSamplePoint dt p) s = execCanSofSamplePoint dt p s := rfl
@[simp] theorem exec_canFrameReceive (dt : Nat) (p : Fin 6) (frame : CanFrame) (s : State) :
    exec (.canFrameReceive dt p frame) s = execCanFrameReceive dt p frame s := rfl
@[simp] theorem exec_canFrameSent (dt : Nat) (p : Fin 6) (delay : Option (BitVec 8)) (s : State) :
    exec (.canFrameSent dt p delay) s = execCanFrameSent dt p delay s := rfl
@[simp] theorem exec_canArbitrationLost (dt : Nat) (p : Fin 6) (s : State) :
    exec (.canArbitrationLost dt p) s = execCanArbitrationLost dt p s := rfl
@[simp] theorem exec_canBusError (dt : Nat) (p : Fin 6) (err : CanErr) (tx inData heavy exempt : Bool) (delay : Option (BitVec 8)) (s : State) :
    exec (.canBusError dt p err tx inData heavy exempt delay) s = execCanBusError dt p err tx inData heavy exempt delay s := rfl
@[simp] theorem exec_canTxTimeout (dt : Nat) (b : Fin 512) (s : State) :
    exec (.canTxTimeout dt b) s = execCanTxTimeout dt b s := rfl
@[simp] theorem exec_canRestartDelayExpiry (dt : Nat) (p : Fin 6) (s : State) :
    exec (.canRestartDelayExpiry dt p) s = execCanRestartDelayExpiry dt p s := rfl
@[simp] theorem exec_canBusOffRecovered (dt : Nat) (p : Fin 6) (s : State) :
    exec (.canBusOffRecovered dt p) s = execCanBusOffRecovered dt p s := rfl
@[simp] theorem exec_canIntegrationComplete (dt : Nat) (p : Fin 6) (s : State) :
    exec (.canIntegrationComplete dt p) s = execCanIntegrationComplete dt p s := rfl
@[simp] theorem exec_canBusOnRequest (dt : Nat) (p : Fin 6) (s : State) :
    exec (.canBusOnRequest dt p) s = execCanBusOnRequest dt p s := rfl
@[simp] theorem exec_canSleepRequest (dt : Nat) (p : Fin 6) (s : State) :
    exec (.canSleepRequest dt p) s = execCanSleepRequest dt p s := rfl
@[simp] theorem exec_canSleepEntry (dt : Nat) (p : Fin 6) (s : State) :
    exec (.canSleepEntry dt p) s = execCanSleepEntry dt p s := rfl
@[simp] theorem exec_canWakeRequest (dt : Nat) (p : Fin 6) (s : State) :
    exec (.canWakeRequest dt p) s = execCanWakeRequest dt p s := rfl
@[simp] theorem exec_canEdgeWake (dt : Nat) (p : Fin 6) (low : Nat) (s : State) :
    exec (.canEdgeWake dt p low) s = execCanEdgeWake dt p low s := rfl
@[simp] theorem exec_canFrameWake (dt : Nat) (p : Fin 6) (frame : CanFrame) (integrated : Bool) (s : State) :
    exec (.canFrameWake dt p frame integrated) s = execCanFrameWake dt p frame integrated s := rfl
@[simp] theorem exec_fabricFrameReceive (dt : Nat) (l : Fin 4) (body : List Byte) (s : State) :
    exec (.fabricFrameReceive dt l body) s = execFabricFrameReceive dt l body s := rfl
@[simp] theorem exec_fabricAckReceive (dt : Nat) (l : Fin 4) (word : BitVec 32) (s : State) :
    exec (.fabricAckReceive dt l word) s = execFabricAckReceive dt l word s := rfl
@[simp] theorem exec_fabricRetryTimeout (dt : Nat) (l : Fin 4) (cls : Fin 3) (s : State) :
    exec (.fabricRetryTimeout dt l cls) s = execFabricRetryTimeout dt l cls s := rfl
@[simp] theorem exec_fabricLockLoss (dt : Nat) (l : Fin 4) (s : State) :
    exec (.fabricLockLoss dt l) s = execFabricLockLoss dt l s := rfl
@[simp] theorem exec_fabricHelloSend (dt : Nat) (l : Fin 4) (s : State) :
    exec (.fabricHelloSend dt l) s = execFabricHelloSend dt l s := rfl
@[simp] theorem exec_fabricHelloTimeout (dt : Nat) (l : Fin 4) (s : State) :
    exec (.fabricHelloTimeout dt l) s = execFabricHelloTimeout dt l s := rfl
@[simp] theorem exec_fabricHeldExpiry (dt : Nat) (l : Fin 4) (s : State) :
    exec (.fabricHeldExpiry dt l) s = execFabricHeldExpiry dt l s := rfl
@[simp] theorem exec_linkStateSend (dt : Nat) (s : State) :
    exec (.linkStateSend dt) s = execLinkStateSend dt s := rfl
@[simp] theorem exec_innkeeperSend (dt : Nat) (s : State) :
    exec (.innkeeperSend dt) s = execInnkeeperSend dt s := rfl
@[simp] theorem exec_innkeeperTimeout (dt : Nat) (s : State) :
    exec (.innkeeperTimeout dt) s = execInnkeeperTimeout dt s := rfl
@[simp] theorem exec_electionDecide (dt : Nat) (s : State) :
    exec (.electionDecide dt) s = execElectionDecide dt s := rfl
@[simp] theorem exec_routeCommitTimeout (dt : Nat) (s : State) :
    exec (.routeCommitTimeout dt) s = execRouteCommitTimeout dt s := rfl
@[simp] theorem exec_addressReservationExpiry (dt : Nat) (s : State) :
    exec (.addressReservationExpiry dt) s = execAddressReservationExpiry dt s := rfl
@[simp] theorem exec_timeExchange (dt : Nat) (t1 t2 t3 t4 root freq : Int) (s : State) :
    exec (.timeExchange dt t1 t2 t3 t4 root freq) s = execTimeExchange dt t1 t2 t3 t4 root freq s := rfl
@[simp] theorem exec_ethFrameReceive (dt : Nat) (e : Fin 2) (frame : List Byte) (fcsOk : Bool) (s : State) :
    exec (.ethFrameReceive dt e frame fcsOk) s = execEthFrameReceive dt e frame fcsOk s := rfl
@[simp] theorem exec_ethPhyPoll (dt : Nat) (e : Fin 2) (speed : Fin 4) (full : Bool) (s : State) :
    exec (.ethPhyPoll dt e speed full) s = execEthPhyPoll dt e speed full s := rfl
@[simp] theorem exec_arpTimeout (dt : Nat) (e : Fin 2) (s : State) :
    exec (.arpTimeout dt e) s = execArpTimeout dt e s := rfl
@[simp] theorem exec_arpEntryExpiry (dt : Nat) (e : Fin 2) (s : State) :
    exec (.arpEntryExpiry dt e) s = execArpEntryExpiry dt e s := rfl
@[simp] theorem exec_hspiWritePacket (dt : Nat) (bytes : List Byte) (s : State) :
    exec (.hspiWritePacket dt bytes) s = execHspiWritePacket dt bytes s := rfl
@[simp] theorem exec_hspiReadReply (dt : Nat) (clocked : Nat) (s : State) :
    exec (.hspiReadReply dt clocked) s = execHspiReadReply dt clocked s := rfl
@[simp] theorem exec_hspiReadStatus (dt : Nat) (s : State) :
    exec (.hspiReadStatus dt) s = execHspiReadStatus dt s := rfl
@[simp] theorem exec_hspiRegisterRead (dt : Nat) (a : BitVec 32) (waits : Option (Fin 33)) (s : State) :
    exec (.hspiRegisterRead dt a waits) s = execHspiRegisterRead dt a waits s := rfl
@[simp] theorem exec_hspiRegisterWrite (dt : Nat) (a w : BitVec 32) (waits : Option (Fin 33)) (s : State) :
    exec (.hspiRegisterWrite dt a w waits) s = execHspiRegisterWrite dt a w waits s := rfl
@[simp] theorem exec_hspiUnknownCommand (dt : Nat) (b : Byte) (s : State) :
    exec (.hspiUnknownCommand dt b) s = execHspiUnknownCommand dt b s := rfl
@[simp] theorem exec_serFrameReceive (dt : Nat) (i : Fin 2) (bytes : List Byte) (framing : Bool) (gap : Nat) (s : State) :
    exec (.serFrameReceive dt i bytes framing gap) s = execSerFrameReceive dt i bytes framing gap s := rfl
@[simp] theorem exec_serReplySend (dt : Nat) (i : Fin 2) (idle : Nat) (back : List Byte) (s : State) :
    exec (.serReplySend dt i idle back) s = execSerReplySend dt i idle back s := rfl
@[simp] theorem exec_tapInstructionLoad (dt : Nat) (ir : TapIr) (s : State) :
    exec (.tapInstructionLoad dt ir) s = execTapInstructionLoad dt ir s := rfl
@[simp] theorem exec_dbgChallenge (dt : Nat) (s : State) :
    exec (.dbgChallenge dt) s = execDbgChallenge dt s := rfl
@[simp] theorem exec_dbgResponse (dt : Nat) (response : List Byte) (s : State) :
    exec (.dbgResponse dt response) s = execDbgResponse dt response s := rfl
@[simp] theorem exec_dbgAccess (dt : Nat) (h : Fin 4) (select : Option Bool) (s : State) :
    exec (.dbgAccess dt h select) s = execDbgAccess dt h select s := rfl
@[simp] theorem exec_debugLockoutExpiry (dt : Nat) (s : State) :
    exec (.debugLockoutExpiry dt) s = execDebugLockoutExpiry dt s := rfl
@[simp] theorem exec_sramScrub (dt : Nat) (row : Fin 16384) (corrected : Nat) (s : State) :
    exec (.sramScrub dt row corrected) s = execSramScrub dt row corrected s := rfl
@[simp] theorem exec_mramPatrol (dt : Nat) (corrected : Nat) (s : State) :
    exec (.mramPatrol dt corrected) s = execMramPatrol dt corrected s := rfl
@[simp] theorem exec_uncorrectableRead (dt : Nat) (sram : Bool) (a : Nat) (lasting : Bool) (h : Fin 4) (k : Nat) (entry : Bool) (s : State) :
    exec (.uncorrectableRead dt sram a lasting h k entry) s = execUncorrectableRead dt sram a lasting h k entry s := rfl
@[simp] theorem exec_journalWrite (dt : Nat) (bad : Bool) (s : State) :
    exec (.journalWrite dt bad) s = execJournalWrite dt bad s := rfl
@[simp] theorem exec_traceTriggerCondition (dt : Nat) (c : TraceCause) (s : State) :
    exec (.traceTriggerCondition dt c) s = execTraceTriggerCondition dt c s := rfl
@[simp] theorem exec_traceRecordCopy (dt : Nat) (s : State) :
    exec (.traceRecordCopy dt) s = execTraceRecordCopy dt s := rfl
@[simp] theorem exec_traceCopyComplete (dt : Nat) (bad : Bool) (s : State) :
    exec (.traceCopyComplete dt bad) s = execTraceCopyComplete dt bad s := rfl
@[simp] theorem exec_auxLinkSlot (dt : Nat) (s : State) :
    exec (.auxLinkSlot dt) s = execAuxLinkSlot dt s := rfl
@[simp] theorem exec_auxDownlinkReceive (dt : Nat) (flip : Option (BitVec 92)) (s : State) :
    exec (.auxDownlinkReceive dt flip) s = execAuxDownlinkReceive dt flip s := rfl
@[simp] theorem exec_auxUplinkReceive (dt : Nat) (flip : Option (BitVec 92)) (s : State) :
    exec (.auxUplinkReceive dt flip) s = execAuxUplinkReceive dt flip s := rfl
@[simp] theorem exec_auxResendTimeout (dt : Nat) (s : State) :
    exec (.auxResendTimeout dt) s = execAuxResendTimeout dt s := rfl
@[simp] theorem exec_auxSwitchOn (dt : Nat) (l : Fin 12) (s : State) :
    exec (.auxSwitchOn dt l) s = execAuxSwitchOn dt l s := rfl
@[simp] theorem exec_auxHandshakeTimeout (dt : Nat) (l : Fin 12) (s : State) :
    exec (.auxHandshakeTimeout dt l) s = execAuxHandshakeTimeout dt l s := rfl
@[simp] theorem exec_auxLowUvlo (dt : Nat) (leg : Option (Fin 12)) (s : State) :
    exec (.auxLowUvlo dt leg) s = execAuxLowUvlo dt leg s := rfl
@[simp] theorem exec_auxBootUvlo (dt : Nat) (l : Fin 12) (s : State) :
    exec (.auxBootUvlo dt l) s = execAuxBootUvlo dt l s := rfl
@[simp] theorem exec_auxRefreshEnd (dt : Nat) (l : Fin 12) (s : State) :
    exec (.auxRefreshEnd dt l) s = execAuxRefreshEnd dt l s := rfl
@[simp] theorem exec_auxBootRecovered (dt : Nat) (l : Fin 12) (s : State) :
    exec (.auxBootRecovered dt l) s = execAuxBootRecovered dt l s := rfl
@[simp] theorem exec_auxBootRecoveryTimeout (dt : Nat) (l : Fin 12) (s : State) :
    exec (.auxBootRecoveryTimeout dt l) s = execAuxBootRecoveryTimeout dt l s := rfl
@[simp] theorem exec_auxOvercurrentTrip (dt : Nat) (l : Fin 12) (hard : Bool) (s : State) :
    exec (.auxOvercurrentTrip dt l hard) s = execAuxOvercurrentTrip dt l hard s := rfl
@[simp] theorem exec_auxSoftOffFullSink (dt : Nat) (k : Fin 6) (s : State) :
    exec (.auxSoftOffFullSink dt k) s = execAuxSoftOffFullSink dt k s := rfl
@[simp] theorem exec_damperReferenceTimeout (dt : Nat) (s : State) :
    exec (.damperReferenceTimeout dt) s = execDamperReferenceTimeout dt s := rfl
@[simp] theorem exec_spPortEdge (dt : Nat) (q : Fin 2) (a b : Bool) (stable : Nat) (s : State) :
    exec (.spPortEdge dt q a b stable) s = execSpPortEdge dt q a b stable s := rfl
@[simp] theorem exec_fabricSymbolLock (dt : Nat) (l : Fin 4) (s : State) :
    exec (.fabricSymbolLock dt l) s = execFabricSymbolLock dt l s := rfl
@[simp] theorem exec_lowSideUvloRise (dt : Nat) (l : Fin 12) (s : State) :
    exec (.lowSideUvloRise dt l) s = execLowSideUvloRise dt l s := rfl
@[simp] theorem exec_coreTestEnd (dt : Nat) (h : Fin 4) (s : State) :
    exec (.coreTestEnd dt h) s = execCoreTestEnd dt h s := rfl
@[simp] theorem exec_h0CrosslinkReceive (dt : Nat) (usec : BitVec 32) (s : State) :
    exec (.h0CrosslinkReceive dt usec) s = execH0CrosslinkReceive dt usec s := rfl
@[simp] theorem exec_sincosPeriodCount (dt : Nat) (p : Fin 4) (cross : Option Bool) (sn cs : BitVec 16) (fast : Bool) (s : State) :
    exec (.sincosPeriodCount dt p cross sn cs fast) s = execSincosPeriodCount dt p cross sn cs fast s := rfl
@[simp] theorem exec_resolverHalfPeriod (dt : Nat) (p : Fin 4) (samples : List (BitVec 14 × BitVec 14)) (s : State) :
    exec (.resolverHalfPeriod dt p samples) s = execResolverHalfPeriod dt p samples s := rfl
@[simp] theorem exec_damperWindowRefresh (dt : Nat) (s : State) :
    exec (.damperWindowRefresh dt) s = execDamperWindowRefresh dt s := rfl

end Sys2Proof.Machine
end

