-- ==== Sys2Proof/Laws/Memory.lean ====
section
/-! SUPPORT. The canonical form of memory: every write keeps it, the reset memory has it, and what a read gives after a
write. -/
namespace Sys2Proof.Machine

/-- Every address of a list is at least `a`. -/
def cellsFrom (a : Nat) (l : List Host.Cell) : Prop := ∀ c ∈ l, a ≤ c.1

/-- A list in canonical form, head first. -/
theorem cellsWf_cons (c : Host.Cell) (l : List Host.Cell) :
    cellsWf (c :: l) = true ↔ c.2 ≠ 0 ∧ cellsFrom (c.1 + 1) l ∧ cellsWf l = true := by
  induction l generalizing c with
  | nil => simp [cellsWf, cellsFrom]
  | cons d l ih =>
    simp only [cellsWf, Bool.and_eq_true, decide_eq_true_eq]
    constructor
    · rintro ⟨⟨h1, h2⟩, h3⟩
      refine ⟨h1, ?_, h3⟩
      have := (ih d).1 h3
      intro e he
      rcases List.mem_cons.1 he with rfl | he
      · omega
      · have := this.2.1 e he; omega
    · rintro ⟨h1, h2, h3⟩
      exact ⟨⟨h1, by have := h2 d List.mem_cons_self; omega⟩, h3⟩

theorem cellsFrom_set {a k : Nat} {l : List Host.Cell} (h : cellsFrom k l) (hk : k ≤ a) (b : Byte) : cellsFrom k (cellSet l a b) := by
  induction l with
  | nil => unfold cellSet; split <;> simp [cellsFrom, hk]
  | cons c l ih =>
    have hc := h c List.mem_cons_self
    have hl : cellsFrom k l := fun e he => h e (List.mem_cons_of_mem _ he)
    have i := ih hl
    unfold cellSet
    intro e he
    split at he
    · rcases List.mem_cons.1 he with rfl | he
      · exact hc
      · exact i e he
    · split at he
      · split at he
        · exact hl e he
        · rcases List.mem_cons.1 he with rfl | he
          · exact hk
          · exact hl e he
      · split at he
        · exact h e he
        · rcases List.mem_cons.1 he with rfl | he
          · exact hk
          · exact h e he

/-- A write of one byte keeps the canonical form. -/
theorem cellSet_wf {l : List Host.Cell} (h : cellsWf l = true) (a : Nat) (b : Byte) : cellsWf (cellSet l a b) = true := by
  induction l with
  | nil =>
    unfold cellSet
    split
    · rfl
    · simpa [cellsWf] using ‹¬b = 0›
  | cons c l ih =>
    obtain ⟨h1, h2, h3⟩ := (cellsWf_cons c l).1 h
    unfold cellSet
    split
    · exact (cellsWf_cons _ _).2 ⟨h1, cellsFrom_set h2 (by omega) b, ih h3⟩
    · split
      · split
        · exact h3
        · exact (cellsWf_cons _ _).2 ⟨by assumption, fun e he => by have := h2 e he; simp; omega, h3⟩
      · split
        · exact h
        · refine (cellsWf_cons _ _).2 ⟨by assumption, ?_, h⟩
          intro e he
          simp only
          rcases List.mem_cons.1 he with rfl | he
          · omega
          · have := h2 e he; omega

/-- A write of consecutive bytes keeps the canonical form. -/
theorem cellsPut_wf (bs : List Byte) : ∀ {l : List Host.Cell} (_ : cellsWf l = true) (a : Nat), cellsWf (cellsPut l a bs) = true := by
  induction bs with
  | nil => intro l h a; exact h
  | cons b bs ih => intro l h a; exact ih (cellSet_wf h a b) (a + 1)

/-- A write to MRAM keeps the canonical form of both memories; one to a spare row leaves them alone. -/
theorem mramWrite_wf {s : State} (h : Safety.Memory.wf s.mem = true) (a : Nat) (l : List Byte) :
    Safety.Memory.wf (mramWrite s a l false).1.mem = true := by
  simp only [Safety.Memory.wf, Bool.and_eq_true] at h ⊢
  exact ⟨h.1, cellsPut_wf l h.2 a⟩

/-- The reset memory is in canonical form. -/
theorem reset_wf : Safety.Memory.wf State.reset.mem = true := by decide

theorem cellGet_lt {a : Nat} {l : List Host.Cell} (h : cellsFrom (a + 1) l) : cellGet l a = 0 := by
  unfold cellGet
  rw [List.find?_eq_none.2]
  intro c hc
  have := h c hc
  simp; omega

/-- What a byte reads as after a byte was written. -/
theorem cellGet_cellSet {l : List Host.Cell} (h : cellsWf l = true) (a k : Nat) (b : Byte) :
    cellGet (cellSet l a b) k = if k = a then b else cellGet l k := by
  induction l with
  | nil =>
    unfold cellSet
    by_cases hb : b = 0
    · rw [if_pos hb]
      simp [cellGet, hb]
    · rw [if_neg hb]
      by_cases hk : k = a
      · simp [cellGet, hk]
      · have : ¬ a = k := fun e => hk e.symm
        simp [cellGet, hk, this]
  | cons c l ih =>
    obtain ⟨h1, h2, h3⟩ := (cellsWf_cons c l).1 h
    have i := ih h3
    have cons : ∀ (d : Host.Cell) (m : List Host.Cell), cellGet (d :: m) k = if d.1 = k then d.2 else cellGet m k := by
      intro d m; unfold cellGet; by_cases hd : d.1 = k <;> simp [List.find?, hd, beq_eq_false_iff_ne.2]
    unfold cellSet
    split
    · rw [cons, cons, i]
      split
      · rw [if_neg (by omega)]
      · rfl
    · split
      · rename_i hc
        split
        · rename_i hb
          split
          · rename_i hk
            rw [hb, hk, cellGet_lt (by rw [← hc]; exact h2)]
          · rename_i hk
            rw [cons, if_neg (by omega)]
        · rw [cons, cons]
          by_cases hk : k = a
          · simp [hk]
          · rw [if_neg (by simp; omega), if_neg hk, if_neg (by omega)]
      · split
        · rename_i hb
          split
          · rename_i hk
            rw [cons, if_neg (by omega), hb, cellGet_lt]
            intro e he; have := h2 e he; omega
          · rfl
        · rw [cons]
          by_cases hk : k = a
          · simp [hk]
          · rw [if_neg (by simp; omega), if_neg hk]

/-- What a byte reads as after consecutive bytes were written. -/
theorem cellGet_cellsPut (bs : List Byte) : ∀ {l : List Host.Cell} (_ : cellsWf l = true) (a k : Nat),
    cellGet (cellsPut l a bs) k = if a ≤ k ∧ k < a + bs.length then bs.getD (k - a) 0 else cellGet l k := by
  induction bs with
  | nil => intro l h a k; rw [cellsPut, if_neg (by simp only [List.length_nil]; omega)]
  | cons b bs ih =>
    intro l h a k
    rw [cellsPut, ih (cellSet_wf h a b) (a + 1) k, cellGet_cellSet h]
    by_cases hk : k = a
    · rw [hk, if_neg (by omega), if_pos rfl, if_pos (by simp only [List.length_cons]; omega), Nat.sub_self]; rfl
    · by_cases h2 : a + 1 ≤ k ∧ k < a + 1 + bs.length
      · rw [if_pos h2, if_pos (by simp; omega)]
        have : k - a = (k - (a + 1)) + 1 := by omega
        rw [this]; rfl
      · rw [if_neg h2, if_neg hk, if_neg (by simp; omega)]

end Sys2Proof.Machine
end

