-- ==== Sys2Proof/Laws/Porter.lean ====
section
/-! SUPPORT. What starting, answering and accepting a command change: the Porter, and the command watchdogs. -/
open Sys2Proof.Safety
namespace Sys2Proof.Machine

/-- An opcode whose command may start runs on that command. -/
theorem onCmd_starts {s : State} {tr : Transport} {tag op : BitVec 16} {c : Cmd} (h : Starts s tr tag op c) (f : State → Cmd → State) :
    onCmd s tr tag op f = f (begun s tr tag) c := by
  obtain ⟨h1, h2, h3, h4⟩ := h
  simp [onCmd, h1, h2, h3, h4, begun]

/-- An opcode whose command may not start changes nothing. -/
theorem onCmd_waits {s : State} {tr : Transport} {tag op : BitVec 16} {c : Cmd} (h : findCmd s tr tag = some c)
    (hn : ¬ (c.opcode = op ∧ c.phase = .waiting ∧ mayStart (before s.porter.cmds tr tag) c = true)) (f : State → Cmd → State) :
    onCmd s tr tag op f = s := by
  simp [onCmd, h, hn]

/-- The start of a command is recorded in the Porter alone. -/
theorem begun_porter (s : State) (tr : Transport) (tag : BitVec 16) : ∃ p : Porter, begun s tr tag = { s with porter := p } :=
  ⟨_, rfl⟩

/-- A queued packet changes the Porter alone. -/
theorem queueFor_porter (s : State) (tr : Transport) (tag : BitVec 16) (cp fin : Bool) (st : BitVec 16) (d : List Byte) :
    ∃ p : Porter, queueFor s tr tag cp fin st d = { s with porter := p } := by
  unfold queueFor
  split
  · exact ⟨_, rfl⟩
  · split
    · split
      · exact ⟨_, rfl⟩
      · exact ⟨_, rfl⟩
    · dsimp only
      split
      · exact ⟨_, rfl⟩
      · exact ⟨_, rfl⟩

/-- The command watchdogs change the drives alone. -/
theorem watchdogRestart_drive (s : State) (tr : Transport) : ∃ d, watchdogRestart s tr = { s with drive := d } := by
  have go : ∀ (l : List (Fin 4)) (s : State), ∃ d, forAll l (fun m s =>
      if bit (s.pm m 0x2706 2) tr.index.val then s.modDrive m (fun d => { d with lastCmd := s.clk, inHold := false }) else s) s
        = { s with drive := d } := by
    intro l
    induction l with
    | nil => intro s; exact ⟨_, rfl⟩
    | cons m l ih =>
      intro s
      simp only [forAll, List.foldl_cons]
      split
      · exact (ih _)
      · exact (ih _)
  exact go _ _

/-- An answer changes the Porter and the command watchdogs alone. -/
theorem reply_frame (s : State) (c : Cmd) (st : BitVec 16) (d : List Byte) :
    ∃ p v, reply s c st d = { s with porter := p, drive := v } := by
  unfold reply
  split
  · obtain ⟨p, hp⟩ := queueFor_porter s c.tr c.tag false true st d
    exact ⟨p, _, hp⟩
  · unfold passed
    split
    · obtain ⟨v, hv⟩ := watchdogRestart_drive s c.tr
      obtain ⟨p, hp⟩ := queueFor_porter (watchdogRestart s c.tr) c.tr c.tag false true st d
      exact ⟨p, v, by rw [hp, hv]⟩
    · obtain ⟨p, hp⟩ := queueFor_porter s c.tr c.tag false true st d
      exact ⟨p, _, hp⟩

/-- Acceptance changes the Porter and the command watchdogs alone. -/
theorem accept_frame (s : State) (c : Cmd) : ∃ p v, accept s c = { s with porter := p, drive := v } := by
  unfold accept passed
  split
  · obtain ⟨v, hv⟩ := watchdogRestart_drive s c.tr
    obtain ⟨p, hp⟩ := queueFor_porter (watchdogRestart s c.tr) c.tr c.tag false false stACCEPTED []
    exact ⟨_, v, by simp only [hp]; rw [hv]; rfl⟩
  · obtain ⟨p, hp⟩ := queueFor_porter s c.tr c.tag false false stACCEPTED []
    exact ⟨_, _, by simp only [hp]; rfl⟩

end Sys2Proof.Machine
end

