-- ==== Sys2Proof/Laws/Raise.lean ====
section
/-! SUPPORT. What a raise, a recovery and a journal entry can change: the Flue, the journal, the count of lost journal
entries and the request of a module reset. -/
namespace Sys2Proof.Machine

/-- `t` is `s` but for the Flue, the journal, the count of lost entries and the request of a module reset. -/
def Raised (s t : State) : Prop :=
  ∃ fl j c p q, t = { s with
    flue := fl, journal := j, mem := { s.mem with journalLost := c }
    start := { s.start with resetPending := p, resetPendingAt := q } }

theorem Raised.refl (s : State) : Raised s s := ⟨_, _, _, _, _, rfl⟩

theorem Raised.trans {s t u : State} (h : Raised s t) (k : Raised t u) : Raised s u := by
  obtain ⟨a, b, c, d, e, rfl⟩ := h
  obtain ⟨a', b', c', d', e', rfl⟩ := k
  exact ⟨a', b', c', d', e', rfl⟩

theorem Raised.modFlue {s t : State} (h : Raised s t) (f : Flue → Flue) : Raised s (t.modFlue f) :=
  h.trans ⟨_, _, _, _, _, rfl⟩

theorem Raised.modJournal {s t : State} (h : Raised s t) (f : Journal → Journal) : Raised s (t.modJournal f) :=
  h.trans ⟨_, _, _, _, _, rfl⟩

theorem Raised.ite {s t u : State} {c : Prop} [Decidable c] (h : Raised s t) (k : Raised s u) : Raised s (if c then t else u) := by
  split <;> assumption

theorem jput_raised {again : State → Nat → Nat → State} (ha : ∀ s n a, Raised s (again s n a)) (s : State) (kind code : Nat)
    (stamp : Stamp) (data : List Byte) : Raised s (jput again s kind code stamp data) := by
  unfold jput
  split
  · exact (Raised.refl s).modJournal _
  · dsimp only
    have h : Raised s (((s.modMem (fun m => { m with journalLost := (ctrInc 32 s.mem.journalLost).1 })).modJournal
      (fun j => { j with lostPending := j.lostPending + 1 }))) := ⟨_, _, _, _, _, rfl⟩
    split
    · exact (h.trans (ha _ _ _)).trans (ha _ _ _)
    · exact h.trans (ha _ _ _)

theorem latchRecord_raised {again : State → Nat → Nat → State} (ha : ∀ s n a, Raised s (again s n a)) (s : State) (r : FaultRec) :
    Raised s (latchRecord again s r) := by
  have hr : ∀ f : Flue → Flue, Raised s (s.modFlue f) := (Raised.refl s).modFlue
  unfold latchRecord
  split
  · exact hr _
  · split
    · exact hr _
    · split
      · exact hr _
      · split
        · exact hr _
        · dsimp only
          have h : ∀ (b : Bool) (f : Flue → Flue), Raised s (if b then again (s.modFlue f) 241 0 else s.modFlue f) := by
            intro b f; split
            · exact (hr f).trans (ha _ _ _)
            · exact hr f
          split
          · exact (h _ _).trans (ha _ _ _)
          · exact h _ _

theorem queueMsg_raised {again : State → Nat → Nat → State} (ha : ∀ s n a, Raised s (again s n a)) (s : State) (m : EventMsg) :
    Raised s (queueMsg again s m) := by
  have hr : ∀ f : Flue → Flue, Raised s (s.modFlue f) := (Raised.refl s).modFlue
  unfold queueMsg
  split
  · exact hr _
  · dsimp only
    split
    · exact (hr _).trans (ha _ _ _)
    · exact hr _

theorem resetReaction_raised {again : State → Nat → Nat → State} (ha : ∀ s n a, Raised s (again s n a)) (s : State) :
    Raised s (resetReaction again s) := by
  unfold resetReaction
  dsimp only
  split
  · exact (ha _ _ _).modFlue _
  · by_cases h : s.start.resetPending.isSome
    · exact ⟨s.flue, s.journal, s.mem.journalLost, s.start.resetPending, s.start.resetPendingAt, by simp [State.modStart, h]⟩
    · exact ⟨s.flue, s.journal, s.mem.journalLost, some .flue, s.clk, by simp [State.modStart, h]⟩

theorem reactResets_raised {again : State → Nat → Nat → State} (ha : ∀ s n a, Raised s (again s n a)) (s : State)
    (src addr : Nat) : Raised s (reactResets again s src addr) := by
  have h : Raised s (match ownerOf src addr with
      | some b => if bit (raiseWord s src) 2 = true ∧ b ∉ s.flue.resetReq then
          s.modFlue (fun f => { f with resetReq := f.resetReq ++ [b] }) else s
      | none => s) := by
    split
    · split
      · exact (Raised.refl s).modFlue _
      · exact Raised.refl s
    · exact Raised.refl s
  unfold reactResets
  dsimp only
  split
  · exact h.trans (resetReaction_raised ha _)
  · exact h

theorem react_raised {again : State → Nat → Nat → State} (ha : ∀ s n a, Raised s (again s n a)) (s : State)
    (src addr : Nat) (r : FaultRec) (was : Bool) : Raised s (react again s src addr r was) := by
  have hif : ∀ {b : State} (c : Bool) (f : State → State), Raised s b → (∀ x, Raised x (f x)) →
      Raised s (if c = true then f b else b) := by
    intro b c f h hf; cases c
    · exact h
    · exact h.trans (hf b)
  unfold react
  dsimp only
  generalize hu : (if bit (raiseWord s src) 1 = true then queueMsg again s _ else s) = u
  have h4 : Raised s u := by
    rw [← hu]; exact hif _ (fun x => queueMsg again x _) (Raised.refl s) (fun x => queueMsg_raised ha x _)
  generalize ht : (if bit (raiseWord s src) 0 = true then queueMsg again u _ else u) = t
  have h5 : Raised s t := by rw [← ht]; exact hif _ (fun x => queueMsg again x _) h4 (fun x => queueMsg_raised ha x _)
  split
  · exact h5
  · exact h5.trans (reactResets_raised ha _ _ _)

theorem jraise_raised {again : State → Nat → Nat → State} (ha : ∀ s n a, Raised s (again s n a)) (s : State) (r : FaultRec) :
    Raised s (jraise again s r) := jput_raised ha s 1 _ _ _

theorem raiseWith_raised {again : State → Nat → Nat → State} (ha : ∀ s n a, Raised s (again s n a)) (s : State)
    (master : BitVec 8) (src addr kind : Nat) (retry : Retry) (level : Bool) :
    Raised s (raiseWith again s master src addr kind retry level) := by
  unfold raiseWith
  split
  · exact Raised.refl s
  split
  · exact Raised.refl s
  dsimp only
  generalize hw : latchRecord again _ _ = w
  have h1 : Raised s w := by
    rw [← hw]; exact ((Raised.refl s).modFlue _).trans (latchRecord_raised ha _ _)
  generalize hv : (if sticky s src = true then w else jraise again w _) = v
  have h2 : Raised s v := by
    rw [← hv]; split
    · exact h1
    · exact h1.trans (jraise_raised ha _ _)
  split
  · exact h2
  exact h2.trans (react_raised ha _ _ _ _ _)

theorem raiseGo_raised (k : Nat) : ∀ (s : State) (n a : Nat), Raised s (raiseGo k s n a) := by
  induction k with
  | zero => intro s n a; exact Raised.refl s
  | succ k ih => intro s n a; exact raiseWith_raised ih s _ n a 0 .none' false

/-- A raise changes the Flue, the journal, the count of lost entries and the request of a module reset, and no more. -/
theorem raise_raised (s : State) (n a : Nat) : Raised s (raise s n a) := raiseGo_raised 6 s n a

theorem raiseIf_raised (c : Bool) (s : State) (n a : Nat) : Raised s (raiseIf c s n a) := by
  unfold raiseIf; split
  · exact raise_raised s n a
  · exact Raised.refl s

theorem raiseBy_raised (s : State) (master : BitVec 8) (n a k : Nat) (r : Retry) : Raised s (raiseBy s master n a k r) :=
  raiseWith_raised (raiseGo_raised 5) s master n a k r _

theorem raiseOp_raised (s : State) (n a k : Nat) (r : Retry) : Raised s (raiseOp s n a k r) := raiseBy_raised s _ n a k r

theorem applyMask_raised (s : State) (n : Nat) : Raised s (applyMask s n) := by
  unfold applyMask; split
  · exact Raised.refl s
  · exact react_raised (raiseGo_raised 5) _ _ _ _ _

theorem journal_raised (s : State) (kind code : Nat) (data : List Byte) : Raised s (journal s kind code data) :=
  jput_raised (raiseGo_raised 5) s kind code _ data

theorem dropLine_raised (s : State) (n : Nat) : Raised s (dropLine s n) := by
  unfold dropLine; split
  · exact (Raised.refl s).modFlue _
  · exact Raised.refl s

theorem recover_raised (s : State) (n : Nat) : Raised s (recover s n) := by
  unfold recover
  dsimp only
  exact (((((Raised.refl s).modFlue _).trans (jput_raised (raiseGo_raised 5) _ _ _ _ _)).trans (raiseIf_raised _ _ _ _)).trans
    (raiseIf_raised _ _ _ _))

theorem clearAndRaise_raised (s : State) (n : Nat) (r : FaultRec) : Raised s (clearAndRaise s n r) := by
  unfold clearAndRaise
  dsimp only
  generalize hw : jraise (raiseGo 5) _ r = w
  have h : Raised s w := by
    rw [← hw]; exact ((recover_raised s n).modFlue _).trans (jraise_raised (raiseGo_raised 5) _ _)
  split
  · exact h
  · exact h.trans (reactResets_raised (raiseGo_raised 5) _ _ _)

/-- A clear changes no more than a raise does. -/
theorem clearSource_raised (s : State) (n : Nat) : Raised s (clearSource s n) := by
  unfold clearSource
  split
  · split
    · exact clearAndRaise_raised s n _
    · exact Raised.refl s
  · split
    · exact recover_raised s n
    · exact Raised.refl s

/-! ### Fields that a raise leaves alone -/

theorem Raised.fields {s t : State} (h : Raised s t) :
    t.clk = s.clk ∧ t.freeCtr = s.freeCtr ∧ t.out = s.out ∧ t.tb = s.tb ∧ t.store = s.store ∧ t.trace = s.trace ∧
    t.porter = s.porter ∧ t.thermal = s.thermal ∧ t.can = s.can ∧ t.fabric = s.fabric ∧ t.ports = s.ports ∧
    t.chans = s.chans ∧ t.ain = s.ain ∧ t.sar = s.sar ∧ t.posPorts = s.posPorts ∧ t.lats = s.lats ∧ t.tfu = s.tfu ∧ t.obs = s.obs ∧
    t.startM = s.startM ∧ t.stove = s.stove ∧ t.prof = s.prof ∧ t.axes = s.axes ∧ t.legs = s.legs ∧
    t.auxLink = s.auxLink ∧ t.gl = s.gl ∧ t.drive = s.drive ∧ t.share = s.share ∧ t.cal = s.cal ∧ t.safety = s.safety ∧
    t.hearths = s.hearths ∧ t.pending = s.pending ∧ t.start.coreUp = s.start.coreUp ∧ t.start.vanaUp = s.start.vanaUp ∧
    t.start.attempt = s.start.attempt ∧ t.start.step = s.start.step ∧ t.start.refAt = s.start.refAt ∧
    t.start.lockAt = s.start.lockAt ∧ t.start.offUntil = s.start.offUntil ∧ t.start.awaitRef = s.start.awaitRef ∧
    t.start.latchedOff = s.start.latchedOff ∧ t.start.failedStep = s.start.failedStep ∧
    t.start.violations = s.start.violations ∧ t.start.bootBegun = s.start.bootBegun ∧
    t.start.resetNLow = s.start.resetNLow ∧ t.start.resetNHighAt = s.start.resetNHighAt ∧
    t.start.rstCount = s.start.rstCount ∧ t.start.damperPor = s.start.damperPor ∧ t.start.powerOn = s.start.powerOn ∧
    t.start.extReset = s.start.extReset ∧ t.start.flueReset = s.start.flueReset ∧ t.start.cmdReset = s.start.cmdReset ∧
    t.start.imageFallback = s.start.imageFallback ∧ t.start.imageSel = s.start.imageSel ∧
    t.start.paramDefault = s.start.paramDefault ∧ t.start.startState = s.start.startState ∧
    t.start.needStore = s.start.needStore ∧ t.start.mustHold = s.start.mustHold ∧
    t.start.forbidMachine = s.start.forbidMachine ∧ t.start.forbidStove = s.start.forbidStove ∧
    t.start.forbidAnalog = s.start.forbidAnalog ∧ t.start.forbidAxes = s.start.forbidAxes ∧
    t.start.forbidLink = s.start.forbidLink ∧ t.start.pwrgd = s.start.pwrgd ∧ t.start.owed14 = s.start.owed14 ∧
    t.start.owed15 = s.start.owed15 ∧ t.start.runImage = s.start.runImage ∧
    t.mem.sram = s.mem.sram ∧ t.mem.mram = s.mem.mram ∧ t.mem.poisoned = s.mem.poisoned ∧
    t.mem.rowMarks = s.mem.rowMarks ∧ t.mem.spareSram = s.mem.spareSram ∧ t.mem.spareMram = s.mem.spareMram ∧
    t.mem.sramCorr = s.mem.sramCorr ∧ t.mem.sramUnc = s.mem.sramUnc ∧ t.mem.mramCorr = s.mem.mramCorr ∧
    t.mem.mramUnc = s.mem.mramUnc ∧ t.mem.spared = s.mem.spared ∧ t.mem.latches = s.mem.latches := by
  obtain ⟨a, b, c, d, e, rfl⟩ := h
  repeat' (first | refine ⟨?_, ?_⟩ | rfl)

@[simp] theorem raise_fields (s : State) (n a : Nat) :
    (raise s n a).clk = s.clk ∧ (raise s n a).freeCtr = s.freeCtr ∧ (raise s n a).out = s.out ∧
    (raise s n a).tb = s.tb ∧ (raise s n a).store = s.store ∧ (raise s n a).trace = s.trace ∧
    (raise s n a).porter = s.porter ∧ (raise s n a).thermal = s.thermal ∧ (raise s n a).can = s.can ∧
    (raise s n a).fabric = s.fabric ∧ (raise s n a).ports = s.ports ∧ (raise s n a).chans = s.chans ∧
    (raise s n a).ain = s.ain ∧ (raise s n a).sar = s.sar ∧ (raise s n a).posPorts = s.posPorts ∧ (raise s n a).lats = s.lats ∧
    (raise s n a).tfu = s.tfu ∧ (raise s n a).obs = s.obs ∧ (raise s n a).startM = s.startM ∧
    (raise s n a).stove = s.stove ∧ (raise s n a).prof = s.prof ∧ (raise s n a).axes = s.axes ∧
    (raise s n a).legs = s.legs ∧ (raise s n a).auxLink = s.auxLink ∧ (raise s n a).gl = s.gl ∧
    (raise s n a).drive = s.drive ∧ (raise s n a).share = s.share ∧ (raise s n a).cal = s.cal ∧
    (raise s n a).safety = s.safety ∧ (raise s n a).hearths = s.hearths ∧ (raise s n a).pending = s.pending ∧
    (raise s n a).start.coreUp = s.start.coreUp ∧ (raise s n a).start.vanaUp = s.start.vanaUp ∧
    (raise s n a).start.attempt = s.start.attempt ∧ (raise s n a).start.step = s.start.step ∧
    (raise s n a).start.refAt = s.start.refAt ∧ (raise s n a).start.lockAt = s.start.lockAt ∧
    (raise s n a).start.offUntil = s.start.offUntil ∧ (raise s n a).start.awaitRef = s.start.awaitRef ∧
    (raise s n a).start.latchedOff = s.start.latchedOff ∧ (raise s n a).start.failedStep = s.start.failedStep ∧
    (raise s n a).start.violations = s.start.violations ∧ (raise s n a).start.bootBegun = s.start.bootBegun ∧
    (raise s n a).start.resetNLow = s.start.resetNLow ∧ (raise s n a).start.resetNHighAt = s.start.resetNHighAt ∧
    (raise s n a).start.rstCount = s.start.rstCount ∧ (raise s n a).start.damperPor = s.start.damperPor ∧
    (raise s n a).start.powerOn = s.start.powerOn ∧ (raise s n a).start.extReset = s.start.extReset ∧
    (raise s n a).start.flueReset = s.start.flueReset ∧ (raise s n a).start.cmdReset = s.start.cmdReset ∧
    (raise s n a).start.imageFallback = s.start.imageFallback ∧ (raise s n a).start.imageSel = s.start.imageSel ∧
    (raise s n a).start.paramDefault = s.start.paramDefault ∧ (raise s n a).start.startState = s.start.startState ∧
    (raise s n a).start.needStore = s.start.needStore ∧ (raise s n a).start.mustHold = s.start.mustHold ∧
    (raise s n a).start.forbidMachine = s.start.forbidMachine ∧ (raise s n a).start.forbidStove = s.start.forbidStove ∧
    (raise s n a).start.forbidAnalog = s.start.forbidAnalog ∧ (raise s n a).start.forbidAxes = s.start.forbidAxes ∧
    (raise s n a).start.forbidLink = s.start.forbidLink ∧ (raise s n a).start.pwrgd = s.start.pwrgd ∧
    (raise s n a).start.owed14 = s.start.owed14 ∧
    (raise s n a).start.owed15 = s.start.owed15 ∧ (raise s n a).start.runImage = s.start.runImage ∧ (raise s n a).mem.sram = s.mem.sram ∧
    (raise s n a).mem.mram = s.mem.mram ∧ (raise s n a).mem.poisoned = s.mem.poisoned ∧
    (raise s n a).mem.rowMarks = s.mem.rowMarks ∧ (raise s n a).mem.spareSram = s.mem.spareSram ∧
    (raise s n a).mem.spareMram = s.mem.spareMram ∧ (raise s n a).mem.sramCorr = s.mem.sramCorr ∧
    (raise s n a).mem.sramUnc = s.mem.sramUnc ∧ (raise s n a).mem.mramCorr = s.mem.mramCorr ∧
    (raise s n a).mem.mramUnc = s.mem.mramUnc ∧ (raise s n a).mem.spared = s.mem.spared ∧
    (raise s n a).mem.latches = s.mem.latches :=
  (raise_raised s n a).fields

@[simp] theorem raiseIf_fields (c : Bool) (s : State) (n a : Nat) :
    (raiseIf c s n a).clk = s.clk ∧ (raiseIf c s n a).freeCtr = s.freeCtr ∧ (raiseIf c s n a).out = s.out ∧
    (raiseIf c s n a).tb = s.tb ∧ (raiseIf c s n a).store = s.store ∧ (raiseIf c s n a).trace = s.trace ∧
    (raiseIf c s n a).porter = s.porter ∧ (raiseIf c s n a).thermal = s.thermal ∧ (raiseIf c s n a).can = s.can ∧
    (raiseIf c s n a).fabric = s.fabric ∧ (raiseIf c s n a).ports = s.ports ∧ (raiseIf c s n a).chans = s.chans ∧
    (raiseIf c s n a).ain = s.ain ∧ (raiseIf c s n a).sar = s.sar ∧ (raiseIf c s n a).posPorts = s.posPorts ∧ (raiseIf c s n a).lats = s.lats ∧
    (raiseIf c s n a).tfu = s.tfu ∧ (raiseIf c s n a).obs = s.obs ∧ (raiseIf c s n a).startM = s.startM ∧
    (raiseIf c s n a).stove = s.stove ∧ (raiseIf c s n a).prof = s.prof ∧ (raiseIf c s n a).axes = s.axes ∧
    (raiseIf c s n a).legs = s.legs ∧ (raiseIf c s n a).auxLink = s.auxLink ∧ (raiseIf c s n a).gl = s.gl ∧
    (raiseIf c s n a).drive = s.drive ∧ (raiseIf c s n a).share = s.share ∧ (raiseIf c s n a).cal = s.cal ∧
    (raiseIf c s n a).safety = s.safety ∧ (raiseIf c s n a).hearths = s.hearths ∧
    (raiseIf c s n a).pending = s.pending ∧ (raiseIf c s n a).start.coreUp = s.start.coreUp ∧
    (raiseIf c s n a).start.vanaUp = s.start.vanaUp ∧ (raiseIf c s n a).start.attempt = s.start.attempt ∧
    (raiseIf c s n a).start.step = s.start.step ∧ (raiseIf c s n a).start.refAt = s.start.refAt ∧
    (raiseIf c s n a).start.lockAt = s.start.lockAt ∧ (raiseIf c s n a).start.offUntil = s.start.offUntil ∧
    (raiseIf c s n a).start.awaitRef = s.start.awaitRef ∧ (raiseIf c s n a).start.latchedOff = s.start.latchedOff ∧
    (raiseIf c s n a).start.failedStep = s.start.failedStep ∧ (raiseIf c s n a).start.violations = s.start.violations ∧
    (raiseIf c s n a).start.bootBegun = s.start.bootBegun ∧ (raiseIf c s n a).start.resetNLow = s.start.resetNLow ∧
    (raiseIf c s n a).start.resetNHighAt = s.start.resetNHighAt ∧ (raiseIf c s n a).start.rstCount = s.start.rstCount ∧
    (raiseIf c s n a).start.damperPor = s.start.damperPor ∧ (raiseIf c s n a).start.powerOn = s.start.powerOn ∧
    (raiseIf c s n a).start.extReset = s.start.extReset ∧ (raiseIf c s n a).start.flueReset = s.start.flueReset ∧
    (raiseIf c s n a).start.cmdReset = s.start.cmdReset ∧
    (raiseIf c s n a).start.imageFallback = s.start.imageFallback ∧
    (raiseIf c s n a).start.imageSel = s.start.imageSel ∧ (raiseIf c s n a).start.paramDefault = s.start.paramDefault ∧
    (raiseIf c s n a).start.startState = s.start.startState ∧ (raiseIf c s n a).start.needStore = s.start.needStore ∧
    (raiseIf c s n a).start.mustHold = s.start.mustHold ∧
    (raiseIf c s n a).start.forbidMachine = s.start.forbidMachine ∧
    (raiseIf c s n a).start.forbidStove = s.start.forbidStove ∧
    (raiseIf c s n a).start.forbidAnalog = s.start.forbidAnalog ∧
    (raiseIf c s n a).start.forbidAxes = s.start.forbidAxes ∧ (raiseIf c s n a).start.forbidLink = s.start.forbidLink ∧
    (raiseIf c s n a).start.pwrgd = s.start.pwrgd ∧ (raiseIf c s n a).start.owed14 = s.start.owed14 ∧
    (raiseIf c s n a).start.owed15 = s.start.owed15 ∧ (raiseIf c s n a).start.runImage = s.start.runImage ∧
    (raiseIf c s n a).mem.sram = s.mem.sram ∧ (raiseIf c s n a).mem.mram = s.mem.mram ∧
    (raiseIf c s n a).mem.poisoned = s.mem.poisoned ∧ (raiseIf c s n a).mem.rowMarks = s.mem.rowMarks ∧
    (raiseIf c s n a).mem.spareSram = s.mem.spareSram ∧ (raiseIf c s n a).mem.spareMram = s.mem.spareMram ∧
    (raiseIf c s n a).mem.sramCorr = s.mem.sramCorr ∧ (raiseIf c s n a).mem.sramUnc = s.mem.sramUnc ∧
    (raiseIf c s n a).mem.mramCorr = s.mem.mramCorr ∧ (raiseIf c s n a).mem.mramUnc = s.mem.mramUnc ∧
    (raiseIf c s n a).mem.spared = s.mem.spared ∧ (raiseIf c s n a).mem.latches = s.mem.latches :=
  (raiseIf_raised c s n a).fields

@[simp] theorem journal_fields (s : State) (k c : Nat) (l : List Byte) :
    (journal s k c l).clk = s.clk ∧ (journal s k c l).freeCtr = s.freeCtr ∧ (journal s k c l).out = s.out ∧
    (journal s k c l).tb = s.tb ∧ (journal s k c l).store = s.store ∧ (journal s k c l).trace = s.trace ∧
    (journal s k c l).porter = s.porter ∧ (journal s k c l).thermal = s.thermal ∧ (journal s k c l).can = s.can ∧
    (journal s k c l).fabric = s.fabric ∧ (journal s k c l).ports = s.ports ∧ (journal s k c l).chans = s.chans ∧
    (journal s k c l).ain = s.ain ∧ (journal s k c l).sar = s.sar ∧ (journal s k c l).posPorts = s.posPorts ∧ (journal s k c l).lats = s.lats ∧
    (journal s k c l).tfu = s.tfu ∧ (journal s k c l).obs = s.obs ∧ (journal s k c l).startM = s.startM ∧
    (journal s k c l).stove = s.stove ∧ (journal s k c l).prof = s.prof ∧ (journal s k c l).axes = s.axes ∧
    (journal s k c l).legs = s.legs ∧ (journal s k c l).auxLink = s.auxLink ∧ (journal s k c l).gl = s.gl ∧
    (journal s k c l).drive = s.drive ∧ (journal s k c l).share = s.share ∧ (journal s k c l).cal = s.cal ∧
    (journal s k c l).safety = s.safety ∧ (journal s k c l).hearths = s.hearths ∧
    (journal s k c l).pending = s.pending ∧ (journal s k c l).start.coreUp = s.start.coreUp ∧
    (journal s k c l).start.vanaUp = s.start.vanaUp ∧ (journal s k c l).start.attempt = s.start.attempt ∧
    (journal s k c l).start.step = s.start.step ∧ (journal s k c l).start.refAt = s.start.refAt ∧
    (journal s k c l).start.lockAt = s.start.lockAt ∧ (journal s k c l).start.offUntil = s.start.offUntil ∧
    (journal s k c l).start.awaitRef = s.start.awaitRef ∧ (journal s k c l).start.latchedOff = s.start.latchedOff ∧
    (journal s k c l).start.failedStep = s.start.failedStep ∧ (journal s k c l).start.violations = s.start.violations ∧
    (journal s k c l).start.bootBegun = s.start.bootBegun ∧ (journal s k c l).start.resetNLow = s.start.resetNLow ∧
    (journal s k c l).start.resetNHighAt = s.start.resetNHighAt ∧ (journal s k c l).start.rstCount = s.start.rstCount ∧
    (journal s k c l).start.damperPor = s.start.damperPor ∧ (journal s k c l).start.powerOn = s.start.powerOn ∧
    (journal s k c l).start.extReset = s.start.extReset ∧ (journal s k c l).start.flueReset = s.start.flueReset ∧
    (journal s k c l).start.cmdReset = s.start.cmdReset ∧
    (journal s k c l).start.imageFallback = s.start.imageFallback ∧
    (journal s k c l).start.imageSel = s.start.imageSel ∧ (journal s k c l).start.paramDefault = s.start.paramDefault ∧
    (journal s k c l).start.startState = s.start.startState ∧ (journal s k c l).start.needStore = s.start.needStore ∧
    (journal s k c l).start.mustHold = s.start.mustHold ∧
    (journal s k c l).start.forbidMachine = s.start.forbidMachine ∧
    (journal s k c l).start.forbidStove = s.start.forbidStove ∧
    (journal s k c l).start.forbidAnalog = s.start.forbidAnalog ∧
    (journal s k c l).start.forbidAxes = s.start.forbidAxes ∧ (journal s k c l).start.forbidLink = s.start.forbidLink ∧
    (journal s k c l).start.pwrgd = s.start.pwrgd ∧ (journal s k c l).start.owed14 = s.start.owed14 ∧
    (journal s k c l).start.owed15 = s.start.owed15 ∧ (journal s k c l).start.runImage = s.start.runImage ∧
    (journal s k c l).mem.sram = s.mem.sram ∧ (journal s k c l).mem.mram = s.mem.mram ∧
    (journal s k c l).mem.poisoned = s.mem.poisoned ∧ (journal s k c l).mem.rowMarks = s.mem.rowMarks ∧
    (journal s k c l).mem.spareSram = s.mem.spareSram ∧ (journal s k c l).mem.spareMram = s.mem.spareMram ∧
    (journal s k c l).mem.sramCorr = s.mem.sramCorr ∧ (journal s k c l).mem.sramUnc = s.mem.sramUnc ∧
    (journal s k c l).mem.mramCorr = s.mem.mramCorr ∧ (journal s k c l).mem.mramUnc = s.mem.mramUnc ∧
    (journal s k c l).mem.spared = s.mem.spared ∧ (journal s k c l).mem.latches = s.mem.latches :=
  (journal_raised s k c l).fields

end Sys2Proof.Machine
end

