-- ==== Sys2Proof/WellFormed.lean ====
section
/-! DEFINITION. Which commands a source outside the module can send: limits on operands that their types do not
already hold. -/
namespace Sys2Proof

open Machine

/-- Greatest data length of a CAN frame by its format (19 R496). -/
def canLimit : CanFormat → Nat
  | .classical => 8
  | .fd => 64
  | .fdBrs => 64
  | .xl => 2048

/-- A frame that a CAN line can carry: a base identifier has 11 bits, a remote frame is Classical and carries no data,
an XL frame carries at least one byte (19 R496, R502). -/
def frameOk (f : CanFrame) : Bool :=
  decide (f.data.length ≤ canLimit f.format) && (f.ide || decide (f.id.toNat < 2048))
    && (!f.rtr || (f.format == .classical && f.data.isEmpty)) && !(f.format == .xl && f.data.isEmpty)

/-- The command is well formed. -/
def Instr.wf (i : Instr) : Bool :=
  match i with
  | .timebaseWrap _ => true
  | .decisionStrobe _ _ _ _ _ _ _ _ => true
  | .sampleBoundary _ _ _ => true
  | .tfuDecision _ _ => true
  | .frameLaunch _ _ => true
  | .tripFrameLaunch _ _ => true
  | .overcurrentTrip _ _ _ _ _ => true
  | .unownedWindowTrip _ _ _ => true
  | .profileRefDeadline _ _ _ => true
  | .railReport _ _ => true
  | .timebaseReferenceLoss _ => true
  | .referenceHoldoverExpiry _ => true
  | .referenceReturn _ => true
  | .supplyOrderViolation _ _ _ => true
  | .coreBrownOut _ => true
  | .vanaBrownOut _ => true
  | .vanaReturn _ _ => true
  | .damperPowerOn _ => true
  | .damperStart _ _ => true
  | .startReference _ => true
  | .pllLock _ => true
  | .stagedReleaseStep _ => true
  | .railRegulationTimeout _ => true
  | .railOffPeriodEnd _ => true
  | .bootRomStart _ => true
  | .startupTestsEnd _ _ => true
  | .resetNAssert _ => true
  | .resetNRelease _ => true
  | .moduleResetTake _ => true
  | .commandPacketReceive _ => true
  | .canSegmentReceive _ _ => true
  | .canSegmentTimeout _ _ => true
  | .sessionIdleTimeout _ _ => true
  | .sessionProofTimeout _ _ => true
  | .longCommandTimeout _ _ _ => true
  | .identify _ _ => true
  | .status _ _ => true
  | .barrier _ _ => true
  | .abort _ _ => true
  | .moduleReset _ _ => true
  | .blockReset _ _ => true
  | .timeRead _ _ => true
  | .paramRead _ _ => true
  | .paramWrite _ _ => true
  | .thermalAck _ _ => true
  | .paramStore _ _ => true
  | .paramStoreComplete _ _ => true
  | .paramInfo _ _ => true
  | .enable _ _ => true
  | .enableComplete _ _ => true
  | .disable _ _ => true
  | .quickStop _ _ => true
  | .setReference _ _ => true
  | .machineStatus _ _ => true
  | .profileAppend _ _ => true
  | .profileBlend _ _ => true
  | .profileStop _ _ => true
  | .profileFaultStop _ _ => true
  | .profileStatus _ _ => true
  | .axisEnable _ _ => true
  | .axisDisable _ _ => true
  | .axisStop _ _ => true
  | .safetyStatus _ _ => true
  | .safetyCrc _ _ => true
  | .safetyValidate _ _ => true
  | .flueRead _ _ => true
  | .faultClear _ _ => true
  | .recordRelease _ _ => true
  | .journalRead _ _ => true
  | .sessionOpen _ _ => true
  | .sessionProve _ _ => true
  | .sessionClose _ _ => true
  | .berthRead _ _ => true
  | .canObjBind _ _ => true
  | .canObjFree _ _ => true
  | .canSend _ _ => true
  | .canRead _ _ => true
  | .canStage _ _ => true
  | .fabricTopology _ _ => true
  | .linkReset _ _ => true
  | .calRestart _ _ => true
  | .portCalRestart _ _ => true
  | .regRead _ _ => true
  | .regWrite _ _ => true
  | .regMode _ _ => true
  | .imageLoadBegin _ _ => true
  | .imageLoadData _ _ _ => true
  | .imageLoadEnd _ _ => true
  | .imageLoadEndComplete _ _ => true
  | .imageLoadIdleTimeout _ => true
  | .confirmImage _ _ _ => true
  | .hearthSplit _ _ => true
  | .hearthRejoin _ _ => true
  | .keyWrite _ _ => true
  | .traceTrigger _ _ => true
  | .traceList _ _ => true
  | .traceRead _ _ => true
  | .traceProtect _ _ => true
  | .sarConversionStart _ _ _ => true
  | .sarConversionComplete _ _ _ _ => true
  | .abzEdge _ _ _ _ _ => true
  | .zIndexEdge _ _ _ => true
  | .ssiTransferComplete _ _ _ _ => true
  | .latEdge _ _ _ _ => true
  | .sensorLoss _ _ _ _ _ => true
  | .ceilingRampFreeze _ _ => true
  | .catchRepeat _ _ => true
  | .catchTimeout _ _ => true
  | .magnetiseTimeout _ _ => true
  | .openTimeout _ _ => true
  | .bankHoldExpiry _ _ => true
  | .stoveRunEnd _ _ => true
  | .axisGridTick _ _ => true
  | .microstepApply _ _ => true
  | .auxSettingApply _ _ => true
  | .chopperCurrentReached _ _ => true
  | .chopperFastDecayEnd _ _ => true
  | .chopperOffExpiry _ _ => true
  | .standstillIdleExpiry _ _ => true
  | .uplinkFrameReceive _ _ _ => true
  | .uplinkMissing _ _ => true
  | .chopperTEffExpiry _ _ => true
  | .shutdownLineSet _ _ => true
  | .stopZeroTimeout _ _ => true
  | .zeroDwellEnd _ _ => true
  | .brakeHoldExpiry _ _ => true
  | .torqueRampEnd _ _ => true
  | .brakeReleaseWaitEnd _ _ => true
  | .brakeReleaseTimeout _ _ => true
  | .commandWatchdogExpiry _ _ => true
  | .commandHoldExpiry _ _ => true
  | .renderDwellExpiry _ _ => true
  | .renderOverspeed _ _ => true
  | .memberReportReceive _ => true
  | .distributorRun _ _ => true
  | .shareReceive _ => true
  | .reportShareMiss _ _ _ => true
  | .transferFrameReceive _ => true
  | .homeLostTransfer _ _ => true
  | .transferTimeout _ _ => true
  | .calWindowClose _ _ _ => true
  | .calFit _ _ _ => true
  | .standstillCaptureStart _ _ => true
  | .standstillCaptureEnd _ _ => true
  | .portCalFit _ _ => true
  | .replicaMeasure _ _ _ _ => true
  | .railMarginAdjust _ => true
  | .sensorCrossCheck _ => true
  | .heartbeatSend _ _ => true
  | .damperHeartbeatReceive _ _ _ => true
  | .damperHeartbeatTimeout _ => true
  | .h0HeartbeatTimeout _ => true
  | .crosslinkRequest _ _ => true
  | .oscWindowEnd _ _ => true
  | .safeInputChange _ _ _ _ => true
  | .safeInputFilterExpiry _ _ _ _ => true
  | .safeInputDiscrepancy _ _ _ => true
  | .safeInputTest _ _ _ => true
  | .safeOutputTest _ _ _ _ _ => true
  | .genReadbackFault _ _ _ _ => true
  | .genRaise _ _ => true
  | .genRaiseTimeout _ _ => true
  | .ss1TimeExpiry _ _ _ => true
  | .sbcStoDelayExpiry _ _ _ => true
  | .sosMonitorStart _ _ _ => true
  | .slsReachExpiry _ _ _ => true
  | .spSubgateEnd _ _ => true
  | .h0SafetyCheck _ => true
  | .brakeReleaseRequest _ _ => true
  | .brakeFeedbackTimeout _ _ => true
  | .safetyPduReceive _ => true
  | .safetyPduSend _ _ => true
  | .safetyWatchdogExpiry _ _ _ => true
  | .safetySetLoad _ => true
  | .transactionVote _ _ _ _ _ _ _ => true
  | .disagreementClassify _ _ _ => true
  | .digestPoint _ _ _ => true
  | .resyncComplete _ _ _ => true
  | .trivetOnlineTest _ _ _ => true
  | .splitComplete _ _ => true
  | .rejoinComplete _ _ _ => true
  | .debugHalt _ _ => true
  | .debugResume _ _ _ _ => true
  | .replayWrite _ _ _ _ _ => true
  | .errorLineRaise _ _ _ _ _ _ => true
  | .quietCheck _ _ => true
  | .eventMessageTake _ _ => true
  | .ferRelease _ => true
  | .stickyClearWrite _ _ _ => true
  | .groupReadLatch _ _ => true
  | .registerWrite _ _ _ => true
  | .thermalEvaluation _ _ _ => true
  | .thermalFactorSeal _ _ => true
  | .canStartOfFrame _ _ => true
  | .canSofSamplePoint _ _ => true
  | .canFrameReceive _ _ frame => frameOk frame
  | .canFrameSent _ _ _ => true
  | .canArbitrationLost _ _ => true
  | .canBusError _ _ _ _ _ _ _ _ => true
  | .canTxTimeout _ _ => true
  | .canRestartDelayExpiry _ _ => true
  | .canBusOffRecovered _ _ => true
  | .canIntegrationComplete _ _ => true
  | .canBusOnRequest _ _ => true
  | .canSleepRequest _ _ => true
  | .canSleepEntry _ _ => true
  | .canWakeRequest _ _ => true
  | .canEdgeWake _ _ _ => true
  | .canFrameWake _ _ frame _ => frameOk frame
  | .fabricFrameReceive _ _ _ => true
  | .fabricAckReceive _ _ _ => true
  | .fabricRetryTimeout _ _ _ => true
  | .fabricLockLoss _ _ => true
  | .fabricHelloSend _ _ => true
  | .fabricHelloTimeout _ _ => true
  | .fabricHeldExpiry _ _ => true
  | .linkStateSend _ => true
  | .innkeeperSend _ => true
  | .innkeeperTimeout _ => true
  | .electionDecide _ => true
  | .routeCommitTimeout _ => true
  | .addressReservationExpiry _ => true
  | .timeExchange _ _ _ _ _ _ _ => true
  | .ethFrameReceive _ _ _ _ => true
  | .ethPhyPoll _ _ _ _ => true
  | .arpTimeout _ _ => true
  | .arpEntryExpiry _ _ => true
  | .hspiWritePacket _ _ => true
  | .hspiReadReply _ _ => true
  | .hspiReadStatus _ => true
  | .hspiRegisterRead _ _ _ => true
  | .hspiRegisterWrite _ _ _ _ => true
  | .hspiUnknownCommand _ b => !([0x01, 0x02, 0x03, 0x10, 0x11] : List Byte).contains b
  | .serFrameReceive _ _ bytes _ _ => !bytes.contains 0x7E
  | .serReplySend _ _ _ _ => true
  | .tapInstructionLoad _ _ => true
  | .dbgChallenge _ => true
  | .dbgResponse _ response => response.length == 16
  | .dbgAccess _ _ _ => true
  | .debugLockoutExpiry _ => true
  | .sramScrub _ _ _ => true
  | .mramPatrol _ _ => true
  | .uncorrectableRead _ sram a _ _ _ _ => if sram then decide (a < 0x01000000) else decide (0x10000000 ≤ a) && decide (a < 0x18000000)
  | .journalWrite _ _ => true
  | .traceTriggerCondition _ _ => true
  | .traceRecordCopy _ => true
  | .traceCopyComplete _ _ => true
  | .auxLinkSlot _ => true
  | .auxDownlinkReceive _ _ => true
  | .auxUplinkReceive _ _ => true
  | .auxResendTimeout _ => true
  | .auxSwitchOn _ _ => true
  | .auxHandshakeTimeout _ _ => true
  | .auxLowUvlo _ _ => true
  | .auxBootUvlo _ _ => true
  | .auxRefreshEnd _ _ => true
  | .auxBootRecovered _ _ => true
  | .auxBootRecoveryTimeout _ _ => true
  | .auxOvercurrentTrip _ _ _ => true
  | .auxSoftOffFullSink _ _ => true
  | .damperReferenceTimeout _ => true
  | .spPortEdge _ _ _ _ _ => true
  | .fabricSymbolLock _ _ => true
  | .lowSideUvloRise _ _ => true
  | .coreTestEnd _ _ => true
  | .h0CrosslinkReceive _ _ => true
  | .sincosPeriodCount _ _ _ _ _ _ => true
  | .resolverHalfPeriod _ _ _ => true
  | .damperWindowRefresh _ => true

end Sys2Proof
end

