-- ==== Sys2Proof/Tests/Slice0.lean ====
section
/-! SUPPORT. The model's own tests: ill-formed commands are refused, values that the spec works out come out, and for every
obligation with hypotheses a state and operands that meet them (`witness_<Name>`, one existential for each clause). Where
a hypothesis is about a free value of Config, its witness takes that value's choice as an argument. -/
namespace Sys2Proof.Tests

open Sys2Proof Machine Safety

/-! ### Ill-formed commands -/

theorem test_wf_can_frame : Instr.wf (.canFrameReceive 0 0
    { format := .classical, ide := false, rtr := false, id := 0, data := List.replicate 9 0 }) = false := by
  decide
theorem test_wf_can_wake : Instr.wf (.canFrameWake 0 0
    { format := .fd, ide := false, rtr := true, id := 0, data := [] } true) = false := by
  decide
theorem test_wf_can_identifier : Instr.wf (.canFrameReceive 0 0
    { format := .fd, ide := false, rtr := false, id := 2048, data := [] }) = false := by
  decide
theorem test_wf_can_xl : Instr.wf (.canFrameReceive 0 0
    { format := .xl, ide := false, rtr := false, id := 0, data := [] }) = false := by
  decide
theorem test_wf_uncorrectable : Instr.wf (.uncorrectableRead 0 false 0x18000000 false 0 0 false) = false := by decide
theorem test_wf_hspi : Instr.wf (.hspiUnknownCommand 0 0x11) = false := by decide
theorem test_wf_serial : Instr.wf (.serFrameReceive 0 0 [0x7E] false 0) = false := by decide
theorem test_wf_response : Instr.wf (.dbgResponse 0 (List.replicate 15 0)) = false := by decide

/-! ### Values that the spec works out -/

/-- Check value of CRC-32C, "123456789" (03 R67). -/
theorem test_crc32c : crc32c [0x31, 0x32, 0x33, 0x34, 0x35, 0x36, 0x37, 0x38, 0x39] = 0xE3069283 := by decide +kernel
/-- Check value of the gate-link CRC (10 R267). -/
theorem test_linkCrc : linkCrc [0x31, 0x32, 0x33, 0x34, 0x35, 0x36, 0x37, 0x38, 0x39] = 0xDF := by decide +kernel
/-- The RUN frame of the example of 10: bytes 0x00, 0x00, 0x16, 0x07, 0xD1, 0x5B, 0x60 and CRC 0x31. -/
theorem test_downFrame : downFrame 0x16 false .run (-12) 1 0x5B 3 = 0x00001607D15B6031 := by decide +kernel
/-- A recovery counter at 254 and two increments (00, example after R12). -/
theorem test_counter :
    ctrInc 8 { val := 254 } = ({ val := 255 }, false) ∧ ctrInc 8 { val := 255 } = ({ val := 255, ovf := true },
        true) := by decide

/-- A module that has started. -/
def W : State :=
  { State.reset with
    tb := { counting := true, pllLock := true, refOk := true }
    start := { coreUp := true, attempt := 1, step := 15, awaitRef := false, bootBegun := true, startState := .ready } }

/-- A command packet under tag 1 of HSPI. -/
def c0 (op : BitVec 16) (data : List Byte := []) (target : BitVec 16 := 0) : Cmd :=
  { tr := .hspi, tag := 1, opcode := op, target := target, level := 4, sv := false, session := 0, seq := 0, key := []
    data := data }

/-- The state with that packet waiting and no other. -/
def has (s : State) (c : Cmd) : State := s.modPorter (fun p => { p with cmds := [c] })

/-- The boot ROM may start. -/
def atBoot : State := W.modStart (fun x => { x with startState := .boot, bootBegun := false, resetNHighAt := 0 })

def inStart (l : List Byte) : State := W.modPorter (fun p => { p with ready := [⟨.hspi, l, false⟩] })

/-- An IDENTIFY packet of HSPI with tag 1, and the same with a wrong CRC (03 R65). -/
def idHead : List Byte := [0x30, 0, 0, 0, 0, 1, 0, 0, 0, 0, 0, 0, 0, 0, 0, 0]
def goodPacket : List Byte := idHead ++ beBytes 4 (crc32c idHead).toNat
def badPacket : List Byte := idHead ++ [0, 0, 0, 0]

/-- A segment of a command packet in the request object of CAN0. -/
def seg (l : List Byte) : CanFrame := { format := .fd, ide := false, rtr := false, id := 0, data := l }
def requestBox (l : List Byte) : CanObj :=
  { internal := true, tx := false, port := 0, id := idOfWord (W.p0 0x1200 5), ide := bit (W.p0 0x1200 5) 31, new := true
    frame := some (seg l) }
def boxed (o : CanObj) : State := W.modPorter (fun p => { p with berths := p.berths.set 0 (.can o) })
def canIn (l : List Byte) : State := boxed (requestBox l)

def key7 : List Byte := List.replicate 32 7
def openS : Session :=
  { isOpen := true, transport := .hspi, slot := 7, level := 4, nonces := [5], key := key7, lastAt := 0, openTime := 0 }
def keyed : State := W.modPorter (fun p => { p with keys := p.keys.set 7 (some ⟨4, key7⟩) })
def opened : State := keyed.modPorter (fun p => { p with berths := p.berths.set 0 (.session openS) })
def proving : State := keyed.modPorter (fun p => { p with
    berths := p.berths.set 0 (.session { openS with isOpen := false }) })
def validated : State := opened.modSafety (fun x => { x with cfgFault := false })

def load8 : ImageLoad := { imageB := true, length := 16, transport := .hspi, session := none, lastAt := 0 }
def ending0 : State :=
  (has W { c0 0x0A12 with phase := .running }).modPorter (fun p => { p with
      load := some { load8 with ending := some [] } })
def loading : State := W.modPorter (fun p => { p with load := some load8 })

def linked : State :=
  W.modPorts (fun p => { p with eth := p.eth.set 0 { p.eth[0] with link := 3 } |>.set 1 { p.eth[1] with link := 1 } })
def macFrame : List Byte := beBytes 6 (Config.mac 0).toNat ++ List.replicate 6 0 ++ [8, 0] ++ List.replicate 46 0
theorem macFrame_dest : field macFrame 0 6 = (Config.mac 0).toNat := by
  have h := (Config.mac 0).isLt
  show beNat (beBytes 6 (Config.mac 0).toNat) = _
  simp only [beBytes, beNat, List.foldl, BitVec.toNat_ofNat]
  omega

def reply1 (tr : Transport) : Reply :=
  { tr := tr, completion := false, opcode := 0, tag := 1, status := 0, level := 0, sv := false, session := 0, seq := 0
    key := [], data := [], final := true }
def withReply (tr : Transport) : State := W.modPorter (fun p => { p with replies := [reply1 tr] })

/-- A challenge and the response to it (21 R552). -/
def challenged : State :=
  (W.modPorter (fun p => { p with debugKey := key7 })).modPorts (fun p =>
      { p with ir := .dbgResponse, challenge := some [9] })
def rightResponse : List Byte := (hmac key7 ([9] ++ beBytes 8 Config.uid.toNat)).take 16
theorem rightResponse_right : responseRight challenged rightResponse = true := by
  show (key7.any (fun b => b != 0) && (rightResponse == rightResponse)) = true
  simp [key7]

theorem goodPacket_passes : Passes (inStart goodPacket) ⟨.hspi, goodPacket, false⟩ ⟨[0], 0, false⟩ := by
  unfold Passes
  refine ⟨?_, ?_, ?_, ?_, ?_, ?_, ?_, ?_, ?_, ?_, ?_, ?_, ?_, ?_, ?_, ?_, ?_, ?_, ?_, ?_, ?_⟩ <;> decide +kernel

def canOn : State := W.modCan 0 (fun c => { c with state := .errorActive })
def pend0 : TxPending := { data := [1], at' := 0, cmd := none }
def txObj : CanObj := { tx := true, port := 0 }
def pendObj : CanObj := { txObj with pend := some pend0 }
def seg8 : CanFrame := { seg [1, 2, 3, 4, 5, 6, 7, 8] with format := .classical }
def rxObj : CanObj := { tx := false, port := 0, frame := some seg8 }

def inState (x : LinkState) : State := W.modLink 0 (fun y => { y with state := x })
def lit (l : Fin 4) : State := W.modLink l (fun y => { y with state := .up })
def frameOf (c : FabClass) : FabFrame :=
    { cls := c, treeB := false, dup := false, hops := 0, dest := 0, src := 1, msg := .bulk [] }

def helloIn : FabFrame := { frameOf .cmd with msg := .hello 5 0 1 0 0 9 }
def lateIn : FabFrame := { frameOf .cmd with lseq := 1 }
def ackWord (negative : Bool) : BitVec 32 := BitVec.ofNat 32 (beNat (ackBytes .cmd 0 1 negative))

/-- A database of this module, which may not be Innkeeper, and of one that may. -/
def other : TopoRow := { uid := ownUid + 1, generation := 0, priority := 1, links := [⟨.up, ownUid⟩] }
def electable : State :=
  W.modFabric (fun f => { f with
      state := .electing, db := [{ other with uid := ownUid, priority := 0, links := [⟨.up, ownUid + 1⟩] }, other] })
theorem other_not_own : other.uid ≠ ownUid := by
  show ownUid + 1 ≠ ownUid
  generalize ownUid = u
  bv_omega
theorem electable_winner :
    byRank (electable.fabric.db.filter (fun r => decide (0 < r.priority) && decide (r.uid ∈ reachable electable))) =
        [other] := by
  have h := other_not_own
  simp [electable, State.modFabric, reachable, reachGo, edge, byRank, rankInsert, other, LinkInfo.up] at *
def ownRow1 : TopoRow := { other with uid := ownUid, priority := 1, links := [] }
def alone : State := W.modFabric (fun f => { f with state := .electing, db := [ownRow1] })
theorem alone_winner :
    byRank (alone.fabric.db.filter (fun r => decide (0 < r.priority) && decide (r.uid ∈ reachable alone))) =
        [ownRow1] := by
  simp [alone, State.modFabric, reachable, reachGo, byRank, rankInsert, ownRow1, other]
theorem no_objs (s : State) (h : s.porter.berths = Vector.replicate 512 .free) (p : Fin 6) (f : CanObj
    → Bool) : objsOf s p f = [] := by
  simp [objsOf, canObj, h]
theorem few_objs (s : State) (h : s.porter.berths = Vector.replicate 512 .free) (p : Fin 6) (f : CanObj → Bool) :
    (objsOf s p f).length < 64 := by
  rw [no_objs s h]; decide
theorem canOn_sleeps : canSleepRefused canOn 0 = false := by
  unfold canSleepRefused canPending
  rw [no_objs canOn rfl, no_objs canOn rfl]
  decide +kernel

/-- A module whose machine M0 can be enabled: a synchronous machine with a fitted chopper, a program of one stage and a
gate link that has reported its configuration (23 R583). -/
def fitted : State :=
  let s := ((((W.setPar 1 0 0x2400 0 1).setPar 1 0 0x2701 1 1).setPar 1 0 0x2703 1 0).setPar 4 0 0x3001 1 1).setPar 4
      0 0x3001 2 1
  let s := (s.setPar 4 0 0x3002 1 0).setPar 4 0 0x3000 1 0x00FFFFFFFF000000
  let s := s.setPar 4 0 0x3001 4 (programCrc s 0)
  s.modGl 0 (fun g => { g with
      checkReported := true, cfgItems := cfgValues s 0, items := g.items.set 50 ((cfgCheck s 0).setWidth 16) })

/-- M0 is enabled and runs. -/
def on : State := (fitted.modDrive 0 (fun d => { d with enabled := true })).modStartM 0 (fun x =>
    { x with state := .run })
def stopping (p : Stop) : State := W.modDrive 0 (fun d => { d with stop := some p })
def stop0 (ph : StopPhase) (k : StopKind) : Stop :=
    { phase := ph, kind := k, fault := false, quick := false, startedAt := 0, speed0 := 100 }
def zeroed (k : StopKind) : Stop := { stop0 .zero k with zeroAt := some 0 }
def brakeAt (ph : StopPhase) : Stop := { stop0 ph .rampBrake with brakeAt := some 0 }
def enabling0 : Enabling := { cmd := none, startedAt := 0 }
def starting (e : Enabling) : State := on.modDrive 0 (fun d => { d with enabling := some e })
def words0 : StrobeWords :=
  { at' := 0, iu := 0, iv := 0, idc := 0, vdc := 0, age := 0, vlow := 0, bridges := [], pos := 0, posAt := 0, loopSpeed := 0, portLost := false }
def store0 : Storing := { cmd := (.hspi, 1), target := true, values := [], keys := [], generation := 2 }

/-- M0 and M1 are an enabled six-phase pair; a strobe that waits for its step 9 and its frame. -/
def pairOn : State := (on.setPar 1 0 0x2420 1 4).setPar 1 1 0x2420 1 5
def step9 : Waiting9 := { at' := 0, k := 1, ready := true, live := true }
def waits9 : State := on.modTb (fun t => { t with waiting9 := t.waiting9.set 0 [step9] })
def frame9 : ReadyFrame := { strobe := 0, k := 1, vec := {}, brk := false, shift := 0 }
/-- The conversion of an analog phase current, or of the neutral-point input AIN0, starts now. -/
def sarAt : State :=
  let s := W.setPar 1 0 0x2200 1 2
  s.modTb (fun t => { t with now := BitVec.ofInt 56 (wOff s 0 + 400) })
def npAt : State :=
  let s := (W.setPar 1 0 0x2420 1 1).setPar 1 0 0x2421 1 16
  s.modTb (fun t => { t with now := BitVec.ofInt 56 (wOff s 0 + 400) })

def chopping (p : Phase) : State :=
  (W.modLeg 2 (fun x => { x with phase := p, ref := 64, sw := .highOn })).modAxis 1 (fun x => { x with
    state := .driven, dieSet := [128, 64, 4, 4, 0, 0, 5, 0, 0, 20, 4, 0, 0, 0] })
def report0 : AuxReport := { leg := some 0, axis := 0, kind := 0, coincident := false }
def item0 : JournalItem := { kind := 1, code := 2, stamp := 3, data := [4] }
def noted : State := W.modJournal (fun j => { j with queue := [item0] })
def rec5 : TraceRec :=
  { number := 5, stamp := 0, cause := .level, channels := [0], isProtected := false, damaged := false, laterTriggers := 0, data := [1, 2] }
def recorded : State := W.modTrace (fun t => { t with records := [rec5] })
def guarded5 : State := W.modTrace (fun t => { t with
    records := [{ rec5 with isProtected := true, cause := .source 0xD0 }] })
def fault0 : FaultRec := { source := 45, master := 0, kind := 0, retry := .none', addr := 0, stamp := 9 }
def faulted : State := W.modFlue (fun f => { f with fer := some fault0 })
def lane0 : LaneEntry := { addr := 0, data := 0, enables := 0xFF, kind := 1, attr := 0, seq := 0, parityOk := true }
def same : Vector LaneEntry 3 := Vector.replicate 3 lane0
def differs : Vector LaneEntry 3 := same.set 1 { lane0 with data := 1 }
def unlike : Vector LaneEntry 3 := differs.set 2 { lane0 with data := 2 }
def laned : State := W.modHearth 3 (fun y => { y with lanes := Vector.replicate 3 [lane0] })
def resync0 : Resync := { core := 2, source := 0, startedAt := 0, latent := false }
def run0 : SplitRun := { startedAt := 0, test := false, debug := false }
def replaying : State :=
  (W.modPorts (fun p => { p with unlocked := true })).modHearth 0 (fun y =>
      { y with debugHalted := true, replaySel := true })
def report1 : MemberReport :=
  { group := 1, member := 1, master := false, run := true, lo := -1024, hi := 1024, torque := 0, w := 1024, g := 0, tRated := 1
    d := 200, n := 50, phi := 0 }
def fabIn (x : FabMsg) : FabFrame := { frameOf .sync with msg := x }
def inboxed (x : FabMsg) : State := W.modFabric (fun f => { f with inbox := [fabIn x] })
/-- M0 is the master of a group of which it has heard no other member. -/
def master : State :=
  (((on.setPar 1 0 0x8200 1 1).setPar 1 0 0x8200 2 0)).modStove 0 (fun x => { x with running := true })
/-- M0 is the home of a transfer with channel M3 of the module at address 5. -/
def pair : State := ((W.setPar 1 0 0x8201 1 1).setPar 1 0 0x8201 2 5).setPar 1 0 0x8201 3 3
def transferIn : FabFrame := { fabIn (.transfer 3 0 true (some (xferCrc pair 0))) with src := 5 }
def catch0 : CatchState := { startedAt := 0, pulseAt := 0, enabledAt := 0 }
def catching (c : CatchState) : State := on.modStartM 0 (fun x => { x with state := .catch', catchSt := some c })
theorem crc_frame (s : State) (g : Fabric → Fabric) (m : Fin 4) : xferCrc s m = xferCrc (s.modFabric g) m := rfl

/-- The Damper holds a set, the STO input is on and no restart is required. -/
def clear : State :=
  W.modSafety (fun x => { x with 
    cfgFault := false, loaded := true, restartReq := Vector.replicate 4 false
    damper := { x.damper with
        inputs := x.damper.inputs.set 8 { levelA := true, levelB := true, accA := true, accB := true } } })
def granted : State := clear.modSafety (fun x => { x with genReq := x.genReq.set 0 (some 0) })
def outSet : List (Nat × Nat) := [(pkey 0 0 0x6023 1, 0)]
def outOn (g : Bool) : State :=
  clear.modSafety (fun x => { x with
      set := outSet, releaseReq := x.releaseReq.set 0 true, genA := x.genA.set 0 g, genB := x.genB.set 0 g })
def waitingFb : State :=
  clear.modSafety (fun x => { x with
      set := [(pkey 0 0 0x6020 4, 6)], outs := x.outs.set 0 { a := true, b := true, feedbackAt := some 0 } })
def ss10 : Ss1 := { startedAt := 0, n0 := 256, timed := false }
def withFn (f : SafeFn) : State := W.modSafety (fun x => { x with
    damper := { x.damper with fns := x.damper.fns.set 0 f } })
/-- Safety connection 0 is on, on transport 2, with connection number 5. -/
def connected : State :=
  let s := ((W.setPar 0 0 0x6040 1 1).setPar 0 0 0x6040 3 2).setPar 0 0 0x6040 4 5
  s.modSafety (fun x => { x with set := s.porter.params })

theorem connected_agree :
    statusPdu (advance connected 0) false 0 (connected.safety.links[0].seq + 1) =
      statusPdu (advance connected 0) true 0 (connected.safety.links[0].seq + 1) := by
  have h1 : statusPayload (advance connected 0) false = statusPayload (advance connected 0) true := by decide +kernel
  have h2 : timeMaster (advance connected 0) false 0 = timeMaster (advance connected 0) true 0 := by decide +kernel
  have h3 : (safeView (advance connected 0) false).conns[(0 : Fin 8)].lastTexp = (safeView (advance connected 0)
      true).conns[(0 : Fin 8)].lastTexp := by
    decide +kernel
  have h4 : v0 (advance connected 0) false 0x6040 4 = v0 (advance connected 0) true 0x6040 4 := by decide +kernel
  have h5 : ownId (advance connected 0) false = ownId (advance connected 0) true := by decide +kernel
  have h6 : partnerId (advance connected 0) false 0 = partnerId (advance connected 0) true 0 := by decide +kernel
  simp only [statusPdu, h1, h2, h3, h5, h6]
  simp only [Fin.val_zero, Nat.add_zero, h4]

/-- The same with another connection number in the set of the Damper. -/
def parted : State := connected.modSafety (fun x => { x with
    set := ((W.setPar 0 0 0x6040 1 1).setPar 0 0 0x6040 3 2).porter.params })

/-- The session of berth 37 in the example of 24 R607: CAN2, key slot 3, CONFIGURE, sequence 0x1C07. -/
def berth37 : State :=
  W.modPorter (fun p => { p with berths := p.berths.set 37 (.session {
    isOpen := true, transport := .can 2, slot := 3, level := 2, nonces := [], seqHigh := 0x1C07, window :=
        0xFFFFFFFF, lastAt := 0, openTime := 0 }) })
theorem test_berth37 :
    (List.range 5).map (fun k => regWord berth37 (0x400C04A0 + 4 * k)) = [some 0x24CC003C, some 0x1C07,
        some 0xFFFFFFFF, some 0x3C, some 0] := by
  decide +kernel

/-- The towing winch of the example of 13: motor A is the master at 1,200 N·m and 120 to 1, the demand is 1.10. -/
def winch (hi : Int) : State :=
  let s := ((((fitted.setPar 1 0 0x8200 1 1).setPar 1 0 0x8200 2 0).setPar 1 0 0x2402 0 12000).setPar 1 0 0x8200 5
      (120 * 65536)).setPar 1 0 0x8200 6 0
  let a : MemberReport :=
    { group := 1, member := 0, master := true, run := true, lo := -1024, hi := 1024, torque := 0, w := 576, g := 120 * 65536
      tRated := 12000, d := 200, n := 50, phi := 0 }
  (s.modStove 0 (fun x => { x with stages := x.stages.set 0 { x.stages[0] with y := 4613734, e := 1 } })).modShare 0
      (fun x => { x with
    members := (x.members.set 0 { report := some a, alive := true }).set 1
      { report := some { a with member := 1, master := false, hi := hi, w := 480, g := 150 * 65536, tRated := 8000 }, alive := true } })
theorem test_winch_healthy : (distribute (winch 1024) 0).1 = [(0, 614), (1, 614)] := by decide +kernel
theorem test_winch_throttled : (distribute (winch 512) 0).1 = [(0, 700), (1, 512)] := by decide +kernel

/-! ### Every statement's hypotheses are met -/

/-- The profile channel 2 of Stove 0, idle or with a segment queued, and the bytes of one segment (09 R242). -/
def chanOn : State := (on.setPar 4 0 0x3001 3 2).modProf 2 (fun x => { x with state := .idle })
def oneSeg : List Byte := [0, 0, 0x1F, 0x40, 0, 0, 0, 0, 0, 0, 0, 0, 0, 1, 0, 0]
def seg0 : Segment := recordOf oneSeg
def chanBusy : State := chanOn.modProf 2 (fun x => { x with state := .moving, queue := [seg0] })
/-- Source 3.15 is raised now and stands in the mask of the trace recorder (22 R568). -/
def raised9 : State := raise (W.setPar 0 0 0x0720 21 0x8000000000000000) 63 0

/-- A collection of sums for the fit of a sin/cos port: four samples a quarter turn apart, of amplitude 100 (14 R366). -/
def sums0 : PortSums := { n := 4, s2 := 20000, c2 := 20000, span := 1000 }
def fitting (x : PortSums) : State :=
  (W.setPar 0 0 0x0413 1 2).modCal (fun c => { c with ports := c.ports.set 3 { c.ports[3] with closed := some x } })
theorem sums0_fits : (portFitOf sums0).isSome = true := by decide +kernel

theorem witness_TimebaseCommands :
    (∃ (s : State) (dt : Nat), (advance s dt).tb.wrapDue = true) ∧
    (∃ (s : State) (dt : Nat), (advance s dt).tb.wrapDue = false) ∧
    (∃ (s u : State) (dt : Nat) (mv : Vector Nat 9), s.tb.pllLock = true ∧ u = (advance s dt).modTb (fun t =>
      { t with railMv := mv, railSeen := true, railFast := s.tb.railSeen && decide (∃ k : Fin 9, 10 < ((mv[k] : Int) - s.tb.railMv[k]).natAbs) })
      ∧ envelopeOut u = true ∧ s.tb.envelope = false) ∧
    (∃ (s u : State) (dt : Nat) (mv : Vector Nat 9), s.tb.pllLock = true ∧ u = (advance s dt).modTb (fun t =>
      { t with railMv := mv, railSeen := true, railFast := s.tb.railSeen && decide (∃ k : Fin 9, 10 < ((mv[k] : Int) - s.tb.railMv[k]).natAbs) })
      ∧ (envelopeOut u = false ∨ s.tb.envelope = true)) ∧
    (∃ (s : State), s.tb.ref = .present ∧ s.tb.pllLock = true) ∧
    (∃ (s u : State) (dt since : Nat), s.tb.ref = .missing since ∧ since + 20000 ≤ s.clk + dt ∧ u = forAll four (fun
      m s => stopTfu (if s.en m then noteSource s m 46 0 else s) m) ((advance s dt).modTb (fun t =>
      { t with ref := .holdover, lossMasked := false }))) :=
  ⟨⟨W.modTb (fun t => { t with now := BitVec.allOnes 56 }), 1, by decide +kernel⟩,
   ⟨W, 1, by decide +kernel⟩,
   ⟨W, _, 0, Vector.replicate 9 1501, rfl, rfl, by decide +kernel, rfl⟩,
   ⟨W, _, 0, Vector.replicate 9 800, rfl, rfl, .inl (by decide +kernel)⟩,
   ⟨W, by decide +kernel, by decide +kernel⟩,
   ⟨W.modTb (fun t => { t with ref := .missing 0 }), _, 20000, 0, by decide +kernel, by decide +kernel, rfl⟩⟩

theorem witness_SupplyCommands :
    (∃ (s : State), s.start.bootBegun = false) ∧
    (∃ (s : State), s.start.bootBegun = true) ∧
    (∃ (s t : State) (dt : Nat), t = powerLost (advance s dt)) ∧
    (∃ (s : State), s.start.vanaUp = true) ∧
    (∃ (s : State), s.start.vanaUp = false) ∧
    (∃ (s : State), s.start.vanaUp = false) ∧
    (∃ (s t : State) (dt : Nat), t = damperOff (advance s dt)) ∧
    (∃ (s : State) (dt : Nat), s.safety.damperUp = false ∧ s.safety.damperAt + 20000 ≤ s.clk + dt) :=
  ⟨⟨State.reset, by decide +kernel⟩,
   ⟨W, by decide +kernel⟩,
   ⟨W, _, 0, rfl⟩,
   ⟨W, by decide +kernel⟩,
   ⟨W.modStart (fun x => { x with vanaUp := false }), by decide +kernel⟩,
   ⟨W.modStart (fun x => { x with vanaUp := false }), by decide +kernel⟩,
   ⟨W, _, 0, rfl⟩,
   ⟨W.modSafety (fun x => { x with damperUp := false }), 20000, by decide +kernel, by decide +kernel⟩⟩

theorem witness_StagedStart :
    (∃ (s : State), s.start.awaitRef = true ∧ s.start.latchedOff = false ∧ s.start.offUntil = none) ∧
    (∃ (s : State), s.start.coreUp = true ∧ s.start.step = 1) ∧
    (∃ (s : State) (dt n : Nat), s.start.step + 1 = n ∧ 3 ≤ n ∧ n < 15 ∧ s.start.lockAt + 20000 * (n - 2) ≤ s.clk +
      dt) ∧
    (∃ (s : State) (dt : Nat), s.start.step = 14 ∧ s.start.lockAt + 260000 ≤ s.clk + dt) ∧
    (∃ (s t : State) (dt at' : Nat), s.start.coreUp = true ∧ s.start.bootBegun = false ∧ railReleasedAt s.start =
      some at' ∧ at' + 16000 ≤ s.clk + dt ∧ t = (powerLost (advance s dt)).modStart (fun y =>
      { y with awaitRef := false, attempt := s.start.attempt, failedStep := some s.start.step, violations := s.start.violations, refIn := s.start.refIn, offUntil := some (s.clk + dt + 2000000), latchedOff := decide (2 ≤ s.start.attempt) })) ∧
    (∃ (s : State) (dt at' : Nat), s.start.offUntil = some at' ∧ at' ≤ s.clk + dt) ∧
    (∃ (s : State), s.start.bootBegun = true) ∧
    (∃ (s : State), s.start.bootBegun = false ∧ s.start.latchedOff = true) ∧
    (∃ (s : State), s.start.bootBegun = false ∧ s.start.latchedOff = false) :=
  ⟨⟨State.reset, by decide +kernel, by decide +kernel, by decide +kernel⟩,
   ⟨W.modStart (fun x => { x with step := 1, startState := .staged }), by decide +kernel, by decide +kernel⟩,
   ⟨W.modStart (fun x => { x with step := 13 }), 240000, 14, by decide +kernel, by decide +kernel,
     by decide +kernel, by decide +kernel⟩,
   ⟨W.modStart (fun x => { x with step := 14 }), 260000, by decide +kernel, by decide +kernel⟩,
   ⟨State.reset.modStart (fun x => { x with coreUp := true, step := 1 }), _, 16000, 0, by decide +kernel,
     by decide +kernel, by decide +kernel, by decide +kernel, rfl⟩,
   ⟨W.modStart (fun x => { x with offUntil := some 7 }), 7, 7, by decide +kernel, by decide +kernel⟩,
   ⟨W, by decide +kernel⟩,
   ⟨State.reset.modStart (fun x => { x with latchedOff := true }), by decide +kernel, by decide +kernel⟩,
   ⟨State.reset, by decide +kernel, by decide +kernel⟩⟩

theorem witness_BootAndReset :
    (∃ (s u v : State) (dt : Nat) (b : Bool), s.start.startState = .boot ∧ s.start.bootBegun = false ∧
      s.start.resetNLow = none ∧ s.start.resetNHighAt + 2000 ≤ s.clk + dt ∧ u = bootBegins (advance s dt) ∧ pickImage
      (candidates u) u = (some b, v)) ∧
    (∃ (s u v : State) (dt : Nat), s.start.startState = .boot ∧ s.start.bootBegun = false ∧ s.start.resetNLow = none
      ∧ s.start.resetNHighAt + 2000 ≤ s.clk + dt ∧ u = bootBegins (advance s dt) ∧ pickImage (candidates u) u = (none,
      v)) ∧
    (∃ (s v : State) (fallback b : Bool), v = s.modStart (fun x =>
      { x with imageSel := b, imageFallback := x.imageFallback || fallback, startState := .tests, runImage := some (imageOf s b) })) ∧
    (∃ (s u : State) (dt : Nat) (t : StartTests) (hold restricted : Bool), s.start.startState = .tests ∧ startTests
      t (advance s dt) = (u, hold, restricted)) ∧
    (∃ (s : State) (dt : Nat) (c : ResetCause), s.start.resetPending = some c ∧ resetDue (advance s dt) = true) ∧
    (∃ (s t : State) (c : ResetCause), t = moduleReset s c) :=
  ⟨⟨atBoot, _, _, 2000, false, by decide +kernel, by decide +kernel, by decide +kernel, by decide +kernel, rfl, rfl⟩,
   ⟨atBoot.modStore (fun x => { x with imageA := {} }), _, _, 2000, by decide +kernel, by decide +kernel,
     by decide +kernel, by decide +kernel, rfl, rfl⟩,
   ⟨W, _, false, false, rfl⟩,
   ⟨W.modStart (fun x => { x with startState := .tests }), _, 0, cleanTests, _, _, by decide +kernel, rfl⟩,
   ⟨W.modStart (fun x => { x with resetPending := some .pin }), 0, .pin, by decide +kernel, by decide +kernel⟩,
   ⟨W, _, .pin, rfl⟩⟩

theorem witness_PacketIntake :
    (∃ (s : State) (p : ReadyPacket) (rest : List ReadyPacket) (i : OpInfo), s.porter.ready = p :: rest ∧ Passes s p
      i) ∧
    (∃ (s : State) (p : ReadyPacket) (rest : List ReadyPacket), s.porter.ready = p :: rest ∧ s.start.bootBegun =
      true ∧ s.up = true ∧ 20 ≤ p.bytes.length ∧ (parseHdr p.bytes).length ≤ 1024 ∧ p.bytes.length = packetLen
      (parseHdr p.bytes) ∧ beNat (p.bytes.drop (p.bytes.length - 4)) ≠ (crc32c (p.bytes.take (p.bytes.length -
      4))).toNat) ∧
    (∃ (s : State) (p : Fin 6) (b : Fin 512) (o : CanObj) (f : CanFrame) (ctl : Byte) (body : List Byte), requestObj
      s p = some b ∧ canObj s b = some o ∧ o.frame = some f ∧ f.data = ctl :: body ∧ ctl.getLsbD 7 = true ∧
      (ctl.setWidth 6 : BitVec 6) = 0) ∧
    (∃ (s : State) (p : Fin 6) (b : Fin 512) (o : CanObj) (f : CanFrame) (ctl : Byte) (body : List Byte) (a :
      CanAssembly), requestObj s p = some b ∧ canObj s b = some o ∧ o.frame = some f ∧ f.data = ctl :: body ∧
      ctl.getLsbD 7 = false ∧ s.porter.canIn[p] = some a) ∧
    (∃ (s : State) (dt : Nat) (p : Fin 6) (a : CanAssembly), s.porter.canIn[p] = some a ∧ a.lastAt + 20000000 ≤
      s.clk + dt) ∧
    (∃ (s : State) (dt : Nat) (tr : Transport) (tag : BitVec 16) (c : Cmd) (x : Storing), findCmd s tr tag = some c
      ∧ c.phase = .running ∧ c.opcode = 0x0102 ∧ c.startedAt + 20000000 ≤ s.clk + dt ∧ s.porter.storing = some x ∧
      x.cmd = c.id) ∧
    (∃ (s : State) (dt : Nat) (tr : Transport) (tag : BitVec 16) (c : Cmd), findCmd s tr tag = some c ∧ c.phase =
      .running ∧ c.opcode = 0x0200 ∧ c.startedAt + 26000000000 ≤ s.clk + dt ∧ s.drive[c.m].enabling.any (fun e =>
      e.result.isNone) = true) ∧
    (∃ (s : State) (dt : Nat) (tr : Transport) (tag : BitVec 16) (c : Cmd) (x : ImageLoad), findCmd s tr tag = some
      c ∧ c.phase = .running ∧ c.opcode = 0x0A12 ∧ c.startedAt + 400000000 ≤ s.clk + dt ∧ s.porter.load = some x ∧
      x.ending ≠ none) :=
  ⟨⟨inStart goodPacket, ⟨.hspi, goodPacket, false⟩, [], ⟨[0], 0, false⟩, rfl, goodPacket_passes⟩,
   ⟨inStart badPacket, ⟨.hspi, badPacket, false⟩, [], by decide +kernel, by decide +kernel, by decide +kernel,
     by decide +kernel, by decide +kernel, by decide +kernel, by decide +kernel⟩,
   ⟨canIn [0x80], 0, 0, requestBox [0x80], seg [0x80], 0x80, [], by decide +kernel, by decide +kernel,
     by decide +kernel, by decide +kernel, by decide +kernel, by decide +kernel⟩,
   ⟨(canIn [0x01]).modPorter (fun p =>
     { p with canIn := p.canIn.set 0 (some { bytes := [], next := 1, lastAt := 0 }) }), 0, 0, requestBox [0x01], seg
     [0x01], 0x01, [], { bytes := [], next := 1, lastAt := 0 }, by decide +kernel, by decide +kernel,
     by decide +kernel, by decide +kernel, by decide +kernel, by decide +kernel⟩,
   ⟨W.modPorter (fun p => { p with canIn := p.canIn.set 0 (some { bytes := [], next := 1, lastAt := 0 }) }),
     20000000, 0, { bytes := [], next := 1, lastAt := 0 }, by decide +kernel, by decide +kernel⟩,
   ⟨(has W { c0 0x0102 with phase := .running }).modPorter (fun p =>
     { p with storing := some { cmd := (.hspi, 1), target := true, values := [], keys := [], generation := 2 } }),
     20000000, .hspi, 1, { c0 0x0102 with phase := .running },
     { cmd := (.hspi, 1), target := true, values := [], keys := [], generation := 2 }, by decide +kernel,
     by decide +kernel, by decide +kernel, by decide +kernel, by decide +kernel, by decide +kernel⟩,
   ⟨(has W { c0 0x0200 with phase := .running }).modDrive 0 (fun d =>
     { d with enabling := some { cmd := none, startedAt := 0 } }), 26000000000, .hspi, 1,
     { c0 0x0200 with phase := .running }, by decide +kernel, by decide +kernel, by decide +kernel, by decide +kernel,
     by decide +kernel⟩,
   ⟨ending0, 400000000, .hspi, 1, { c0 0x0A12 with phase := .running }, { load8 with ending := some [] },
     by decide +kernel, by decide +kernel, by decide +kernel, by decide +kernel, by decide +kernel, by decide +kernel⟩⟩

theorem witness_SystemReads :
    (∃ (s : State) (tr : Transport) (tag : BitVec 16) (c : Cmd), c.data = [] ∧ Starts s tr tag 0x0000 c) ∧
    (∃ (s : State) (tr : Transport) (tag : BitVec 16) (c : Cmd), c.data = [] ∧ Starts s tr tag 0x0001 c) ∧
    (∃ (s : State) (tr : Transport) (tag : BitVec 16) (c : Cmd), c.data = [] ∧ Starts s tr tag 0x0006 c) ∧
    (∃ (s : State) (tr : Transport) (tag : BitVec 16) (c : Cmd), c.data = [] ∧ Starts s tr tag 0x0002 c) ∧
    (∃ (s : State) (tr : Transport) (tag : BitVec 16) (c : Cmd), c.data = [] ∧ Starts s tr tag 0x0500 c) ∧
    (∃ (s : State) (tr : Transport) (tag : BitVec 16) (c : Cmd), c.data = [] ∧ Starts s tr tag 0x0501 c) :=
  ⟨⟨has W (c0 0x0000), .hspi, 1, (c0 0x0000), by decide +kernel, ⟨rfl, rfl, rfl, rfl⟩⟩,
   ⟨has W (c0 0x0001), .hspi, 1, (c0 0x0001), by decide +kernel, ⟨rfl, rfl, rfl, rfl⟩⟩,
   ⟨has W (c0 0x0006), .hspi, 1, (c0 0x0006), by decide +kernel, ⟨rfl, rfl, rfl, rfl⟩⟩,
   ⟨has W (c0 0x0002), .hspi, 1, (c0 0x0002), by decide +kernel, ⟨rfl, rfl, rfl, rfl⟩⟩,
   ⟨has W (c0 0x0500), .hspi, 1, (c0 0x0500), by decide +kernel, ⟨rfl, rfl, rfl, rfl⟩⟩,
   ⟨has W (c0 0x0501), .hspi, 1, (c0 0x0501), by decide +kernel, ⟨rfl, rfl, rfl, rfl⟩⟩⟩

theorem witness_SystemActs :
    (∃ (s : State) (tr : Transport) (tag : BitVec 16) (c : Cmd), Starts s tr tag 0x0004 c ∧ c.data = []) ∧
    (∃ (s : State) (tr : Transport) (tag : BitVec 16) (c : Cmd) (k : Byte) (b : Blk), Starts s tr tag 0x0005 c ∧
      c.data = [k] ∧ resettable (tIndex c.target) k.toNat = .ok b) ∧
    (∃ (s : State) (tr : Transport) (tag : BitVec 16) (c : Cmd) (level : Byte) (key : List Byte), Starts s tr tag
      0x0A30 c ∧ c.data = 8 :: level :: key ∧ key.length = 32) ∧
    (∃ (s : State) (tr : Transport) (tag : BitVec 16) (c : Cmd) (k level : Byte) (key : List Byte), Starts s tr tag
      0x0A30 c ∧ c.data = k :: level :: key ∧ key.length = 32 ∧ k.toNat ≤ 7 ∧ 1 ≤ level.toNat ∧ level.toNat ≤ 4) ∧
    (∃ (s : State) (tr : Transport) (tag : BitVec 16) (c : Cmd) (x : Session), Starts s tr tag 0x0502 c ∧
      c.data.length = 4 ∧ s.safety.cfgFault = false ∧ (safetyCrcs s).any (fun y => y != beNat c.data) = false ∧
      openSession s c.session = some x) ∧
    (∃ (s : State) (tr : Transport) (tag : BitVec 16) (c : Cmd) (named : BitVec 16) (t : Cmd), Starts s tr tag
      0x0003 c ∧ c.data.length = 2 ∧ beNat c.data = named.toNat ∧ named ≠ c.tag ∧ findCmd (begun s tr tag) c.tr named
      = some t ∧ t.phase = .waiting ∧ t.level.toNat ≤ c.level.toNat) ∧
    (∃ (s : State) (tr : Transport) (tag : BitVec 16) (c : Cmd) (named : BitVec 16) (t : Cmd), Starts s tr tag
      0x0003 c ∧ c.data.length = 2 ∧ beNat c.data = named.toNat ∧ named ≠ c.tag ∧ findCmd (begun s tr tag) c.tr named
      = some t ∧ t.phase = .running ∧ t.level.toNat ≤ c.level.toNat) :=
  ⟨⟨has W (c0 0x0004), .hspi, 1, (c0 0x0004), ⟨rfl, rfl, rfl, rfl⟩, by decide +kernel⟩,
   ⟨has W (c0 0x0005 [3] 0x7004), .hspi, 1, (c0 0x0005 [3] 0x7004), 3, .stv 3, ⟨rfl, rfl, rfl, rfl⟩,
     by decide +kernel, rfl⟩,
   ⟨has W (c0 0x0A30 (8 :: 0 :: List.replicate 32 7)), .hspi, 1, (c0 0x0A30 (8 :: 0 :: List.replicate 32 7)), 0,
     List.replicate 32 7, ⟨rfl, rfl, rfl, rfl⟩, by decide +kernel, by decide +kernel⟩,
   ⟨has W (c0 0x0A30 (7 :: 4 :: List.replicate 32 7)), .hspi, 1, (c0 0x0A30 (7 :: 4 :: List.replicate 32 7)), 7, 4,
     List.replicate 32 7, ⟨rfl, rfl, rfl, rfl⟩, by decide +kernel, by decide +kernel, by decide +kernel,
     by decide +kernel, by decide +kernel⟩,
   ⟨has validated (c0 0x0502 (beBytes 4 0)), .hspi, 1, (c0 0x0502 (beBytes 4 0)), openS, ⟨rfl, rfl, rfl, rfl⟩,
     by decide +kernel, by decide +kernel, by decide +kernel, by decide +kernel⟩,
   ⟨W.modPorter (fun p => { p with cmds := [{ c0 0x0001 with tag := 7 }, c0 0x0003 [0, 7]] }), .hspi, 1, c0 0x0003
     [0, 7], 7, { c0 0x0001 with tag := 7 }, ⟨rfl, rfl, rfl, rfl⟩, by decide +kernel, by decide +kernel,
     by decide +kernel, by decide +kernel, by decide +kernel, by decide +kernel⟩,
   ⟨W.modPorter (fun p => { p with cmds := [{ c0 0x0102 with tag := 7, phase := .running }, c0 0x0003 [0, 7]] }),
     .hspi, 1, c0 0x0003 [0, 7], 7, { c0 0x0102 with tag := 7, phase := .running }, ⟨rfl, rfl, rfl, rfl⟩,
     by decide +kernel, by decide +kernel, by decide +kernel, by decide +kernel, by decide +kernel, by decide +kernel⟩⟩

theorem witness_SessionCommands :
    (∃ (s : State) (tr : Transport) (tag : BitVec 16) (c : Cmd) (b : Fin 512), Starts s tr tag 0x0700 c ∧
      c.data.length = 18 ∧ field c.data 16 1 ≤ 7 ∧ s.porter.keys[finOf 8 (field c.data 16 1)] ≠ none ∧ 1 ≤ field
      c.data 17 1 ∧ field c.data 17 1 ≤ 4 ∧ freeBerth s = some b ∧ sessionCount s < 64) ∧
    (∃ (s : State) (tr : Transport) (tag : BitVec 16) (c : Cmd) (x : Session) (k : KeySlot), Starts s tr tag 0x0701
      c ∧ c.data.length = 32 ∧ s.porter.berths[c.berth] = .session x ∧ x.isOpen = false ∧ s.porter.keys[x.slot] = some
      k ∧ c.data = hmac k.key x.nonces) ∧
    (∃ (s : State) (tr : Transport) (tag : BitVec 16) (c : Cmd) (x : Session), Starts s tr tag 0x0702 c ∧ c.data =
      [] ∧ openSession s (BitVec.ofNat 9 c.berth.val) = some x) ∧
    (∃ (s : State) (dt : Nat) (b : Fin 512) (x : Session), s.porter.berths[b] = .session x ∧ x.isOpen = true ∧
      x.lastAt + 200000000 * x.timeout ≤ s.clk + dt) ∧
    (∃ (s : State) (dt : Nat) (b : Fin 512) (x : Session), s.porter.berths[b] = .session x ∧ x.isOpen = false ∧
      x.lastAt + 1000000000 ≤ s.clk + dt) :=
  ⟨⟨has keyed (c0 0x0700 (List.replicate 16 5 ++ [7, 4])), .hspi, 1, (c0 0x0700 (List.replicate 16 5 ++ [7, 4])), 0,
     ⟨rfl, rfl, rfl, rfl⟩, by decide +kernel, by decide +kernel, by decide +kernel, by decide +kernel,
     by decide +kernel, by decide +kernel, by decide +kernel⟩,
   ⟨has proving (c0 0x0701 (hmac key7 [5])), .hspi, 1, (c0 0x0701 (hmac key7 [5])), { openS with isOpen := false },
     ⟨4, key7⟩, ⟨rfl, rfl, rfl, rfl⟩, by decide +kernel, by decide +kernel, by decide +kernel, by decide +kernel,
     by decide +kernel⟩,
   ⟨has opened (c0 0x0702), .hspi, 1, (c0 0x0702), openS, ⟨rfl, rfl, rfl, rfl⟩, by decide +kernel,
     by decide +kernel⟩,
   ⟨opened, 12000000000, 0, openS, by decide +kernel, by decide +kernel, by decide +kernel⟩,
   ⟨proving, 1000000000, 0, { openS with isOpen := false }, by decide +kernel, by decide +kernel, by decide +kernel⟩⟩

theorem witness_ImageCommands :
    (∃ (s : State) (tr : Transport) (tag : BitVec 16) (c : Cmd) (b : Bool) (n : Nat), Starts s tr tag 0x0A10 c ∧
      c.data.length = 5 ∧ field c.data 0 1 = flag b 0 ∧ field c.data 1 4 = n ∧ throttling s = false ∧ s.porter.load =
      none ∧ (s.start.startState = .hold ∨ b ≠ s.start.imageSel) ∧ 8 ≤ n ∧ n ≤ 8388480 ∧ n % 8 = 0) ∧
    (∃ (s : State) (tr : Transport) (tag : BitVec 16) (c : Cmd) (x : ImageLoad) (t : State) (bad : Bool), Starts s
      tr tag 0x0A11 c ∧ ownLoad (begun s tr tag) c = some x ∧ 12 ≤ c.data.length ∧ c.data.length ≤ 1020 ∧ field c.data
      0 4 % 8 = 0 ∧ field c.data 0 4 + (c.data.length - 4) ≤ x.length ∧ mramWrite ((begun s tr tag).modPorter (fun p
      => { p with load := some { x with lastAt := s.clk } })) (imageBase x.imageB + field c.data 0 4) (c.data.drop 4)
      bad = (t, true)) ∧
    (∀ (h : List Byte) (_hl : h.length = 128) (_hg : headerGood h = true), ∃ (s : State) (tr : Transport) (tag :
      BitVec 16) (c : Cmd) (x : ImageLoad), Starts s tr tag 0x0A12 c ∧ ownLoad (begun s tr tag) c = some x ∧
      c.data.length = 128 ∧ headerGood c.data = true) ∧
    (∀ (h : List Byte) (_hs : Config.imageSigned h (cellsGet [] 0x14000000 16) = true), ∃ (s r : State) (dt : Nat)
      (x : ImageLoad) (h : List Byte) (bad : Bool), s.porter.load = some x ∧ x.ending = some h ∧ (if bad then
      spareMramRow ((advance s dt).modPorter (fun p => { p with load := none })) (dieOf (imageBase x.imageB)) else
      ((advance s dt).modPorter (fun p => { p with load := none }), true)) = (r, true) ∧ Config.imageSigned h
      (cellsGet r.mem.mram (imageBase x.imageB) x.length) = true) ∧
    (∀ (h : List Byte) (_hs : Config.imageSigned h (cellsGet [] 0x14000000 16) = false), ∃ (s r : State) (dt : Nat)
      (x : ImageLoad) (h : List Byte) (bad : Bool), s.porter.load = some x ∧ x.ending = some h ∧ (if bad then
      spareMramRow ((advance s dt).modPorter (fun p => { p with load := none })) (dieOf (imageBase x.imageB)) else
      ((advance s dt).modPorter (fun p => { p with load := none }), true)) = (r, true) ∧ Config.imageSigned h
      (cellsGet r.mem.mram (imageBase x.imageB) x.length) = false) ∧
    (∃ (s : State) (dt : Nat) (x : ImageLoad), s.porter.load = some x ∧ x.ending = none ∧ x.lastAt + 12000000000 ≤
      s.clk + dt) ∧
    (∃ (s r : State) (tr : Transport) (tag : BitVec 16) (c : Cmd) (bad : Bool), Starts s tr tag 0x0A13 c ∧ c.data =
      [] ∧ (imageOf s s.start.imageSel).trial = true ∧ (if bad then spareMramRow (begun s tr tag) (dieOf (imageBase
      s.start.imageSel)) else (begun s tr tag, true)) = (r, true)) ∧
    (∃ (s : State) (tr : Transport) (tag : BitVec 16) (c : Cmd), Starts s tr tag 0x0A13 c ∧ c.data = [] ∧ (imageOf s
      s.start.imageSel).trial = false) :=
  ⟨⟨has W (c0 0x0A10 [1, 0, 0x7F, 0xFF, 0x80]), .hspi, 1, (c0 0x0A10 [1, 0, 0x7F, 0xFF, 0x80]), true, 8388480, ⟨rfl,
     rfl, rfl, rfl⟩, by decide +kernel, by decide +kernel, by decide +kernel, by decide +kernel, by decide +kernel,
     by decide +kernel, by decide +kernel, by decide +kernel, by decide +kernel⟩,
   ⟨has loading (c0 0x0A11 ([0, 0, 0, 8] ++ List.replicate 8 1)), .hspi, 1, (c0 0x0A11 ([0, 0, 0, 8] ++
     List.replicate 8 1)), load8, _, false, ⟨rfl, rfl, rfl, rfl⟩, by decide +kernel, by decide +kernel,
     by decide +kernel, by decide +kernel, by decide +kernel, rfl⟩,
   fun h hl hg => ⟨has loading (c0 0x0A12 h), .hspi, 1, c0 0x0A12 h, load8, ⟨rfl, rfl, rfl, rfl⟩, rfl, hl, hg⟩,
   fun h hs => ⟨W.modPorter (fun p => { p with load := some { load8 with ending := some h } }), _, 0,
     { load8 with ending := some h }, h, false, rfl, rfl, rfl, hs⟩,
   fun h hs => ⟨W.modPorter (fun p => { p with load := some { load8 with ending := some h } }), _, 0,
     { load8 with ending := some h }, h, false, rfl, rfl, rfl, hs⟩,
   ⟨loading, 12000000000, load8, by decide +kernel, by decide +kernel, by decide +kernel⟩,
   ⟨has (W.modStore (fun x => { x with imageA := { x.imageA with trial := true } })) (c0 0x0A13), _, .hspi, 1, c0
     0x0A13, false, ⟨rfl, rfl, rfl, rfl⟩, by decide +kernel, by decide +kernel, rfl⟩,
   ⟨has W (c0 0x0A13), .hspi, 1, c0 0x0A13, ⟨rfl, rfl, rfl, rfl⟩, by decide +kernel, by decide +kernel⟩⟩

theorem witness_RegisterCommands :
    (∃ (s : State) (dt : Nat) (a : BitVec 32) (v : Nat) (t : State), regRead (advance s dt) a.toNat = some (v, t)) ∧
    (∃ (s : State) (tr : Transport) (tag : BitVec 16) (c : Cmd), Starts s tr tag 0x0703 c ∧ c.data = []) ∧
    (∃ (s : State) (tr : Transport) (tag : BitVec 16) (c : Cmd) (a n : Nat), Starts s tr tag 0x0A00 c ∧
      c.data.length = 5 ∧ beNat (c.data.take 4) = a ∧ beNat (c.data.drop 4) = n ∧ 1 ≤ n ∧ (∀ i, i < n → readable
      (begun s tr tag) (a + 4 * i) = true)) ∧
    (∃ (s : State) (tr : Transport) (tag : BitVec 16) (c : Cmd) (a n : Nat), Starts s tr tag 0x0A01 c ∧
      c.data.length = 5 + 4 * n ∧ beNat (c.data.take 4) = a ∧ beNat ((c.data.drop 4).take 1) = n ∧ 1 ≤ n ∧ n ≤ 254 ∧
      (∀ i, i < n → writeRefused (begun s tr tag) (a + 4 * i) = false)) ∧
    (∃ (s : State) (tr : Transport) (tag : BitVec 16) (c : Cmd) (v : Byte), Starts s tr tag 0x0A02 c ∧ c.tr = .hspi
      ∧ c.data = [v] ∧ v.toNat ≤ 1) :=
  ⟨⟨W, 0, 0x40000000, _, _, rfl⟩,
   ⟨has W (c0 0x0703), .hspi, 1, (c0 0x0703), ⟨rfl, rfl, rfl, rfl⟩, by decide +kernel⟩,
   ⟨has W (c0 0x0A00 [0x40, 0, 0, 0, 1]), .hspi, 1, (c0 0x0A00 [0x40, 0, 0, 0, 1]), 0x40000000, 1, ⟨rfl, rfl, rfl,
     rfl⟩, by decide +kernel, by decide +kernel, by decide +kernel, by decide +kernel, by decide +kernel⟩,
   ⟨has W (c0 0x0A01 [0x40, 0, 0, 0x64, 1, 0, 0, 0, 0]), .hspi, 1, (c0 0x0A01 [0x40, 0, 0, 0x64, 1, 0, 0, 0, 0]),
     0x40000064, 1, ⟨rfl, rfl, rfl, rfl⟩, by decide +kernel, by decide +kernel, by decide +kernel, by decide +kernel,
     by decide +kernel, by decide +kernel⟩,
   ⟨has W (c0 0x0A02 [1]), .hspi, 1, (c0 0x0A02 [1]), 1, ⟨rfl, rfl, rfl, rfl⟩, by decide +kernel, by decide +kernel,
     by decide +kernel⟩⟩

theorem witness_EthernetCommands :
    (∃ (s : State) (e : Fin 2) (frame : List Byte), s.up = true ∧ s.ports.eth[e].link ≠ 0 ∧ 60 ≤ frame.length ∧
      frame.length ≤ 1514 ∧ field frame 12 2 = 0x0800 ∧ field frame 0 6 = (Config.mac e.val).toNat) ∧
    (∃ (s : State) (e : Fin 2) (frame : List Byte), s.up = true ∧ s.ports.eth[e].link ≠ 0 ∧ 60 ≤ frame.length ∧
      frame.length ≤ 1514 ∧ field frame 12 2 = 0x0806 ∧ (field frame 0 6 = (Config.mac e.val).toNat ∨ field frame 0 6
      = 0xFFFFFFFFFFFF)) ∧
    (∃ (s : State) (e : Fin 2) (frame : List Byte), s.up = true ∧ s.ports.eth[e].link ≠ 0 ∧ 60 ≤ frame.length ∧
      frame.length ≤ 1514 ∧ ¬ (field frame 12 2 = 0x0800 ∧ field frame 0 6 = (Config.mac e.val).toNat) ∧ ¬ (field
      frame 12 2 = 0x0806 ∧ (field frame 0 6 = (Config.mac e.val).toNat ∨ field frame 0 6 = 0xFFFFFFFFFFFF))) ∧
    (∃ (s : State) (e : Fin 2) (frame : List Byte) (good : Bool), s.up = true ∧ s.ports.eth[e].link ≠ 0 ∧ (good =
      false ∨ frame.length < 60 ∨ 1514 < frame.length)) ∧
    (∃ (s : State) (speed : Fin 4), s.start.bootBegun = true ∧ speed ≠ 0) ∧
    (∃ (s : State) (e : Fin 2), s.start.bootBegun = true ∧ s.ports.eth[e].link ≠ 0) ∧
    (∃ (s : State) (e : Fin 2) (speed : Fin 4), s.start.bootBegun = true ∧ speed ≠ 0 ∧ s.ports.eth[e].link = 0 ∧
      s.p0 (0x1300 + e.val) 5 = 1 ∧ s.up = true) ∧
    (∃ (s : State) (e : Fin 2) (speed : Fin 4), s.start.bootBegun = true ∧ speed ≠ 0 ∧ s.ports.eth[e].link ≠ 0) :=
  ⟨⟨linked, 0, macFrame, by decide +kernel, by decide +kernel, by decide, by decide, by decide, macFrame_dest⟩,
   ⟨linked, 0, List.replicate 6 0xFF ++ List.replicate 6 0 ++ [8, 6] ++ List.replicate 46 0, by decide +kernel,
     by decide +kernel, by decide +kernel, by decide +kernel, by decide +kernel, Or.inr (by decide)⟩,
   ⟨linked, 0, List.replicate 60 0, by decide +kernel, by decide +kernel, by decide +kernel, by decide +kernel, fun
     h => absurd h.1 (by decide), fun h => absurd h.1 (by decide)⟩,
   ⟨linked, 1, [], false, by decide +kernel, by decide +kernel, .inl rfl⟩,
   ⟨W, 3, by decide +kernel, by decide +kernel⟩,
   ⟨linked, 0, by decide +kernel, by decide +kernel⟩,
   ⟨W, 0, 1, by decide +kernel, by decide +kernel, by decide +kernel, by decide +kernel, by decide +kernel⟩,
   ⟨linked, 0, 1, by decide +kernel, by decide +kernel, by decide +kernel⟩⟩

theorem witness_HostPortCommands :
    (∃ (s : State), hspiLive s = true) ∧
    (∃ (s : State), hspiLive s = true ∧ hspiOldest s = none) ∧
    (∃ (s : State) (r : Reply), hspiLive s = true ∧ hspiOldest s = some r) ∧
    (∃ (s : State), hspiLive s = true) ∧
    (∃ (s : State) (dt : Nat) (a : BitVec 32), hspiLive s = true ∧ s.porter.regMode = true ∧ readable (advance s dt)
      a.toNat = true) ∧
    (∃ (s : State) (dt : Nat) (a : BitVec 32), hspiLive s = true ∧ (s.porter.regMode = false ∨ readable (advance s
      dt) a.toNat = false)) ∧
    (∃ (s : State), hspiLive s = true ∧ s.porter.regMode = false) ∧
    (∃ (s : State) (dt : Nat) (a w : BitVec 32) (t : State), hspiLive s = true ∧ s.porter.regMode = true ∧ a.toNat %
      4 = 0 ∧ (inMemory a.toNat = true ∨ (regWord (advance s dt) a.toNat).isSome = true) ∧ Machine.regWrite (advance s
      dt) a.toNat w.toNat = some t) ∧
    (∃ (s : State) (b : Byte), hspiLive s = true ∧ b.toNat ∉ [0x01, 0x02, 0x03, 0x10, 0x11]) :=
  ⟨⟨W, by decide +kernel⟩,
   ⟨W, by decide +kernel, by decide +kernel⟩,
   ⟨withReply .hspi, reply1 .hspi, by decide +kernel, by decide +kernel⟩,
   ⟨W, by decide +kernel⟩,
   ⟨W.modPorter (fun p => { p with regMode := true }), 0, 0x40000000, by decide +kernel, by decide +kernel,
     by decide +kernel⟩,
   ⟨W, 0, 0, by decide +kernel, .inl (by decide +kernel)⟩,
   ⟨W, by decide +kernel, by decide +kernel⟩,
   ⟨W.modPorter (fun p => { p with regMode := true }), 0, 0x40000064, 0, _, by decide +kernel, by decide +kernel,
     by decide +kernel, .inr (by decide +kernel), rfl⟩,
   ⟨W, 0x04, by decide +kernel, by decide +kernel⟩⟩

theorem witness_SerialAndDebug :
    (∃ (s : State) (gap : Nat) (k : Fin 2) (rest l : List Byte) (node : Byte), s.up = true ∧ rest.length < 2198 ∧
      gap * s.p0 (0x1320 + k.val) 2 ≤ 200000000000 ∧ (node.toNat = s.p0 (0x1320 + k.val) 1 ∨ node = 0xFF) ∧ unescape
      rest = some l) ∧
    (∃ (s : State) (gap : Nat) (k : Fin 2) (bytes : List Byte) (framing : Bool), s.up = true ∧ (framing = true ∨
      200000000000 < gap * s.p0 (0x1320 + k.val) 2 ∨ 2198 < bytes.length)) ∧
    (∃ (s : State) (dt idle : Nat) (k : Fin 2) (r : Reply), s.up = true ∧ s.porter.replies.find? (fun r => r.tr ==
      .ser k) = some r ∧ charTimes (advance s dt) k idle (serIdle (advance s dt) k r) = true) ∧
    (∃ (s : State) (ir : TapIr), ((ir ≠ .extest ∧ ir ≠ .clamp ∧ ir ≠ .highz) ∨ (s.anyMachine || s.anyAxis) = false)) ∧
    (∃ (s : State) (ir : TapIr), (ir = .extest ∨ ir = .clamp ∨ ir = .highz) ∧ (s.anyMachine || s.anyAxis) = true) ∧
    (∃ (s : State), s.ports.ir = .dbgChallenge ∧ s.ports.lockoutAt = none) ∧
    (∃ (s : State) (l : List Byte), s.ports.ir = .dbgResponse ∧ s.ports.lockoutAt = none ∧ responseRight s l = true) ∧
    (∃ (s : State) (l : List Byte), s.ports.ir = .dbgResponse ∧ s.ports.lockoutAt = none ∧ responseRight s l = false
      ∧ s.ports.wrong < 2) ∧
    (∃ (s : State) (l : List Byte), s.ports.ir = .dbgResponse ∧ s.ports.lockoutAt = none ∧ responseRight s l = false
      ∧ 2 ≤ s.ports.wrong) ∧
    (∃ (s : State) (dt at' : Nat), s.ports.lockoutAt = some at' ∧ at' + 12000000000 ≤ s.clk + dt) :=
  ⟨⟨W, 0, 0, [0x7D, 0x5D], [0x7D], 0xFF, by decide +kernel, by decide +kernel, by decide +kernel, .inr rfl,
     by decide +kernel⟩,
   ⟨W, 0, 0, [], true, by decide +kernel, .inl rfl⟩,
   ⟨withReply (.ser 0), 0, 2000000, 0, reply1 (.ser 0), by decide +kernel, by decide +kernel, by decide +kernel⟩,
   ⟨W, .extest, .inr (by decide +kernel)⟩,
   ⟨W.modDrive 3 (fun d => { d with enabled := true }), .clamp, .inr (.inl rfl), by decide +kernel⟩,
   ⟨W.modPorts (fun p => { p with ir := .dbgChallenge }), by decide +kernel, by decide +kernel⟩,
   ⟨challenged, rightResponse, by decide +kernel, by decide +kernel, rightResponse_right⟩,
   ⟨W.modPorts (fun p => { p with ir := .dbgResponse }), [], by decide +kernel, by decide +kernel,
     by decide +kernel, by decide +kernel⟩,
   ⟨W.modPorts (fun p => { p with ir := .dbgResponse, wrong := 2 }), [], by decide +kernel, by decide +kernel,
     by decide +kernel, by decide +kernel⟩,
   ⟨W.modPorts (fun p => { p with lockoutAt := some 0 }), 12000000000, 0, by decide +kernel, by decide +kernel⟩⟩

theorem witness_CanLineCommands :
    (∃ (s : State) (p : Fin 6), canActive s p = true ∧ canMode s p = 1) ∧
    (∃ (s : State) (p : Fin 6) (b : Fin 512) (o : CanObj) (f : TxPending), s.can[p].attempt = some b ∧ canObj s b =
      some o ∧ o.pend = some f) ∧
    (∃ (s : State) (p : Fin 6) (frame : CanFrame), canActive s p = true ∧ (portFormats s p).getLsbD (formatBit
      frame.format) = true ∧ s.can[p].recv < 128) ∧
    (∃ (s : State) (p : Fin 6) (frame : CanFrame), canActive s p = true ∧ (portFormats s p).getLsbD (formatBit
      frame.format) = true ∧ 128 ≤ s.can[p].recv) ∧
    (∃ (s : State) (p : Fin 6) (b : Fin 512) (o : CanObj) (delay : Option (BitVec 8)), canActive s p = true ∧
      s.can[p].attempt = some b ∧ canObj s b = some o ∧ (delay = none ∨ (o.format ≠ .fdBrs ∧ o.format ≠ .xl))) ∧
    (∃ (s : State) (p : Fin 6) (b : Fin 512) (o : CanObj) (d : BitVec 8), canActive s p = true ∧ s.can[p].attempt =
      some b ∧ canObj s b = some o ∧ (o.format = .fdBrs ∨ o.format = .xl) ∧ d.toNat ≤ 127 ∧ d.toNat + s.p0 (0x1210 +
      p.val) 9 ≤ 127) ∧
    (∃ (s : State) (p : Fin 6) (b : Fin 512) (o : CanObj) (d : BitVec 8), canActive s p = true ∧ s.can[p].attempt =
      some b ∧ canObj s b = some o ∧ (o.format = .fdBrs ∨ o.format = .xl) ∧ (127 < d.toNat ∨ 127 < d.toNat + s.p0
      (0x1210 + p.val) 9)) ∧
    (∃ (s : State) (dt : Nat) (b : Fin 512) (o : CanObj) (f : TxPending), canObj s b = some o ∧ o.pend = some f ∧
      f.committed = false ∧ o.tOut ≠ 0 ∧ f.at' + 200000 * o.tOut ≤ s.clk + dt) ∧
    (∃ (s : State) (dt : Nat) (p : Fin 6) (at' : Nat), s.can[p].state = .busOff ∧ s.can[p].restartAt = some at' ∧
      at' + 200000 * s.p0 (0x1200 + p.val) 4 ≤ s.clk + dt) ∧
    (∃ (s : State) (p : Fin 6), s.can[p].state = .recovering) ∧
    (∃ (s : State) (p : Fin 6), s.can[p].state = .integrating) :=
  ⟨⟨canOn, 0, by decide +kernel, by decide +kernel⟩,
   ⟨(boxed pendObj).modCan 0 (fun c => { c with attempt := some 0 }), 0, 0, pendObj, pend0, by decide +kernel,
     by decide +kernel, by decide +kernel⟩,
   ⟨canOn.modCan 0 (fun c => { c with recv := 127 }), 0, seg8, by decide +kernel, by decide +kernel,
     by decide +kernel⟩,
   ⟨canOn.modCan 0 (fun c => { c with recv := 128 }), 0, seg8, by decide +kernel, by decide +kernel,
     by decide +kernel⟩,
   ⟨(boxed pendObj).modCan 0 (fun c => { c with state := .errorPassive, attempt := some 0 }), 0, 0, pendObj, none,
     by decide +kernel, by decide +kernel, by decide +kernel, .inl rfl⟩,
   ⟨(boxed { pendObj with format := .xl }).modCan 0 (fun c => { c with state := .errorPassive, attempt := some 0 }),
     0, 0, { pendObj with format := .xl }, 50, by decide +kernel, by decide +kernel, by decide +kernel, .inr rfl,
     by decide +kernel, by decide +kernel⟩,
   ⟨(boxed { pendObj with format := .xl }).modCan 0 (fun c => { c with state := .errorPassive, attempt := some 0 }),
     0, 0, { pendObj with format := .xl }, 200, by decide +kernel, by decide +kernel, by decide +kernel, .inr rfl,
     .inl (by decide +kernel)⟩,
   ⟨boxed { pendObj with tOut := 100 }, 20000000, 0, { pendObj with tOut := 100 }, pend0, by decide +kernel,
     by decide +kernel, by decide +kernel, by decide +kernel, by decide +kernel⟩,
   ⟨W.modCan 0 (fun c => { c with state := .busOff, restartAt := some 0 }), 20000000, 0, 0, by decide +kernel,
     by decide +kernel, by decide +kernel⟩,
   ⟨W.modCan 5 (fun c => { c with state := .recovering }), 5, by decide +kernel⟩,
   ⟨W.modCan 0 (fun c => { c with state := .integrating }), 0, by decide +kernel⟩⟩

theorem witness_CanPowerCommands :
    (∃ (s : State) (p : Fin 6), canSleepRefused s p = false) ∧
    (∃ (s : State) (dt : Nat) (p : Fin 6), s.can[p].sleepReq = true ∧ canActive s p = true ∧ s.can[p].wakeReq ≠ some
      (s.clk + dt)) ∧
    (∃ (s : State) (dt : Nat) (p : Fin 6), s.can[p].sleepReq = true ∧ canActive s p = true ∧ s.can[p].wakeReq = some
      (s.clk + dt)) ∧
    (∃ (s : State) (dt : Nat) (p : Fin 6) (low filter : Nat) (r : List Nat), s.can[p].wakeSet = some (0 :: filter ::
      r) ∧ s.can[p].state = .sleep ∧ 5 * filter ≤ low ∧ s.can[p].sleepAt + 5 * filter ≤ s.clk + dt) ∧
    (∃ (s : State) (p : Fin 6) (frame : CanFrame) (flt id mask ide pat dmask : Nat), s.can[p].wakeSet = some [1,
      flt, id, mask, ide, pat, dmask] ∧ s.can[p].state = .sleep ∧ (portFormats s p).getLsbD (formatBit frame.format) =
      true ∧ wakesOn id mask ide pat dmask frame = true) :=
  ⟨⟨canOn, 0, canOn_sleeps⟩,
   ⟨canOn.modCan 0 (fun c => { c with sleepReq := true }), 0, 0, by decide +kernel, by decide +kernel,
     by decide +kernel⟩,
   ⟨canOn.modCan 0 (fun c => { c with sleepReq := true, wakeReq := some 4 }), 4, 0, by decide +kernel,
     by decide +kernel, by decide +kernel⟩,
   ⟨W.modCan 0 (fun c => { c with state := .sleep, wakeSet := some [0, 100] }), 500, 0, 500, 100, [],
     by decide +kernel, by decide +kernel, by decide +kernel, by decide +kernel⟩,
   ⟨W.modCan 0 (fun c => { c with state := .sleep, wakeSet := some [1, 100, 5, 0x1FFFFFFF, 0, 0, 0] }), 0,
     { format := .classical, ide := false, rtr := false, id := 5, data := [] }, 100, 5, 0x1FFFFFFF, 0, 0, 0,
     by decide +kernel, by decide +kernel, by decide +kernel, by decide +kernel⟩⟩

theorem witness_CanOpcodes :
    (∃ (s : State) (tr : Transport) (tag : BitVec 16) (c : Cmd) (b : Fin 512), Starts s tr tag 0x0710 c ∧
      c.data.length = 26 ∧ badBind c = none ∧ freeBerth s = some b ∧ (objsOf s (finOf 6 (fld c 0 1)) (fun _ =>
      true)).length < 64) ∧
    (∃ (s : State) (tr : Transport) (tag : BitVec 16) (c : Cmd) (o : CanObj), Starts s tr tag 0x0711 c ∧ c.data = []
      ∧ userObj s c = some o ∧ o.pend = none) ∧
    (∃ (s : State) (tr : Transport) (tag : BitVec 16) (c : Cmd) (o : CanObj), Starts s tr tag 0x0712 c ∧ 2 ≤
      c.data.length ∧ userObj s c = some o ∧ o.tx = true ∧ o.pend = none ∧ canMode s o.port = 1 ∧ s.can[o.port].state
      ≠ .sleep ∧ s.can[o.port].sleepReq = false ∧ fld c 0 2 ≤ o.staged.length ∧ (o.staged.take (fld c 0 2) ++
      c.data.drop 2).length ≤ maxData o.format ∧ minData o.format ≤ (o.staged.take (fld c 0 2) ++ c.data.drop
      2).length) ∧
    (∃ (s : State) (tr : Transport) (tag : BitVec 16) (c : Cmd) (o : CanObj) (f : CanFrame), Starts s tr tag 0x0713
      c ∧ c.data.length = 2 ∧ userObj s c = some o ∧ o.tx = false ∧ o.frame = some f ∧ fld c 0 2 ≤ f.data.length) ∧
    (∃ (s : State) (tr : Transport) (tag : BitVec 16) (c : Cmd) (o : CanObj), Starts s tr tag 0x0714 c ∧ 3 ≤
      c.data.length ∧ c.data.length ≤ 1020 ∧ userObj s c = some o ∧ o.tx = true ∧ o.pend = none ∧ fld c 0 2 +
      (c.data.length - 2) ≤ 2048) :=
  ⟨⟨has W (c0 0x0710 ([5, 1, 0, 7] ++ List.replicate 22 0)), .hspi, 1, (c0 0x0710 ([5, 1, 0, 7] ++ List.replicate 22
     0)), 0, ⟨rfl, rfl, rfl, rfl⟩, by decide +kernel, by decide +kernel, by decide +kernel, few_objs _ rfl _ _⟩,
   ⟨has (boxed txObj) (c0 0x0711), .hspi, 1, c0 0x0711, txObj, ⟨rfl, rfl, rfl, rfl⟩, by decide +kernel,
     by decide +kernel, by decide +kernel⟩,
   ⟨has (boxed txObj) (c0 0x0712 [0, 0, 1, 2, 3, 4, 5, 6, 7, 8]), .hspi, 1, c0 0x0712 [0, 0, 1, 2, 3, 4, 5, 6, 7,
     8], txObj, ⟨rfl, rfl, rfl, rfl⟩, by decide +kernel, by decide +kernel, by decide +kernel, by decide +kernel,
     by decide +kernel, by decide +kernel, by decide +kernel, by decide +kernel, by decide +kernel, by decide +kernel⟩,
   ⟨has (boxed rxObj) (c0 0x0713 [0, 8]), .hspi, 1, c0 0x0713 [0, 8], rxObj, seg8, ⟨rfl, rfl, rfl, rfl⟩,
     by decide +kernel, by decide +kernel, by decide +kernel, by decide +kernel, by decide +kernel⟩,
   ⟨has (boxed { txObj with staged := List.replicate 4 0 }) (c0 0x0714 [0, 4, 9]), .hspi, 1, c0 0x0714 [0, 4, 9],
     { txObj with staged := List.replicate 4 0 }, ⟨rfl, rfl, rfl, rfl⟩, by decide +kernel, by decide +kernel,
     by decide +kernel, by decide +kernel, by decide +kernel, by decide +kernel⟩⟩

theorem witness_FabricFrames :
    (∃ (s : State) (l : Fin 4) (body : List Byte), s.fabric.links[l].state ≠ .disabled ∧ s.fabric.links[l].state ≠
      .down ∧ readFrame body = none) ∧
    (∃ (s : State) (l : Fin 4) (body : List Byte) (f : FabFrame) (u i e : BitVec 64) (p n : Nat) (a : BitVec 8),
      s.fabric.links[l].state ≠ .disabled ∧ s.fabric.links[l].state ≠ .down ∧ readFrame body = some f ∧ f.msg = .hello
      u p a n i e) ∧
    (∃ (s : State) (l : Fin 4) (body : List Byte) (f : FabFrame), s.fabric.links[l].state = .up ∧ readFrame body =
      some f ∧ f.cls = .sync ∧ (∀ u p a n i e, f.msg ≠ .hello u p a n i e)) ∧
    (∃ (s : State) (l : Fin 4) (body : List Byte) (f : FabFrame), s.fabric.links[l].state = .up ∧ readFrame body =
      some f ∧ f.cls ≠ .sync ∧ (∀ u p a n i e, f.msg ≠ .hello u p a n i e) ∧ f.lseq = (linkClass s.fabric.links[l]
      f.cls).rxSeq) ∧
    (∃ (s : State) (l : Fin 4) (body : List Byte) (f : FabFrame), s.fabric.links[l].state = .up ∧ readFrame body =
      some f ∧ f.cls ≠ .sync ∧ (∀ u p a n i e, f.msg ≠ .hello u p a n i e) ∧ f.lseq ≠ (linkClass s.fabric.links[l]
      f.cls).rxSeq) ∧
    (∃ (s : State) (l : Fin 4) (word : BitVec 32) (cls : FabClass) (q : BitVec 8) (credits : Nat), isUp s l = true ∧
      readAck (beBytes 4 word.toNat) = some (cls, q, credits, false)) ∧
    (∃ (s t : State) (dt : Nat) (l : Fin 4) (word : BitVec 32) (cls : FabClass) (q : BitVec 8) (credits : Nat), isUp
      s l = true ∧ readAck (beBytes 4 word.toNat) = some (cls, q, credits, true) ∧ t = (advance s dt).modLink l (fun y
      => setLinkClass y cls
      { linkClass y cls with credits := if cls = .safe then (linkClass y cls).credits else (linkClass y cls).credits + credits, unacked := (ackedRest (linkClass y cls).unacked q false).map (fun u => { u with at' := s.clk + dt }) })) ∧
    (∃ (s : State) (dt : Nat) (l : Fin 4) (cls : Fin 3) (u : Unacked) (r : List Unacked), isUp s l = true ∧
      (linkClass s.fabric.links[l] (classOf cls)).unacked = u :: r ∧ u.at' + 1000 ≤ s.clk + dt) :=
  ⟨⟨lit 1, 1, [], by decide +kernel, by decide +kernel, by decide +kernel⟩,
   ⟨lit 1, 1, helloIn.bytes, helloIn, 5, 0, 9, 0, 0, 1, by decide +kernel, by decide +kernel, by decide +kernel,
     by decide +kernel⟩,
   ⟨lit 3, 3, (frameOf .sync).bytes, frameOf .sync, by decide +kernel, by decide +kernel, by decide +kernel, by
     intros; simp [frameOf]⟩,
   ⟨lit 0, 0, (frameOf .cmd).bytes, frameOf .cmd, by decide +kernel, by decide +kernel, by decide +kernel, by
     intros; simp [frameOf], by decide +kernel⟩,
   ⟨lit 0, 0, lateIn.bytes, lateIn, by decide +kernel, by decide +kernel, by decide +kernel, by intros; simp
     [lateIn, frameOf], by decide +kernel⟩,
   ⟨lit 1, 1, ackWord false, .cmd, 0, 1, by decide +kernel, by decide +kernel⟩,
   ⟨lit 1, _, 0, 1, ackWord true, .cmd, 0, 1, by decide +kernel, by decide +kernel, rfl⟩,
   ⟨(lit 0).modLink 0 (fun y => { y with cmd := { y.cmd with unacked := [⟨frameOf .cmd, 1, 0⟩] } }), 1000, 0, 1,
     ⟨frameOf .cmd, 1, 0⟩, [], by decide +kernel, by decide +kernel, by decide +kernel⟩⟩

theorem witness_FabricLinkStates :
    (∃ (s : State) (l : Fin 4), s.fabric.links[l].state = .down ∧ linkEnabled s l = true) ∧
    (∃ (s : State) (l : Fin 4), (s.fabric.links[l].state ≠ .down ∨ linkEnabled s l = false)) ∧
    (∃ (s : State) (l : Fin 4), s.fabric.links[l].state = .up) ∧
    (∃ (s : State) (l : Fin 4), (s.fabric.links[l].state = .training ∨ s.fabric.links[l].state = .hello)) ∧
    (∃ (s : State) (dt : Nat) (l : Fin 4), (s.fabric.links[l].state = .training ∨ s.fabric.links[l].state = .hello)
      ∧ s.fabric.links[l].sentHello + 2000 ≤ s.clk + dt) ∧
    (∃ (s : State) (dt : Nat) (l : Fin 4), s.fabric.links[l].state = .up ∧ s.fabric.links[l].sentHello + 200000 ≤
      s.clk + dt) ∧
    (∃ (s : State) (dt : Nat) (l : Fin 4), s.fabric.links[l].state = .up ∧ s.fabric.links[l].lastHello + 1000000 ≤
      s.clk + dt) ∧
    (∃ (s : State) (dt : Nat) (l : Fin 4), s.fabric.links[l].state = .held ∧ s.fabric.links[l].heldAt + 200000000 ≤
      s.clk + dt) :=
  ⟨⟨W, 0, by decide +kernel, by decide +kernel⟩,
   ⟨inState .held, 0, .inl (by decide +kernel)⟩,
   ⟨lit 3, 3, by decide +kernel⟩,
   ⟨inState .hello, 0, .inr (by decide +kernel)⟩,
   ⟨inState .training, 2000, 0, .inl (by decide +kernel), by decide +kernel⟩,
   ⟨lit 0, 200000, 0, by decide +kernel, by decide +kernel⟩,
   ⟨lit 0, 1000000, 0, by decide +kernel, by decide +kernel⟩,
   ⟨inState .held, 200000000, 0, by decide +kernel, by decide +kernel⟩⟩

theorem witness_FabricRoles :
    (∃ (s u t : State) (dt : Nat), s.up = true ∧ (s.fabric.linkDirty = true ∨ s.fabric.lastLinkState + 20000000 ≤
      s.clk + dt) ∧ u = (advance s dt).modFabric (fun f =>
      { f with ownGen := f.ownGen + 1, linkDirty := false, lastLinkState := s.clk + dt }) ∧ t = floodOwn (u.modFabric
      (fun f => { f with db := putRow f.db (ownRow u) })) (.linkState (ownRow u))) ∧
    (∃ (s : State) (dt : Nat), s.fabric.state = .innkeeper ∧ s.fabric.lastInnkeeperSent + 2000000 ≤ s.clk + dt) ∧
    (∃ (s : State) (dt : Nat) (k : BitVec 64 × Nat), s.fabric.innkeeper = some k ∧ (s.fabric.state = .member ∨
      s.fabric.state = .discovering) ∧ s.fabric.lastInnkeeper + 6000000 ≤ s.clk + dt) ∧
    (∃ (s : State) (dt : Nat), electing s = true ∧ s.fabric.dbAt + 200000 * s.p0 0x8000 3 ≤ s.clk + dt ∧ byRank
      (s.fabric.db.filter (fun r => decide (0 < r.priority) && decide (r.uid ∈ reachable s))) = []) ∧
    (∃ (s : State) (dt : Nat) (r : TopoRow) (rest : List TopoRow), electing s = true ∧ s.fabric.dbAt + 200000 * s.p0
      0x8000 3 ≤ s.clk + dt ∧ r.uid ≠ ownUid ∧ byRank (s.fabric.db.filter (fun r => decide (0 < r.priority) && decide
      (r.uid ∈ reachable s))) = r :: rest) ∧
    (∃ (s : State) (dt : Nat) (r : TopoRow) (rest : List TopoRow), electing s = true ∧ s.fabric.dbAt + 200000 * s.p0
      0x8000 3 ≤ s.clk + dt ∧ r.uid = ownUid ∧ byRank (s.fabric.db.filter (fun r => decide (0 < r.priority) && decide
      (r.uid ∈ reachable s))) = r :: rest) ∧
    (∃ (s : State) (dt : Nat) (e : BitVec 16) (at' : Nat) (w : List (BitVec 64)), s.fabric.routing = some (e, at',
      w) ∧ at' + 200000 ≤ s.clk + dt) ∧
    (∃ (s : State) (l : Fin 4), four.find? (fun l => s.fabric.links[l].timeParent && isUp s l) = some l) ∧
    (∃ (s : State) (tr : Transport) (tag : BitVec 16) (c : Cmd), Starts s tr tag 0x0800 c ∧ c.data = []) ∧
    (∃ (s : State) (tr : Transport) (tag : BitVec 16) (c : Cmd) (k : Byte) (l : Fin 4), Starts s tr tag 0x0801 c ∧
      c.data = [k] ∧ k.toNat ≤ 3 ∧ l = finOf 4 k.toNat ∧ s.anyMachine = false ∧ isUp s l = true) ∧
    (∃ (s u : State) (tr : Transport) (tag : BitVec 16) (c : Cmd) (k : Byte) (l : Fin 4), Starts s tr tag 0x0801 c ∧
      c.data = [k] ∧ k.toNat ≤ 3 ∧ l = finOf 4 k.toNat ∧ s.anyMachine = false ∧ isUp s l = false ∧ u = (if
      s.fabric.links[l].state = .held ∨ s.fabric.links[l].state = .disabled then begun s tr tag else (begun s tr
      tag).modLink l (fun y => { y with state := .down, helloRun := 0, echoSeen := false, neighbourUid := 0 }))) :=
  ⟨⟨W.modFabric (fun f => { f with linkDirty := true }), _, _, 0, by decide +kernel, .inl (by decide +kernel), rfl,
     rfl⟩,
   ⟨W.modFabric (fun f => { f with state := .innkeeper }), 2000000, by decide +kernel, by decide +kernel⟩,
   ⟨W.modFabric (fun f => { f with state := .member, innkeeper := some (5, 1) }), 6000000, (5, 1),
     by decide +kernel, .inl (by decide +kernel), by decide +kernel⟩,
   ⟨W.modFabric (fun f => { f with state := .electing }), 400000, by decide +kernel, by decide +kernel,
     by decide +kernel⟩,
   ⟨electable, 400000, other, [], by decide +kernel, by decide +kernel, other_not_own, electable_winner⟩,
   ⟨alone, 400000, ownRow1, [], by decide +kernel, by decide +kernel, rfl, alone_winner⟩,
   ⟨W.modFabric (fun f => { f with routing := some (1, 0, []) }), 200000, 1, 0, [], by decide +kernel,
     by decide +kernel⟩,
   ⟨(lit 2).modLink 2 (fun y => { y with timeParent := true }), 2, by decide +kernel⟩,
   ⟨has W (c0 0x0800), .hspi, 1, (c0 0x0800), ⟨rfl, rfl, rfl, rfl⟩, by decide +kernel⟩,
   ⟨has (lit 3) (c0 0x0801 [3]), .hspi, 1, c0 0x0801 [3], 3, 3, ⟨rfl, rfl, rfl, rfl⟩, by decide +kernel,
     by decide +kernel, by decide +kernel, by decide +kernel, by decide +kernel⟩,
   ⟨has W (c0 0x0801 [2]), _, .hspi, 1, c0 0x0801 [2], 2, 2, ⟨rfl, rfl, rfl, rfl⟩, by decide +kernel,
     by decide +kernel, by decide +kernel, by decide +kernel, by decide +kernel, rfl⟩⟩

theorem witness_StopPhases :
    (∃ (s : State) (dt : Nat) (m : Fin 4) (p : Stop) (d : Nat), s.drive[m].stop = some p ∧ d = Nat.max 1 (s.pm m
      0x2703 3) ∧ (p.phase = .speed ∨ p.phase = .zero) ∧ p.startedAt + ((15625 * p.speed0 + d - 1) / d + 200000000) ≤
      s.clk + dt) ∧
    (∃ (s : State) (dt : Nat) (m : Fin 4) (p : Stop) (at' : Nat), s.drive[m].stop = some p ∧ p.phase = .zero ∧
      p.zeroAt = some at' ∧ at' + 200000 * s.pm m 0x2703 5 ≤ s.clk + dt ∧ p.kind = .ramp) ∧
    (∃ (s : State) (dt : Nat) (m : Fin 4) (p : Stop) (at' : Nat), s.drive[m].stop = some p ∧ p.phase = .zero ∧
      p.zeroAt = some at' ∧ at' + 200000 * s.pm m 0x2703 5 ≤ s.clk + dt ∧ p.kind ≠ .ramp) ∧
    (∃ (s : State) (dt : Nat) (m : Fin 4) (p : Stop) (at' : Nat), s.drive[m].stop = some p ∧ p.brakeAt = some at' ∧
      at' + 200000 * s.pm m 0x2506 3 ≤ s.clk + dt ∧ p.phase = .brake) ∧
    (∃ (s : State) (dt : Nat) (m : Fin 4) (p : Stop) (at' : Nat), s.drive[m].stop = some p ∧ p.brakeAt = some at' ∧
      at' + 200000 * s.pm m 0x2506 3 ≤ s.clk + dt ∧ p.phase = .offWait) ∧
    (∃ (s : State) (dt : Nat) (m : Fin 4) (p : Stop), s.drive[m].stop = some p ∧ p.phase = .torqueRamp ∧ p.brakeAt =
      none ∧ rampTorque p.torque (s.pm m 0x2506 4) (s.clk + dt - p.rampAt) = 0) ∧
    (∃ (s : State) (dt : Nat) (m : Fin 4) (p : Stop) (at' : Nat), s.drive[m].stop = some p ∧ p.phase = .torqueRamp ∧
      p.brakeAt = some at' ∧ rampTorque p.torque (s.pm m 0x2506 4) (s.clk + dt - p.rampAt) = 0) :=
  ⟨⟨stopping (stop0 .zero .ramp), 200015625, 0, stop0 .zero .ramp, 100, by decide +kernel, by decide +kernel, .inr
     (by decide +kernel), by decide +kernel⟩,
   ⟨stopping (zeroed .ramp), 20000000, 0, zeroed .ramp, 0, by decide +kernel, by decide +kernel, by decide +kernel,
     by decide +kernel, by decide +kernel⟩,
   ⟨stopping (zeroed .brakeNow), 20000000, 0, zeroed .brakeNow, 0, by decide +kernel, by decide +kernel,
     by decide +kernel, by decide +kernel, by decide +kernel⟩,
   ⟨stopping (brakeAt .brake), 60000000, 0, brakeAt .brake, 0, by decide +kernel, by decide +kernel,
     by decide +kernel, by decide +kernel⟩,
   ⟨stopping (brakeAt .offWait), 60000000, 0, brakeAt .offWait, 0, by decide +kernel, by decide +kernel,
     by decide +kernel, by decide +kernel⟩,
   ⟨stopping (stop0 .torqueRamp .ramp), 0, 0, stop0 .torqueRamp .ramp, by decide +kernel, by decide +kernel,
     by decide +kernel, by decide +kernel⟩,
   ⟨stopping (brakeAt .torqueRamp), 0, 0, brakeAt .torqueRamp, 0, by decide +kernel, by decide +kernel,
     by decide +kernel, by decide +kernel⟩⟩

theorem witness_BrakeAndHold :
    (∃ (s : State) (dt : Nat) (m : Fin 4) (e : Enabling) (at' : Nat), s.drive[m].enabling = some e ∧ e.releaseAt =
      some at' ∧ at' + 200000 * s.pm m 0x2704 3 ≤ s.clk + dt ∧ e.released = false) ∧
    (∃ (s u : State) (dt : Nat) (m : Fin 4) (e : Enabling) (at' : Nat), s.drive[m].enabling = some e ∧ braked s m =
      true ∧ e.releaseAt = none ∧ e.result = none ∧ e.softAt = some at' ∧ at' + 100000000 ≤ s.clk + dt ∧ u = raise
      (noteSource (advance s dt) m (172 + m.val) 3) (172 + m.val) 3) ∧
    (∃ (s : State) (dt : Nat) (m : Fin 4) (t : Nat), s.pm m 0x2706 1 = t ∧ t ≠ 0 ∧ s.en m = true ∧ s.drive[m].stop =
      none ∧ s.drive[m].inHold = false ∧ s.drive[m].lastCmd + 200000 * t ≤ s.clk + dt) ∧
    (∃ (s : State) (dt : Nat) (m : Fin 4), s.drive[m].inHold = true ∧ s.en m = true ∧ s.drive[m].stop = none ∧
      s.drive[m].reqs = [] ∧ s.drive[m].holdAt + 200000 * s.pm m 0x2706 3 ≤ s.clk + dt) ∧
    (∃ (s : State) (dt : Nat) (m : Fin 4) (at' : Nat), s.startM[m].state = .run ∧ s.drive[m].stop = none ∧
      s.drive[m].renderAt = some at' ∧ at' + 200000 * s.pm m 0x2707 5 ≤ s.clk + dt ∧ s.drive[m].inRender = false) ∧
    (∃ (s : State) (dt : Nat) (m : Fin 4) (at' : Nat), s.startM[m].state = .run ∧ s.drive[m].stop = none ∧
      s.drive[m].renderAt = some at' ∧ at' + 200000 * s.pm m 0x2707 5 ≤ s.clk + dt ∧ s.drive[m].inRender = true) ∧
    (∃ (s : State) (dt : Nat) (m : Fin 4) (at' : Nat), s.drive[m].inRender = true ∧ running s m = true ∧
      s.drive[m].overspeedAt = some at' ∧ at' + 20000000 ≤ s.clk + dt) ∧
    (∃ (s : State) (dt : Nat) (m : Fin 4) (at' : Nat), s.drive[m].effAt = some at' ∧ at' + 200 * s.pm m 0x2701 4 ≤
      s.clk + dt) :=
  ⟨⟨starting { enabling0 with releaseAt := some 0 }, 60000000, 0, { enabling0 with releaseAt := some 0 }, 0,
     by decide +kernel, by decide +kernel, by decide +kernel, by decide +kernel⟩,
   ⟨(starting { enabling0 with softAt := some 0 }).setPar 1 0 0x2703 6 1, _, 100000000, 0,
     { enabling0 with softAt := some 0 }, 0, by decide +kernel, by decide +kernel, by decide +kernel,
     by decide +kernel, by decide +kernel, by decide +kernel, rfl⟩,
   ⟨on.setPar 1 0 0x2706 1 10, 2000000, 0, 10, by decide +kernel, by decide +kernel, by decide +kernel,
     by decide +kernel, by decide +kernel, by decide +kernel⟩,
   ⟨on.modDrive 0 (fun d => { d with inHold := true }), 400000000, 0, by decide +kernel, by decide +kernel,
     by decide +kernel, by decide +kernel, by decide +kernel⟩,
   ⟨on.modDrive 0 (fun d => { d with renderAt := some 0 }), 40000000, 0, 0, by decide +kernel, by decide +kernel,
     by decide +kernel, by decide +kernel, by decide +kernel⟩,
   ⟨on.modDrive 0 (fun d => { d with renderAt := some 0, inRender := true }), 40000000, 0, 0, by decide +kernel,
     by decide +kernel, by decide +kernel, by decide +kernel, by decide +kernel⟩,
   ⟨on.modDrive 0 (fun d => { d with inRender := true, overspeedAt := some 0 }), 20000000, 0, 0, by decide +kernel,
     by decide +kernel, by decide +kernel, by decide +kernel⟩,
   ⟨W.modDrive 3 (fun d => { d with effAt := some 0 }), 40000, 3, 0, by decide +kernel, by decide +kernel⟩⟩

theorem witness_MachineOpcodes :
    (∃ (s : State) (tr : Transport) (tag : BitVec 16) (c : Cmd), Starts s tr tag 0x0200 c ∧ c.data = [] ∧
      enableCheck (begun s tr tag) c.m = none) ∧
    (∃ (s : State) (m : Fin 4) (e : Enabling) (st : BitVec 16) (data : List Byte), s.drive[m].enabling = some e ∧
      e.result = some (st, data)) ∧
    (∃ (s : State) (tr : Transport) (tag : BitVec 16) (c : Cmd), Starts s tr tag 0x0201 c ∧ c.data = []) ∧
    (∃ (s : State) (tr : Transport) (tag : BitVec 16) (c : Cmd), Starts s tr tag 0x0202 c ∧ c.data = []) ∧
    (∃ (s : State) (tr : Transport) (tag : BitVec 16) (c : Cmd) (k : Byte) (v : List Byte) (x : Fin 4), Starts s tr
      tag 0x0203 c ∧ c.data = k :: v ∧ v.length = 4 ∧ k.toNat ≤ 7 ∧ stoveOf (begun s tr tag) c.m = some x) ∧
    (∃ (s : State) (tr : Transport) (tag : BitVec 16) (c : Cmd), Starts s tr tag 0x0204 c ∧ c.data = []) ∧
    (∃ (s : State) (m : Fin 4), xferRole s m = 2 ∧ s.share[m].armed = true ∧ 2 ≤ s.share[m].xferMissed ∧
      s.share[m].active = false ∧ s.en m = false) :=
  ⟨⟨has fitted (c0 0x0200 [] 0x1000), .hspi, 1, (c0 0x0200 [] 0x1000), ⟨rfl, rfl, rfl, rfl⟩, by decide +kernel,
     by decide +kernel⟩,
   ⟨starting { enabling0 with result := some (0, []) }, 0, { enabling0 with result := some (0, []) }, 0, [],
     by decide +kernel, by decide +kernel⟩,
   ⟨has W (c0 0x0201), .hspi, 1, (c0 0x0201), ⟨rfl, rfl, rfl, rfl⟩, by decide +kernel⟩,
   ⟨has W (c0 0x0202), .hspi, 1, (c0 0x0202), ⟨rfl, rfl, rfl, rfl⟩, by decide +kernel⟩,
   ⟨has on (c0 0x0203 [7, 0, 0, 4, 0] 0x1000), .hspi, 1, (c0 0x0203 [7, 0, 0, 4, 0] 0x1000), 7, [0, 0, 4, 0], 0,
     ⟨rfl, rfl, rfl, rfl⟩, by decide +kernel, by decide +kernel, by decide +kernel, by decide +kernel⟩,
   ⟨has W (c0 0x0204), .hspi, 1, c0 0x0204, ⟨rfl, rfl, rfl, rfl⟩, by decide +kernel⟩,
   ⟨(W.setPar 1 3 0x8201 1 2).modShare 3 (fun x => { x with armed := true, xferMissed := 2 }), 3, by decide +kernel,
     by decide +kernel, by decide +kernel, by decide +kernel, by decide +kernel⟩⟩

theorem witness_ParameterOpcodes :
    (∃ (s : State) (tr : Transport) (tag : BitVec 16) (c : Cmd) (ks : List Nat), Starts s tr tag 0x0100 c ∧ 0 <
      c.data.length ∧ c.data.length ≤ 192 ∧ c.data.length % 3 = 0 ∧ keysOf c (readPairs (c.data.length / 3) c.data) =
      .ok ks) ∧
    (∃ (s : State) (tr : Transport) (tag : BitVec 16) (c : Cmd) (es : List WEntry) (l : List WCheck) (entries : List
      (Nat × Nat)), Starts s tr tag 0x0101 c ∧ wEntries 256 c.data = some es ∧ es ≠ [] ∧ l = es.map (wCheck c) ∧
      entries = l.map (fun x => (x.key, x.raw)) ∧ writeFault (begun s tr tag) (withEntries (begun s tr tag) entries) c
      l = none) ∧
    (∃ (s : State) (tr : Transport) (tag : BitVec 16) (c : Cmd), Starts s tr tag 0x0102 c ∧ c.data = [] ∧ throttling
      s = false ∧ s.porter.storing = none ∧ (∀ x ∈ (begun s tr tag).porter.cmds, x.opcode = 0x0102 → x.phase ≠ .ended
      → (x.tr, x.tag) = c.id)) ∧
    (∃ (s : State) (x : Storing), s.porter.storing = some x) ∧
    (∃ (s : State) (x : Storing), s.porter.storing = some x) ∧
    (∃ (s : State) (tr : Transport) (tag : BitVec 16) (c : Cmd) (k : Nat) (p : PSpec), Starts s tr tag 0x0103 c ∧
      c.data.length = 3 ∧ keyFor c (beNat (c.data.take 2)) (beNat (c.data.drop 2)) = .ok k ∧ pinfo (keyKind k) (beNat
      (c.data.take 2)) (beNat (c.data.drop 2)) = some p) :=
  ⟨⟨has W (c0 0x0100 [0x24, 0x08, 1] 0x1000), .hspi, 1, (c0 0x0100 [0x24, 0x08, 1] 0x1000), [pkey 1 0 0x2408 1],
     ⟨rfl, rfl, rfl, rfl⟩, by decide +kernel, by decide +kernel, by decide +kernel, rfl⟩,
   ⟨has W (c0 0x0101 [0x24, 0x08, 1, 2, 0, 200] 0x1000), .hspi, 1, (c0 0x0101 [0x24, 0x08, 1, 2, 0, 200] 0x1000), _,
     _, _, ⟨rfl, rfl, rfl, rfl⟩, rfl, by decide +kernel, rfl, rfl, by decide +kernel⟩,
   ⟨has W (c0 0x0102), .hspi, 1, c0 0x0102, ⟨rfl, rfl, rfl, rfl⟩, by decide +kernel, by decide +kernel,
     by decide +kernel, by decide +kernel⟩,
   ⟨W.modPorter (fun p => { p with storing := some store0 }), store0, by decide +kernel⟩,
   ⟨W.modPorter (fun p => { p with storing := some store0 }), store0, by decide +kernel⟩,
   ⟨has W (c0 0x0103 [0x24, 0x08, 1] 0x1000), .hspi, 1, (c0 0x0103 [0x24, 0x08, 1] 0x1000), pkey 1 0 0x2408 1, _,
     ⟨rfl, rfl, rfl, rfl⟩, by decide +kernel, rfl, rfl⟩⟩

theorem witness_ControlGrid :
    (∃ (s x : State) (dt : Nat) (m : Fin 4) (iu iv idc vdc vlow : BitVec 58) (br : Vector (BitVec 58 × BitVec 58) 3)
      (w : StrobeWords) (live : Bool), strobeDue (advance s dt) m = true ∧ s.runs = true ∧ x = portStrobe (latchStrobe
      ((advance s dt).modTb (fun b => { b with strobes := vmod b.strobes m (· + 1) })) m iu iv idc vdc br) m ∧ w =
      strobeWords x m vlow ∧ live = tfuLive x m) ∧
    (∃ (s : State) (dt : Nat) (m : Fin 4), strobeDue (advance s dt) m = true ∧ s.runs = false) ∧
    (∃ (s t u : State) (dt : Nat) (m : Fin 4) (fine : Vector (BitVec 766) 4), s.runs = true ∧ s.tb.lastStrobe[m] =
      some (s.clk + dt) ∧ ((advance s dt).tb.now.toNat - s.phi m) / s.D m % s.N m = 0 ∧ s.tb.lastBoundary[m] ≠ some
      (s.clk + dt) ∧ t = (forAll four (fun c s => s.modChan m c (fun x =>
      { x with fine := fineWord fine[c], fineAge := 3825 + latchAge s m c })) (advance s dt)).modTb (fun b =>
      { b with lastBoundary := vmod b.lastBoundary m (fun _ => some (s.clk + dt)), boundaries := vmod b.boundaries m (· + 1) })
      ∧ u = (if m = 0 then steerStep t else t)) ∧
    (∃ (s : State) (dt : Nat) (m : Fin 4) (w : StrobeWords) (r : List StrobeWords), s.isSecond m = false ∧ isPair s
      m = false ∧ s.tfu[m].inputs = w :: r ∧ s.en m = true ∧ s.tfu[m].stopped = false ∧ w.at' ≤ s.clk + dt) ∧
    (∃ (s : State) (dt : Nat) (m : Fin 4) (w y : StrobeWords) (r : List StrobeWords), s.isSecond m = false ∧ isPair
      s m = true ∧ s.tfu[m].inputs = w :: r ∧ s.tfu[second m].inputs.find? (fun y => y.at' == w.at') = some y ∧ s.en m
      = true ∧ s.tfu[m].stopped = false ∧ w.at' ≤ s.clk + dt) ∧
    (∃ (s : State) (dt : Nat) (m : Fin 4) (w : StrobeWords) (r : List StrobeWords), s.isSecond m = false ∧ isPair s
      m = true ∧ s.tfu[m].inputs = w :: r ∧ s.tfu[second m].inputs.find? (fun y => y.at' == w.at') = none ∧ setLost s
      m = true ∧ s.en m = true ∧ s.tfu[m].stopped = false ∧ w.at' ≤ s.clk + dt) ∧
    (∃ (s : State) (m : Fin 4), s.isSecond m = true) ∧
    (∃ (s : State) (dt : Nat) (m : Fin 4) (w : Waiting9) (r : List Waiting9), s.tb.waiting9[m] = w :: r ∧ w.at' +
      120 ≤ s.clk + dt ∧ s.start.step < 14) ∧
    (∃ (s u : State) (dt : Nat) (m : Fin 4) (w : Waiting9) (r : List Waiting9), s.tb.waiting9[m] = w :: r ∧ w.at' +
      120 ≤ s.clk + dt ∧ 14 ≤ s.start.step ∧ (s.en (lead s m) = false ∨ (bridgeOwner s m).isSome = true) ∧ u =
      idleFrame (setRunTfu (dropStrobe (advance s dt) m w r) m 0) m (w.at' + 120)) ∧
    (∃ (s : State) (dt : Nat) (m : Fin 4) (w : Waiting9) (r : List Waiting9), s.tb.waiting9[m] = w :: r ∧ w.at' +
      120 ≤ s.clk + dt ∧ 14 ≤ s.start.step ∧ s.en (lead s m) = true ∧ bridgeOwner s m = none ∧ s.tfu[lead s m].tripped
      = true) ∧
    (∃ (s : State) (dt : Nat) (m : Fin 4) (w : Waiting9) (r : List Waiting9), s.tb.waiting9[m] = w :: r ∧ w.at' +
      120 ≤ s.clk + dt ∧ 14 ≤ s.start.step ∧ s.en (lead s m) = true ∧ bridgeOwner s m = none ∧ s.tfu[lead s m].tripped
      = false ∧ (s.tfu[lead s m].allOff = true ∨ s.tfu[lead s m].stopped = true ∨ s.gl[m].shutdown = true ∨ onLostSet
      s m = true ∨ w.live = false)) ∧
    (∃ (s : State) (dt : Nat) (m : Fin 4) (w : Waiting9) (r : List Waiting9) (f : ReadyFrame), s.tb.waiting9[m] = w
      :: r ∧ w.at' + 120 ≤ s.clk + dt ∧ 14 ≤ s.start.step ∧ s.en (lead s m) = true ∧ bridgeOwner s m = none ∧
      s.tfu[lead s m].tripped = false ∧ sendsOff s m w = false ∧ isPair s (lead s m) = false ∧ s.tfu[m].ready.find?
      (fun x => x.strobe == w.at') = some f ∧ w.ready = true) ∧
    (∃ (s : State) (dt : Nat) (m : Fin 4) (w : Waiting9) (r : List Waiting9), s.tb.waiting9[m] = w :: r ∧ w.at' +
      120 ≤ s.clk + dt ∧ 14 ≤ s.start.step ∧ s.en (lead s m) = true ∧ bridgeOwner s m = none ∧ s.tfu[lead s m].tripped
      = false ∧ sendsOff s m w = false ∧ isPair s (lead s m) = false ∧ (s.tfu[m].ready.find? (fun x => x.strobe ==
      w.at') = none ∨ w.ready = false)) ∧
    (∃ (s u : State) (dt : Nat) (m : Fin 4) (w : Waiting9) (r : List Waiting9), s.tb.waiting9[m] = w :: r ∧ w.at' +
      120 ≤ s.clk + dt ∧ 14 ≤ s.start.step ∧ s.en (lead s m) = true ∧ bridgeOwner s m = none ∧ s.tfu[lead s m].tripped
      = false ∧ sendsOff s m w = false ∧ isPair s (lead s m) = true ∧ u = dropStrobe (pairJudge (advance s dt) (lead s
      m) w.at') m w r) :=
  ⟨⟨W.modTb (fun t => { t with now := 395 }), _, 5, 0, 0, 0, 0, 0, 0, Vector.replicate 3 (0, 0), _, _,
     by decide +kernel, by decide +kernel, rfl, rfl, rfl⟩,
   ⟨(W.modStart (fun x => { x with bootBegun := false })).modTb (fun t => { t with now := 395 }), 5, 0,
     by decide +kernel, by decide +kernel⟩,
   ⟨W.modTb (fun t => { t with lastStrobe := t.lastStrobe.set 0 (some 10000) }), _, _, 10000, 0, Vector.replicate 4
     0, by decide +kernel, by decide +kernel, by decide +kernel, by decide +kernel, rfl, rfl⟩,
   ⟨on.modTfu 0 (fun x => { x with inputs := [words0] }), 0, 0, words0, [], by decide +kernel, by decide +kernel,
     by decide +kernel, by decide +kernel, by decide +kernel, by decide +kernel⟩,
   ⟨(pairOn.modTfu 0 (fun x => { x with inputs := [words0] })).modTfu 1 (fun x => { x with inputs := [words0] }), 0,
     0, words0, words0, [], by decide +kernel, by decide +kernel, by decide +kernel, by decide +kernel,
     by decide +kernel, by decide +kernel, by decide +kernel⟩,
   ⟨(pairOn.modTfu 0 (fun x => { x with inputs := [words0] })).modDrive 0 (fun d => { d with degraded := .set }), 0,
     0, words0, [], by decide +kernel, by decide +kernel, by decide +kernel, by decide +kernel, by decide +kernel,
     by decide +kernel, by decide +kernel, by decide +kernel⟩,
   ⟨pairOn, 1, by decide +kernel⟩,
   ⟨waits9.modStart (fun x => { x with step := 13 }), 120, 0, step9, [], by decide +kernel, by decide +kernel,
     by decide +kernel⟩,
   ⟨W.modTb (fun t => { t with waiting9 := t.waiting9.set 0 [step9] }), _, 120, 0, step9, [], by decide +kernel,
     by decide +kernel, by decide +kernel, .inl (by decide +kernel), rfl⟩,
   ⟨waits9.modTfu 0 (fun t => { t with tripped := true }), 120, 0, step9, [], by decide +kernel, by decide +kernel,
     by decide +kernel, by decide +kernel, by decide +kernel, by decide +kernel⟩,
   ⟨waits9.modTfu 0 (fun t => { t with stopped := true }), 120, 0, step9, [], by decide +kernel, by decide +kernel,
     by decide +kernel, by decide +kernel, by decide +kernel, by decide +kernel, .inr (.inl (by decide +kernel))⟩,
   ⟨waits9.modTfu 0 (fun t => { t with ready := [frame9] }), 120, 0, step9, [], frame9, by decide +kernel,
     by decide +kernel, by decide +kernel, by decide +kernel, by decide +kernel, by decide +kernel, by decide +kernel,
     by decide +kernel, by decide +kernel, by decide +kernel⟩,
   ⟨waits9, 120, 0, step9, [], by decide +kernel, by decide +kernel, by decide +kernel, by decide +kernel,
     by decide +kernel, by decide +kernel, by decide +kernel, by decide +kernel, .inl (by decide +kernel)⟩,
   ⟨pairOn.modTb (fun t => { t with waiting9 := t.waiting9.set 0 [step9] }), _, 120, 0, step9, [],
     by decide +kernel, by decide +kernel, by decide +kernel, by decide +kernel, by decide +kernel, by decide +kernel,
     by decide +kernel, by decide +kernel, rfl⟩⟩

theorem witness_GateLinkCommands :
    (∃ (s : State) (dt : Nat) (m : Fin 4), stampOf (advance s dt) (s.clk + dt) % 8 = 0 ∧ s.gl[m].busyUntil ≤ s.clk +
      dt ∧ s.tfu[m].tripFrameDue = true) ∧
    (∃ (s : State) (dt : Nat) (m : Fin 4), stampOf (advance s dt) (s.clk + dt) % 8 = 0 ∧ s.gl[m].busyUntil ≤ s.clk +
      dt ∧ s.tfu[m].tripFrameDue = false ∧ s.gl[m].offDue = true) ∧
    (∃ (s : State) (dt : Nat) (m : Fin 4) (w : BitVec 8 × FrameCode × Nat) (r : List (BitVec 8 × FrameCode × Nat)),
      s.gl[m].awaits = w :: r ∧ w.2.2 + 160 ≤ s.clk + dt) ∧
    (∃ (s : State) (m : Fin 4) (f : BitVec 64) (w : BitVec 8 × FrameCode × Nat) (r : List (BitVec 8 × FrameCode ×
      Nat)), s.gl[m].awaits = w :: r ∧ upGood f = false) ∧
    (∃ (s t u : State) (dt : Nat) (m : Fin 4) (f : BitVec 64) (w : BitVec 8 × FrameCode × Nat), upGood f = true ∧
      s.gl[m].awaits.find? (fun w => w.1 == upEcho f) = some w ∧ s.clk + dt ≤ w.2.2 + 160 ∧ t = (advance s dt).modGl m
      (fun g => { g with awaits := g.awaits.filter (fun x => x.1 != w.1), up := f, upOk := true, missRun := 0 }) ∧ u =
      (if upBit f 15 = true ∧ (upGs f).toNat / 65536 < 51 then t.modGl m (fun g =>
      { g with items := vmod g.items (finOf 51 ((upGs f).toNat / 65536)) (fun _ => (upGs f).setWidth 16), checkReported := g.checkReported || (upGs f).toNat / 65536 == 50 })
      else t)) ∧
    (∃ (s : State) (dt : Nat) (m : Fin 4) (f : BitVec 64) (w : BitVec 8 × FrameCode × Nat), upGood f = true ∧
      s.gl[m].awaits.find? (fun w => w.1 == upEcho f) = some w ∧ w.2.2 + 160 < s.clk + dt) :=
  ⟨⟨W.modTfu 0 (fun x => { x with tripFrameDue := true }), 8, 0, by decide +kernel, by decide +kernel,
     by decide +kernel⟩,
   ⟨W.modGl 0 (fun g => { g with offDue := true }), 0, 0, by decide +kernel, by decide +kernel, by decide +kernel,
     by decide +kernel⟩,
   ⟨W.modGl 0 (fun g => { g with awaits := [(0, .run, 0)] }), 160, 0, (0, .run, 0), [], by decide +kernel,
     by decide +kernel⟩,
   ⟨W.modGl 0 (fun g => { g with awaits := [(0, .run, 0)] }), 0, 0x5555, (0, .run, 0), [], by decide +kernel,
     by decide +kernel⟩,
   ⟨W.modGl 0 (fun g => { g with awaits := [(0, .run, 0)] }), _, _, 160, 0, BitVec.ofNat 64 (linkCrc (List.replicate
     7 0)).toNat, (0, .run, 0), by decide +kernel, by decide +kernel, by decide +kernel, rfl, rfl⟩,
   ⟨W.modGl 0 (fun g => { g with awaits := [(0, .run, 0)] }), 161, 0, BitVec.ofNat 64 (linkCrc (List.replicate 7
     0)).toNat, (0, .run, 0), by decide +kernel, by decide +kernel, by decide +kernel⟩⟩

theorem witness_SensorCommands :
    (∃ (s : State) (m n : Fin 4) (c : Fin 5) (seen : BitVec 15) (level : BitVec 10), tripOf s m c seen level = some
      n ∧ s.en n = true) ∧
    (∃ (s : State) (m n : Fin 4) (c : Fin 5) (seen : BitVec 15) (level : BitVec 10), tripOf s m c seen level = some
      n ∧ s.en n = false) ∧
    (∃ (s : State) (a : Fin 16) (level : BitVec 10), ainOwned s a = false ∧ windowTrips s a level = true) ∧
    (∃ (s : State) (dt : Nat) (m c : Fin 4), analogUp s = true ∧ s.tb.counting = true ∧ startsAt (advance s dt) m
      (finOf 5 c.val) 0 = true) ∧
    (∃ (s : State) (dt : Nat) (m : Fin 4), analogUp s = true ∧ s.tb.counting = true ∧ startsAt (advance s dt) m 4 0
      = true) ∧
    (∃ (s : State) (dt : Nat) (m : Fin 4) (k : Fin 2) (a : Fin 16), analogUp s = true ∧ s.tb.counting = true ∧ k =
      finOf 2 m.val ∧ s.sar[k].busyUntil ≤ s.clk + dt ∧ ownedSoon (advance s dt) k = false ∧ nextScan s k = some a) ∧
    (∃ (s u : State) (dt : Nat) (m c : Fin 4) (at' : Nat) (w : BitVec 16), s.chans[m][c].converting = some at' ∧ at'
      + 100 ≤ s.clk + dt ∧ u =
      { (advance s dt).modChan m c (fun x => { x with converting := none, endRun := endRunOf x.endRun w }) with
          ain := vmod s.ain (ainOf m c) (fun _ => w.toInt) }) ∧
    (∃ (s u : State) (dt : Nat) (m : Fin 4) (at' : Nat) (w : BitVec 16) (a : Fin 16), s.tfu[m].npConv = some at' ∧
      at' + 100 ≤ s.clk + dt ∧ npAin s m = some a ∧ u =
      { (advance s dt).modTfu m (fun x => { x with npConv := none, npEnd := endRunOf x.npEnd w }) with
          ain := vmod s.ain a (fun _ => w.toInt) }) ∧
    (∃ (s : State) (dt : Nat) (m : Fin 4) (k : Fin 2) (at' : Nat) (a : Fin 16), k = finOf 2 m.val ∧ s.sar[k].scan =
      some (a, at') ∧ at' + 100 ≤ s.clk + dt) ∧
    (∃ (s : State) (stable : Nat) (p : Fin 4) (a b : Bool) (q : Int), portMode s p = 3 ∧ portFilter s p ≤ stable ∧
      quadStep s.posPorts[p].levelA s.posPorts[p].levelB a b = q ∧ q ≠ 0 ∧ q ≠ 2) ∧
    (∃ (s : State) (stable : Nat) (p : Fin 4) (a b : Bool), portMode s p = 3 ∧ portFilter s p ≤ stable ∧ quadStep
      s.posPorts[p].levelA s.posPorts[p].levelB a b = 2) ∧
    (∃ (s : State) (stable : Nat) (p : Fin 4), portMode s p = 3 ∧ portFilter s p ≤ stable) ∧
    (∃ (s : State) (dt : Nat) (p : Fin 4) (raw : BitVec 32) (at' len v : Nat) (expect : Option (BitVec 32)) (got :
      BitVec 32), s.posPorts[p].ssiAt = some at' ∧ len = bits (portPar s p 10) 5 0 ∧ (len + 2) * 200000 ≤ (s.clk + dt
      - at') * bits (portPar s p 10) 31 16 ∧ v = (if bit (portPar s p 10) 8 then grayGo 32 (lowBits len raw.toNat)
      else lowBits len raw.toNat) ∧ expect = (if s.posPorts[p].locked then some (ssiExpect s p at') else none) ∧ got =
      ssiPos s p len v expect ∧ (∀ e, expect = some e → (got - e).toInt.natAbs ≤ portPar s p 12)) ∧
    (∃ (s : State) (dt : Nat) (p : Fin 4) (at' len : Nat), s.posPorts[p].ssiAt = some at' ∧ len = bits (portPar s p
      10) 5 0 ∧ (len + 2) * 200000 ≤ (s.clk + dt - at') * bits (portPar s p 10) 31 16) :=
  ⟨⟨(on.setPar 1 0 0x2200 1 2).setPar 1 0 0x2220 1 0, 0, 0, 0, 0, 0x3FF, by decide +kernel, by decide +kernel⟩,
   ⟨(W.setPar 1 3 0x2200 4 2).setPar 1 3 0x2220 4 0, 3, 3, 3, 0, 0x3FF, by decide +kernel, by decide +kernel⟩,
   ⟨W.setPar 1 3 0x2220 4 0, 15, 0x3FF, by decide +kernel, by decide +kernel⟩,
   ⟨sarAt, 0, 0, 0, by decide +kernel, by decide +kernel, by decide +kernel⟩,
   ⟨npAt, 0, 0, by decide +kernel, by decide +kernel, by decide +kernel⟩,
   ⟨W, 0, 1, 1, 8, by decide +kernel, by decide +kernel, by decide +kernel, by decide +kernel, by decide +kernel,
     by decide +kernel⟩,
   ⟨W.modChan 0 0 (fun x => { x with converting := some 0 }), _, 100, 0, 0, 0, 5, by decide +kernel,
     by decide +kernel, rfl⟩,
   ⟨npAt.modTfu 0 (fun x => { x with npConv := some 0 }), _, 100, 0, 0, 5, 0, by decide +kernel, by decide +kernel,
     by decide +kernel, rfl⟩,
   ⟨{ W with sar := W.sar.set 1 { W.sar[1] with scan := some (8, 0) } }, 100, 3, 1, 0, 8, by decide +kernel,
     by decide +kernel, by decide +kernel⟩,
   ⟨W.setPar 0 0 0x0413 1 3, 500, 3, true, false, 1, by decide +kernel, by decide +kernel, by decide +kernel,
     by decide +kernel, by decide +kernel⟩,
   ⟨W.setPar 0 0 0x0413 1 3, 500, 3, true, true, by decide +kernel, by decide +kernel, by decide +kernel⟩,
   ⟨W.setPar 0 0 0x0413 1 3, 500, 3, by decide +kernel, by decide +kernel⟩,
   ⟨W.modPort 1 (fun x => { x with ssiAt := some 0 }), 100000, 1, 0, 0, _, _, _, _, by decide +kernel, rfl,
     by decide +kernel, rfl, rfl, rfl, by intro e h; cases h⟩,
   ⟨W.modPort 1 (fun x => { x with ssiAt := some 0 }), 100000, 1, 0, _, by decide +kernel, rfl, by decide +kernel⟩⟩

theorem witness_StoveAndCeiling :
    (∃ (s : State) (dt : Nat) (k : Fin 4) (at' : Nat) (st : Vector Stage 64), s.stove[k].runAt = some at' ∧
      s.stove[k].late = false ∧ st = runStages (advance s dt) k) ∧
    (∃ (s : State) (dt : Nat) (k : Fin 4) (at' : Nat) (st : Vector Stage 64), s.stove[k].runAt = some at' ∧
      s.stove[k].late = true ∧ st = runStages (advance s dt) k) ∧
    (∃ (s : State) (k m : Fin 4) (n : Nat) (now want : Bool), stoveOf s m = some k ∧ n = namedStage s k m 8 ∧ now =
      s.stove[k].freezeSealed[m].getD (decide (n < 64) && s.stove[k].stages[finOf 64 n].frozen) ∧ want = (stovePool s
      k).any (fun j => namedStage s k j 8 == n && s.tfu[j].ceiling)) :=
  ⟨⟨W.modStove 0 (fun x => { x with runAt := some 0 }), 0, 0, 0, _, by decide +kernel, by decide +kernel, rfl⟩,
   ⟨W.modStove 3 (fun x => { x with runAt := some 0, late := true }), 0, 3, 0, _, by decide +kernel,
     by decide +kernel, rfl⟩,
   ⟨on.modTfu 0 (fun x => { x with ceiling := true }), 0, 0, _, _, _, by decide +kernel, rfl, rfl, rfl⟩⟩

theorem witness_ProfileCommands :
    (∃ (s : State) (tr : Transport) (tag : BitVec 16) (c : Cmd) (segs : List Segment) (z : Sealed), Starts s tr tag
      0x0300 c ∧ c.data ≠ [] ∧ c.data.length ≤ 1024 ∧ c.data.length % 16 = 0 ∧ consumerCode s c.chan ≠ 0xFF ∧
      s.prof[c.chan].state ≠ .off ∧ s.prof[c.chan].state ≠ .stopping ∧ z = sealedEnd s c.chan ∧ segs = recordsGo 64
      c.data ∧ segsFault (chanVmax s c.chan) (s.pp c.chan 0x4001 2) 0 z.pos z.vel z.known segs = none ∧ z.fill +
      segs.length ≤ 64) ∧
    (∃ (s : State) (tr : Transport) (tag : BitVec 16) (c : Cmd) (segs : List Segment) (z : Sealed), Starts s tr tag
      0x0301 c ∧ c.data ≠ [] ∧ c.data.length ≤ 1024 ∧ c.data.length % 16 = 0 ∧ consumerCode s c.chan ≠ 0xFF ∧
      s.prof[c.chan].state ≠ .off ∧ s.prof[c.chan].state ≠ .stopping ∧ z = sealedEnd s c.chan ∧ segs = recordsGo 64
      c.data ∧ z.fill = 0 ∧ segsFault (chanVmax s c.chan) (s.pp c.chan 0x4001 2) 0 z.pos z.vel z.known segs = none) ∧
    (∃ (s : State) (tr : Transport) (tag : BitVec 16) (c : Cmd) (g : Segment) (rest : List Segment) (z : Sealed),
      Starts s tr tag 0x0301 c ∧ c.data ≠ [] ∧ c.data.length ≤ 1024 ∧ c.data.length % 16 = 0 ∧ consumerCode s c.chan ≠
      0xFF ∧ s.prof[c.chan].state ≠ .off ∧ s.prof[c.chan].state ≠ .stopping ∧ z = sealedEnd s c.chan ∧ recordsGo 64
      c.data = g :: rest ∧ z.fill ≠ 0 ∧ segsFault (chanVmax s c.chan) (s.pp c.chan 0x4001 2) 1 (g.target z.pos)
      (g.endVel * 65536) (!g.rel) rest = none) ∧
    (∃ (s : State) (tr : Transport) (tag : BitVec 16) (c : Cmd), Starts s tr tag 0x0302 c ∧ c.data = []) ∧
    (∃ (s : State) (tr : Transport) (tag : BitVec 16) (c : Cmd), Starts s tr tag 0x0303 c ∧ c.data = []) ∧
    (∃ (s : State) (tr : Transport) (tag : BitVec 16) (c : Cmd), Starts s tr tag 0x0402 c ∧ c.data = []) ∧
    (∃ (s : State) (tr : Transport) (tag : BitVec 16) (c : Cmd), Starts s tr tag 0x0304 c ∧ c.data = []) ∧
    (∃ (s : State) (dt : Nat) (k : Fin 4) (ch : Fin 12), stoveChan s k = some ch ∧ s.tb.counting = true ∧
      s.prof[ch].state ≠ .off ∧ s.phi (commitMachine s k) ≤ (advance s dt).tb.now.toNat + 10 ∧ ((advance s
      dt).tb.now.toNat + 10 - s.phi (commitMachine s k)) % s.Ts (commitMachine s k) = 0) ∧
    (∃ (s : State) (dt stable w f t : Nat) (k : Fin 8) (rising : Bool) (p : Fin 4) (stamp : Stamp) (x : Option
      (BitVec 32)), w = s.p0 0x0400 (k.val + 1) ∧ bit w (if rising then 14 else 15) = true ∧ f = 5 * bits w 13 8 ∧ f ≤
      stable ∧ s.lats[k].valid = false ∧ p = finOf 4 (bits w 1 0) ∧ t = at25 (advance s dt) - f ∧ stamp = (advance s
      dt).tb.now - BitVec.ofNat 56 (s.clk + dt - t) ∧ x = captured (advance s dt) p t) ∧
    (∃ (s : State) (dt stable w f t : Nat) (k : Fin 8) (rising : Bool) (p : Fin 4) (stamp : Stamp) (x : Option
      (BitVec 32)), w = s.p0 0x0400 (k.val + 1) ∧ bit w (if rising then 14 else 15) = true ∧ f = 5 * bits w 13 8 ∧ f ≤
      stable ∧ s.lats[k].valid = true ∧ p = finOf 4 (bits w 1 0) ∧ t = at25 (advance s dt) - f ∧ stamp = (advance s
      dt).tb.now - BitVec.ofNat 56 (s.clk + dt - t) ∧ x = captured (advance s dt) p t) ∧
    (∃ (s : State) (stable w : Nat) (k : Fin 8) (rising : Bool), w = s.p0 0x0400 (k.val + 1) ∧ bit w (if rising then
      14 else 15) = false ∧ 5 * bits w 13 8 ≤ stable) :=
  ⟨⟨has chanOn (c0 0x0300 oneSeg 0x4002), .hspi, 1, c0 0x0300 oneSeg 0x4002, _, _, ⟨rfl, rfl, rfl, rfl⟩,
     by decide +kernel, by decide +kernel, by decide +kernel, by decide +kernel, by decide +kernel, by decide +kernel,
     rfl, rfl, by decide +kernel, by decide +kernel⟩,
   ⟨has chanOn (c0 0x0301 oneSeg 0x4002), .hspi, 1, c0 0x0301 oneSeg 0x4002, _, _, ⟨rfl, rfl, rfl, rfl⟩,
     by decide +kernel, by decide +kernel, by decide +kernel, by decide +kernel, by decide +kernel, by decide +kernel,
     rfl, rfl, by decide +kernel, by decide +kernel⟩,
   ⟨has chanBusy (c0 0x0301 oneSeg 0x4002), .hspi, 1, c0 0x0301 oneSeg 0x4002, seg0, [], _, ⟨rfl, rfl, rfl, rfl⟩,
     by decide +kernel, by decide +kernel, by decide +kernel, by decide +kernel, by decide +kernel, by decide +kernel,
     rfl, by decide +kernel, by decide +kernel, by decide +kernel⟩,
   ⟨has W (c0 0x0302), .hspi, 1, (c0 0x0302), ⟨rfl, rfl, rfl, rfl⟩, by decide +kernel⟩,
   ⟨has W (c0 0x0303), .hspi, 1, (c0 0x0303), ⟨rfl, rfl, rfl, rfl⟩, by decide +kernel⟩,
   ⟨has W (c0 0x0402), .hspi, 1, (c0 0x0402), ⟨rfl, rfl, rfl, rfl⟩, by decide +kernel⟩,
   ⟨has W (c0 0x0304), .hspi, 1, (c0 0x0304), ⟨rfl, rfl, rfl, rfl⟩, by decide +kernel⟩,
   ⟨(on.setPar 4 0 0x3001 3 2).modProf 2 (fun x => { x with state := .idle }), 9990, 0, 2, by decide +kernel,
     by decide +kernel, by decide +kernel, by decide +kernel, by decide +kernel⟩,
   ⟨W.setPar 0 0 0x0400 8 0x4000, 0, 5000, _, _, _, 7, true, _, _, _, rfl, by decide +kernel, rfl,
     by decide +kernel, by decide +kernel, rfl, rfl, rfl, rfl⟩,
   ⟨(W.setPar 0 0 0x0400 8 0x4000).modLat 7 (fun x => { x with valid := true }), 0, 5000, _, _, _, 7, true, _, _, _,
     rfl, by decide +kernel, rfl, by decide +kernel, by decide +kernel, rfl, rfl, rfl, rfl⟩,
   ⟨W, 5000, _, 0, false, rfl, by decide +kernel, by decide +kernel⟩⟩

theorem witness_LegProtection :
    (∃ (s : State) (dt : Nat) (l : Fin 12), s.legs[l].waiting = true ∧ s.legs[l].wanted ≠ .bothOff ∧
      s.legs[l].latched = false ∧ s.legs[l].softOff = false ∧ s.legs[l].lowOk = true ∧ (s.legs[l].wanted = .lowOn ∨
      s.legs[l].bootOk = true) ∧ s.legs[l].turnOffAt + deadTime s (axisOfLeg l) ≤ s.clk + dt) ∧
    (∃ (s : State) (dt : Nat) (l : Fin 12), s.legs[l].waiting = true ∧ s.legs[l].turnOffAt + 400 ≤ s.clk + dt) ∧
    (∃ (s : State) (l : Fin 12), s.legs[l].lowOk = true) ∧
    (∃ (s : State), twelve.any (fun l => s.legs[l].lowOk) = true) ∧
    (∃ (s : State) (l : Fin 12), s.legs[l].bootOk = true ∧ s.legs[l].sw ≠ .highOn) ∧
    (∃ (s : State) (l : Fin 12), s.legs[l].bootOk = true ∧ s.legs[l].sw = .highOn) ∧
    (∃ (s : State) (dt : Nat) (l : Fin 12) (u : State), s.legs[l].boot = .refresh ∧ s.legs[l].sw = .lowOn ∧
      s.legs[l].blankAt + 400 ≤ s.clk + dt ∧ u = (wantSw (advance s dt) l .bothOff).modLeg l (fun g =>
      { g with boot := .wait })) ∧
    (∃ (s : State) (dt : Nat) (l : Fin 12) (u : State), u = (advance s dt).modLeg l (fun g =>
      { g with bootOk := true })) ∧
    (∃ (s : State) (dt : Nat) (l : Fin 12), s.axes[axisOfLeg l].enabling = none ∧ s.legs[l].boot ≠ .none' ∧
      s.legs[l].bootOk = false ∧ s.legs[l].bootAt + 200000 ≤ s.clk + dt) ∧
    (∃ (s : State) (dt : Nat) (l : Fin 12) (at' : Nat) (id : Option (Transport × BitVec 16)), s.axes[axisOfLeg
      l].enabling = some (at', id) ∧ s.legs[l].bootOk = false ∧ at' + 4000000 ≤ s.clk + dt) ∧
    (∃ (s : State) (dt : Nat) (l : Fin 12) (hard : Bool) (k : Fin 6) (first : Option (Nat × Fin 12)), k = axisOfLeg
      l ∧ (s.legs[l].sw ≠ .bothOff ∨ (s.axes[k].softLegs ≠ [] ∧ ∀ x ∈ s.axes[k].softLegs, x.1 ≠ l)) ∧
      s.legs[l].blankAt + (if hard then 16 else 50 * dieSet s k 3) ≤ s.clk + dt ∧ s.legs[l].scTrip = false ∧
      s.legs[l].scHard = false ∧ first = s.auxLink.burst.filter (fun b => decide (s.clk + dt ≤ b.1 + 5))) ∧
    (∃ (s : State) (dt : Nat) (k : Fin 6), s.axes[k].softLegs ≠ [] ∧ (∀ x ∈ s.axes[k].softLegs, x.2 + 200 * dieSet s
      k 6 ≤ s.clk + dt)) :=
  ⟨⟨W.modLeg 0 (fun x => { x with waiting := true, wanted := .lowOn }), deadTime W 0, 0, by decide +kernel,
     by decide +kernel, by decide +kernel, by decide +kernel, by decide +kernel, by decide +kernel, by decide +kernel⟩,
   ⟨W.modLeg 11 (fun x => { x with waiting := true }), 400, 11, by decide +kernel, by decide +kernel⟩,
   ⟨W, 0, by decide +kernel⟩,
   ⟨W, by decide +kernel⟩,
   ⟨W.modLeg 3 (fun x => { x with bootOk := true, sw := .lowOn }), 3, by decide +kernel, by decide +kernel⟩,
   ⟨W.modLeg 3 (fun x => { x with bootOk := true, sw := .highOn }), 3, by decide +kernel, by decide +kernel⟩,
   ⟨W.modLeg 3 (fun x => { x with boot := .refresh, sw := .lowOn }), 400, 3, _, by decide +kernel,
     by decide +kernel, by decide +kernel, rfl⟩,
   ⟨W, 0, 3, _, rfl⟩,
   ⟨W.modLeg 3 (fun x => { x with boot := .wait }), 200000, 3, by decide +kernel, by decide +kernel,
     by decide +kernel, by decide +kernel⟩,
   ⟨W.modAxis 1 (fun x => { x with enabling := some (0, none) }), 4000000, 3, 0, none, by decide +kernel,
     by decide +kernel, by decide +kernel⟩,
   ⟨W.modLeg 3 (fun x => { x with sw := .highOn }), 16, 3, true, 1, _, by decide +kernel, by decide +kernel,
     by decide +kernel, by decide +kernel, by decide +kernel, rfl⟩,
   ⟨W.modAxis 0 (fun x => { x with softLegs := [(0, 0)] }), 200 * dieSet W 0 6, 0, by decide +kernel,
     by decide +kernel⟩⟩

theorem witness_CoilChopping :
    (∃ (s : State) (dt : Nat) (l : Fin 12) (k : Fin 6), k = axisOfLeg l ∧ s.legs[l].phase = .on ∧ s.legs[l].sw =
      polarity s.legs[l].ref ∧ legFree s l = true ∧ s.legs[l].blankAt + 50 * dieSet s k 3 ≤ s.clk + dt) ∧
    (∃ (s : State) (dt : Nat) (l : Fin 12) (k : Fin 6), k = axisOfLeg l ∧ s.legs[l].phase = .fast ∧ dieSet s k 10 <
      8 ∧ legFree s l = true ∧ s.legs[l].phaseAt + 25 * dieSet s k 9 * dieSet s k 10 ≤ s.clk + dt) ∧
    (∃ (s : State) (dt : Nat) (l : Fin 12) (k : Fin 6), k = axisOfLeg l ∧ (s.legs[l].phase = .fast ∨ s.legs[l].phase
      = .slow) ∧ legFree s l = true ∧ s.legs[l].phaseAt + 200 * dieSet s k 9 ≤ s.clk + dt) ∧
    (∃ (s : State) (dt : Nat) (l : Fin 12) (k : Fin 6), k = axisOfLeg l ∧ s.axes[k].state = .short ∧
      s.legs[l].latched = false ∧ s.legs[l].softOff = false ∧ s.auxLink.linkLost = false ∧ s.legs[l].boot = .none' ∧
      s.legs[l].phaseAt + 5000 ≤ s.clk + dt) ∧
    (∃ (s : State) (dt : Nat) (k : Fin 6) (u : State) (j : Fin 6) (forward : Bool) (at' : Nat) (rest : List
      AuxItem), u = releaseRef (releaseRef (advance s dt) (legOf k false)) (legOf k true) ∧ u.auxLink.linkLost = false
      ∧ takeItem (dueItem u k true) u.auxLink.dieQueue = some (.step j forward at', rest)) ∧
    (∃ (s : State) (dt : Nat) (k j : Fin 6) (i at' : Nat) (rest : List AuxItem), s.auxLink.linkLost = false ∧
      takeItem (dueItem (advance s dt) k false) s.auxLink.dieQueue = some (.reference j i at', rest)) ∧
    (∃ (s : State) (dt : Nat) (k j : Fin 6) (md : AxisState) (at' : Nat) (rest : List AuxItem), s.auxLink.linkLost =
      false ∧ takeItem (dueItem (advance s dt) k false) s.auxLink.dieQueue = some (.legMode j md at', rest)) ∧
    (∃ (s : State) (dt : Nat) (k : Fin 6) (at' : Nat) (md : Option AxisState) (u : State), s.axes[k].enabled = true
      ∧ s.axes[k].standstill = false ∧ s.axes[k].idleAt = some at' ∧ at' + 200000 * s.axes[k].idleSet.2.1 ≤ s.clk + dt
      ∧ md = (if s.axes[k].idleSet.2.2 = 1 then some .off else if s.axes[k].idleSet.2.2 = 2 then some (if shortAsOff s
      then .off else .short) else none) ∧ u = (advance s dt).modAxis k (fun a => { a with standstill := true })) :=
  ⟨⟨chopping .on, 50 * dieSet W 1 3, 2, 1, by decide +kernel, by decide +kernel, by decide +kernel,
     by decide +kernel, by decide +kernel⟩,
   ⟨chopping .fast, 25 * dieSet (chopping .fast) 1 9 * dieSet (chopping .fast) 1 10, 2, 1, by decide +kernel,
     by decide +kernel, by decide +kernel, by decide +kernel, by decide +kernel⟩,
   ⟨chopping .slow, 200 * dieSet (chopping .slow) 1 9, 2, 1, by decide +kernel, by decide +kernel,
     by decide +kernel, by decide +kernel⟩,
   ⟨W.modAxis 1 (fun x => { x with state := .short }), 5000, 2, 1, by decide +kernel, by decide +kernel,
     by decide +kernel, by decide +kernel, by decide +kernel, by decide +kernel, by decide +kernel⟩,
   ⟨W.modAux (fun x => { x with dieQueue := [.step 5 true 7] }), 7, 5, _, 5, true, 7, [], rfl, by decide +kernel,
     by decide +kernel⟩,
   ⟨W.modAux (fun x => { x with dieQueue := [.reference 5 3 7] }), 7, 5, 5, 3, 7, [], by decide +kernel,
     by decide +kernel⟩,
   ⟨W.modAux (fun x => { x with dieQueue := [.legMode 5 .off 7] }), 7, 5, 5, .off, 7, [], by decide +kernel,
     by decide +kernel⟩,
   ⟨W.modAxis 0 (fun x => { x with enabled := true, idleAt := some 0, idleSet := (64, 1000, 1) }), 200000000, 0, 0,
     _, _, by decide +kernel, by decide +kernel, by decide +kernel, by decide +kernel, rfl, rfl⟩⟩

theorem witness_AuxiliaryLink :
    (∃ (s : State) (dt : Nat) (d : BitVec 80) (up : AuxFrame), s.tb.counting = true ∧ s.runs = true ∧ (advance s
      dt).tb.now.toNat % 200 = 0 ∧ s.auxLink.slotAt ≠ some (s.clk + dt) ∧ s.auxLink.again = [] ∧ d = downData (advance
      s dt) s.auxLink.outbox.head? ∧ up = auxFrame (upData (advance s dt) s.auxLink.reports.head? s.auxLink.lastGood)
      (s.auxLink.upSeq + 1)) ∧
    (∃ (s : State) (dt : Nat) (d : BitVec 80) (q : BitVec 4) (n : Nat) (xs : List (BitVec 80 × BitVec 4 × Nat)) (up
      : AuxFrame), s.tb.counting = true ∧ s.runs = true ∧ (advance s dt).tb.now.toNat % 200 = 0 ∧ s.auxLink.slotAt ≠
      some (s.clk + dt) ∧ s.auxLink.again = (d, q, n) :: xs ∧ up = auxFrame (upData (advance s dt)
      s.auxLink.reports.head? s.auxLink.lastGood) (s.auxLink.upSeq + 1)) ∧
    (∃ (s u : State) (dt : Nat) (flip : Option (BitVec 92)) (x : AuxFrame), auxReceived s.auxLink.downLine flip =
      some x ∧ s.auxLink.linkLost = false ∧ u = (advance s dt).modAux (fun a =>
      { a with downLine := none, badDown := 0, lastGood := some x.seq, taken := (x.seq :: a.taken).take 8, goodDown := if s.anyAxis then 0 else Nat.min 16 (a.goodDown + 1) })) ∧
    (∃ (s : State) (flip : Option (BitVec 92)) (x : AuxFrame), auxReceived s.auxLink.downLine flip = some x ∧
      s.auxLink.linkLost = true) ∧
    (∃ (s u : State) (dt : Nat) (flip : Option (BitVec 92)), auxReceived s.auxLink.downLine flip = none ∧ u =
      (advance s dt).modAux (fun a =>
      { a with downLine := none, badDown := Nat.min 3 (a.badDown + 1), goodDown := 0 })) ∧
    (∃ (s u : State) (dt : Nat) (flip : Option (BitVec 92)) (x : AuxFrame), auxReceived (s.auxLink.upLine.map (fun x
      => x.1)) flip = some x ∧ u = (advance s dt).modAux (fun a =>
      { a with upLine := none, badUp := 0, unechoed := a.unechoed.filter (fun y => decide (upEchoOf x.data ≠ some y.2.1)), again := a.again.filter (fun y => decide (upEchoOf x.data ≠ some y.2.1)) })) ∧
    (∃ (s u : State) (dt : Nat) (flip : Option (BitVec 92)), auxReceived (s.auxLink.upLine.map (fun x => x.1)) flip
      = none ∧ u = (advance s dt).modAux (fun a =>
      { a with upLine := none, badUp := a.badUp + 1, reports := match s.auxLink.upLine with | some (_, some r) => r :: a.reports | _ => a.reports })) ∧
    (∃ (s : State) (dt : Nat), s.tb.counting = true ∧ s.runs = true ∧ (advance s dt).tb.now.toNat % 2000 = 0 ∧
      s.tb.lastGrid ≠ some (s.clk + dt)) ∧
    (∃ (s : State) (tr : Transport) (tag : BitVec 16) (c : Cmd), Starts s tr tag 0x0401 c ∧ c.data = []) ∧
    (∃ (s u : State) (tr : Transport) (tag : BitVec 16) (c : Cmd), Starts s tr tag 0x0400 c ∧ c.data = [] ∧
      enableForbidden (begun s tr tag) none = false ∧ s.axes[c.axis].enabled = false ∧ s.axes[c.axis].enabling = none
      ∧ axisChan s c.axis ≠ none ∧ s.auxLink.linkLost = false ∧ s.legs[legOf c.axis false].lowOk = true ∧ s.legs[legOf
      c.axis true].lowOk = true ∧ u = (accept (((begun s tr tag).modLeg (legOf c.axis false) clearedLeg).modLeg (legOf
      c.axis true) clearedLeg) c).modAxis c.axis (fun x =>
      { x with enabling := some (s.clk, some c.id), scRaised := false, softLegs := [], fullSink := false })) :=
  ⟨⟨W.modAux (fun x => { x with outbox := [.step 0 true 0] }), 200, _, _, by decide +kernel, by decide +kernel,
     by decide +kernel, by decide +kernel, by decide +kernel, rfl, rfl⟩,
   ⟨W.modAux (fun x => { x with again := [(5, 15, 3)] }), 200, 5, 15, 3, [], _, by decide +kernel,
     by decide +kernel, by decide +kernel, by decide +kernel, by decide +kernel, rfl⟩,
   ⟨W.modAux (fun x => { x with downLine := some (auxFrame (downData W (some (.step 0 true 0))) 15) }), _, 0, some
     0, auxFrame (downData W (some (.step 0 true 0))) 15, by decide +kernel, by decide +kernel, rfl⟩,
   ⟨W.modAux (fun x => { x with linkLost := true, goodDown := 15, downLine := some (auxFrame 0 15) }), some 0,
     auxFrame 0 15, by decide +kernel, by decide +kernel⟩,
   ⟨W.modAux (fun x => { x with badDown := 2 }), _, 0, none, by decide +kernel, rfl⟩,
   ⟨W.modAux (fun x => { x with upLine := some (auxFrame (upData W (some report0) (some 15)) 0, some report0) }), _,
     0, some 0, auxFrame (upData W (some report0) (some 15)) 0, by decide +kernel, rfl⟩,
   ⟨W.modAux (fun x => { x with badUp := 2 }), _, 0, none, by decide +kernel, rfl⟩,
   ⟨W, 2000, by decide +kernel, by decide +kernel, by decide +kernel, by decide +kernel⟩,
   ⟨has W (c0 0x0401), .hspi, 1, (c0 0x0401), ⟨rfl, rfl, rfl, rfl⟩, by decide +kernel⟩,
   ⟨has (W.setPar 2 0 0x5000 1 11) (c0 0x0400), _, .hspi, 1, c0 0x0400, ⟨rfl, rfl, rfl, rfl⟩, by decide +kernel,
     by decide +kernel, by decide +kernel, by decide +kernel, by decide +kernel, by decide +kernel, by decide +kernel,
     by decide +kernel, rfl⟩⟩

theorem witness_JournalAndErrors :
    (∃ (s : State) (dt : Nat) (e : JournalItem) (rest : List JournalItem) (u : State), s.journal.lostPending = 0 ∧
      s.journal.queue = e :: rest ∧ u = (advance s dt).modJournal (fun j => { j with queue := rest })) ∧
    (∃ (s : State) (dt : Nat) (e : JournalItem), 0 < s.journal.lostPending ∧ e = ⟨8, 0, (advance s dt).tb.now,
      beBytes 4 s.journal.lostPending ++ List.replicate 8 0⟩) ∧
    (∃ (s : State) (tr : Transport) (tag : BitVec 16) (c : Cmd) (first n back : Nat), Starts s tr tag 0x0603 c ∧
      c.data.length = 5 ∧ beNat (c.data.take 4) = first ∧ beNat (c.data.drop 4) = n ∧ 1 ≤ n ∧ n ≤ 30 ∧ back =
      (s.journal.nextSeq.toNat + 2 ^ 32 - first) % 2 ^ 32 ∧ back ≤ s.journal.held) ∧
    (∃ (s : State) (tr : Transport) (tag : BitVec 16) (c : Cmd) (first n back : Nat), Starts s tr tag 0x0603 c ∧
      c.data.length = 5 ∧ beNat (c.data.take 4) = first ∧ beNat (c.data.drop 4) = n ∧ 1 ≤ n ∧ n ≤ 30 ∧ back =
      (s.journal.nextSeq.toNat + 2 ^ 32 - first) % 2 ^ 32 ∧ s.journal.held < back) ∧
    (∃ (s : State) (dt n : Nat) (u : State), n ≠ 0 ∧ u = memCount (advance s dt) 0 n) ∧
    (∃ (s u v : State) (dt a : Nat) (h : Fin 4), u = memCount (raiseBy (advance s dt) (hearthMaster (advance s dt)
      h) 249 a 2 .lasting) 1 1 ∧ v = (spareSramRow u).modMem (fun m =>
      { m with poisoned := if a / 4 * 4 ∈ m.poisoned then m.poisoned else m.poisoned ++ [a / 4 * 4] }) ∧ a <
      0x00C00000) ∧
    (∃ (s u v : State) (dt a : Nat) (h : Fin 4), u = memCount (raiseBy (advance s dt) (hearthMaster (advance s dt)
      h) 249 a 2 .lasting) 1 1 ∧ v = (spareSramRow u).modMem (fun m =>
      { m with poisoned := if a / 4 * 4 ∈ m.poisoned then m.poisoned else m.poisoned ++ [a / 4 * 4] }) ∧ 0x00C00000 ≤
      a ∧ a < 0x00E00000) ∧
    (∃ (s u v : State) (dt a : Nat) (h : Fin 4), u = memCount (raiseBy (advance s dt) (hearthMaster (advance s dt)
      h) 249 a 2 .lasting) 1 1 ∧ v = (spareSramRow u).modMem (fun m =>
      { m with poisoned := if a / 4 * 4 ∈ m.poisoned then m.poisoned else m.poisoned ++ [a / 4 * 4] }) ∧ 0x00E00000 ≤
      a ∧ a < 0x00F00000) ∧
    (∃ (s u v : State) (dt a : Nat) (h : Fin 4) (entry : Bool), u = memCount (raiseBy (advance s dt) (hearthMaster
      (advance s dt) h) 249 a 2 .lasting) 1 1 ∧ v = (spareSramRow u).modMem (fun m =>
      { m with poisoned := if a / 4 * 4 ∈ m.poisoned then m.poisoned else m.poisoned ++ [a / 4 * 4] }) ∧ 0x00F00000 ≤
      a ∧ entry = true) ∧
    (∃ (s u v : State) (dt a : Nat) (h : Fin 4) (entry : Bool), u = memCount (raiseBy (advance s dt) (hearthMaster
      (advance s dt) h) 249 a 2 .lasting) 1 1 ∧ v = (spareSramRow u).modMem (fun m =>
      { m with poisoned := if a / 4 * 4 ∈ m.poisoned then m.poisoned else m.poisoned ++ [a / 4 * 4] }) ∧ 0x00F00000 ≤
      a ∧ entry = false) ∧
    (∃ (s u v : State) (dt a : Nat), u = (spareMramRow (memCount (raiseOp (advance s dt) 250 a 2 .lasting) 3 1)
      (dieOf a)).1 ∧ v = u.modMem (fun m =>
      { m with poisoned := if a / 8 * 8 ∈ m.poisoned then m.poisoned else m.poisoned ++ [a / 8 * 8] })) :=
  ⟨⟨noted, 0, item0, [], _, by decide +kernel, by decide +kernel, rfl⟩,
   ⟨noted.modJournal (fun j => { j with lostPending := 3 }), 0, _, by decide +kernel, rfl⟩,
   ⟨has (W.modJournal (fun j => { j with held := 30, nextSeq := 30 })) (c0 0x0603 [0, 0, 0, 0, 30]), .hspi, 1, c0
     0x0603 [0, 0, 0, 0, 30], 0, 30, 30, ⟨rfl, rfl, rfl, rfl⟩, by decide +kernel, by decide +kernel,
     by decide +kernel, by decide +kernel, by decide +kernel, by decide +kernel, by decide +kernel⟩,
   ⟨has (W.modJournal (fun j => { j with held := 29, nextSeq := 30 })) (c0 0x0603 [0, 0, 0, 0, 30]), .hspi, 1, c0
     0x0603 [0, 0, 0, 0, 30], 0, 30, 30, ⟨rfl, rfl, rfl, rfl⟩, by decide +kernel, by decide +kernel,
     by decide +kernel, by decide +kernel, by decide +kernel, by decide +kernel, by decide +kernel⟩,
   ⟨W.modMem (fun m => { m with rowMarks := [16383] }), 0, 3, _, by decide +kernel, rfl⟩,
   ⟨W, _, _, 0, 0x00BFFFFF, 3, rfl, rfl, by decide +kernel⟩,
   ⟨W, _, _, 0, 0x00C00000, 3, rfl, rfl, by decide +kernel, by decide +kernel⟩,
   ⟨W, _, _, 0, 0x00EFFFFF, 3, rfl, rfl, by decide +kernel, by decide +kernel⟩,
   ⟨W, _, _, 0, 0x00F00000, 3, true, rfl, rfl, by decide +kernel, by decide +kernel⟩,
   ⟨W, _, _, 0, 0x00F00000, 3, false, rfl, rfl, by decide +kernel, by decide +kernel⟩,
   ⟨W, _, _, 0, 0x10000000, rfl, rfl⟩⟩

theorem witness_TraceRecorder :
    (∃ (s : State) (dt : Nat) (n : Fin 256), bit (s.p0 0x0720 (21 + n.val / 64)) (n.val % 64) = true ∧ raisedNow
      (advance s dt) n.val ≠ none) ∧
    (∃ (s : State), s.trace.crossed = true ∧ s.p0 0x0720 25 % 16 ∈ traceChannels s) ∧
    (∃ (s : State) (dt : Nat) (k : Fin 8), s.p0 0x0720 27 = k.val ∧ s.lats[k].edgeAt = some (s.clk + dt)) ∧
    (∃ (s : State), s.trace.phase = .pre) ∧
    (∃ (s : State) (y : TraceCause) (at' : Stamp) (prot : Bool), (s.trace.phase = .post ∨ s.trace.phase = .copy) ∧
      s.trace.trigger = some (at', y, prot)) ∧
    (∃ (s : State), s.trace.phase = .post ∧ s.trace.postLeft = 0) ∧
    (∃ (s u : State) (dt : Nat) (at' : Stamp) (cause : TraceCause) (prot bad : Bool) (r : TraceRec), s.trace.phase =
      .copy ∧ s.trace.trigger = some (at', cause, prot) ∧ (bad = true → 0 < s.mem.spareMram[0]) ∧ u = (if bad then
      (spareMramRow (advance s dt) 0).1 else advance s dt) ∧ r =
      { number := u.trace.nextNumber, stamp := at', cause := cause, channels := traceChannels u, isProtected := prot, damaged := u.trace.damaged, laterTriggers := u.trace.later, data := u.trace.staging.flatten }) ∧
    (∃ (s : State) (at' : Stamp) (cause : TraceCause) (prot : Bool), s.trace.phase = .copy ∧ s.trace.trigger = some
      (at', cause, prot) ∧ s.mem.spareMram[0] = 0) ∧
    (∃ (s : State) (tr : Transport) (tag : BitVec 16) (c : Cmd), Starts s tr tag 0x0B00 c ∧ c.data = []) ∧
    (∃ (s : State) (tr : Transport) (tag : BitVec 16) (c : Cmd) (l : List TraceRec), Starts s tr tag 0x0B01 c ∧
      c.data = [] ∧ l = s.trace.records.drop (s.trace.records.length - 63)) ∧
    (∃ (s : State) (tr : Transport) (tag : BitVec 16) (c : Cmd) (r : TraceRec) (off n : Nat), Starts s tr tag 0x0B02
      c ∧ c.data.length = 8 ∧ s.trace.records.find? (fun x => x.number.toNat == beNat (c.data.take 2)) = some r ∧
      beNat ((c.data.drop 2).take 4) = off ∧ beNat (c.data.drop 6) = n ∧ 1 ≤ n ∧ n ≤ 1000 ∧ off + n ≤ r.len) ∧
    (∃ (s : State) (tr : Transport) (tag : BitVec 16) (c : Cmd) (r : TraceRec) (num : Nat), Starts s tr tag 0x0B03 c
      ∧ c.data.length = 3 ∧ beNat (c.data.take 2) = num ∧ s.trace.records.find? (fun x => x.number.toNat == num) =
      some r ∧ beNat (c.data.drop 2) = 0 ∧ r.cause.protects = false) ∧
    (∃ (s : State) (tr : Transport) (tag : BitVec 16) (c : Cmd) (r : TraceRec) (num : Nat), Starts s tr tag 0x0B03 c
      ∧ c.data.length = 3 ∧ beNat (c.data.take 2) = num ∧ s.trace.records.find? (fun x => x.number.toNat == num) =
      some r ∧ beNat (c.data.drop 2) = 0 ∧ r.cause.protects = true) ∧
    (∃ (s : State) (tr : Transport) (tag : BitVec 16) (c : Cmd) (r : TraceRec) (num : Nat) (l : List TraceRec ×
      Bool), Starts s tr tag 0x0B03 c ∧ c.data.length = 3 ∧ beNat (c.data.take 2) = num ∧ s.trace.records.find? (fun x
      => x.number.toNat == num) = some r ∧ beNat (c.data.drop 2) = 1 ∧ l = (if r.isProtected then (s.trace.records,
      false) else freeProtected r.len 81 s.trace.records)) :=
  ⟨⟨raised9, 0, 63, by decide +kernel, by decide +kernel⟩,
   ⟨(W.setPar 0 0 0x0720 16 0x8000000000000000).setPar 0 0 0x0720 25 15 |>.modTrace (fun t =>
     { t with crossed := true }), by decide +kernel, by decide +kernel⟩,
   ⟨(W.setPar 0 0 0x0720 27 7).modLat 7 (fun x => { x with edgeAt := some 5 }), 5, 7, by decide +kernel,
     by decide +kernel⟩,
   ⟨W.modTrace (fun t => { t with phase := .pre }), by decide +kernel⟩,
   ⟨W.modTrace (fun t => { t with phase := .copy, trigger := some (5, .level, true) }), .level, 5, true,
     by decide +kernel, by decide +kernel⟩,
   ⟨W.modTrace (fun t => { t with phase := .post }), by decide +kernel, by decide +kernel⟩,
   ⟨W.modTrace (fun t => { t with phase := .copy, trigger := some (5, .source 0xD0, true) }), _, 0, 5, .source 0xD0,
     true, false, _, by decide +kernel, by decide +kernel, by decide +kernel, rfl, rfl⟩,
   ⟨(W.modTrace (fun t => { t with phase := .copy, trigger := some (5, .source 0xD0, true) })).modMem (fun m =>
     { m with spareMram := Vector.replicate 2 0 }), 5, .source 0xD0, true, by decide +kernel, by decide +kernel,
     by decide +kernel⟩,
   ⟨has W (c0 0x0B00), .hspi, 1, (c0 0x0B00), ⟨rfl, rfl, rfl, rfl⟩, by decide +kernel⟩,
   ⟨has recorded (c0 0x0B01), .hspi, 1, (c0 0x0B01), _, ⟨rfl, rfl, rfl, rfl⟩, by decide +kernel, rfl⟩,
   ⟨has recorded (c0 0x0B02 [0, 5, 0, 0, 0, 0, 0, 8]), .hspi, 1, c0 0x0B02 [0, 5, 0, 0, 0, 0, 0, 8], rec5, 0, 8,
     ⟨rfl, rfl, rfl, rfl⟩, by decide +kernel, by decide +kernel, by decide +kernel, by decide +kernel,
     by decide +kernel, by decide +kernel, by decide +kernel⟩,
   ⟨has recorded (c0 0x0B03 [0, 5, 0]), .hspi, 1, c0 0x0B03 [0, 5, 0], rec5, 5, ⟨rfl, rfl, rfl, rfl⟩,
     by decide +kernel, by decide +kernel, by decide +kernel, by decide +kernel, by decide +kernel⟩,
   ⟨has guarded5 (c0 0x0B03 [0, 5, 0]), .hspi, 1, c0 0x0B03 [0, 5, 0],
     { rec5 with isProtected := true, cause := .source 0xD0 }, 5, ⟨rfl, rfl, rfl, rfl⟩, by decide +kernel,
     by decide +kernel, by decide +kernel, by decide +kernel, by decide +kernel⟩,
   ⟨has recorded (c0 0x0B03 [0, 5, 1]), .hspi, 1, c0 0x0B03 [0, 5, 1], rec5, 5, _, ⟨rfl, rfl, rfl, rfl⟩,
     by decide +kernel, by decide +kernel, by decide +kernel, by decide +kernel, rfl⟩⟩

theorem witness_FaultOpcodes :
    (∃ (s : State) (dt : Nat) (slow : Bool), s.p0 0x0610 1 ≠ 1 ∧ checkDue (advance s dt) slow = true) ∧
    (∃ (s : State), s.p0 0x0610 1 = 1) ∧
    (∃ (s u : State) (dt : Nat) (h : Fin 4), hearthTakes s.hearths[h] = true ∧ u = (match s.flue.queue.find? (fun m
      => m.hearth == h) with | some m => bindInput ((advance s dt).modFlue (fun f =>
      { f with queue := takeMessage h f.queue })) h (.message m) | none => advance s dt)) ∧
    (∃ (s : State) (tr : Transport) (tag : BitVec 16) (c : Cmd), Starts s tr tag 0x0600 c ∧ c.data = []) ∧
    (∃ (s : State) (tr : Transport) (tag : BitVec 16) (c : Cmd) (named kept : List Nat), Starts s tr tag 0x0601 c ∧
      c.data.length = 32 ∧ named = (List.range 256).filter (maskBit c.data) ∧ kept = named.filter (fun src => sticky s
      src && live s src)) ∧
    (∃ (s : State) (tr : Transport) (tag : BitVec 16) (c : Cmd) (r : FaultRec), Starts s tr tag 0x0602 c ∧
      c.data.length = 5 ∧ s.flue.fer = some r ∧ r.source.toNat = beNat (c.data.take 1) ∧ r.stamp.toNat % 2 ^ 32 =
      beNat (c.data.drop 1)) :=
  ⟨⟨W, 0, true, by decide +kernel, by decide +kernel⟩,
   ⟨W.setPar 0 0 0x0610 1 1, by decide +kernel⟩,
   ⟨W, _, 0, 3, by decide +kernel, rfl⟩,
   ⟨has W (c0 0x0600), .hspi, 1, (c0 0x0600), ⟨rfl, rfl, rfl, rfl⟩, by decide +kernel⟩,
   ⟨has W (c0 0x0601 (List.replicate 32 0xFF)), .hspi, 1, (c0 0x0601 (List.replicate 32 0xFF)), _, _, ⟨rfl, rfl,
     rfl, rfl⟩, by decide +kernel, rfl, rfl⟩,
   ⟨has faulted (c0 0x0602 [45, 0, 0, 0, 9]), .hspi, 1, c0 0x0602 [45, 0, 0, 0, 9], fault0, ⟨rfl, rfl, rfl, rfl⟩,
     by decide +kernel, by decide +kernel, by decide +kernel, by decide +kernel⟩⟩

theorem witness_VotesAndDigests :
    (∃ (s u : State) (dt : Nat) (h : Fin 4) (offers : List (Fin 3 × LaneEntry)) (misread : Vector (Option LaneEntry)
      3) (bad : Vector Bool 2) (x : Hearth) (first : Fin 3), s.start.bootBegun = true ∧ votes s.hearths[h] = true ∧ u
      = issueOffers (advance s dt) h offers ∧ x = u.hearths[h] ∧ first = (if x.mode = .split then 0 else (votedLanes
      x).headD 0) ∧ x.disagreed = none ∧ lanesPresent x = true ∧ votesAgree x (laneHeads x misread) = true ∧
      trivetsAgree x bad = true) ∧
    (∃ (s u : State) (dt : Nat) (h : Fin 4) (offers : List (Fin 3 × LaneEntry)) (misread again : Vector (Option
      LaneEntry) 3) (bad badAgain : Vector Bool 2) (x : Hearth) (first : Fin 3), s.start.bootBegun = true ∧ votes
      s.hearths[h] = true ∧ u = issueOffers (advance s dt) h offers ∧ x = u.hearths[h] ∧ first = (if x.mode = .split
      then 0 else (votedLanes x).headD 0) ∧ x.disagreed = none ∧ lanesPresent x = true ∧ (votesAgree x (laneHeads x
      misread) && trivetsAgree x bad) = false ∧ votesAgree x (laneHeads x again) = true ∧ trivetsAgree x badAgain =
      true) ∧
    (∃ (s u : State) (dt : Nat) (h : Fin 4) (offers : List (Fin 3 × LaneEntry)) (misread again : Vector (Option
      LaneEntry) 3) (bad badAgain : Vector Bool 2) (x : Hearth) (first : Fin 3), s.start.bootBegun = true ∧ votes
      s.hearths[h] = true ∧ u = issueOffers (advance s dt) h offers ∧ x = u.hearths[h] ∧ first = (if x.mode = .split
      then 0 else (votedLanes x).headD 0) ∧ x.disagreed = none ∧ lanesPresent x = true ∧ (votesAgree x (laneHeads x
      misread) && trivetsAgree x bad) = false ∧ (votesAgree x (laneHeads x again) && trivetsAgree x badAgain) = false) ∧
    (∃ (s u : State) (h : Fin 4) (e : LaneEntry), u = (s.modHearth h (fun x =>
      { x with txn := x.txn + 1, disagreed := none, lanes := x.lanes.map (fun l => l.drop 1) })).put (.bus h e)) ∧
    (∃ (s : State) (h : Fin 4) (l : Vector LaneEntry 3) (bad : Vector Bool 2), s.start.bootBegun = true ∧ votes
      s.hearths[h] = true ∧ s.hearths[h].disagreed = some (l, bad) ∧ s.hearths[h].mode = .split) ∧
    (∃ (s : State) (h : Fin 4) (l : Vector LaneEntry 3) (bad : Vector Bool 2), s.start.bootBegun = true ∧ votes
      s.hearths[h] = true ∧ s.hearths[h].disagreed = some (l, bad) ∧ s.hearths[h].mode ≠ .split ∧ (votedLanes
      s.hearths[h]).length = 3 ∧ oddLane s.hearths[h] l = none) ∧
    (∃ (s u : State) (dt : Nat) (h : Fin 4) (l : Vector LaneEntry 3) (bad : Vector Bool 2) (dg : Vector (BitVec 32)
      3) (i k : Fin 3) (both : Bool), s.start.bootBegun = true ∧ votes s.hearths[h] = true ∧ s.hearths[h].disagreed =
      some (l, bad) ∧ s.hearths[h].mode ≠ .split ∧ (votedLanes s.hearths[h]).length = 3 ∧ oddLane s.hearths[h] l =
      some i ∧ k = (if i = 0 then 1 else 0) ∧ both = (s.hearths[h].trivetOk[(0 : Fin 2)] && s.hearths[h].trivetOk[(1 :
      Fin 2)]) ∧ (both && (bad[(0 : Fin 2)] || bad[(1 : Fin 2)])) = false ∧ u = (if dg[i] ≠ dg[k] then coreFault
      (advance s dt) h i l[i] (sameFields l[i] l[k] == false) else laneFault (advance s dt) h i l[i])) ∧
    (∃ (s : State) (h : Fin 4) (l : Vector LaneEntry 3) (bad : Vector Bool 2) (i k : Fin 3) (both : Bool),
      s.start.bootBegun = true ∧ votes s.hearths[h] = true ∧ s.hearths[h].disagreed = some (l, bad) ∧
      s.hearths[h].mode ≠ .split ∧ (votedLanes s.hearths[h]).length = 3 ∧ oddLane s.hearths[h] l = some i ∧ k = (if i
      = 0 then 1 else 0) ∧ both = (s.hearths[h].trivetOk[(0 : Fin 2)] && s.hearths[h].trivetOk[(1 : Fin 2)]) ∧ both =
      true ∧ bad = Vector.replicate 2 true) ∧
    (∃ (s u : State) (dt : Nat) (h : Fin 4) (l : Vector LaneEntry 3) (bad : Vector Bool 2) (i k : Fin 3) (both :
      Bool), s.start.bootBegun = true ∧ votes s.hearths[h] = true ∧ s.hearths[h].disagreed = some (l, bad) ∧
      s.hearths[h].mode ≠ .split ∧ (votedLanes s.hearths[h]).length = 3 ∧ oddLane s.hearths[h] l = some i ∧ k = (if i
      = 0 then 1 else 0) ∧ both = (s.hearths[h].trivetOk[(0 : Fin 2)] && s.hearths[h].trivetOk[(1 : Fin 2)]) ∧ both =
      true ∧ (bad[(0 : Fin 2)] ^^ bad[(1 : Fin 2)]) = true ∧ u = failTrivet (classify (advance s dt) h .trivet 0
      l[k].seq) h (if bad[(0 : Fin 2)] then 0 else 1) l[k].seq.toNat) ∧
    (∃ (s : State) (h : Fin 4) (l : Vector LaneEntry 3) (bad : Vector Bool 2) (i j : Fin 3), s.start.bootBegun =
      true ∧ votes s.hearths[h] = true ∧ s.hearths[h].disagreed = some (l, bad) ∧ s.hearths[h].mode ≠ .split ∧
      votedLanes s.hearths[h] = [i, j]) ∧
    (∃ (s u : State) (dt : Nat) (h : Fin 4) (dg : Vector (BitVec 32) 3) (a b c : Fin 3), s.start.bootBegun = true ∧
      votes s.hearths[h] = true ∧ s.hearths[h].mode ≠ .split ∧ s.hearths[h].mode ≠ .resync ∧ s.hearths[h].disagreed =
      none ∧ (∀ a, s.hearths[h].digestAt = some a → a + 200000 ≤ s.clk + dt) ∧ coresIn s.hearths[h] = [a, b, c] ∧ u =
      (advance s dt).modHearth h (fun y => { y with digestAt := some (s.clk + dt) }) ∧ dg[a] = dg[b] ∧ dg[a] = dg[c]) ∧
    (∃ (s u : State) (dt : Nat) (h : Fin 4) (dg : Vector (BitVec 32) 3) (a b c : Fin 3), s.start.bootBegun = true ∧
      votes s.hearths[h] = true ∧ s.hearths[h].mode ≠ .split ∧ s.hearths[h].mode ≠ .resync ∧ s.hearths[h].disagreed =
      none ∧ (∀ a, s.hearths[h].digestAt = some a → a + 200000 ≤ s.clk + dt) ∧ coresIn s.hearths[h] = [a, b, c] ∧ u =
      (advance s dt).modHearth h (fun y => { y with digestAt := some (s.clk + dt) }) ∧ dg[a] = dg[b] ∧ dg[a] ≠ dg[c]) ∧
    (∃ (s u : State) (dt : Nat) (h : Fin 4) (dg : Vector (BitVec 32) 3) (a b c : Fin 3), s.start.bootBegun = true ∧
      votes s.hearths[h] = true ∧ s.hearths[h].mode ≠ .split ∧ s.hearths[h].mode ≠ .resync ∧ s.hearths[h].disagreed =
      none ∧ (∀ a, s.hearths[h].digestAt = some a → a + 200000 ≤ s.clk + dt) ∧ coresIn s.hearths[h] = [a, b, c] ∧ u =
      (advance s dt).modHearth h (fun y => { y with digestAt := some (s.clk + dt) }) ∧ dg[a] ≠ dg[b] ∧ dg[a] = dg[c]) ∧
    (∃ (s u : State) (dt : Nat) (h : Fin 4) (dg : Vector (BitVec 32) 3) (a b c : Fin 3), s.start.bootBegun = true ∧
      votes s.hearths[h] = true ∧ s.hearths[h].mode ≠ .split ∧ s.hearths[h].mode ≠ .resync ∧ s.hearths[h].disagreed =
      none ∧ (∀ a, s.hearths[h].digestAt = some a → a + 200000 ≤ s.clk + dt) ∧ coresIn s.hearths[h] = [a, b, c] ∧ u =
      (advance s dt).modHearth h (fun y => { y with digestAt := some (s.clk + dt) }) ∧ dg[a] ≠ dg[b] ∧ dg[a] ≠ dg[c] ∧
      dg[b] = dg[c]) ∧
    (∃ (s u : State) (dt : Nat) (h : Fin 4) (dg : Vector (BitVec 32) 3) (a b c : Fin 3), s.start.bootBegun = true ∧
      votes s.hearths[h] = true ∧ s.hearths[h].mode ≠ .split ∧ s.hearths[h].mode ≠ .resync ∧ s.hearths[h].disagreed =
      none ∧ (∀ a, s.hearths[h].digestAt = some a → a + 200000 ≤ s.clk + dt) ∧ coresIn s.hearths[h] = [a, b, c] ∧ u =
      (advance s dt).modHearth h (fun y => { y with digestAt := some (s.clk + dt) }) ∧ dg[a] ≠ dg[b] ∧ dg[a] ≠ dg[c] ∧
      dg[b] ≠ dg[c]) ∧
    (∃ (s u : State) (dt : Nat) (h : Fin 4) (a b : Fin 3), s.start.bootBegun = true ∧ votes s.hearths[h] = true ∧
      s.hearths[h].mode ≠ .split ∧ s.hearths[h].mode ≠ .resync ∧ s.hearths[h].disagreed = none ∧ (∀ a,
      s.hearths[h].digestAt = some a → a + 200000 ≤ s.clk + dt) ∧ coresIn s.hearths[h] = [a, b] ∧ u = (advance s
      dt).modHearth h (fun y => { y with digestAt := some (s.clk + dt) })) ∧
    (∃ (s : State) (h : Fin 4) (r : Resync) (dg : Vector (BitVec 32) 3), s.hearths[h].resync = some r ∧ (coresIn
      s.hearths[h]).all (fun i => dg[i] == dg[r.source]) = true) ∧
    (∃ (s : State) (h : Fin 4) (r : Resync) (dg : Vector (BitVec 32) 3), s.hearths[h].resync = some r ∧ (coresIn
      s.hearths[h]).all (fun i => dg[i] == dg[r.source]) = false) ∧
    (∃ (s u : State) (dt : Nat) (h : Fin 4) (t : Fin 2), s.start.bootBegun = true ∧ votes s.hearths[h] = true ∧
      s.hearths[h].mode = .triplex ∧ (∀ a, s.hearths[h].testAt = some a → a + 200000000 ≤ s.clk + dt) ∧ t = (if
      s.hearths[h].nextTest < 144 then 0 else 1) ∧ u = (advance s dt).modHearth h (fun y =>
      { y with testAt := some (s.clk + dt), nextTest := (y.nextTest + 1) % 288 })) :=
  ⟨⟨laned, _, 0, 3, [], Vector.replicate 3 none, Vector.replicate 2 false, _, _, by decide +kernel,
     by decide +kernel, rfl, rfl, rfl, by decide +kernel, by decide +kernel, by decide +kernel, by decide +kernel⟩,
   ⟨laned, _, 0, 3, [], (Vector.replicate 3 none).set 1 (some { lane0 with data := 1 }), Vector.replicate 3 none,
     Vector.replicate 2 false, Vector.replicate 2 false, _, _, by decide +kernel, by decide +kernel, rfl, rfl, rfl,
     by decide +kernel, by decide +kernel, by decide +kernel, by decide +kernel, by decide +kernel⟩,
   ⟨laned, _, 0, 3, [], (Vector.replicate 3 none).set 1 (some { lane0 with data := 1 }), (Vector.replicate 3
     none).set 1 (some { lane0 with data := 1 }), Vector.replicate 2 false, Vector.replicate 2 false, _, _,
     by decide +kernel, by decide +kernel, rfl, rfl, rfl, by decide +kernel, by decide +kernel, by decide +kernel,
     by decide +kernel⟩,
   ⟨W, _, 3, lane0, rfl⟩,
   ⟨W.modHearth 1 (fun y => { y with mode := .split, disagreed := some (differs, Vector.replicate 2 false) }), 1,
     differs, Vector.replicate 2 false, by decide +kernel, by decide +kernel, by decide +kernel, by decide +kernel⟩,
   ⟨W.modHearth 1 (fun y => { y with disagreed := some (unlike, Vector.replicate 2 false) }), 1, unlike,
     Vector.replicate 2 false, by decide +kernel, by decide +kernel, by decide +kernel, by decide +kernel,
     by decide +kernel, by decide +kernel⟩,
   ⟨W.modHearth 1 (fun y => { y with disagreed := some (differs, Vector.replicate 2 false) }), _, 0, 1, differs,
     Vector.replicate 2 false, Vector.replicate 3 0, 1, 0, true, by decide +kernel, by decide +kernel, rfl,
     by decide +kernel, by decide +kernel, by decide +kernel, by decide +kernel, by decide +kernel, by decide +kernel,
     rfl⟩,
   ⟨W.modHearth 1 (fun y => { y with disagreed := some (differs, Vector.replicate 2 true) }), 1, differs,
     Vector.replicate 2 true, 1, 0, true, by decide +kernel, by decide +kernel, rfl, by decide +kernel,
     by decide +kernel, by decide +kernel, by decide +kernel, by decide +kernel, rfl, rfl⟩,
   ⟨W.modHearth 1 (fun y => { y with disagreed := some (differs, #v[false, true]) }), _, 0, 1, differs, #v[false,
     true], 1, 0, true, by decide +kernel, by decide +kernel, rfl, by decide +kernel, by decide +kernel,
     by decide +kernel, by decide +kernel, by decide +kernel, rfl, by decide +kernel, rfl⟩,
   ⟨(W.modHearth 1 (fun y =>
     { y with laneOk := y.laneOk.set 0 false, mode := .duplex, disagreed := some (differs, Vector.replicate 2 false) })),
     1, differs, Vector.replicate 2 false, 1, 2, by decide +kernel, by decide +kernel, rfl, by decide +kernel,
     by decide +kernel⟩,
   ⟨W, _, 0, 3, Vector.replicate 3 7, 0, 1, 2, by decide +kernel, by decide +kernel, by decide +kernel,
     by decide +kernel, by decide +kernel, (fun _ h => nomatch h), by decide +kernel, rfl, by decide +kernel,
     by decide +kernel⟩,
   ⟨W, _, 0, 3, (Vector.replicate 3 7).set 2 8, 0, 1, 2, by decide +kernel, by decide +kernel, by decide +kernel,
     by decide +kernel, by decide +kernel, (fun _ h => nomatch h), by decide +kernel, rfl, by decide +kernel,
     by decide +kernel⟩,
   ⟨W, _, 0, 3, (Vector.replicate 3 7).set 1 8, 0, 1, 2, by decide +kernel, by decide +kernel, by decide +kernel,
     by decide +kernel, by decide +kernel, (fun _ h => nomatch h), by decide +kernel, rfl, by decide +kernel,
     by decide +kernel⟩,
   ⟨W, _, 0, 3, (Vector.replicate 3 7).set 0 8, 0, 1, 2, by decide +kernel, by decide +kernel, by decide +kernel,
     by decide +kernel, by decide +kernel, (fun _ h => nomatch h), by decide +kernel, rfl, by decide +kernel,
     by decide +kernel, by decide +kernel⟩,
   ⟨W, _, 0, 3, #v[7, 8, 9], 0, 1, 2, by decide +kernel, by decide +kernel, by decide +kernel, by decide +kernel,
     by decide +kernel, (fun _ h => nomatch h), by decide +kernel, rfl, by decide +kernel, by decide +kernel,
     by decide +kernel⟩,
   ⟨W.modHearth 3 (fun y => { y with mode := .duplex, coreOk := y.coreOk.set 0 false }), _, 0, 3, 1, 2,
     by decide +kernel, by decide +kernel, by decide +kernel, by decide +kernel, by decide +kernel, (fun _ h =>
     nomatch h), by decide +kernel, rfl⟩,
   ⟨W.modHearth 0 (fun y => { y with resync := some resync0 }), 0, resync0, Vector.replicate 3 7, by decide +kernel,
     by decide +kernel⟩,
   ⟨W.modHearth 0 (fun y => { y with resync := some resync0 }), 0, resync0, (Vector.replicate 3 7).set 2 8,
     by decide +kernel, by decide +kernel⟩,
   ⟨W.modHearth 0 (fun y => { y with nextTest := 143 }), _, 0, 0, 0, by decide +kernel, by decide +kernel,
     by decide +kernel, (fun _ h => nomatch h), by decide +kernel, rfl⟩⟩

theorem witness_SplitAndDebug :
    (∃ (s : State) (h : Fin 4) (tr : Transport) (tag : BitVec 16) (c : Cmd) (n mode : Byte), Starts s tr tag 0x0A20
      c ∧ c.data = [n, mode] ∧ n.toNat = h.val ∧ 1 ≤ h.val ∧ mode.toNat ≤ 1 ∧ s.hearths[h].splitting = none ∧
      s.hearths[h].mode = .triplex ∧ maySplit s h = true) ∧
    (∃ (s : State) (h : Fin 4) (tr : Transport) (tag : BitVec 16) (c : Cmd) (n mode : Byte), Starts s tr tag 0x0A20
      c ∧ c.data = [n, mode] ∧ n.toNat = h.val ∧ 1 ≤ h.val ∧ (s.hearths[h].mode ≠ .triplex ∨ maySplit s h = false ∨
      s.hearths[h].splitting ≠ none)) ∧
    (∃ (s : State) (h : Fin 4) (r : SplitRun), s.hearths[h].splitting = some r ∧ s.hearths[h].resync = none ∧
      s.hearths[h].disagreed = none ∧ s.hearths[h].mode ≠ .halted ∧ (∀ i ∈ votedLanes s.hearths[h],
      s.hearths[h].lanes[i] = [])) ∧
    (∃ (s : State) (h : Fin 4) (tr : Transport) (tag : BitVec 16) (c : Cmd) (n : Byte), Starts s tr tag 0x0A21 c ∧
      c.data = [n] ∧ n.toNat = h.val ∧ 1 ≤ h.val ∧ s.hearths[h].mode = .split ∧ s.hearths[h].rejoining = none) ∧
    (∃ (s : State) (h : Fin 4), s.hearths[h].testing = true ∧ s.hearths[h].mode = .split) ∧
    (∃ (s u : State) (dt : Nat) (h : Fin 4) (r : SplitRun) (dg : Vector (BitVec 32) 3) (off : List (Fin 3)),
      s.hearths[h].rejoining = some r ∧ s.hearths[h].splitting = none ∧ off = (coresIn s.hearths[h]).filter (fun i =>
      i != 0 && dg[i] != dg[(0 : Fin 3)]) ∧ off = [] ∧ u = (raise ((advance s dt).modHearth h rejoined) 237
      (hearthAddr h 1 0 0)).modHearth h (fun y =>
      { y with waitsFor := none, rejoining := none, debugHalted := false })) ∧
    (∃ (s : State) (h : Fin 4) (r : SplitRun) (dg : Vector (BitVec 32) 3) (off : List (Fin 3)),
      s.hearths[h].rejoining = some r ∧ s.hearths[h].splitting = none ∧ off = (coresIn s.hearths[h]).filter (fun i =>
      i != 0 && dg[i] != dg[(0 : Fin 3)]) ∧ off ≠ [] ∧ r.second = false) ∧
    (∃ (s u : State) (dt : Nat) (h : Fin 4) (r : SplitRun) (dg : Vector (BitVec 32) 3) (off : List (Fin 3)) (i : Fin
      3), s.hearths[h].rejoining = some r ∧ s.hearths[h].splitting = none ∧ off = (coresIn s.hearths[h]).filter (fun i
      => i != 0 && dg[i] != dg[(0 : Fin 3)]) ∧ off = [i] ∧ r.second = true ∧ u = (retireCore ((advance s dt).modHearth
      h rejoined) h i).modHearth h (fun y => { y with waitsFor := none, rejoining := none, debugHalted := false })) ∧
    (∃ (s : State) (h : Fin 4) (r : SplitRun) (dg : Vector (BitVec 32) 3) (off : List (Fin 3)),
      s.hearths[h].rejoining = some r ∧ s.hearths[h].splitting = none ∧ off = (coresIn s.hearths[h]).filter (fun i =>
      i != 0 && dg[i] != dg[(0 : Fin 3)]) ∧ 2 ≤ off.length ∧ r.second = true) ∧
    (∃ (s u : State) (dt : Nat) (h : Fin 4), s.ports.unlocked = true ∧ s.hearths[h].debugHalted = false ∧
      s.hearths[h].mode ≠ .halted ∧ (h = 0 ∨ maySplit s h = true) ∧ u = (if h = 0 then forAll four (fun m v =>
      setShutdown v m true) (advance s dt) else advance s dt)) ∧
    (∃ (s : State) (h : Fin 4) (dg : Vector (BitVec 32) 3) (agree : Bool), s.ports.unlocked = true ∧
      s.hearths[h].debugHalted = true ∧ s.hearths[h].rejoining = none ∧ inReplay s.hearths[h] = true ∧ agree =
      (coresIn s.hearths[h]).all (fun i => dg[i] == dg[(0 : Fin 3)])) ∧
    (∃ (s : State) (h : Fin 4), s.ports.unlocked = true ∧ s.hearths[h].debugHalted = true ∧ s.hearths[h].rejoining =
      none ∧ inReplay s.hearths[h] = false) ∧
    (∃ (s : State) (h : Fin 4) (a v : BitVec 32) (e : LaneEntry), s.ports.unlocked = true ∧ s.hearths[h].debugHalted
      = true ∧ e =
      { addr := a, data := if a.getLsbD 2 then v.setWidth 64 else v.setWidth 64 <<< 32, enables := if a.getLsbD 2 then 0x0F else 0xF0, kind := 2, attr := 0, seq := BitVec.ofNat 8 s.hearths[h].txn, parityOk := true }) ∧
    (∃ (s : State) (h : Fin 4), s.ports.unlocked = true ∧ s.hearths[h].debugHalted = true ∧ inReplay s.hearths[h] =
      true) ∧
    (∃ (s : State) (h : Fin 4), s.ports.unlocked = true ∧ s.ports.ir = .dbgAccess ∧ s.hearths[h].debugHalted =
      false) :=
  ⟨⟨has W (c0 0x0A20 [1, 1]), 1, .hspi, 1, c0 0x0A20 [1, 1], 1, 1, ⟨rfl, rfl, rfl, rfl⟩, by decide +kernel,
     by decide +kernel, by decide +kernel, by decide +kernel, by decide +kernel, by decide +kernel, by decide +kernel⟩,
   ⟨has (W.modHearth 3 (fun y => { y with mode := .duplex })) (c0 0x0A20 [3, 0]), 3, .hspi, 1, c0 0x0A20 [3, 0], 3,
     0, ⟨rfl, rfl, rfl, rfl⟩, by decide +kernel, by decide +kernel, by decide +kernel, by decide +kernel⟩,
   ⟨W.modHearth 1 (fun y => { y with splitting := some run0 }), 1, run0, by decide +kernel, by decide +kernel,
     by decide +kernel, by decide +kernel, by decide +kernel⟩,
   ⟨has (W.modHearth 3 (fun y => { y with mode := .split })) (c0 0x0A21 [3]), 3, .hspi, 1, c0 0x0A21 [3], 3, ⟨rfl,
     rfl, rfl, rfl⟩, by decide +kernel, by decide +kernel, by decide +kernel, by decide +kernel, by decide +kernel⟩,
   ⟨W.modHearth 3 (fun y => { y with mode := .split, testing := true }), 3, by decide +kernel, by decide +kernel⟩,
   ⟨W.modHearth 3 (fun y => { y with mode := .split, rejoining := some run0 }), _, 0, 3, run0, Vector.replicate 3 7,
     _, by decide +kernel, by decide +kernel, rfl, by decide +kernel, rfl⟩,
   ⟨W.modHearth 3 (fun y => { y with mode := .split, rejoining := some run0 }), 3, run0, (Vector.replicate 3 7).set
     2 8, _, by decide +kernel, by decide +kernel, rfl, by decide +kernel, by decide +kernel⟩,
   ⟨W.modHearth 3 (fun y => { y with mode := .split, rejoining := some { run0 with second := true } }), _, 0, 3,
     { run0 with second := true }, (Vector.replicate 3 7).set 2 8, _, 2, by decide +kernel, by decide +kernel, rfl,
     by decide +kernel, by decide +kernel, rfl⟩,
   ⟨W.modHearth 3 (fun y => { y with mode := .split, rejoining := some { run0 with second := true } }), 3,
     { run0 with second := true }, #v[7, 8, 8], _, by decide +kernel, by decide +kernel, rfl, by decide +kernel,
     by decide +kernel⟩,
   ⟨replaying.modHearth 0 (fun y => { y with debugHalted := false }), _, 0, 0, by decide +kernel, by decide +kernel,
     by decide +kernel, by decide +kernel, rfl⟩,
   ⟨replaying, 0, Vector.replicate 3 7, _, by decide +kernel, by decide +kernel, by decide +kernel,
     by decide +kernel, rfl⟩,
   ⟨replaying.modHearth 0 (fun y => { y with mode := .split }), 0, by decide +kernel, by decide +kernel,
     by decide +kernel, by decide +kernel⟩,
   ⟨replaying, 0, 0, 0, _, by decide +kernel, by decide +kernel, rfl⟩,
   ⟨replaying.modHearth 0 (fun y => { y with log := List.replicate 256 ⟨0, 0⟩ }), 0, by decide +kernel,
     by decide +kernel, by decide +kernel⟩,
   ⟨W.modPorts (fun p => { p with unlocked := true, ir := .dbgAccess }), 3, by decide +kernel, by decide +kernel,
     by decide +kernel⟩⟩

theorem witness_ThermalCommands :
    (∃ (s : State) (dt : Nat) (n : Fin 44) (rd : ThermalInput) (raw : Option Int), sensorOn (advance s dt) n = true
      ∧ (∀ a, s.thermal.sensors[n].evalAt = some a → a + evalEvery s n ≤ s.clk + dt) ∧ readingOf (advance s dt) n rd =
      some raw) ∧
    (∃ (s : State) (dt : Nat) (n : Fin 44), sensorOn (advance s dt) n = false) ∧
    (∃ (s : State) (dt : Nat) (m : Fin 4) (k : Nat), k = factorOf (advance s dt) (machineLevel (advance s dt) m).1 ∧
      (s.thermal.kSealed[m]).getD s.thermal.k[m] ≠ k) ∧
    (∃ (s : State) (n : Fin 44), (s.thermal.sensors[n].state = .replaced ∨ s.thermal.sensors[n].state = .noEst)) ∧
    (∃ (s : State) (m : Fin 4) (i : Fin 5) (c : Fin 4) (seen : LossTest), i.val = c.val ∧ channelTest s m c seen =
      true) ∧
    (∃ (s : State) (dt : Nat) (m : Fin 4) (seen : LossTest), portTest (advance s dt) m seen = true) ∧
    (∃ (s : State) (m : Fin 4), npAin s m ≠ none ∧ s.tfu[m].npLost = false ∧ 3 ≤ s.tfu[m].npEnd) :=
  ⟨⟨W, 0, 0, .value 250, some 250, by decide +kernel, (fun _ h => nomatch h), by decide +kernel⟩,
   ⟨W.setPar 0 0 0x9400 1 0, 0, 0, by decide +kernel⟩,
   ⟨(W.modThermal (fun t => { t with k := t.k.set 0 512 })), 0, 0, 1024, by decide +kernel, by decide +kernel⟩,
   ⟨W.modSensor 43 (fun x => { x with state := .replaced }), 43, by decide +kernel⟩,
   ⟨W.setPar 1 0 0x2200 4 1, 0, 3, 3, { bits := 0, excitation := false }, by decide +kernel, by decide +kernel⟩,
   ⟨W.setPar 0 0 0x0413 1 1, 0, 3, { bits := 0, excitation := true }, by decide +kernel⟩,
   ⟨((W.setPar 1 0 0x2420 1 1).setPar 1 0 0x2421 1 31).modTfu 0 (fun t => { t with npEnd := 3 }), 0,
     by decide +kernel, by decide +kernel, by decide +kernel⟩⟩

theorem witness_LiveCalibration :
    (∃ (s : State) (dt : Nat) (m : Fin 4) (k : Fin 3), s.cal.machines[m].stopped = false ∧
      s.cal.machines[m].suspended = false ∧ (s.pm m 0x9003 1 ≤ s.cal.machines[m].win[k].sums.n ∨
      s.cal.machines[m].win[k].at' + 200000000 ≤ s.clk + dt)) ∧
    (∃ (s : State) (m : Fin 4) (k : Fin 3) (w : CalWindow), s.cal.machines[m].closed[k] = some w ∧
      (s.cal.machines[m].stopped = true ∨ h3Voted s = false)) ∧
    (∃ (s u : State) (dt : Nat) (m : Fin 4) (k : Fin 3) (w : CalWindow), s.cal.machines[m].closed[k] = some w ∧
      s.cal.machines[m].stopped = false ∧ h3Voted s = true ∧ u = (advance s dt).modCalM m (fun c =>
      { c with closed := vmod c.closed k (fun _ => none) })) ∧
    (∃ (s : State) (dt : Nat) (m : Fin 4) (at' : Nat), s.cal.machines[m].stillAt = some at' ∧ at' + 20000000 ≤ s.clk
      + dt ∧ s.cal.machines[m].capture = none ∧ s.cal.machines[m].captured = false) ∧
    (∃ (s : State) (m : Fin 4) (n : Nat) (l : List (Int × Int × Int)), s.cal.machines[m].capture = some (n, l) ∧ n <
      256) ∧
    (∃ (s u : State) (dt : Nat) (m : Fin 4) (n : Nat) (l : List (Int × Int × Int)) (used : List ((Int × Int × Int) ×
      Nat)), s.cal.machines[m].capture = some (n, l) ∧ 256 ≤ n ∧ used = l.zipIdx.filter (fun x => chanSource s m
      (finOf 4 x.2) != 0) ∧ u = (advance s dt).modCalM m (fun k => { k with capture := none, captured := true })) ∧
    (∃ (s u v : State) (dt : Nat) (m : Fin 4) (samples : List (BitVec 14 × BitVec 14)) (sn cs : Int) (x : Int × Int)
      (r : Nat), portMode s m = 1 ∧ analogUp s = true ∧ sn = demodulated s m (samples.map (·.1)) ∧ cs = demodulated s
      m (samples.map (·.2)) ∧ r = 1 + Config.outside 2 [m.val] % 8 ∧ u = (advance s dt).modPort m (fun y =>
      { y with ampRun := if ampBad m sn cs then Nat.min 4 (y.ampRun + 1) else 0 }) ∧ x = portCorrect u m sn cs ∧ v =
      portCollect u m sn cs (atan16 x.1 x.2) s.posPorts[m].loopSpeed ∧ s.posPorts[m].locked = false) ∧
    (∃ (s u v : State) (dt : Nat) (m : Fin 4) (samples : List (BitVec 14 × BitVec 14)) (sn cs : Int) (x : Int × Int)
      (r : Nat) (now : BitVec 32) (e : Int), portMode s m = 1 ∧ analogUp s = true ∧ sn = demodulated s m (samples.map
      (·.1)) ∧ cs = demodulated s m (samples.map (·.2)) ∧ r = 1 + Config.outside 2 [m.val] % 8 ∧ u = (advance s
      dt).modPort m (fun y => { y with ampRun := if ampBad m sn cs then Nat.min 4 (y.ampRun + 1) else 0 }) ∧ x =
      portCorrect u m sn cs ∧ v = portCollect u m sn cs (atan16 x.1 x.2) s.posPorts[m].loopSpeed ∧
      s.posPorts[m].locked = true ∧ now = posNow v m ∧ e = angleDiff (atan16 x.1 x.2) (BitVec.ofNat 16 (now.toNat *
      r))) ∧
    (∃ (s u v w : State) (dt : Nat) (m : Fin 4) (cross : Option Bool) (sn cs : BitVec 16) (fast off : Bool) (n ref
      frac ang e : Int) (x : Int × Int), portMode s m = 2 ∧ analogUp s = true ∧ n = s.posPorts[m].count + (if cross =
      some true then 1 else if cross = some false then -1 else 0) ∧ ref = (if cross = some true then 4096 * n else if
      cross = some false then 4096 * (n + 1) else s.posPorts[m].angle) ∧ u = (advance s dt).modPort m (fun y =>
      { y with ampAt := if ampBad m sn.toInt cs.toInt then some (y.ampAt.getD (s.clk + dt)) else none }) ∧ x =
      portCorrect u m sn.toInt cs.toInt ∧ v = portCollect u m sn.toInt cs.toInt (atan16 x.1 x.2)
      s.posPorts[m].loopSpeed ∧ frac = neigh (atan16 x.1 x.2).toNat 16 ∧ ang = (if fast then 4096 * n else ref +
      ((frac - ref + 2048) % 4096 - 2048)) ∧ off = (!fast && (if cross.isSome then decide (1024 < (ang - ref).natAbs)
      else decide (ang < 4096 * n - 1024) || decide (4096 * (n + 1) + 1024 < ang))) ∧ w = (if off then countError v m
      else v) ∧ e = (ang - s.posPorts[m].angle) - neigh (s.posPorts[m].loopSpeed * ((s.clk + dt -
      s.posPorts[m].posTick : Nat) : Int) * 4096 * (portPar s m 7 : Nat)) (4 * 65536 * 46875000)) ∧
    (∃ (s u : State) (dt : Nat) (m : Fin 4) (x : PortSums), s.cal.ports[m].closed = some x ∧ s.cal.ports[m].stopped
      = false ∧ s.p0 (0x9100 + m.val) 1 ≠ 0 ∧ h3Voted s = true ∧ (portMode s m = 1 ∨ portMode s m = 2) ∧ u = (advance
      s dt).modCal (fun c => { c with ports := vmod c.ports m (fun y => { y with closed := none }) }) ∧ (x.steady (if
      portMode s m = 1 then some (portPar s m 2) else none) = false ∨ 2000000000 < x.span ∨ portFitOf x = none)) ∧
    (∃ (s u : State) (dt : Nat) (m : Fin 4) (x : PortSums) (f : Int × Int × Int × Int × Int), s.cal.ports[m].closed
      = some x ∧ s.cal.ports[m].stopped = false ∧ s.p0 (0x9100 + m.val) 1 ≠ 0 ∧ h3Voted s = true ∧ (portMode s m = 1 ∨
      portMode s m = 2) ∧ u = (advance s dt).modCal (fun c =>
      { c with ports := vmod c.ports m (fun y => { y with closed := none }) }) ∧ x.steady (if portMode s m = 1 then
      some (portPar s m 2) else none) = true ∧ x.span ≤ 2000000000 ∧ portFitOf x = some f) ∧
    (∃ (s : State) (tr : Transport) (tag : BitVec 16) (c : Cmd), Starts s tr tag 0x0900 c ∧ c.data = [] ∧
      s.cal.machines[c.m].stopped = true) ∧
    (∃ (s : State) (tr : Transport) (tag : BitVec 16) (c : Cmd), Starts s tr tag 0x0900 c ∧
      s.cal.machines[c.m].stopped = false) ∧
    (∃ (s : State) (m : Fin 4) (tr : Transport) (tag : BitVec 16) (c : Cmd) (b : Byte), Starts s tr tag 0x0901 c ∧
      c.data = [b] ∧ b.toNat = m.val) :=
  ⟨⟨W.modCalM 0 (fun x => { x with win := x.win.set 2 { sums := { n := 4096 } } }), 0, 0, 2, by decide +kernel,
     by decide +kernel, by decide +kernel⟩,
   ⟨W.modCalM 0 (fun x => { x with stopped := true, closed := x.closed.set 0 (some {}) }), 0, 0, {},
     by decide +kernel, by decide +kernel⟩,
   ⟨W.modCalM 0 (fun x => { x with closed := x.closed.set 2 (some {}) }), _, 0, 0, 2, {}, by decide +kernel,
     by decide +kernel, by decide +kernel, rfl⟩,
   ⟨W.modCalM 0 (fun x => { x with stillAt := some 0 }), 20000000, 0, 0, by decide +kernel, by decide +kernel,
     by decide +kernel, by decide +kernel⟩,
   ⟨W.modCalM 0 (fun x => { x with capture := some (255, []) }), 0, 255, [], by decide +kernel, by decide +kernel⟩,
   ⟨W.modCalM 0 (fun x => { x with capture := some (256, []) }), _, 0, 0, 256, [], _, by decide +kernel,
     by decide +kernel, rfl, rfl⟩,
   ⟨W.setPar 0 0 0x0410 1 1, _, _, 0, 0, [], _, _, _, _, by decide +kernel, by decide +kernel, rfl, rfl, rfl, rfl,
     rfl, rfl, by decide +kernel⟩,
   ⟨(W.setPar 0 0 0x0410 1 1).modPort 0 (fun x => { x with locked := true }), _, _, 0, 0, [], _, _, _, _, _, _,
     by decide +kernel, by decide +kernel, rfl, rfl, rfl, rfl, rfl, rfl, by decide +kernel, rfl, rfl⟩,
   ⟨W.setPar 0 0 0x0410 1 2, _, _, _, 0, 0, some true, 0, 0, false, _, _, _, _, _, _, _, by decide +kernel,
     by decide +kernel, rfl, rfl, rfl, rfl, rfl, rfl, rfl, rfl, rfl, rfl⟩,
   ⟨fitting {}, _, 0, 3, {}, by decide +kernel, by decide +kernel, by decide +kernel, by decide +kernel,
     by decide +kernel, rfl, by decide +kernel⟩,
   ⟨fitting sums0, _, 0, 3, sums0, (portFitOf sums0).get sums0_fits, by decide +kernel, by decide +kernel,
     by decide +kernel, by decide +kernel, by decide +kernel, rfl, by decide +kernel, by decide +kernel,
     (Option.some_get sums0_fits).symm⟩,
   ⟨has (W.modCalM 0 (fun x => { x with stopped := true })) (c0 0x0900), .hspi, 1, c0 0x0900, ⟨rfl, rfl, rfl, rfl⟩,
     by decide +kernel, by decide +kernel⟩,
   ⟨has W (c0 0x0900), .hspi, 1, c0 0x0900, ⟨rfl, rfl, rfl, rfl⟩, by decide +kernel⟩,
   ⟨has (W.modCal (fun x => { x with ports := x.ports.set 3 { x.ports[3] with stopped := true } })) (c0 0x0901 [3]),
     3, .hspi, 1, c0 0x0901 [3], 3, ⟨rfl, rfl, rfl, rfl⟩, by decide +kernel, by decide +kernel⟩⟩

theorem witness_RailsAndDieSensors :
    (∃ (s u : State) (dt : Nat) (k : Fin 9) (m0 m1 : Int), (∀ a, s.cal.regions[k].measuredAt = some a → a + 200000 ≤
      s.clk + dt) ∧ u = (advance s dt).modCal (fun x =>
      { x with regions := vmod x.regions k (fun r => { r with margins := (clampI 0 65535 m0, clampI 0 65535 m1), measuredAt := some (s.clk + dt) }) })) ∧
    (∃ (s : State) (dt : Nat), (∀ a, s.cal.railAt = some a → a + 2000000 ≤ s.clk + dt)) ∧
    (∃ (s : State) (dt at' : Nat), s.cal.railAt = some at' ∧ s.clk + dt < at' + 2000000) ∧
    (∃ (s u : State) (dt : Nat), (∀ a, s.cal.checkAt = some a → a + 200000000 ≤ s.clk + dt) ∧ u = forAll tenSensors
      crossCheck ((advance s dt).modCal (fun x => { x with checkAt := some (s.clk + dt) }))) :=
  ⟨⟨W, _, 0, 0, 151, 0, (fun _ h => nomatch h), rfl⟩,
   ⟨W, 0, (fun _ h => nomatch h)⟩,
   ⟨W.modCal (fun x => { x with railAt := some 0 }), 1999999, 0, by decide +kernel, by decide +kernel⟩,
   ⟨on, _, 0, (fun _ h => nomatch h), rfl⟩⟩

theorem witness_LoadSharing :
    (∃ (s : State) (dt : Nat) (f : FabFrame) (r : MemberReport) (u : State), f.msg = .memberReport r ∧ takeInbox
      (advance s dt) (fun f => match f.msg with | .memberReport _ => true | _ => false) = some (f, u)) ∧
    (∃ (s : State), s.fabric.inbox = []) ∧
    (∃ (s : State) (dt : Nat) (f : FabFrame) (g sender k : Nat) (v : Int) (last : Bool) (u : State), f.msg = .share
      g sender k v last ∧ takeInbox (advance s dt) (fun f =>
      match f.msg with | .share .. => true | _ => false) = some (f, u)) ∧
    (∃ (s : State) (dt : Nat) (m j : Fin 4) (l : List (Fin 8 × Int)) (sat : Bool) (td den : Int) (n : Counter ×
      Bool), isMaster s m = true ∧ s.en m = true ∧ s.share[m].distributed = false ∧ stoveOf s m = some j ∧
      s.stove[j].running = true ∧ s.stove[j].runAt = none ∧ reportsIn (advance s dt) m = true ∧ distribute (advance s
      dt) m = (l, sat, td, den) ∧ n = (if sat then ctrInc 32 s.share[m].saturated else (s.share[m].saturated, false))) ∧
    (∃ (s u : State) (dt : Nat) (m : Fin 4) (k : Fin 8) (x : MemberSeen) (b : Nat), s.share[m].members[k] = x ∧
      isMaster s m = true ∧ x.report.isSome = true ∧ x.arrived = false ∧ x.heldNow = false ∧ x.lost = false ∧
      s.tb.lastBoundary[m] = some b ∧ b + (600 + 400 * groupHops (advance s dt) m) ≤ s.clk + dt ∧ u = countMiss
      ((advance s dt).modShare m (fun y =>
      { y with members := vmod y.members k (fun y => { y with heldNow := true, missed := y.missed + 1, rejoin := 0 }) }))
      m) ∧
    (∃ (s u : State) (dt : Nat) (m : Fin 4) (b : Nat), member s m = true ∧ s.en m = true ∧ s.share[m].received =
      none ∧ s.share[m].heldNow = false ∧ s.share[m].masterLost = false ∧ s.tb.lastBoundary[m] = some b ∧ b + (s.Ts m
      - 400) ≤ s.clk + dt ∧ u = (countMiss (advance s dt) m).modShare m (fun y => { y with missed := y.missed + 1 })) ∧
    (∃ (s : State) (dt : Nat) (f : FabFrame) (n : Fin 4) (st : Nat) (enabled : Bool) (crc : Option (BitVec 32)) (u :
      State), f.msg = .transfer n st enabled crc ∧ takeInbox (advance s dt) (fun f =>
      match f.msg with | .transfer .. => true | _ => false) = some (f, u)) ∧
    (∃ (s : State) (m : Fin 4) (same : Bool) (c : BitVec 32), same = (c == xferCrc s m)) ∧
    (∃ (s : State) (dt : Nat) (m : Fin 4), s.share[m].active = true ∧ s.startM[m].state ≠ .run ∧
      s.startM[m].reachedRun = false ∧ s.en m = true ∧ s.share[m].xferAt + 200000 * s.pm m 0x8201 4 ≤ s.clk + dt) :=
  ⟨⟨inboxed (.memberReport report1), 0, fabIn (.memberReport report1), report1, _, by decide +kernel, rfl⟩,
   ⟨W, by decide +kernel⟩,
   ⟨inboxed (.share 1 0 1 512 true), 0, fabIn (.share 1 0 1 512 true), 1, 0, 1, 512, true, _, by decide +kernel,
     rfl⟩,
   ⟨master, 0, 0, 0, _, _, _, _, _, by decide +kernel, by decide +kernel, by decide +kernel, by decide +kernel,
     by decide +kernel, by decide +kernel, by decide +kernel, rfl, rfl⟩,
   ⟨master.modTb (fun t => { t with lastBoundary := t.lastBoundary.set 0 (some 0) }) |>.modShare 0 (fun x =>
     { x with members := x.members.set 1 { report := some report1 } }), _, 1000000, 0, 1, { report := some report1 },
     0, by decide +kernel, by decide +kernel, by decide +kernel, by decide +kernel, by decide +kernel,
     by decide +kernel, by decide +kernel, by decide +kernel, rfl⟩,
   ⟨master.modTb (fun t => { t with lastBoundary := t.lastBoundary.set 0 (some 0) }), _, 1000000, 0, 0,
     by decide +kernel, by decide +kernel, by decide +kernel, by decide +kernel, by decide +kernel, by decide +kernel,
     by decide +kernel, rfl⟩,
   ⟨(pair.modFabric (fun x => { x with inbox := [transferIn] })), 0, transferIn, 3, 0, true, _, _, rfl, rfl⟩,
   ⟨W, 0, _, 0, rfl⟩,
   ⟨(on.modShare 0 (fun x => { x with active := true })).modStartM 0 (fun x => { x with state := .catch' }),
     4000000, 0, by decide +kernel, by decide +kernel, by decide +kernel, by decide +kernel, by decide +kernel⟩⟩

theorem witness_StartingLimits :
    (∃ (s : State) (dt : Nat) (m : Fin 4) (c : CatchState), s.startM[m].catchSt = some c ∧ s.startM[m].state =
      .catch' ∧ c.phase = 4 ∧ c.startedAt + 20000000 ≤ s.clk + dt) ∧
    (∃ (s : State) (dt : Nat) (m : Fin 4) (c : CatchState), s.startM[m].catchSt = some c ∧ s.startM[m].state =
      .catch' ∧ c.enabledAt + 200000 * (100 * startPar s m 0x2503 6) ≤ s.clk + dt) ∧
    (∃ (s : State) (dt : Nat) (m : Fin 4), s.startM[m].state = .magnetise ∧ s.startM[m].magnetiseAt + 200000 * (4 *
      startPar s m 0x2504 2) ≤ s.clk + dt) ∧
    (∃ (s : State) (dt : Nat) (m : Fin 4), s.startM[m].state = .openLoop ∧ s.startM[m].openAt + 200000 * startPar s
      m 0x2505 10 ≤ s.clk + dt) ∧
    (∃ (s : State) (dt : Nat) (m : Fin 4), s.startM[m].state = .banked ∧ s.startM[m].reacquiring = false ∧
      s.startM[m].bankedAt + 200000 * s.pm m 0x2506 1 ≤ s.clk + dt) ∧
    (∃ (s : State) (dt : Nat) (m : Fin 4) (w : StrobeWords) (rest : List StrobeWords), s.isSecond m = false ∧ isPair
      s m = false ∧ s.tfu[m].inputs = w :: rest ∧ s.en m = true ∧ s.tfu[m].stopped = false ∧ w.at' ≤ s.clk + dt) ∧
    (∃ (s : State) (dt : Nat) (m : Fin 4) (w y : StrobeWords) (rest : List StrobeWords), s.isSecond m = false ∧
      isPair s m = true ∧ s.tfu[m].inputs = w :: rest ∧ s.en m = true ∧ s.tfu[m].stopped = false ∧ w.at' ≤ s.clk + dt
      ∧ s.tfu[second m].inputs.find? (fun z => z.at' == w.at') = some y) ∧
    (∃ (s : State) (dt : Nat) (m : Fin 4) (w : StrobeWords) (rest : List StrobeWords), s.isSecond m = false ∧ isPair
      s m = true ∧ s.tfu[m].inputs = w :: rest ∧ s.en m = true ∧ s.tfu[m].stopped = false ∧ w.at' ≤ s.clk + dt ∧
      s.tfu[second m].inputs.find? (fun z => z.at' == w.at') = none) ∧
    (∃ (s : State) (m : Fin 4), s.isSecond m = true) :=
  ⟨⟨catching { catch0 with phase := 4 }, 20000000, 0, { catch0 with phase := 4 }, by decide +kernel,
     by decide +kernel, by decide +kernel, by decide +kernel⟩,
   ⟨catching catch0, 2000000000, 0, catch0, by decide +kernel, by decide +kernel, by decide +kernel⟩,
   ⟨on.modStartM 0 (fun x => { x with state := .magnetise }), 160000000, 0, by decide +kernel, by decide +kernel⟩,
   ⟨on.modStartM 0 (fun x => { x with state := .openLoop }), 1000000000, 0, by decide +kernel, by decide +kernel⟩,
   ⟨on.modStartM 0 (fun x => { x with state := .banked }), 20000000, 0, by decide +kernel, by decide +kernel,
     by decide +kernel⟩,
   ⟨on.modTfu 0 (fun x => { x with inputs := [words0] }), 0, 0, words0, [], by decide +kernel, by decide +kernel,
     by decide +kernel, by decide +kernel, by decide +kernel, by decide +kernel⟩,
   ⟨(pairOn.modTfu 0 (fun x => { x with inputs := [words0] })).modTfu 1 (fun x => { x with inputs := [words0] }), 0,
     0, words0, words0, [], by decide +kernel, by decide +kernel, by decide +kernel, by decide +kernel,
     by decide +kernel, by decide +kernel, by decide +kernel⟩,
   ⟨pairOn.modTfu 0 (fun x => { x with inputs := [words0] }), 0, 0, words0, [], by decide +kernel,
     by decide +kernel, by decide +kernel, by decide +kernel, by decide +kernel, by decide +kernel, by decide +kernel⟩,
   ⟨pairOn, 1, by decide +kernel⟩⟩

theorem witness_SafetyWatch :
    (∃ (s : State) (dt : Nat), h0Runs s = true ∧ (∀ a, s.safety.hbH0At = some a → a + 20000 ≤ s.clk + dt)) ∧
    (∃ (s : State) (dt at' : Nat), s.safety.hbH0At = some at' ∧ s.clk + dt < at' + 20000) ∧
    (∃ (s : State) (dt : Nat), s.safety.damperUp = true ∧ (∀ a, s.safety.hbDamperAt = some a → a + 20000 ≤ s.clk +
      dt)) ∧
    (∃ (s u : State) (dt since : Nat) (n : BitVec 4) (code : BitVec 8), s.safety.damperUp = true ∧ (∀ x,
      s.safety.hbSeen = some x → n = x + 1) ∧ code ≠ 4 ∧ code ≠ 5 ∧ since = s.safety.hbGoodAt.getD (s.clk + dt) ∧ u =
      (advance s dt).modSafety (fun x =>
      { x with hbSeen := some n, hbSeenAt := s.clk + dt, h0Code := code, hbGoodAt := some since })) ∧
    (∃ (s : State) (n : BitVec 4) (code : BitVec 8), s.safety.damperUp = true ∧ (code = 4 ∨ code = 5 ∨ ∃ x,
      s.safety.hbSeen = some x ∧ n ≠ x + 1)) ∧
    (∃ (s : State) (dt : Nat), s.safety.damperUp = true ∧ s.safety.hbSeenAt + 100000 ≤ s.clk + dt) ∧
    (∃ (s : State) (dt : Nat), h0Runs s = true ∧ s.safety.dampLost = false ∧ s.safety.dampSeenAt + 100000 ≤ s.clk +
      dt) ∧
    (∃ (s : State), h0Runs s = true) ∧
    (∃ (s u v : State) (dt : Nat) (m : Fin 4), s.safety.damperUp = true ∧ u = (if s.safety.stoReq[m] then modFn
      (advance s dt) false m (fun f => { f with stoReaction := true }) else advance s dt) ∧ v =
      (match u.safety.h0.fns[m].ss1 with | some x => startSs1 u false m x.timed | none => u)) ∧
    (∃ (s : State) (n : BitVec 16), s.safety.damperUp = true ∧ (n.toNat < 39200 ∨ 40800 < n.toNat)) ∧
    (∃ (s u : State) (dt : Nat) (n : BitVec 16), s.safety.damperUp = true ∧ 39200 ≤ n.toNat ∧ n.toNat ≤ 40800 ∧ u =
      (advance s dt).modSafety (fun x => { x with oscCount := n, oscGood := Nat.min 100 (x.oscGood + 1) })) ∧
    (∃ (s : State), s.safety.damperUp = true) ∧
    (∃ (s : State) (m : Fin 4), s.gl[m].shutdown = false ∧ stoIn s true m = true) ∧
    (∃ (s : State) (dt a : Nat) (m h : Fin 4), s.gl[m].shutdown = false ∧ (h = 1 ∨ h = 2) ∧ s.hearths[h].mode =
      .halted ∧ s.hearths[h].brakeWait = some a ∧ a + 200000 * s.pm m 0x2506 3 ≤ s.clk + dt ∧ s.en m = true ∧ braked s
      m = true) ∧
    (∃ (s : State), s.safety.damperUp = true) :=
  ⟨⟨W, 0, by decide +kernel, (fun _ h => nomatch h)⟩,
   ⟨W.modSafety (fun x => { x with hbH0At := some 0 }), 19999, 0, by decide +kernel, by decide +kernel⟩,
   ⟨W, 0, by decide +kernel, (fun _ h => nomatch h)⟩,
   ⟨W, _, 0, _, 3, 2, by decide +kernel, (fun _ h => nomatch h), by decide +kernel, by decide +kernel, rfl, rfl⟩,
   ⟨W.modSafety (fun x => { x with hbSeen := some 3 }), 3, 0, by decide +kernel, .inr (.inr ⟨3, rfl, by decide⟩)⟩,
   ⟨W, 100000, by decide +kernel, by decide +kernel⟩,
   ⟨W, 100000, by decide +kernel, by decide +kernel, by decide +kernel⟩,
   ⟨W, by decide +kernel⟩,
   ⟨W.modSafety (fun x => { x with stoReq := x.stoReq.set 3 true }), _, _, 0, 3, by decide +kernel, rfl, rfl⟩,
   ⟨W, 40801, by decide +kernel, by decide +kernel⟩,
   ⟨W, _, 0, 40800, by decide +kernel, by decide +kernel, by decide +kernel, rfl⟩,
   ⟨W, by decide +kernel⟩,
   ⟨W.modSafety (fun x => { x with dampLost := true }), 3, by decide +kernel, by decide +kernel⟩,
   ⟨(on.setPar 1 0 0x2703 6 1).modHearth 2 (fun x => { x with mode := .halted, brakeWait := some 0 }), 1000000000,
     0, 0, 2, by decide +kernel, by decide +kernel, by decide +kernel, by decide +kernel, by decide +kernel,
     by decide +kernel, by decide +kernel⟩,
   ⟨W, by decide +kernel⟩⟩

theorem witness_SafeInputsOutputs :
    (∃ (s : State) (dt at' : Nat) (h0 chB : Bool) (k : Fin 9), (if chB then (safeView s h0).inputs[k].filterB else
      (safeView s h0).inputs[k].filterA) = some at' ∧ at' + (196 * inFilter s h0 k - 20) ≤ s.clk + dt ∧ (h0 = true ∨
      (s.safety.damperUp = true ∧ s.safety.loaded = true))) ∧
    (∃ (s u : State) (dt : Nat) (h0 : Bool) (k : Fin 9) (at' : Nat), (safeView s h0).inputs[k].discAt = some at' ∧
      at' + 200000 * inDisc s h0 k ≤ s.clk + dt ∧ (safeView s h0).inputs[k].disc = false ∧ u = modInput (advance s dt)
      h0 k (fun x => { x with disc := true, onAt := none })) ∧
    (∃ (s u : State) (dt : Nat) (k : Fin 9), s.safety.damperUp = true ∧ (∀ a, s.safety.testAt[k] = some a → a +
      2000000 ≤ s.clk + dt) ∧ u = (advance s dt).modSafety (fun x =>
      { x with testAt := vmod x.testAt k (fun _ => some (s.clk + dt)), testHold := vmod x.testHold k (fun _ => some 16), inFault := vmod x.inFault k (fun _ => true) })) ∧
    (∃ (s : State) (dt : Nat) (k : Fin 9), s.safety.damperUp = true ∧ (∀ a, s.safety.testAt[k] = some a → a +
      2000000 ≤ s.clk + dt)) ∧
    (∃ (s u : State) (dt : Nat) (o : Fin 4) (chB after : Bool), s.safety.damperUp = true ∧ outTestDue (advance s dt)
      o chB = true ∧ u = (advance s dt).modSafety (fun x =>
      { x with outs := vmod x.outs o (fun y => if chB then { y with testB := some (s.clk + dt), readB := after } else { y with testA := some (s.clk + dt), readA := after }) })) ∧
    (∃ (s : State) (m : Fin 4) (a b : Bool), s.safety.damperUp = true ∧ s.safety.genFault[m] = false ∧ (a ≠
      s.safety.genA[m] ∨ b ≠ s.safety.genB[m])) ∧
    (∃ (s : State) (dt : Nat) (m : Fin 4), genGranted (advance s dt) m = true) ∧
    (∃ (s : State) (dt : Nat) (m : Fin 4), genGranted (advance s dt) m = false) ∧
    (∃ (s : State) (dt : Nat) (m : Fin 4) (e : Enabling) (at' : Nat), s.drive[m].enabling = some e ∧ e.genSeen =
      false ∧ e.result = none ∧ s.safety.genReq[m] = some at' ∧ at' + 200000 ≤ s.clk + dt) ∧
    (∃ (s : State) (o m : Fin 4), outMachine s o = some m ∧ s.safety.damperUp = true ∧ s.safety.releaseReq[m] = true
      ∧ s.safety.genA[m] = true ∧ s.safety.genB[m] = true ∧ sbcIn s m = false ∧ s.safety.sbcReq[m] = false ∧
      s.safety.outs[o].fault = false) ∧
    (∃ (s : State) (o m : Fin 4), outMachine s o = some m ∧ s.safety.damperUp = true ∧ s.safety.releaseReq[m] = true
      ∧ (s.safety.genA[m] = false ∨ s.safety.genB[m] = false)) ∧
    (∃ (s : State) (dt : Nat) (o : Fin 4) (at' fb : Nat), s.safety.outs[o].feedbackAt = some at' ∧ fb = v0 s false
      (0x6020 + o.val) 4 ∧ at' + 200000 * v0 s false (0x6020 + o.val) 5 ≤ s.clk + dt) :=
  ⟨⟨W.modSafety (fun x => { x with h0 := { x.h0 with inputs := x.h0.inputs.set 8 { filterA := some 0 } } }), 196 *
     inFilter W true 8 - 20, 0, true, false, 8, by decide +kernel, by decide +kernel, by decide +kernel⟩,
   ⟨W.modSafety (fun x => { x with h0 := { x.h0 with inputs := x.h0.inputs.set 0 { discAt := some 0 } } }), _,
     200000 * inDisc W true 0, true, 0, 0, by decide +kernel, by decide +kernel, by decide +kernel, rfl⟩,
   ⟨W, _, 0, 8, by decide +kernel, (fun _ h => nomatch h), rfl⟩,
   ⟨W.modSafety (fun x => { x with testHold := x.testHold.set 8 (some 2) }), 0, 8, by decide +kernel, (fun _ h =>
     nomatch h)⟩,
   ⟨W, _, 0, 3, false, true, by decide +kernel, by decide +kernel, rfl⟩,
   ⟨W, 0, true, false, by decide +kernel, by decide +kernel, Or.inl (by decide +kernel)⟩,
   ⟨granted, 0, 0, by decide +kernel⟩,
   ⟨W, 0, 3, by decide +kernel⟩,
   ⟨(starting enabling0).modSafety (fun x => { x with genReq := x.genReq.set 0 (some 0) }), 200000, 0, enabling0, 0,
     by decide +kernel, by decide +kernel, by decide +kernel, by decide +kernel, by decide +kernel⟩,
   ⟨outOn true, 3, 0, by decide +kernel, by decide +kernel, by decide +kernel, by decide +kernel, by decide +kernel,
     by decide +kernel, by decide +kernel, by decide +kernel⟩,
   ⟨outOn false, 3, 0, by decide +kernel, by decide +kernel, by decide +kernel, by decide +kernel⟩,
   ⟨waitingFb, 40000000, 0, 0, _, by decide +kernel, rfl, by decide +kernel⟩⟩

theorem witness_MotionMonitoring :
    (∃ (s : State) (dt : Nat) (h0 : Bool) (m : Fin 4) (x : Ss1), (safeView s h0).fns[m].ss1 = some x ∧ x.sbcAt =
      none ∧ x.startedAt + 200000 * vm s h0 m 0x6102 2 ≤ s.clk + dt) ∧
    (∃ (s : State) (dt : Nat) (h0 : Bool) (m : Fin 4) (x : Ss1) (at' : Nat), (safeView s h0).fns[m].ss1 = some x ∧
      x.sbcAt = some at' ∧ at' + 200000 * vm s h0 m 0x6101 3 ≤ s.clk + dt) ∧
    (∃ (s : State) (dt : Nat) (h0 : Bool) (m : Fin 4) (at' : Nat), (safeView s h0).fns[m].sosPos = none ∧ (safeView
      s h0).fns[m].sosAt = some at' ∧ at' + 200000 * vm s h0 m 0x6103 1 ≤ s.clk + dt) ∧
    (∃ (s : State) (dt : Nat) (h0 : Bool) (m j : Fin 4) (at' : Nat), (safeView s h0).fns[m].slsNext = some (j, at')
      ∧ at' + 200000 * vm s h0 m 0x6104 5 ≤ s.clk + dt) ∧
    (∃ (s u : State) (dt stable : Nat) (q : Fin 2) (a b up : Bool), s.safety.damperUp = true ∧ 5 * v0 s false
      (0x6030 + q.val) 3 ≤ stable ∧ (s.safety.ports[q].levelA ≠ a) ≠ (s.safety.ports[q].levelB ≠ b) ∧ up = (if
      s.safety.ports[q].levelA ≠ a then a != b else a == b) ∧ u = (advance s dt).modSafety (fun y =>
      { y with ports := vmod y.ports q (fun z => { z with levelA := a, levelB := b, pos := if up then z.pos + 1 else z.pos - 1, current := z.current + 1, positive := up }) })) ∧
    (∃ (s u : State) (dt stable : Nat) (q : Fin 2) (a b : Bool), s.safety.damperUp = true ∧ 5 * v0 s false (0x6030 +
      q.val) 3 ≤ stable ∧ s.safety.ports[q].levelA ≠ a ∧ s.safety.ports[q].levelB ≠ b ∧ u = (advance s dt).modSafety
      (fun y => { y with ports := vmod y.ports q (fun z => { z with levelA := a, levelB := b, fault := true }) })) ∧
    (∃ (s u : State) (dt : Nat) (q : Fin 2), s.safety.damperUp = true ∧ (∀ a, s.safety.ports[q].gateAt = some a → a
      + 200 * (125 * v0 s false (0x6030 + q.val) 4) ≤ s.clk + dt) ∧ u = (advance s dt).modSafety (fun y =>
      { y with ports := vmod y.ports q (fun z => { z with gates := Vector.ofFn (fun i : Fin 8 => if i.val = 0 then z.current else z.gates[finOf 8 (i.val - 1)]), current := 0, gateAt := some (s.clk + dt) }) })) ∧
    (∃ (s : State) (dt : Nat), h0Runs s = true ∧ (∀ a, s.safety.h0CheckAt = some a → a + 200000 ≤ s.clk + dt)) ∧
    (∃ (s u : State) (m : Fin 4) (q : Fin 2), spOf s true m = some q ∧ u = crossSpeed (motionChecks (speedChecks s
      true m) true m) q m) :=
  ⟨⟨withFn { ss1 := some ss10 }, 200000 * vm W false 0 0x6102 2, false, 0, ss10, by decide +kernel,
     by decide +kernel, by decide +kernel⟩,
   ⟨withFn { ss1 := some { ss10 with sbcAt := some 0 } }, 200000 * vm W false 0 0x6101 3, false, 0,
     { ss10 with sbcAt := some 0 }, 0, by decide +kernel, by decide +kernel, by decide +kernel⟩,
   ⟨withFn { sosAt := some 0 }, 200000 * vm W false 0 0x6103 1, false, 0, 0, by decide +kernel, by decide +kernel,
     by decide +kernel⟩,
   ⟨withFn { slsNext := some (3, 0) }, 200000 * vm W false 0 0x6104 5, false, 0, 3, 0, by decide +kernel,
     by decide +kernel⟩,
   ⟨W, _, 0, 100000, 1, true, false, _, by decide +kernel, by decide +kernel, by simp [W, State.reset], rfl, rfl⟩,
   ⟨W, _, 0, 100000, 1, true, true, by decide +kernel, by decide +kernel, by decide +kernel, by decide +kernel, rfl⟩,
   ⟨W, _, 0, 1, by decide +kernel, (fun _ h => nomatch h), rfl⟩,
   ⟨W, 0, by decide +kernel, (fun _ h => nomatch h)⟩,
   ⟨W.setPar 0 0 0x6030 1 0, _, 0, 0, by decide +kernel, rfl⟩⟩

theorem witness_SafetyConnections :
    (∃ (s : State) (dt tr : Nat) (l : List Byte) (rest : List (Nat × List Byte)) (u : State), s.safety.pduIn = (tr,
      l) :: rest ∧ u = (advance s dt).modSafety (fun x => { x with pduIn := rest })) ∧
    (∃ (s : State) (dt : Nat) (c : Fin 8) (pdu : List Byte), connOn s true c = true ∧ h0Runs s = true ∧
      s.safety.damperUp = true ∧ (∀ a, s.safety.links[c].sentAt = some a → a + 200000 * s.p0 (0x6040 + c.val) 7 ≤
      s.clk + dt ∨ (a + 200000 ≤ s.clk + dt ∧ statusPayload (advance s dt) true ≠ s.safety.links[c].sentBits)) ∧ pdu =
      statusPdu (advance s dt) true c (s.safety.links[c].seq + 1) ∧ statusPdu (advance s dt) false c
      (s.safety.links[c].seq + 1) = pdu) ∧
    (∃ (s : State) (dt : Nat) (c : Fin 8) (pdu : List Byte), connOn s true c = true ∧ h0Runs s = true ∧
      s.safety.damperUp = true ∧ (∀ a, s.safety.links[c].sentAt = some a → a + 200000 * s.p0 (0x6040 + c.val) 7 ≤
      s.clk + dt ∨ (a + 200000 ≤ s.clk + dt ∧ statusPayload (advance s dt) true ≠ s.safety.links[c].sentBits)) ∧ pdu =
      statusPdu (advance s dt) true c (s.safety.links[c].seq + 1) ∧ statusPdu (advance s dt) false c
      (s.safety.links[c].seq + 1) ≠ pdu) ∧
    (∃ (s : State) (h0 : Bool) (c : Fin 8) (seq : BitVec 16) (texp : BitVec 32) (body : List Byte), texp = (if
      timeMaster s h0 c then damperUsec s else (safeView s h0).conns[c].lastTexp) ∧ body = beBytes 2 (v0 s h0 (0x6040
      + c.val) 4) ++ beBytes 2 seq.toNat ++ beBytes 4 texp.toNat ++ statusPayload s h0) ∧
    (∃ (s : State) (dt : Nat) (h0 : Bool) (c : Fin 8) (at' : Nat), connOn s h0 c = true ∧ (safeView s
      h0).conns[c].lost = false ∧ (safeView s h0).conns[c].lastAt = some at' ∧ at' + 200000 * v0 s h0 (0x6040 + c.val)
      6 ≤ s.clk + dt) ∧
    (∃ (s u v w : State) (dt : Nat) (crc : BitVec 32) (bad : Bool), h0Runs s = true ∧ crc = safetyCrc (advance s dt)
      ∧ bad = decide (crc ≠ BitVec.ofNat 32 (s.p0 0x6000 1)) ∧ u = raiseIf bad ((advance s dt).modSafety (fun x =>
      { x with crcH0 := crc })) 222 0 ∧ v = raiseIf bad (u.modSafety (fun x =>
      { x with crcDamper := crc, loaded := true, cfgFault := bad, set := u.porter.params.filter (fun c => decide (0x6000 ≤ keyIdx c.1) && decide (keyIdx c.1 < 0x7000)) }))
      222 1 ∧ w = (if bad then needRestart v (fun _ => true) else v)) :=
  ⟨⟨(connected.modSafety (fun x => { x with pduIn := [(2, [0, 5])] })), 0, 2, [0, 5], [], _, by decide +kernel, rfl⟩,
   ⟨connected, 0, 0, _, by decide +kernel, by decide +kernel, by decide +kernel, (fun _ h => nomatch h), rfl,
     connected_agree⟩,
   ⟨parted, 0, 0, _, by decide +kernel, by decide +kernel, by decide +kernel, (fun _ h => nomatch h), rfl, (fun h =>
     absurd (congrArg (List.take 2) h) (by decide +kernel))⟩,
   ⟨W, true, 0, 0, _, _, rfl, rfl⟩,
   ⟨connected.modSafety (fun x => { x with h0 := { x.h0 with conns := x.h0.conns.set 0 { lastAt := some 0 } } }),
     200000 * v0 connected true 0x6040 6, true, 0, 0, by decide +kernel, by decide +kernel, by decide +kernel,
     by decide +kernel⟩,
   ⟨W, _, _, _, 0, _, _, by decide +kernel, rfl, rfl, rfl, rfl, rfl⟩⟩

theorem witness_StepAlwaysAnswers :
    (∃ (s : State), s.pending = []) ∧
    (∃ (c : Instr) (rest : List Instr) (s : State), s.pending = c :: rest) :=
  ⟨⟨W, by decide +kernel⟩,
   ⟨.ferRelease 0, [], { W with pending := [.ferRelease 0] }, by decide +kernel⟩⟩
theorem witness_RepliesLeave :
    (∃ (s : State) (t : State), Flushed s ∧ step s = .next t) :=
   ⟨State.reset, _, (fun _ h => nomatch h), rfl⟩
theorem witness_CommandAftermath :
    (∃ (s : State), Calm s ∧ Silent s) ∧
    (∃ (s : State), Calm s) :=
  ⟨⟨W, ⟨rfl, rfl⟩, ⟨rfl, by decide +kernel⟩⟩,
   ⟨W, ⟨rfl, rfl⟩⟩⟩
theorem witness_DiagnosticCounter :
    (∃ (w : Nat) (c : Counter), c.val + 1 < 2 ^ w) ∧
    (∃ (w : Nat) (c : Counter), c.val + 1 = 2 ^ w) :=
  ⟨⟨8, { val := 254 }, by decide +kernel⟩,
   ⟨8, { val := 255 }, by decide +kernel⟩⟩
theorem witness_TimeStamp :
    (∃ (s : State) (dt : Nat), s.tb.counting = true ∧ s.tb.stepDue = 0 ∧ 2 ^ 56 ≤ s.tb.now.toNat + dt) ∧
    (∃ (s : State) (dt : Nat), s.tb.wrapDue = false ∧ s.tb.stepDue = 0 ∧ s.tb.now.toNat + dt < 2 ^ 56) :=
  ⟨⟨W.modTb (fun t => { t with now := 0xFFFFFFFFFFFFFF }), 1, by decide +kernel, by decide +kernel, by decide +kernel⟩,
   ⟨W, 2 ^ 56 - 1, by decide +kernel, by decide +kernel, by decide +kernel⟩⟩
theorem witness_SteeringStep :
    (∃ (s : State), s.tb.steer ≠ 0 ∧ (∀ a : Nat, s.tb.stepAt = some a → a + 20000 ≤ s.clk) ∧ s.tb.stepDue = 0) ∧
    (∃ (s : State) (d : Nat), s.tb.steer ≠ 0 ∧ (∀ a : Nat, s.tb.stepAt = some a → a + 20000 ≤ s.clk) ∧ s.tb.stepDue = 0
      ∧ s.tb.counting = true ∧ s.tb.now.toNat + d + 3 < 2 ^ 56) ∧
    (∃ (s : State), s.tb.steer = 0) :=
  ⟨⟨{ (W.modTb (fun t => { t with steer := 1, stepAt := some 0 })) with clk := 20000 }, by decide +kernel,
     (by intro a h; cases h; decide), by decide +kernel⟩,
   ⟨W.modTb (fun t => { t with steer := -1 }), 2 ^ 56 - 4, by decide +kernel, (by intro a h; cases h),
     by decide +kernel, by decide +kernel, by decide +kernel⟩,
   ⟨W, by decide +kernel⟩⟩
theorem witness_StickyBits :
    (∃ (s : State), s.start.bootBegun = true) ∧
    (∃ (s : State) (src : Fin 256), s.start.bootBegun = true ∧ live s src.val = false) :=
  ⟨⟨W, by decide +kernel⟩,
   ⟨W, 255, by decide +kernel, by decide +kernel⟩⟩
theorem witness_RecordsStay :
    (∃ (s : State) (r : FaultRec), s.flue.fer = some r) ∧
    (∃ (s : State) (r : FaultRec) (f : FaultRec), s.flue.fer = some f ∧ s.flue.ner = some r) ∧
    (∃ (s : State) (r : FaultRec) (src : Nat), s.flue.fer = some r ∧ r.source.toNat = src) ∧
    (∃ (s : State) (r : FaultRec), s.flue.ner = some r ∧ s.flue.raisedAt ≠ s.clk) ∧
    (∃ (s : State) (r : FaultRec), s.flue.ner = some r ∧ latchedNow s r = true) ∧
    (∃ (s : State), s.flue.ner = none) :=
  ⟨⟨faulted, fault0, by decide +kernel⟩,
   ⟨W.modFlue (fun f => { f with fer := some fault0, ner := some fault0 }), fault0, fault0, by decide +kernel,
     by decide +kernel⟩,
   ⟨faulted, fault0, 45, by decide +kernel, by decide +kernel⟩,
   ⟨W.modFlue (fun f => { f with ner := some fault0, raisedAt := W.clk + 1 }), fault0, by decide +kernel,
       by decide +kernel⟩,
   ⟨W.modFlue (fun f => { f with ner := some fault0, raised := [(fault0, false)], raisedAt := W.clk }), fault0,
       by decide +kernel,
     by decide +kernel⟩,
   ⟨W, by decide +kernel⟩⟩
theorem witness_ReplayWindow :
    (∃ (x : Session) (q : BitVec 32), seqOk x q = true) ∧
    (∃ (x : Session) (q : BitVec 32) (r : BitVec 32), seqOk x q = true ∧ seqOk x r = false ∧ ((seqTake x q).seqHigh -
      r).toNat ≤ 2 ^ 31) ∧
    (∃ (x : Session) (q : BitVec 32) (r : BitVec 32), seqOk x q = true ∧ seqOk x r = true ∧ r ≠ q ∧ ((seqTake x
      q).seqHigh - r).toNat ≤ 32) :=
  ⟨⟨openS, 1, by decide +kernel⟩,
   ⟨openS, 33, 0, by decide +kernel, by decide +kernel, by decide +kernel⟩,
   ⟨{ openS with seqHigh := 32 }, 33, 1, by decide +kernel, by decide +kernel, by decide +kernel, by decide +kernel⟩⟩
theorem witness_PacketLayout :
    (∃ (r : Reply), r.data.length ≤ 1024) :=
   ⟨{ reply1 .hspi with data := List.replicate 1024 0 }, by decide +kernel⟩
theorem witness_JournalKeepsEntries :
    (∃ (s : State) (e : JournalItem) (rest : List JournalItem), Memory.wf s.mem = true ∧ s.journal.lostPending = 0 ∧
      s.journal.queue = e :: rest) :=
   ⟨noted, item0, [], by decide +kernel, by decide +kernel, by decide +kernel⟩
theorem witness_MemoryStaysCanonical :
    (∃ (s : State), Memory.wf s.mem = true) :=
   ⟨W.modMem (fun m => { m with sram := [⟨0, 1⟩, ⟨5, 255⟩] }), by decide +kernel⟩
end Sys2Proof.Tests
end

/-! Proofs about the counters and the timebase: diagnostic counters (00 R8), the time stamp (00 R4), and the
commands of the timebase (01 R23, R27). -/
namespace Sys2Proof.Machine

/-! ### Diagnostic counters -/

/-- Below its greatest value a counter counts, and no overflow event comes. -/
theorem ctrInc_of_lt {w : Nat} {c : Counter} (h : c.val + 1 < 2 ^ w) : ctrInc w c = ({ c with val := c.val + 1 }, false) :=
  if_pos h

/-- At its greatest value a counter stays and sets OVF; the event tells whether OVF was clear before. -/
theorem ctrInc_of_le {w : Nat} {c : Counter} (h : 2 ^ w ≤ c.val + 1) : ctrInc w c = ({ c with ovf := true }, !c.ovf) :=
  if_neg (Nat.not_lt.2 h)

theorem ctrClr_val (c : Counter) (b : Bool) : (ctrClr c b).val = c.val := by
  cases b <;> rfl

theorem ctrClr_ovf (c : Counter) (b : Bool) : (ctrClr c b).ovf = (c.ovf && !b) := by
  cases b <;> simp [ctrClr]

/-- A counter after `n` increments from its reset value. -/
theorem repeat_ctrInc (w n : Nat) : Nat.repeat (fun c : Counter => (ctrInc w c).1) n {} =
    { val := Nat.min n (2 ^ w - 1), ovf := decide (2 ^ w ≤ n) } := by
  have hpos : 0 < 2 ^ w := Nat.two_pow_pos w
  induction n with
  | zero => simp [Nat.repeat]
  | succ n ih =>
    rw [Nat.repeat, ih]
    by_cases h : n + 1 < 2 ^ w
    · have hmin : Nat.min n (2 ^ w - 1) = n := Nat.min_eq_left (by omega)
      have hmin' : Nat.min (n + 1) (2 ^ w - 1) = n + 1 := Nat.min_eq_left (by omega)
      have hn : ¬ 2 ^ w ≤ n := by omega
      rw [hmin, hmin', ctrInc_of_lt h, decide_eq_false hn, decide_eq_false (Nat.not_le.2 h)]
    · have hmin : Nat.min n (2 ^ w - 1) = 2 ^ w - 1 := Nat.min_eq_right (by omega)
      have hmin' : Nat.min (n + 1) (2 ^ w - 1) = 2 ^ w - 1 := Nat.min_eq_right (by omega)
      have hlast : 2 ^ w ≤ 2 ^ w - 1 + 1 := by omega
      rw [hmin, hmin', ctrInc_of_le hlast, decide_eq_true (Nat.not_lt.1 h)]

/-! ### The time stamp -/

/-- Without a steering step due, the stamp counts every tick. -/
theorem Timebase.count_now {t : Timebase} (h : t.stepDue = 0) (clk dt : Nat) :
    (t.count clk dt).now = BitVec.ofNat 56 (t.now.toNat + dt) := by
  simp only [Timebase.count, h, ite_self, Int.sub_zero, Int.toNat_natCast]

/-- Without a steering step due, the wrap is recorded when the stamp passes its greatest value. -/
theorem Timebase.count_wrapDue {t : Timebase} (h : t.stepDue = 0) (clk dt : Nat) :
    (t.count clk dt).wrapDue = (t.wrapDue || decide (2 ^ 56 ≤ t.now.toNat + dt)) := by
  simp only [Timebase.count, h, ite_self, Int.sub_zero, Int.toNat_natCast]

/-- While the count runs, time passes for the whole timebase. -/
theorem advance_tb_of_counting {s : State} (h : s.tb.counting = true) (dt : Nat) :
    (advance s dt).tb = s.tb.count (s.clk + dt) dt :=
  if_pos h

/-- While the count stands, the timebase stays. -/
theorem advance_tb_of_not_counting {s : State} (h : ¬ s.tb.counting = true) (dt : Nat) : (advance s dt).tb = s.tb :=
  if_neg h

theorem advance_wrapDue_of_pass {s : State} {dt : Nat} (hc : s.tb.counting = true) (hd : s.tb.stepDue = 0)
    (h : 2 ^ 56 ≤ s.tb.now.toNat + dt) : (advance s dt).tb.wrapDue = true := by
  rw [advance_tb_of_counting hc, Timebase.count_wrapDue hd, decide_eq_true h, Bool.or_true]

theorem advance_wrapDue_of_lt {s : State} {dt : Nat} (hw : s.tb.wrapDue = false) (hd : s.tb.stepDue = 0)
    (h : s.tb.now.toNat + dt < 2 ^ 56) : (advance s dt).tb.wrapDue = false := by
  by_cases hc : s.tb.counting = true
  · rw [advance_tb_of_counting hc, Timebase.count_wrapDue hd, hw, decide_eq_false (Nat.not_le.2 h), Bool.or_false]
  · rw [advance_tb_of_not_counting hc, hw]

/-- TIMEBASE_WRAP raises 2.15 for a wrap that is recorded, and takes the record away. -/
theorem exec_timebaseWrap_of_due {s : State} {dt : Nat} (h : (advance s dt).tb.wrapDue = true) :
    exec (.timebaseWrap dt) s =
      .next (settled (raise ((advance s dt).modTb (fun t => { t with wrapDue := false })) 47 0)) := by
  simp only [exec_timebaseWrap, execTimebaseWrap, done, h, if_true]

/-- TIMEBASE_WRAP without a recorded wrap lets the time pass. -/
theorem exec_timebaseWrap_of_not_due {s : State} {dt : Nat} (h : (advance s dt).tb.wrapDue = false) :
    exec (.timebaseWrap dt) s = .next (settled (advance s dt)) := by
  simp only [exec_timebaseWrap, execTimebaseWrap, done, h, Bool.false_eq_true, if_false]

/-! ### The rails (01 R23) -/

/-- The nine rails written out are all of them. -/
theorem any_nine {p : Fin 9 → Prop} [DecidablePred p] [Decidable (∃ k, p k)] :
    ([0, 1, 2, 3, 4, 5, 6, 7, 8] : List (Fin 9)).any (fun k => decide (p k)) = decide (∃ k, p k) := by
  have hall : ([0, 1, 2, 3, 4, 5, 6, 7, 8] : List (Fin 9)) = List.finRange 9 := rfl
  rw [hall, Bool.eq_iff_iff]
  simp

/-- 2.13 is raised when the envelope has just been left. -/
theorem envelopeCheck_of_left {s : State} (hr : s.tb.railSeen = true) (ho : envelopeOut s = true)
    (he : s.tb.envelope = false) :
    envelopeCheck s = raise (s.modTb (fun t => { t with envelope := true })) 45 0 := by
  simp [envelopeCheck, raiseIf, hr, ho, he]

/-- Inside the envelope, or outside it as before, only what ENVELOPE shows is brought up to date. -/
theorem envelopeCheck_of_not_left {s : State} (hr : s.tb.railSeen = true)
    (h : envelopeOut s = false ∨ s.tb.envelope = true) :
    envelopeCheck s = s.modTb (fun t => { t with envelope := envelopeOut s }) := by
  have hno : (envelopeOut s && !s.tb.envelope) = false := by
    rcases h with ho | he
    · rw [ho, Bool.false_and]
    · rw [he, Bool.not_true, Bool.and_false]
  simp [envelopeCheck, raiseIf, hr, hno]

/-- RAIL_REPORT with the PLL locked compares the recorded rails with the envelope and moves the fixed ones on. -/
theorem exec_railReport_of_lock {s u : State} {dt : Nat} {mv : Vector Nat 9} (hl : s.tb.pllLock = true)
    (hu : u = (advance s dt).modTb (fun t => { t with
      railMv := mv, railSeen := true, railFast := s.tb.railSeen && decide (∃ k : Fin 9,
        10 < ((mv[k] : Int) - s.tb.railMv[k]).natAbs) })) :
    exec (.railReport dt mv) s = .next (settled (fixedRails (envelopeCheck u))) := by
  subst hu
  rw [← any_nine]
  simp [execRailReport, done, hl]

/-! ### The reference (01 R27) -/

/-- TIMEBASE_REFERENCE_LOSS starts the 100 µs and raises 2.14. -/
theorem exec_timebaseReferenceLoss_of_present {s : State} (dt : Nat) (hr : s.tb.ref = .present)
    (hl : s.tb.pllLock = true) :
    exec (.timebaseReferenceLoss dt) s = .next (settled (raise ((advance s dt).modTb (fun t => { t with
      ref := .missing (s.clk + dt), refOk := false, lossMasked := t.lossMasked || !sticky s 46 })) 46 0)) := by
  simp [execTimebaseReferenceLoss, done, hr, hl]

/-- REFERENCE_HOLDOVER_EXPIRY after 100 µs without the reference stops the TFUs and applies the mask still owed. -/
theorem exec_referenceHoldoverExpiry_of_elapsed {s u : State} {dt since : Nat} (hr : s.tb.ref = .missing since)
    (he : since + 20000 ≤ s.clk + dt)
    (hu : u = forAll four (fun m s => stopTfu (if s.en m then noteSource s m 46 0 else s) m)
      ((advance s dt).modTb (fun t => { t with ref := .holdover, lossMasked := false }))) :
    exec (.referenceHoldoverExpiry dt) s = .next (settled (if s.tb.lossMasked then applyMask u 46 else u)) := by
  rw [hu]
  have hdue : elapsed (advance s dt) since (usTicks 100) = true := decide_eq_true he
  simp only [exec_referenceHoldoverExpiry, execReferenceHoldoverExpiry, done, advance_tb, hr, hdue, if_true]

end Sys2Proof.Machine

namespace Sys2Proof.Proofs
open Sys2Proof.Machine

/-- Settles O51: the cases of one increment, and an induction over the number of increments. -/
theorem diagnosticCounter : Obligations.DiagnosticCounter := by
  unfold Obligations.DiagnosticCounter
  intro w
  exact ⟨fun _ h => ctrInc_of_lt h, fun _ h => ctrInc_of_le (Nat.le_of_eq h.symm),
    fun c b => ⟨ctrClr_val c b, ctrClr_ovf c b⟩, repeat_ctrInc w⟩

/-- Settles O1, command by command. -/
theorem timebaseCommands : Obligations.TimebaseCommands := by
  unfold Obligations.TimebaseCommands
  intro s
  refine ⟨?wrapDue, ?noWrap, ?envelopeLeft, ?envelopeSame, ?loss, ?holdover, ?back⟩
  case wrapDue => exact fun dt h => exec_timebaseWrap_of_due h
  case noWrap => exact fun dt h => exec_timebaseWrap_of_not_due h
  case envelopeLeft =>
    intro u dt mv hl hu ho he
    have hseen : u.tb.railSeen = true := by rw [hu]; rfl
    have hwas : u.tb.envelope = false := by rw [hu]; simp [he]
    rw [exec_railReport_of_lock hl hu, envelopeCheck_of_left hseen ho hwas]
  case envelopeSame =>
    intro u dt mv hl hu h
    have hseen : u.tb.railSeen = true := by rw [hu]; rfl
    have hwas : u.tb.envelope = s.tb.envelope := by rw [hu]; simp
    rw [exec_railReport_of_lock hl hu, envelopeCheck_of_not_left hseen (by rwa [hwas])]
  case loss => exact fun dt hr hl => exec_timebaseReferenceLoss_of_present dt hr hl
  case holdover => exact fun u dt since hr he hu => exec_referenceHoldoverExpiry_of_elapsed hr he hu
  case back => exact fun dt => exec_referenceReturn dt s

/-- Settles O52: the count without a steering step, and what TIMEBASE_WRAP makes of the recorded wrap. -/
theorem timeStamp : Obligations.TimeStamp := by
  unfold Obligations.TimeStamp
  refine ⟨?counts, ?wraps, ?noWrap⟩
  case counts =>
    intro s dt hc hd
    rw [advance_tb_of_counting hc, Timebase.count_now hd, BitVec.toNat_ofNat]
  case wraps => exact fun s dt hc hd h => exec_timebaseWrap_of_due (advance_wrapDue_of_pass hc hd h)
  case noWrap => exact fun s dt hw hd h => exec_timebaseWrap_of_not_due (advance_wrapDue_of_lt hw hd h)

end Sys2Proof.Proofs

/-! Proofs about the grid of the machines: the steering steps of the timebase (01 R26), strobes, boundaries, decisions
and frames (01 R24 to R43), the limits of starting (07 R189 to R205), and the profile channels and latch inputs (09 R242
to R252, 04 R119, R120). -/
namespace Sys2Proof.Machine
open Sys2Proof.Safety

/-! ### A steering step (01 R26, 20 R534) -/

/-- From the second tick after a steering step on, the count makes the step up. -/
theorem Timebase.count_of_due {t : Timebase} {clk : Nat} (h : t.stepAt.getD 0 + 2 ≤ clk) (dt : Nat) :
    t.count clk dt = { t with
      now := BitVec.ofNat 56 (((t.now.toNat + dt : Nat) : Int) - t.stepDue).toNat
      wrapDue := t.wrapDue || decide (2 ^ 56 ≤ (((t.now.toNat + dt : Nat) : Int) - t.stepDue).toNat)
      stepDue := 0 } := by
  simp only [Timebase.count, decide_eq_true h, if_true]

/-- Before it, and below its greatest value, the stamp alone changes. -/
theorem Timebase.count_of_not_due {t : Timebase} {clk dt : Nat} (h : clk < t.stepAt.getD 0 + 2)
    (hw : t.now.toNat + dt < 2 ^ 56) : t.count clk dt = { t with now := BitVec.ofNat 56 (t.now.toNat + dt) } := by
  simp only [Timebase.count, decide_eq_false (Nat.not_le.2 h), Bool.false_eq_true, if_false, Int.sub_zero,
    Int.toNat_natCast, decide_eq_false (Nat.not_le.2 hw), Bool.or_false]

/-- Time may pass in two parts of which the first ends before the step is made up. -/
theorem Timebase.count_count {t : Timebase} {clk d : Nat} (h : t.stepAt.getD 0 = clk) (hw : t.now.toNat + 1 < 2 ^ 56) :
    (t.count (clk + 1) 1).count (clk + 1 + (d + 1)) (d + 1) = t.count (clk + (d + 2)) (d + 2) := by
  have hsum : t.now.toNat + 1 + (d + 1) = t.now.toNat + (d + 2) := by omega
  have hnow : (BitVec.ofNat 56 (t.now.toNat + 1)).toNat = t.now.toNat + 1 := by
    rw [BitVec.toNat_ofNat, Nat.mod_eq_of_lt hw]
  rw [Timebase.count_of_not_due (by omega) hw, Timebase.count_of_due (by simp only [h]; omega),
    Timebase.count_of_due (by omega)]
  simp only [hnow, hsum]

/-- A steering step is made with steering left and 100 µs since the last one. -/
theorem steerStep_of_due {s : State} (h : s.tb.steer ≠ 0) (hs : ∀ a : Nat, s.tb.stepAt = some a → a + 20000 ≤ s.clk) :
    steerStep s = s.modTb (fun t => { t with
      stepped := true, stepAt := some s.clk, steer := t.steer - t.steer.sign, stepDue := t.stepDue + t.steer.sign }) := by
  refine if_pos ⟨h, ?_⟩
  cases hat : s.tb.stepAt with
  | none => rfl
  | some a => exact decide_eq_true (hs a hat)

/-- Without steering left no step is made. -/
theorem steerStep_of_zero {s : State} (h : s.tb.steer = 0) :
    steerStep s = s.modTb (fun t => { t with stepped := false }) :=
  if_neg (fun hn => hn.1 h)

/-- A step takes one tick off the steering that is left. -/
theorem natAbs_sub_sign {x : Int} (h : x ≠ 0) : (x - x.sign).natAbs + 1 = x.natAbs := by
  rcases Int.lt_or_gt_of_ne h with hn | hp
  · rw [Int.sign_eq_neg_one_of_neg hn]; omega
  · rw [Int.sign_eq_one_of_pos hp]; omega

/-- The stamp once a step of at most one tick has been made up. -/
theorem Timebase.count_now_of_due {t : Timebase} {clk dt : Nat} (h : t.stepAt.getD 0 + 2 ≤ clk) (hd : 1 ≤ dt)
    (hs : t.stepDue.natAbs ≤ 1) (hw : t.now.toNat + dt + 1 < 2 ^ 56) :
    ((t.count clk dt).now.toNat : Int) = t.now.toNat + dt - t.stepDue := by
  have hlt : (((t.now.toNat + dt : Nat) : Int) - t.stepDue).toNat < 2 ^ 56 := by omega
  rw [Timebase.count_of_due h, BitVec.toNat_ofNat, Nat.mod_eq_of_lt hlt]
  omega

/-! ### Readings of the starts and the pairs that time leaves alone -/

@[simp] theorem startPar_advance (s : State) (dt : Nat) (m : Fin 4) (i j : Nat) :
    startPar (advance s dt) m i j = startPar s m i j := rfl
@[simp] theorem isPair_advance (s : State) (dt : Nat) (m : Fin 4) : isPair (advance s dt) m = isPair s m := rfl
@[simp] theorem setLost_advance (s : State) (dt : Nat) (m : Fin 4) : setLost (advance s dt) m = setLost s m := rfl

/-! ### The limits of starting (07 R189 to R205) -/

/-- CATCH_REPEAT runs the catch again 100 ms after one that found nothing. -/
theorem exec_catchRepeat_of_elapsed {s : State} {dt : Nat} {m : Fin 4} {c : CatchState}
    (hc : s.startM[m].catchSt = some c) (hst : s.startM[m].state = .catch') (hp : c.phase = 4)
    (ht : c.startedAt + 20000000 ≤ s.clk + dt) :
    exec (.catchRepeat dt m) s = .next (settled (beginCatch (advance s dt) m c.enabledAt)) := by
  have ht' : elapsed (advance s dt) c.startedAt (msTicks 100) = true := decide_eq_true ht
  simp only [exec_catchRepeat, execCatchRepeat, done, advance_fields, hc, hst, hp, ht', and_self, if_true]

/-- CATCH_TIMEOUT fails the start with cause 4. -/
theorem exec_catchTimeout_of_elapsed {s : State} {dt : Nat} {m : Fin 4} {c : CatchState}
    (hc : s.startM[m].catchSt = some c) (hst : s.startM[m].state = .catch')
    (ht : c.enabledAt + 200000 * (100 * startPar s m 0x2503 6) ≤ s.clk + dt) :
    exec (.catchTimeout dt m) s = .next (settled (startFails (advance s dt) m 4)) := by
  have ht' : elapsed (advance s dt) c.enabledAt (msTicks (100 * startPar s m 0x2503 6)) = true := decide_eq_true ht
  simp only [exec_catchTimeout, execCatchTimeout, done, advance_fields, startPar_advance, hc, hst, ht', and_self, if_true]

/-- MAGNETISE_TIMEOUT fails the start with cause 5. -/
theorem exec_magnetiseTimeout_of_elapsed {s : State} {dt : Nat} {m : Fin 4} (hst : s.startM[m].state = .magnetise)
    (ht : s.startM[m].magnetiseAt + 200000 * (4 * startPar s m 0x2504 2) ≤ s.clk + dt) :
    exec (.magnetiseTimeout dt m) s = .next (settled (startFails (advance s dt) m 5)) := by
  have ht' : elapsed (advance s dt) s.startM[m].magnetiseAt (msTicks (4 * startPar s m 0x2504 2)) = true :=
    decide_eq_true ht
  simp only [exec_magnetiseTimeout, execMagnetiseTimeout, done, advance_fields, startPar_advance, hst, ht', and_self, if_true]

/-- OPEN_TIMEOUT loses the rotor of a machine that had reached RUN, and fails any other start with cause 6. -/
theorem exec_openTimeout_of_elapsed {s : State} {dt : Nat} {m : Fin 4} (hst : s.startM[m].state = .openLoop)
    (ht : s.startM[m].openAt + 200000 * startPar s m 0x2505 10 ≤ s.clk + dt) :
    exec (.openTimeout dt m) s = .next (settled
      (if s.startM[m].reachedRun then lostRotor (advance s dt) m 2 else startFails (advance s dt) m 6)) := by
  have ht' : elapsed (advance s dt) s.startM[m].openAt (msTicks (startPar s m 0x2505 10)) = true := decide_eq_true ht
  simp only [exec_openTimeout, execOpenTimeout, done, advance_fields, startPar_advance, hst, ht', and_self, if_true]

/-- BANK_HOLD_EXPIRY loses the rotor of a machine that is banked and not being reacquired. -/
theorem exec_bankHoldExpiry_of_elapsed {s : State} {dt : Nat} {m : Fin 4} (hst : s.startM[m].state = .banked)
    (hr : s.startM[m].reacquiring = false) (ht : s.startM[m].bankedAt + 200000 * s.pm m 0x2506 1 ≤ s.clk + dt) :
    exec (.bankHoldExpiry dt m) s = .next (settled (lostRotor (advance s dt) m 0)) := by
  have ht' : elapsed (advance s dt) s.startM[m].bankedAt (msTicks (s.pm m 0x2506 1)) = true := decide_eq_true ht
  simp only [exec_bankHoldExpiry, execBankHoldExpiry, done, advance_fields, advance_reads, hst, hr, ht', and_self, if_true]

/-! ### TFU_DECISION (05 R140, 01 R28, R30, R40) -/

section
variable {s : State} {dt : Nat} {m : Fin 4} {w : StrobeWords} {rest : List StrobeWords}

/-- On the second channel of a pair the frames that stand ready in time are marked (log 34). -/
theorem exec_tfuDecision_of_second (h : s.isSecond m = true) :
    exec (.tfuDecision dt m) s = .next (settled ((advance s dt).modTb (fun b => { b with
      waiting9 := vmod b.waiting9 m (fun l => l.map (fun w =>
        if s.tfu[m].ready.any (fun r => w.at' == r.strobe && decide (s.clk + dt ≤ r.strobe + 120))
            then { w with ready := true } else w)) }))) := by
  simp only [exec_tfuDecision, execTfuDecision, done, advance_reads, advance_fields, h, if_true]

/-- A machine on its own channel decides on the oldest words. -/
theorem exec_tfuDecision_of_single (h2 : s.isSecond m = false) (hp : isPair s m = false)
    (hi : s.tfu[m].inputs = w :: rest) (hen : s.en m = true) (hst : s.tfu[m].stopped = false)
    (ht : w.at' ≤ s.clk + dt) :
    exec (.tfuDecision dt m) s = .next (settled
      (decision ((advance s dt).modTfu m (fun t => { t with inputs := rest })) m w none)) := by
  simp [-Fin.getElem_fin, execTfuDecision, done, h2, hp, hi, hen, hst, Nat.not_lt.2 ht]

/-- A pair decides on the oldest words with those of the second channel for the same strobe; what that channel holds of
earlier strobes goes. -/
theorem exec_tfuDecision_of_match {y : StrobeWords} (h2 : s.isSecond m = false) (hp : isPair s m = true)
    (hi : s.tfu[m].inputs = w :: rest) (hen : s.en m = true) (hst : s.tfu[m].stopped = false)
    (ht : w.at' ≤ s.clk + dt) (hy : s.tfu[second m].inputs.find? (fun z => z.at' == w.at') = some y) :
    exec (.tfuDecision dt m) s = .next (settled (decision (((advance s dt).modTfu (second m) (fun t => { t with
      inputs := t.inputs.filter (fun z => decide (w.at' < z.at')) })).modTfu m (fun t =>
          { t with inputs := rest })) m w (some y))) := by
  simp [-Fin.getElem_fin, execTfuDecision, done, h2, hp, hi, hen, hst, Nat.not_lt.2 ht, hy]

/-- Without words of the second channel for the strobe, a pair decides alone where a set is lost, and else waits. -/
theorem exec_tfuDecision_of_no_match (h2 : s.isSecond m = false) (hp : isPair s m = true)
    (hi : s.tfu[m].inputs = w :: rest) (hen : s.en m = true) (hst : s.tfu[m].stopped = false)
    (ht : w.at' ≤ s.clk + dt) (hy : s.tfu[second m].inputs.find? (fun z => z.at' == w.at') = none) :
    exec (.tfuDecision dt m) s = .next (settled (if setLost s m then
      decision ((advance s dt).modTfu m (fun t => { t with inputs := rest })) m w none else advance s dt)) := by
  cases hl : setLost s m <;>
    simp [-Fin.getElem_fin, execTfuDecision, done, h2, hp, hi, hen, hst, Nat.not_lt.2 ht, hy, hl]

end

/-! ### DECISION_STROBE (01 R24, R28, R30) -/

/-- Before the boot ROM a strobe is numbered and waits for its step 9, and nothing more. -/
theorem exec_decisionStrobe_of_not_runs {s : State} {dt : Nat} {m : Fin 4} (iu iv idc vdc vlow : BitVec 58)
    (br : Vector (BitVec 58 × BitVec 58) 3) (hd : strobeDue (advance s dt) m = true) (hr : s.runs = false) :
    exec (.decisionStrobe dt m iu iv idc vdc vlow br) s = .next (settled ((advance s dt).modTb (fun b => { b with
      strobes := vmod b.strobes m (· + 1), lastStrobe := vmod b.lastStrobe m (fun _ => some (s.clk + dt)),
      waiting9 := vmod b.waiting9 m (fun l => l.drop (l.length - 2) ++
        [{ at' := s.clk + dt, k := b.strobes[m] + 1, ready := false, live := false }]) }))) := by
  have hr' : ∀ f, ((advance s dt).modTb f).runs = false := fun _ => hr
  simp [execDecisionStrobe, done, hd, hr', markStrobe]

/-- After it the channels latch their words, and the strobe is taken and marked before the checks and the trace. -/
theorem exec_decisionStrobe_of_runs {s x : State} {dt : Nat} {m : Fin 4} {iu iv idc vdc vlow : BitVec 58}
    {br : Vector (BitVec 58 × BitVec 58) 3} (hd : strobeDue (advance s dt) m = true) (hr : s.runs = true)
    (hx : x = portStrobe (latchStrobe ((advance s dt).modTb (fun b => { b with strobes := vmod b.strobes m (· + 1) })) m
      iu iv idc vdc br) m) :
    exec (.decisionStrobe dt m iu iv idc vdc vlow br) s = .next (settled (traceAt (calStrobe (dcStrobe
      (markStrobe (takeStrobe x m (strobeWords x m vlow) (tfuLive x m)) m (tfuLive x m)) m (strobeWords x m vlow).vdc)
      m (strobeWords x m vlow)) m true)) := by
  have hr' : ∀ f, ((advance s dt).modTb f).runs = true := fun _ => hr
  simp only [exec_decisionStrobe, execDecisionStrobe, done, hd, hr', ← hx, Bool.not_true, Bool.false_eq_true, if_false]

/-! ### SAMPLE_BOUNDARY (01 R24, R32, R33) -/

/-- What every single change leaves alone, the changes for a whole list leave alone. -/
theorem forAll_keeps {ι α : Type} {l : List ι} {f : ι → State → State} (read : State → α)
    (h : ∀ i s, read (f i s) = read s) (s : State) : read (forAll l f s) = read s := by
  induction l generalizing s with
  | nil => rfl
  | cons i l ih => exact (ih (f i s)).trans (h i s)

/-- The fine words of a boundary, and its number. -/
def takeFine (s : State) (m : Fin 4) (fine : Vector (BitVec 766) 4) : State :=
  (forAll four (fun c s => s.modChan m c (fun x => { x with
    fine := fineWord fine[c], fineAge := 3825 + latchAge s m c })) s).modTb (fun b => { b with
      lastBoundary := vmod b.lastBoundary m (fun _ => some s.clk), boundaries := vmod b.boundaries m (· + 1) })

/-- The work of a boundary once the words are in: commit, ports, TFU, brakes, shares, Stoves, trace. -/
def boundaryWork (s : State) (m : Fin 4) : State :=
  traceAt (forAll four (fun k s => ceilingDrop s k)
    (forAll four (fun k s => if commitMachine s k = m then stoveBoundary s k else s)
      (shareBoundary (stillBoundary (brakeEnergy (renderCheck (releaseCheck (zeroCheck (tfuBoundary
          (portsBoundary (beginRun
        (factorCommit (portCalCommit (calCommit (commitGroups (takeStops (standbyStart s m) m) (.machine m)) m)
            m) m)
        m) m) m) m) m) m) m) m) m))) m false

/-- A boundary that is due takes its words, makes the steering step if it is one of M0, and does its work. -/
theorem exec_sampleBoundary_of_due {s : State} {dt : Nat} {m : Fin 4} (fine : Vector (BitVec 766) 4)
    (hr : s.runs = true) (hst : s.tb.lastStrobe[m] = some (s.clk + dt))
    (hn : ((advance s dt).tb.now.toNat - s.phi m) / s.D m % s.N m = 0)
    (hb : s.tb.lastBoundary[m] ≠ some (s.clk + dt)) :
    exec (.sampleBoundary dt m fine) s = .next (settled (boundaryWork
      (if m = 0 then steerStep (takeFine (advance s dt) m fine) else takeFine (advance s dt) m fine) m)) := by
  have hclk : ∀ u : State, (forAll four (fun c s => s.modChan m c (fun x => { x with
      fine := fineWord fine[c], fineAge := 3825 + latchAge s m c })) u).clk = u.clk :=
    forAll_keeps State.clk (fun _ _ => rfl)
  simp only [exec_sampleBoundary, execSampleBoundary, done, advance_reads, advance_tb, advance_fields, hr, hst, hn, hb,
    hclk, ne_eq, not_false_eq_true, and_self, if_true, takeFine, boundaryWork]

/-! ### What keeps the parameters, and with them the pairs -/

/-- The parameters under a change for every index of a list. -/
theorem forAll_params {ι : Type} {l : List ι} {f : ι → State → State}
    (h : ∀ i s, (f i s).porter.params = s.porter.params) (s : State) :
    (forAll l f s).porter.params = s.porter.params :=
  forAll_keeps (fun s => s.porter.params) h s

@[simp] theorem clearCeiling_params (s : State) (m : Fin 4) : (clearCeiling s m).porter.params = s.porter.params := by
  simp [clearCeiling, journalMachine]

@[simp] theorem failStart_params (s : State) (m : Fin 4) (src : Option (Nat × Nat)) :
    (failStart s m src).porter.params = s.porter.params := by
  cases src <;> simp [failStart, endEnable]

@[simp] theorem chanFaultStop_params (s : State) (m : Fin 4) :
    (chanFaultStop s m).porter.params = s.porter.params := by
  refine forAll_params (fun i s => ?_) s
  split
  · rfl
  · split <;> simp

theorem ite_modCal_params (b : Prop) [Decidable b] (s : State) (f : Cal → Cal) :
    (if b then s else s.modCal f).porter.params = s.porter.params := by
  split <;> rfl

@[simp] theorem disableMachine_params (s : State) (m : Fin 4) :
    (disableMachine s m).porter.params = s.porter.params := by
  refine (ite_modCal_params _ _ _).trans ((forAll_params (fun i s => ?_) _).trans ?_)
  · dsimp only
    split
    · rfl
    · split <;> rfl
  · cases s.tfu[m].ceiling <;> simp [setRun]

@[simp] theorem reachStopped_params (s : State) (m : Fin 4) (quick : Bool) :
    (reachStopped s m quick).porter.params = s.porter.params := by
  cases quick <;> simp [reachStopped, journalMachine, setRun]

@[simp] theorem requestSbc_params (s : State) (m : Fin 4) : (requestSbc s m).porter.params = s.porter.params := rfl

@[simp] theorem noTorque_params (s : State) (m : Fin 4) : (noTorque s m).porter.params = s.porter.params := by
  unfold noTorque
  dsimp only
  split
  · rfl
  generalize hu : failStart s m _ = u
  have hparams : u.porter.params = s.porter.params := by rw [← hu, failStart_params]
  rw [← hparams]
  split
  · split
    · rfl
    · split <;> simp [setRun]
  · simp

@[simp] theorem stopTfu_params (s : State) (m : Fin 4) : (stopTfu s m).porter.params = s.porter.params := by
  unfold stopTfu
  split
  · rfl
  · exact noTorque_params _ m

@[simp] theorem countFrameMiss_params (s : State) (m : Fin 4) :
    (countFrameMiss s m).porter.params = s.porter.params := by
  simp [countFrameMiss, noteSource]

/-- Judging a pair, the stop of its TFU included, leaves the parameters alone. -/
@[simp] theorem pairJudge_params (s : State) (n : Fin 4) (strobe : Nat) :
    (pairJudge s n strobe).porter.params = s.porter.params := by
  have hcount : ∀ (l : List (Fin 4)) (u : State),
      (forAll l (fun m s => countFrameMiss s m) u).porter.params = u.porter.params :=
    fun _ => forAll_params (fun m s => countFrameMiss_params s m)
  have hraise : ∀ (l : List (Fin 4)) (u : State),
      (forAll l (fun m s => raise s (36 + m.val) 0) u).porter.params = u.porter.params :=
    fun _ => forAll_params (fun m s => by simp)
  unfold pairJudge
  dsimp only
  split
  · rfl
  split
  · rfl
  split <;> simp [setRunTfu, hcount, hraise]

/-! ### What is read of the parameters alone -/

theorem pm_of_params {s t : State} (h : t.porter.params = s.porter.params) (m : Fin 4) (i j : Nat) :
    t.pm m i j = s.pm m i j := by
  simp only [State.pm, State.par, h]

theorem isPair_of_params {s t : State} (h : t.porter.params = s.porter.params) (m : Fin 4) :
    isPair t m = isPair s m := by
  simp only [isPair, topo, pm_of_params h]

theorem lead_of_params {s t : State} (h : t.porter.params = s.porter.params) (m : Fin 4) : lead t m = lead s m := by
  have h2 : t.isSecond m = s.isSecond m := by simp only [State.isSecond, pm_of_params h]
  rw [lead, lead, h2]

/-! ### FRAME_LAUNCH (01 R28, R38 to R41) -/

@[simp] theorem lead_advance (s : State) (dt : Nat) (m : Fin 4) : lead (advance s dt) m = lead s m := rfl
@[simp] theorem bridgeOwner_advance (s : State) (dt : Nat) (m : Fin 4) :
    bridgeOwner (advance s dt) m = bridgeOwner s m := rfl
@[simp] theorem sendsOff_advance (s : State) (dt : Nat) (m : Fin 4) (w : Waiting9) :
    sendsOff (advance s dt) m w = sendsOff s m w := rfl

/-- Every frame is an all-off frame for one of five reasons. -/
theorem sendsOff_iff (s : State) (m : Fin 4) (w : Waiting9) : sendsOff s m w = true ↔
    s.tfu[lead s m].allOff = true ∨ s.tfu[lead s m].stopped = true ∨ s.gl[m].shutdown = true ∨ onLostSet s m = true ∨
      w.live = false := by
  simp only [sendsOff, Bool.or_eq_true, Bool.not_eq_true', or_assoc]

/-- A strobe that waits no more leaves the parameters alone. -/
theorem dropStrobe_params (s : State) (m : Fin 4) (w : Waiting9) (r : List Waiting9) :
    (dropStrobe s m w r).porter.params = s.porter.params := rfl

/-- Without a frame that is ready, the answer to the miss. -/
theorem sendReady_of_late {s : State} {m : Fin 4} {w : Waiting9} {L : Nat} {frame : Option ReadyFrame}
    {missed : State → State} (h : frame = none ∨ w.ready = false) : sendReady s m w L frame missed = missed s := by
  rcases h with rfl | h
  · rfl
  · cases frame with
    | none => rfl
    | some f => simp only [sendReady, h, Bool.false_eq_true, if_false]

/-- A frame that is ready leaves, and ends the misses running of a machine on its own channel. -/
theorem sendReady_of_ready {s : State} {m : Fin 4} {w : Waiting9} {L : Nat} {f : ReadyFrame} {missed : State → State}
    {b : Bool} (hb : isPair s (lead s m) = b) (hw : w.ready = true) :
    sendReady s m w L (some f) missed =
      (let u := if b then s else setRunTfu s m 0
       if f.vec.off then launchOff u m L w.k
       else launched (launchFrame u m L .run f.vec.on f.brk f.shift) m L w.k f.vec f.shift) := by
  cases b <;> simp only [sendReady, hb, hw, if_true, Bool.false_eq_true, if_false]

section
variable {s : State} {dt : Nat} {m : Fin 4} {w : Waiting9} {r : List Waiting9}
  (hw : s.tb.waiting9[m] = w :: r) (hL : w.at' + 120 ≤ s.clk + dt)
include hw hL

/-- Before the links are released nothing is sent. -/
theorem exec_frameLaunch_of_not_released (hstep : s.start.step < 14) :
    exec (.frameLaunch dt m) s = .next (settled (dropStrobe (advance s dt) m w r)) := by
  simp only [exec_frameLaunch, execFrameLaunch, done, advance_tb, advance_fields, hw, Nat.not_lt.2 hL, if_false, hstep,
    if_true]

/-- The idle frame of a channel whose machine is not enabled, or that only measures. -/
theorem exec_frameLaunch_of_idle (hstep : 14 ≤ s.start.step)
    (hidle : s.en (lead s m) = false ∨ (bridgeOwner s m).isSome = true) {u : State}
    (hu : u = idleFrame (setRunTfu (dropStrobe (advance s dt) m w r) m 0) m (w.at' + 120)) :
    exec (.frameLaunch dt m) s = .next (settled (if chopFitted u m then chopUnavail u m .standby else u)) := by
  subst hu
  simp only [exec_frameLaunch, execFrameLaunch, done, advance_tb, advance_fields, advance_reads, lead_advance,
    bridgeOwner_advance, hw, Nat.not_lt.2 hL, if_false, Nat.not_lt.2 hstep, Bool.not_eq_true', hidle, if_true, Int.natCast_add,
    Int.cast_ofNat_Int]

section
variable (hstep : 14 ≤ s.start.step) (hen : s.en (lead s m) = true) (hown : bridgeOwner s m = none)
include hstep hen hown

/-- The trip frame of a machine that has tripped. -/
theorem exec_frameLaunch_of_tripped (htrip : s.tfu[lead s m].tripped = true) :
    exec (.frameLaunch dt m) s = .next (settled (launched (launchFrame (setRunTfu (dropStrobe (advance s dt) m w r)
        m 0) m
      (w.at' + 120) .trip 0 s.drive[m].brk 0) m (w.at' + 120) w.k { off := true } 0)) := by
  simp [-Fin.getElem_fin, execFrameLaunch, done, hw, Nat.not_lt.2 hL, Nat.not_lt.2 hstep, hen, hown, htrip]

variable (htrip : s.tfu[lead s m].tripped = false)
include htrip

/-- The all-off frame of a machine that sends nothing else. -/
theorem exec_frameLaunch_of_off (hoff : sendsOff s m w = true) :
    exec (.frameLaunch dt m) s = .next (settled (launchOff (setRunTfu (dropStrobe (advance s dt) m w r) m 0) m
      (w.at' + 120) w.k)) := by
  simp [-Fin.getElem_fin, execFrameLaunch, done, hw, Nat.not_lt.2 hL, Nat.not_lt.2 hstep, hen, hown, htrip, hoff]

variable (hoff : sendsOff s m w = false)
include hoff

/-- A machine on its own channel sends the frame of its decision, or answers the miss. -/
theorem exec_frameLaunch_of_single (hp : isPair s (lead s m) = false) :
    exec (.frameLaunch dt m) s = .next (settled (sendReady (dropStrobe (advance s dt) m w r) m w (w.at' + 120)
      (s.tfu[m].ready.find? (fun x => x.strobe == w.at')) (fun u => frameMissed u m (w.at' + 120) w.k))) := by
  simp [-Fin.getElem_fin, execFrameLaunch, done, hw, Nat.not_lt.2 hL, Nat.not_lt.2 hstep, hen, hown, htrip, hoff, hp]

/-- A pair is judged once for both channels before the channel sends its frame (06 R172). -/
theorem exec_frameLaunch_of_pair (hp : isPair s (lead s m) = true) {u : State}
    (hu : u = dropStrobe (pairJudge (advance s dt) (lead s m) w.at') m w r) :
    exec (.frameLaunch dt m) s = .next (settled
      (if u.tfu[lead s m].stopped then launchOff u m (w.at' + 120) w.k
        else if u.tfu[lead s m].pairStep9.any (·.2) then repeatFrame u m (w.at' + 120)
        else sendReady u m w (w.at' + 120) (s.tfu[m].ready.find? (fun x => x.strobe == w.at'))
          (fun u => repeatFrame u m (w.at' + 120)))) := by
  simp [-Fin.getElem_fin, execFrameLaunch, done, hw, Nat.not_lt.2 hL, Nat.not_lt.2 hstep, hen, hown, htrip, hoff, hp, ← hu]

end
end

/-! ### PROFILE_APPEND and PROFILE_BLEND (09 R242, R243, R247) -/

theorem recordsGo_length_le (k : Nat) (l : List Byte) : (recordsGo k l).length ≤ k := by
  induction k generalizing l with
  | zero => exact Nat.le_refl 0
  | succ k ih =>
    unfold recordsGo
    split
    · exact Nat.zero_le _
    · exact Nat.succ_le_succ (ih _)

/-- The data of a segment command has a legal length, and its channel takes segments. -/
def TakesSegs (s : State) (c : Cmd) : Prop :=
  c.data ≠ [] ∧ c.data.length ≤ 1024 ∧ c.data.length % 16 = 0 ∧ consumerCode s c.chan ≠ 0xFF ∧
  s.prof[c.chan].state ≠ .off ∧ s.prof[c.chan].state ≠ .stopping

/-- The seal of a request: the command and the request wait for the commit point of the channel. -/
def sealReq (s : State) (c : Cmd) (r : ChanReq) : State :=
  (waitCommit s c).modProf c.chan (fun x => { x with reqs := x.reqs ++ [(r, some c.id)] })

/-- Segments that are appended, or that a blend starts on an empty queue, are checked from the end of what is sealed. -/
theorem sealSegs_of_append {s : State} {c : Cmd} {blend : Bool} (h : TakesSegs s c)
    (hb : blend = false ∨ (sealedEnd s c.chan).fill = 0)
    (hok : segsFault (chanVmax s c.chan) (s.pp c.chan 0x4001 2) 0 (sealedEnd s c.chan).pos (sealedEnd s c.chan).vel
      (sealedEnd s c.chan).known (recordsGo 64 c.data) = none)
    (hroom : (sealedEnd s c.chan).fill + (recordsGo 64 c.data).length ≤ 64) :
    sealSegs s c blend =
      sealReq s c (if blend then .blend (recordsGo 64 c.data) else .append (recordsGo 64 c.data)) := by
  obtain ⟨hne, hlen, hmod, hcons, hoff, hstop⟩ := h
  have hplain : (blend && decide ((sealedEnd s c.chan).fill ≠ 0)) = false := by
    rcases hb with hb | hb <;> simp [hb]
  simp only [sealSegs, sealReq, List.length_eq_zero_iff, hne, Nat.not_lt.2 hlen, hmod, hcons, hoff, hstop, hplain, hok,
    Nat.not_lt.2 hroom, not_true_eq_false, ne_eq, or_self, if_false, Bool.false_eq_true, decide_false, Bool.and_false]

/-- The segments of a blend that replaces others are checked from the second on: the first ends where it says. -/
theorem sealSegs_of_blend {s : State} {c : Cmd} {g : Segment} {rest : List Segment} (h : TakesSegs s c)
    (hr : recordsGo 64 c.data = g :: rest) (hfill : (sealedEnd s c.chan).fill ≠ 0)
    (hok : segsFault (chanVmax s c.chan) (s.pp c.chan 0x4001 2) 1 (g.target (sealedEnd s c.chan).pos)
      (g.endVel * 65536) (!g.rel) rest = none) :
    sealSegs s c true = sealReq s c (.blend (g :: rest)) := by
  obtain ⟨hne, hlen, hmod, hcons, hoff, hstop⟩ := h
  simp only [sealSegs, sealReq, List.length_eq_zero_iff, hne, Nat.not_lt.2 hlen, hmod, hcons, hoff, hstop, hr, hfill,
    hok, not_true_eq_false, not_false_eq_true, ne_eq, or_self, if_false, if_true, decide_true, Bool.and_self,
    Bool.not_true, Bool.false_and, Bool.false_eq_true]

/-- Data of the right length goes on to the opcode itself. -/
theorem needLen_of_length {s : State} {c : Cmd} {n : Nat} (h : c.data.length = n) (f : State → State) :
    needLen s c n f = f s := if_pos h

/-! ### The deadline of a reference (01 R38) -/

/-- Ten ticks before the commit point of its Stove a reference that is not ready is a miss. -/
theorem exec_profileRefDeadline_of_due {s : State} {dt : Nat} {k : Fin 4} {ch : Fin 12} (ready : Bool)
    (hch : stoveChan s k = some ch) (hc : s.tb.counting = true) (hon : s.prof[ch].state ≠ .off)
    (hphi : s.phi (commitMachine s k) ≤ (advance s dt).tb.now.toNat + 10)
    (hdue : ((advance s dt).tb.now.toNat + 10 - s.phi (commitMachine s k)) % s.Ts (commitMachine s k) = 0) :
    exec (.profileRefDeadline dt k ready) s = .next (settled
      (if ready = true ∧ s.prof[ch].refReady = true then advance s dt
        else profMiss ((advance s dt).modProf ch (fun x => { x with refReady := false })) ch)) := by
  have hch' : stoveChan (advance s dt) k = some ch := hch
  have hm : commitMachine (advance s dt) k = commitMachine s k := rfl
  simp only [exec_profileRefDeadline, execProfileRefDeadline, done, hch', hm, advance_tb, advance_reads, advance_fields,
    hc, hon, hphi, hdue, ne_eq, not_false_eq_true, and_self, if_true, Bool.and_eq_true]

/-! ### The stops and the status of a channel (09 R249, 23 R587) -/

section
variable {s : State} {tr : Transport} {tag : BitVec 16} {c : Cmd}

theorem exec_profileAppend_of_starts (h : Starts s tr tag 0x0300 c) :
    exec (.profileAppend tr tag) s = .next (settled (sealSegs (begun s tr tag) c false)) := by
  rw [exec_profileAppend, execProfileAppend, onCmd_starts h, done]

theorem exec_profileBlend_of_starts (h : Starts s tr tag 0x0301 c) :
    exec (.profileBlend tr tag) s = .next (settled (sealSegs (begun s tr tag) c true)) := by
  rw [exec_profileBlend, execProfileBlend, onCmd_starts h, done]

theorem exec_profileStop_of_starts (h : Starts s tr tag 0x0302 c) (hd : c.data = []) :
    exec (.profileStop tr tag) s = .next (settled (chanStopReq (begun s tr tag) c (some c.chan) .stop)) := by
  rw [exec_profileStop, execProfileStop, onCmd_starts h, needLen_of_length (by rw [hd]; rfl), done]

theorem exec_profileFaultStop_of_starts (h : Starts s tr tag 0x0303 c) (hd : c.data = []) :
    exec (.profileFaultStop tr tag) s =
      .next (settled (chanStopReq (begun s tr tag) c (some c.chan) .faultStop)) := by
  rw [exec_profileFaultStop, execProfileFaultStop, onCmd_starts h, needLen_of_length (by rw [hd]; rfl), done]

theorem exec_axisStop_of_starts (h : Starts s tr tag 0x0402 c) (hd : c.data = []) :
    exec (.axisStop tr tag) s = .next (settled (chanStopReq (begun s tr tag) c (axisChan s c.axis) .stop)) := by
  rw [exec_axisStop, execAxisStop, onCmd_starts h, needLen_of_length (by rw [hd]; rfl), done]
  rfl

theorem exec_profileStatus_of_starts (h : Starts s tr tag 0x0304 c) (hd : c.data = []) :
    exec (.profileStatus tr tag) s = .next (settled (reply (begun s tr tag) c stOK (beBytes 1
        s.prof[c.chan].state.code
      ++ beBytes 1 s.prof[c.chan].fill ++ beBytes 4 (Channel09.whole s.prof[c.chan].pos).toNat
      ++ beBytes 4 (lowBits 32 s.prof[c.chan].speedUnits) ++ beBytes 4 s.prof[c.chan].segmentsDone.toNat))) := by
  rw [exec_profileStatus, execProfileStatus, onCmd_starts h, needLen_of_length (by rw [hd]; rfl), done]
  rfl

end

/-! ### LAT_EDGE (04 R119, R120) -/

/-- The selection bit of an edge, 14 for a rising and 15 for a falling one. -/
theorem bit_edge (w : Nat) (rising : Bool) :
    (if rising then bit w 14 else bit w 15) = bit w (if rising then 14 else 15) := by
  cases rising <;> rfl

/-- An edge that is not selected is noted, and stores nothing. -/
theorem exec_latEdge_of_unselected {s : State} {stable w : Nat} {k : Fin 8} {rising : Bool} (dt : Nat)
    (hw : w = s.p0 0x0400 (k.val + 1)) (hsel : bit w (if rising then 14 else 15) = false)
    (hst : 5 * bits w 13 8 ≤ stable) :
    exec (.latEdge dt k rising stable) s = .next (settled ((advance s dt).modLat k (fun l =>
      { l with edgeAt := some (s.clk + dt) }))) := by
  have hno : (if rising then bit w 14 else bit w 15) = false := (bit_edge w rising).trans hsel
  subst hw
  simp [execLatEdge, done, hno, Nat.not_lt.2 hst]

section
variable {s : State} {dt stable w f t : Nat} {k : Fin 8} {rising : Bool} {p : Fin 4} {stamp : Stamp}
  {x : Option (BitVec 32)} (hw : w = s.p0 0x0400 (k.val + 1)) (hsel : bit w (if rising then 14 else 15) = true)
  (hf : f = 5 * bits w 13 8) (hst : f ≤ stable) (hp : p = finOf 4 (bits w 1 0)) (ht : t = at25 (advance s dt) - f)
  (hs : stamp = (advance s dt).tb.now - BitVec.ofNat 56 (s.clk + dt - t)) (hx : x = captured (advance s dt) p t)
include hw hsel hf hst hp ht hs hx

/-- A selected edge that has stood for the filter time on a free input stores its time and position. -/
theorem exec_latEdge_of_free (hv : s.lats[k].valid = false) :
    exec (.latEdge dt k rising stable) s = .next (settled
      (forAll twelve (fun ch u => if u.pp ch 0x4002 1 = k.val then chanLatch u ch stamp t else u)
        ((advance s dt).modLat k (fun l => { l with
          edgeAt := some (s.clk + dt), stamp := stamp,
          pos := x.getD (posNow (advance s dt) p), valid := true, waiting := if x.isSome then none
              else some t })))) := by
  have hyes : (if rising then bit w 14 else bit w 15) = true := (bit_edge w rising).trans hsel
  have hv' : s.lats[(k : Nat)].valid = false := hv
  have hpos : ∀ g, posNow ((advance s dt).modLat k g) p = posNow (advance s dt) p := fun _ => rfl
  subst hw hf
  simp [execLatEdge, done, hyes, Nat.not_lt.2 hst, hv', hpos, ← hp, ← ht, ← hs, ← hx]

/-- One on an input that still holds a latch counts an overrun and raises 3.15. -/
theorem exec_latEdge_of_held (hv : s.lats[k].valid = true) :
    exec (.latEdge dt k rising stable) s = .next (settled (raiseIf (ctrInc 8 s.lats[k].overruns).2
      (raise ((advance s dt).modLat k (fun l => { l with
        edgeAt := some (s.clk + dt), overruns := (ctrInc 8 s.lats[k].overruns).1,
        missed := some (s.clk + dt, stamp, x.getD (posNow (advance s dt) p),
            s.lats[k].overruns) })) 63 k.val) 63 k.val)) := by
  have hyes : (if rising then bit w 14 else bit w 15) = true := (bit_edge w rising).trans hsel
  have hv' : s.lats[(k : Nat)].valid = true := hv
  have hpos : ∀ g, posNow ((advance s dt).modLat k g) p = posNow (advance s dt) p := fun _ => rfl
  subst hw hf
  simp [execLatEdge, done, hyes, Nat.not_lt.2 hst, hv', hpos, ← hp, ← ht, ← hs, ← hx]

end

end Sys2Proof.Machine

namespace Sys2Proof.Proofs
open Sys2Proof.Machine Sys2Proof.Safety

/-- Settles O53: the count makes the step up on the second tick after it, so that a pause before that tick changes
nothing. -/
theorem steeringStep : Obligations.SteeringStep := by
  unfold Obligations.SteeringStep
  intro s
  refine ⟨fun hsteer hpause hnone => ?_, steerStep_of_zero⟩
  rw [steerStep_of_due hsteer hpause]
  refine ⟨rfl, natAbs_sub_sign hsteer, rfl, fun d hcount hroom => ?_⟩
  generalize hx : s.modTb _ = x
  have hxclk : x.clk = s.clk := by rw [← hx]; rfl
  have hxcount : x.tb.counting = true := by rw [← hx]; exact hcount
  have hxnow : x.tb.now = s.tb.now := by rw [← hx]; rfl
  have hxat : x.tb.stepAt.getD 0 = x.clk := by rw [← hx]; rfl
  have hxdue : x.tb.stepDue = s.tb.steer.sign := by rw [← hx]; simp [hnone]
  have hsign : s.tb.steer.sign.natAbs ≤ 1 := by rw [Int.natAbs_sign]; split <;> omega
  have hlast : (advance x (d + 2)).tb = x.tb.count (x.clk + (d + 2)) (d + 2) := advance_tb_of_counting hxcount _
  constructor
  · rw [hlast, Timebase.count_now_of_due (by omega) (by omega) (by rwa [hxdue]) (by rw [hxnow]; omega), hxdue, hxnow]
    omega
  · have hfirst : (advance x 1).tb = x.tb.count (x.clk + 1) 1 := advance_tb_of_counting hxcount _
    rw [advance_tb_of_counting (by simpa using hxcount), hfirst, hlast]
    exact Timebase.count_count hxat (by rw [hxnow]; omega)

/-- Settles O41, limit by limit, and the decision by what the input latches hold. -/
theorem startingLimits : Obligations.StartingLimits := by
  unfold Obligations.StartingLimits
  intro s dt m
  refine ⟨?again, ?catch', ?magnetise, ?openLoop, ?banked, ?single, ?pair, ?alone, ?second⟩
  case again => exact fun c hc hst hp ht => exec_catchRepeat_of_elapsed hc hst hp ht
  case catch' => exact fun c hc hst ht => exec_catchTimeout_of_elapsed hc hst ht
  case magnetise => exact exec_magnetiseTimeout_of_elapsed
  case openLoop => exact exec_openTimeout_of_elapsed
  case banked => exact exec_bankHoldExpiry_of_elapsed
  case single => exact fun w rest h2 hp hi hen hst ht => exec_tfuDecision_of_single h2 hp hi hen hst ht
  case pair => exact fun w y rest h2 hp hi hen hst ht hy => exec_tfuDecision_of_match h2 hp hi hen hst ht hy
  case alone => exact fun w rest h2 hp hi hen hst ht hy => exec_tfuDecision_of_no_match h2 hp hi hen hst ht hy
  case second => exact exec_tfuDecision_of_second

/-- Settles O28, command by command; the start of an opcode changes nothing that its checks read. -/
theorem profileCommands : Obligations.ProfileCommands := by
  unfold Obligations.ProfileCommands
  intro s tr tag c
  refine ⟨?append, ?blendOnEmpty, ?blend, exec_profileStop_of_starts, exec_profileFaultStop_of_starts,
    exec_axisStop_of_starts, exec_profileStatus_of_starts, ?deadline, ?free, ?held, ?unselected⟩
  case append =>
    intro segs z hstart hne hlen hmod hcons hoff hstop hz hsegs hok hroom
    subst hz hsegs
    have htakes : TakesSegs (begun s tr tag) c := ⟨hne, hlen, hmod, hcons, hoff, hstop⟩
    rw [exec_profileAppend_of_starts hstart, sealSegs_of_append htakes (.inl rfl) hok hroom]
    rfl
  case blendOnEmpty =>
    intro segs z hstart hne hlen hmod hcons hoff hstop hz hsegs hfill hok
    subst hz hsegs
    have htakes : TakesSegs (begun s tr tag) c := ⟨hne, hlen, hmod, hcons, hoff, hstop⟩
    have hroom : (sealedEnd s c.chan).fill + (recordsGo 64 c.data).length ≤ 64 := by
      rw [hfill, Nat.zero_add]; exact recordsGo_length_le 64 c.data
    rw [exec_profileBlend_of_starts hstart, sealSegs_of_append htakes (.inr hfill) hok hroom]
    rfl
  case blend =>
    intro g rest z hstart hne hlen hmod hcons hoff hstop hz hsegs hfill hok
    subst hz
    have htakes : TakesSegs (begun s tr tag) c := ⟨hne, hlen, hmod, hcons, hoff, hstop⟩
    rw [exec_profileBlend_of_starts hstart, sealSegs_of_blend htakes hsegs hfill hok]
    rfl
  case deadline =>
    exact fun dt k ch ready hch hc hon hphi hdue => exec_profileRefDeadline_of_due ready hch hc hon hphi hdue
  case free =>
    exact fun dt stable w f t k rising p stamp x hw hsel hf hst hv hp ht hs hx =>
      exec_latEdge_of_free hw hsel hf hst hp ht hs hx hv
  case held =>
    exact fun dt stable w f t k rising p stamp x hw hsel hf hst hv hp ht hs hx =>
      exec_latEdge_of_held hw hsel hf hst hp ht hs hx hv
  case unselected => exact fun dt stable w k rising hw hsel hst => exec_latEdge_of_unselected dt hw hsel hst

/-- Settles O24, command by command; of FRAME_LAUNCH, case by case in the order in which the command asks. -/
theorem controlGrid : Obligations.ControlGrid := by
  unfold Obligations.ControlGrid
  intro s
  refine ⟨?strobe, ?numbered, ?boundary, ?single, ?pair, ?alone, fun dt m => exec_tfuDecision_of_second, ?notReleased,
    ?idle, ?trip, ?off, ?own, ?missed, ?pairFrame⟩
  case strobe =>
    intro x dt m iu iv idc vdc vlow br w live hd hr hx hw hlive
    subst hw hlive
    rw [exec_decisionStrobe_of_runs hd hr hx]
    rfl
  case numbered => exact fun dt m iu iv idc vdc vlow br hd hr => exec_decisionStrobe_of_not_runs iu iv idc vdc vlow br hd hr
  case boundary =>
    intro t u dt m fine hr hst hn hb ht hu
    have hfine : t = takeFine (advance s dt) m fine := ht
    rw [exec_sampleBoundary_of_due fine hr hst hn hb, ← hfine, ← hu]
    rfl
  case single => exact fun dt m w r h2 hp hi hen hst ht => exec_tfuDecision_of_single h2 hp hi hen hst ht
  case pair => exact fun dt m w y r h2 hp hi hy hen hst ht => exec_tfuDecision_of_match h2 hp hi hen hst ht hy
  case alone =>
    intro dt m w r h2 hp hi hy hlost hen hst ht
    rw [exec_tfuDecision_of_no_match h2 hp hi hen hst ht hy, if_pos hlost]
  case notReleased => exact fun dt m w r hw hL hstep => exec_frameLaunch_of_not_released hw hL hstep
  case idle => exact fun u dt m w r hw hL hstep hidle hu => exec_frameLaunch_of_idle hw hL hstep hidle hu
  case trip => exact fun dt m w r hw hL hstep hen hown htrip => exec_frameLaunch_of_tripped hw hL hstep hen hown htrip
  case off =>
    intro dt m w r hw hL hstep hen hown htrip hany
    exact exec_frameLaunch_of_off hw hL hstep hen hown htrip ((sendsOff_iff s m w).2 hany)
  case own =>
    intro dt m w r f hw hL hstep hen hown htrip hoff hp hf hready
    have hsingle : isPair (dropStrobe (advance s dt) m w r) (lead (dropStrobe (advance s dt) m w r) m) = false := hp
    rw [exec_frameLaunch_of_single hw hL hstep hen hown htrip hoff hp, hf, sendReady_of_ready hsingle hready]
    rfl
  case missed =>
    intro dt m w r hw hL hstep hen hown htrip hoff hp hlate
    rw [exec_frameLaunch_of_single hw hL hstep hen hown htrip hoff hp, sendReady_of_late hlate]
  case pairFrame =>
    intro u dt m w r hw hL hstep hen hown htrip hoff hp hu
    have hparams : u.porter.params = s.porter.params := by rw [hu, dropStrobe_params, pairJudge_params]; rfl
    have hpair : isPair u (lead u m) = true := by rw [isPair_of_params hparams, lead_of_params hparams, hp]
    rw [exec_frameLaunch_of_pair hw hL hstep hen hown htrip hoff hp hu]
    cases s.tfu[m].ready.find? (fun x => x.strobe == w.at') with
    | none => rfl
    | some f =>
      cases hready : w.ready with
      | false => rw [sendReady_of_late (.inr hready)]; rfl
      | true => rw [sendReady_of_ready hpair hready]; rfl

end Sys2Proof.Proofs

/-! Proofs about the bring-up: the supplies (02 R46, R637), the staged start of the rails (02 R48 to R52), the boot ROM
and the start-up tests (02 R53 to R58), and the module reset (02 R61 to R63). -/
namespace Sys2Proof.Machine

/-! ### The supplies (02 R46, R637) -/

/-- SUPPLY_ORDER_VIOLATION before the boot ROM keeps the violation once. -/
theorem exec_supplyOrderViolation_of_early {s : State} (dt : Nat) (v : Supply) (k : SupplyFault)
    (hboot : s.start.bootBegun = false) :
    exec (.supplyOrderViolation dt v k) s = .next (settled ((advance s dt).modStart (fun x => { x with
      violations := if (v, k) ∈ x.violations then x.violations else x.violations ++ [(v, k)] }))) := by
  simp [execSupplyOrderViolation, done, hboot]

/-- SUPPLY_ORDER_VIOLATION while the boot ROM or the firmware runs raises 0.0. -/
theorem exec_supplyOrderViolation_of_late {s : State} (dt : Nat) (v : Supply) (k : SupplyFault)
    (hboot : s.start.bootBegun = true) :
    exec (.supplyOrderViolation dt v k) s = .next (settled (raise (advance s dt) 0 (v.code + 16 * k.code))) := by
  simp [execSupplyOrderViolation, done, hboot]

/-- VANA_BROWN_OUT while VANA is up: the raise, then each machine that uses the analog inputs. -/
theorem exec_vanaBrownOut_of_up {s : State} (dt : Nat) (hup : s.start.vanaUp = true) :
    exec (.vanaBrownOut dt) s = .next (settled (forAll four (fun m s =>
      if usesAnalog s m then
        if s.en m then
          faultStop (noteSource (s.modStart (fun x => { x with
            forbidAnalog := vmod x.forbidAnalog m (fun _ => true) })) m 10 0) m none
        else s.modStart (fun x => { x with forbidAnalog := vmod x.forbidAnalog m (fun _ => true) })
      else s) (raise ((advance s dt).modStart (fun x => { x with vanaUp := false })) 10 0))) := by
  simp only [exec_vanaBrownOut, execVanaBrownOut, done, advance_fields, hup, Bool.not_true, Bool.false_eq_true, if_false]
  rfl

/-- VANA_RETURN while VANA is down asks the analog checks. -/
theorem exec_vanaReturn_of_down {s : State} (dt : Nat) (ok : Bool) (hdown : s.start.vanaUp = false) :
    exec (.vanaReturn dt ok) s = .next (settled (if ok then (advance s dt).modStart (fun x => { x with
        vanaUp := true, forbidAnalog := Vector.replicate 4 false })
      else raise ((advance s dt).modStart (fun x => { x with vanaUp := true })) 10 0)) := by
  simp [execVanaReturn, done, hdown]

theorem exec_damperStart_of_elapsed {s : State} {dt : Nat} (pass : Bool) (hdown : s.safety.damperUp = false)
    (ht : s.safety.damperAt + 20000 ≤ s.clk + dt) :
    exec (.damperStart dt pass) s = .next (settled ((advance s dt).modSafety (fun x => { x with
      damperUp := true, damperAt := s.clk + dt, selfTest := pass, hbSeenAt := s.clk + dt }))) := by
  simp [execDamperStart, done, usTicks, hdown, ht]

/-! ### The staged start (02 R48 to R52) -/

theorem exec_startReference_of_awaited {s : State} (dt : Nat) (hawait : s.start.awaitRef = true)
    (hlatch : s.start.latchedOff = false) (hoff : s.start.offUntil = none) :
    exec (.startReference dt) s = .next (settled ((advance s dt).modStart (fun x => { x with
      coreUp := true, awaitRef := false, attempt := x.attempt + 1, step := 1, refAt := s.clk + dt, startState := .staged
      refIn := some (x.refIn.getD x.clkSel) }))) := by
  simp [execStartReference, done, hawait, hlatch, hoff]

theorem exec_pllLock_of_first {s : State} (dt : Nat) (hcore : s.start.coreUp = true) (hstep : s.start.step = 1) :
    exec (.pllLock dt) s = .next (settled (((advance s dt).modTb (fun t => { t with
      counting := true, now := 0, pllLock := true, refOk := decide (t.ref = .present) })).modStart (fun x => { x with
        step := 2, lockAt := s.clk + dt }))) := by
  simp [execPllLock, done, hcore, hstep]

/-- STAGED_RELEASE_STEP makes the next of the steps 3 to 15 once its time has come; step 15 hands over to the boot ROM. -/
theorem exec_stagedReleaseStep_of_due {s : State} {dt n : Nat} (hn : s.start.step + 1 = n) (hlow : 3 ≤ n) (hhigh : n ≤ 15)
    (ht : s.start.lockAt + 20000 * (n - 2) ≤ s.clk + dt) :
    exec (.stagedReleaseStep dt) s = .next (settled ((advance s dt).modStart (fun x => { x with
      step := n, startState := if n = 15 then .boot else x.startState }))) := by
  have hdue : s.start.lockAt + usTicks (100 * (n - 2)) ≤ s.clk + dt := by unfold usTicks; omega
  simp [execStagedReleaseStep, done, hn, hlow, hhigh, hdue]

/-- RAIL_REGULATION_TIMEOUT before the boot ROM takes the rails off for 10 ms, and for good on the second attempt. -/
theorem exec_railRegulationTimeout_of_elapsed {s t : State} {dt at' : Nat} (hcore : s.start.coreUp = true)
    (hboot : s.start.bootBegun = false) (hrel : railReleasedAt s.start = some at') (ht : at' + 16000 ≤ s.clk + dt)
    (htaken : t = (powerLost (advance s dt)).modStart (fun y => { y with
      awaitRef := false, attempt := s.start.attempt, failedStep := some s.start.step,
      violations := s.start.violations, refIn := s.start.refIn, offUntil := some (s.clk + dt + 2000000),
      latchedOff := decide (2 ≤ s.start.attempt) })) :
    exec (.railRegulationTimeout dt) s = .next (settled t) := by
  subst htaken
  simp [execRailRegulationTimeout, done, usTicks, msTicks, hcore, hboot, hrel, ht]

theorem exec_railOffPeriodEnd_of_elapsed {s : State} {dt at' : Nat} (hoff : s.start.offUntil = some at')
    (ht : at' ≤ s.clk + dt) :
    exec (.railOffPeriodEnd dt) s = .next (settled ((advance s dt).modStart (fun x => { x with
      offUntil := none, awaitRef := !x.latchedOff }))) := by
  simp [execRailOffPeriodEnd, done, hoff, ht]

/-- RESET_N_ASSERT once the boot ROM has begun requests the module reset; a request that is pending stays. -/
theorem exec_resetNAssert_of_begun {s : State} (dt : Nat) (hboot : s.start.bootBegun = true) :
    exec (.resetNAssert dt) s = .next (settled ((advance s dt).modStart (fun x => { x with
      resetNLow := some (s.clk + dt), resetPending := some (x.resetPending.getD .pin)
      resetPendingAt := if x.resetPending.isSome then x.resetPendingAt else s.clk + dt }))) := by
  cases hp : s.start.resetPending <;> simp [execResetNAssert, done, hboot, State.modStart, hp]

theorem exec_resetNAssert_of_latched {s : State} (dt : Nat) (hboot : s.start.bootBegun = false)
    (hlatch : s.start.latchedOff = true) :
    exec (.resetNAssert dt) s = .next (settled ((advance s dt).modStart (fun x => { x with
      resetNLow := some (s.clk + dt), latchedOff := false, awaitRef := true, offUntil := none, attempt := 0 }))) := by
  simp [execResetNAssert, done, hboot, hlatch]

theorem exec_resetNAssert_of_staged {s : State} (dt : Nat) (hboot : s.start.bootBegun = false)
    (hlatch : s.start.latchedOff = false) :
    exec (.resetNAssert dt) s = .next (settled ((advance s dt).modStart (fun x =>
      { x with resetNLow := some (s.clk + dt) }))) := by
  simp [execResetNAssert, done, hboot, hlatch]

/-! ### The boot ROM and the module reset (02 R52 to R56, R61 to R63) -/

/-- BOOT_ROM_START after step 15, with RESET_N high for 10 µs, starts the image that the walk over the candidates takes. -/
theorem exec_bootRomStart_of_image {s u v : State} {dt : Nat} {b : Bool} (hst : s.start.startState = .boot)
    (hboot : s.start.bootBegun = false) (hlow : s.start.resetNLow = none)
    (hhigh : s.start.resetNHighAt + 2000 ≤ s.clk + dt) (hu : u = bootBegins (advance s dt))
    (hpick : pickImage (candidates u) u = (some b, v)) :
    exec (.bootRomStart dt) s = .next (settled (startImage v ((candidates u).head? != some b) b)) := by
  subst hu
  simp [execBootRomStart, done, usTicks, hst, hboot, hlow, hhigh, hpick]

/-- BOOT_ROM_START without an image to start ends the start in HOLD. -/
theorem exec_bootRomStart_of_no_image {s u v : State} {dt : Nat} (hst : s.start.startState = .boot)
    (hboot : s.start.bootBegun = false) (hlow : s.start.resetNLow = none)
    (hhigh : s.start.resetNHighAt + 2000 ≤ s.clk + dt) (hu : u = bootBegins (advance s dt))
    (hpick : pickImage (candidates u) u = (none, v)) :
    exec (.bootRomStart dt) s = .next (settled (endOfStart v .hold)) := by
  subst hu
  simp [execBootRomStart, done, usTicks, hst, hboot, hlow, hhigh, hpick]

theorem exec_moduleResetTake_of_due {s : State} {dt : Nat} {c : ResetCause} (hp : s.start.resetPending = some c)
    (hdue : resetDue (advance s dt) = true) :
    exec (.moduleResetTake dt) s = .next (settled (moduleReset (resetJournalled (advance s dt)) c)) := by
  simp [execModuleResetTake, done, hp, hdue]

/-! ### The start-up tests (02 R57) -/

/-- STARTUP_TESTS_END by what the results ask for: HOLD, else RESTRICTED, else READY. -/
theorem exec_startupTestsEnd_of_tests {s u : State} {dt : Nat} {t : StartTests} {hold restricted : Bool}
    (hst : s.start.startState = .tests) (hr : startTests t (advance s dt) = (u, hold, restricted)) :
    exec (.startupTestsEnd dt t) s = .next (settled (if hold then endOfStart u .hold
      else traceArm (forAll six (fun p s => startCan s p) (endOfStart u (if restricted then .restricted
        else .ready))))) := by
  simp [execStartupTestsEnd, done, hst, hr]

/-- The raise of an overflow is all that a memory counter does besides counting. -/
theorem memCount_mustHold (s : State) (k n : Nat) : (memCount s k n).start.mustHold = s.start.mustHold := by
  simp [memCount]

theorem spareSramRow_mustHold (s : State) : (spareSramRow s).start.mustHold = s.start.mustHold := by
  unfold spareSramRow
  split
  · simp [memCount_mustHold]
  · simp

@[simp] theorem spareSramRows_mustHold (n : Nat) (s : State) :
    ((List.range n).foldl (fun s _ => spareSramRow s) s).start.mustHold = s.start.mustHold :=
  forAll_keeps (fun s => s.start.mustHold) (fun _ => spareSramRow_mustHold) s

@[simp] theorem trivetTest_mustHold (t : StartTests) (s : State) (h : Fin 4) :
    (trivetTest t s h).1.start.mustHold = s.start.mustHold := by
  unfold trivetTest
  dsimp only
  repeat' split
  all_goals rfl

theorem mem_three (k : Fin 3) : k ∈ three := by
  revert k
  decide

/-- The filter leaves two lanes where two different ones satisfy `p`. -/
theorem two_le_length_filter_three (p : Fin 3 → Bool) :
    2 ≤ (three.filter p).length ↔ ∃ j k, j ≠ k ∧ p j = true ∧ p k = true := by
  cases h0 : p 0 <;> cases h1 : p 1 <;> cases h2 : p 2 <;> simp [three, Fin.exists_fin_succ, h0, h1, h2]

/-- Hearth 0 asks for HOLD with its first failed lane. -/
theorem trivetTest_zero_hold (t : StartTests) (s : State) : (trivetTest t s 0).2.1 = true ↔
    t.trivets[(0 : Fin 4)] = true ∨ ∃ k : Fin 3, t.lanes[(0 : Fin 4)][k] = true := by
  simp [trivetTest, mem_three]

/-- Another Hearth asks for HOLD with its second failed lane; with one, that lane is retired (log 80). -/
theorem trivetTest_hold {h : Fin 4} (hne : h ≠ 0) (t : StartTests) (s : State) : (trivetTest t s h).2.1 = true ↔
    t.trivets[h] = true ∨ ∃ j k : Fin 3, j ≠ k ∧ t.lanes[h][j] = true ∧ t.lanes[h][k] = true := by
  have hask : (trivetTest t s h).2.1 =
      (t.trivets[h] || decide (2 ≤ (three.filter (fun k => t.lanes[h][k])).length)) := by
    unfold trivetTest
    rw [if_neg hne]
    split
    next hfail => exact hfail.symm
    next hpass => split <;> exact (Bool.eq_false_iff.2 hpass).symm
  rw [hask, Bool.or_eq_true, decide_eq_true_iff, two_le_length_filter_three]

theorem exists_ne_zero_four {p : Fin 4 → Prop} : (∃ h, h ≠ 0 ∧ p h) ↔ p 1 ∨ p 2 ∨ p 3 := by
  simp [Fin.exists_fin_succ]

/-- From the order of the sum in the model to that of the statement. -/
theorem or_sum_reorder {held r0 r1 r2 r3 sram damper : Prop} :
    (((((held ∨ r0) ∨ r1) ∨ r2) ∨ r3) ∨ sram) ∨ damper ↔ held ∨ sram ∨ damper ∨ r0 ∨ r1 ∨ r2 ∨ r3 := by
  grind

/-- HOLD is asked for by what the boot left, by the Trivet injection of a Hearth, by the SRAM and by the Damper. -/
theorem startTests_hold_iff (t : StartTests) (s : State) : (startTests t s).2.1 = true ↔
    s.start.mustHold = true ∨ t.sramBad = true ∨ t.damper = true ∨
    (t.trivets[(0 : Fin 4)] = true ∨ ∃ k : Fin 3, t.lanes[(0 : Fin 4)][k] = true) ∨
    ∃ h : Fin 4, h ≠ 0 ∧
      (t.trivets[h] = true ∨ ∃ j k : Fin 3, j ≠ k ∧ t.lanes[h][j] = true ∧ t.lanes[h][k] = true) := by
  have h1 : (1 : Fin 4) ≠ 0 := by decide
  have h2 : (2 : Fin 4) ≠ 0 := by decide
  have h3 : (3 : Fin 4) ≠ 0 := by decide
  rw [exists_ne_zero_four, ← trivetTest_zero_hold t s, ← trivetTest_hold h1 t (trivetTest t s 0).1,
    ← trivetTest_hold h2 t (trivetTest t (trivetTest t s 0).1 1).1,
    ← trivetTest_hold h3 t (trivetTest t (trivetTest t (trivetTest t s 0).1 1).1 2).1]
  simp only [startTests, State.modStart_fields, raiseIf_fields, spareSramRows_mustHold, trivetTest_mustHold,
    Bool.or_eq_true]
  exact or_sum_reorder

end Sys2Proof.Machine

namespace Sys2Proof.Proofs
open Sys2Proof.Machine

/-- Settles O2, command by command. -/
theorem supplyCommands : Obligations.SupplyCommands := by
  unfold Obligations.SupplyCommands
  intro s
  refine ⟨?early, ?late, ?core, fun dt => exec_vanaBrownOut_of_up dt, fun dt => exec_vanaReturn_of_down dt true,
    fun dt => exec_vanaReturn_of_down dt false, ?damper, fun dt pass => exec_damperStart_of_elapsed pass⟩
  case early => exact fun dt v k => exec_supplyOrderViolation_of_early dt v k
  case late => exact fun dt v k => exec_supplyOrderViolation_of_late dt v k
  case core =>
    intro t dt ht
    subst ht
    exact ⟨exec_coreBrownOut dt s, rfl, rfl, rfl, rfl, rfl, rfl, rfl, rfl, rfl, rfl, rfl, rfl, rfl, rfl⟩
  case damper =>
    intro t dt ht
    subst ht
    exact ⟨exec_damperPowerOn dt s, rfl, rfl, rfl, rfl, rfl, rfl, rfl⟩

/-- Settles O3, step by step of the staged start, and the edges of RESET_N. -/
theorem stagedStart : Obligations.StagedStart := by
  unfold Obligations.StagedStart
  intro s
  refine ⟨fun dt => exec_startReference_of_awaited dt, fun dt => exec_pllLock_of_first dt, ?step, ?last, ?rail,
    fun dt at' => exec_railOffPeriodEnd_of_elapsed, fun dt => exec_resetNAssert_of_begun dt,
    fun dt => exec_resetNAssert_of_latched dt, fun dt => exec_resetNAssert_of_staged dt,
    fun dt => exec_resetNRelease dt s⟩
  case step =>
    intro dt n hn hlow hhigh ht
    rw [exec_stagedReleaseStep_of_due hn hlow (Nat.le_of_lt hhigh) ht]
    simp only [Nat.ne_of_lt hhigh, if_false]
  case last =>
    intro dt hstep ht
    exact exec_stagedReleaseStep_of_due (n := 15) (by rw [hstep]) (by decide) (Nat.le_refl 15) ht
  case rail =>
    intro t dt at' hcore hboot hrel ht htaken
    refine ⟨exec_railRegulationTimeout_of_elapsed hcore hboot hrel ht htaken, ?_⟩
    subst htaken
    exact ⟨rfl, rfl, rfl⟩

/-- Settles O4: the boot ROM by what its walk takes, the tests by what they ask for, and the fields of the reset state. -/
theorem bootAndReset : Obligations.BootAndReset := by
  unfold Obligations.BootAndReset
  intro s
  refine ⟨?image, ?noImage, ?start, ?tests, ?hold, fun dt c => exec_moduleResetTake_of_due, ?reset⟩
  case image => exact fun u v dt b => exec_bootRomStart_of_image
  case noImage => exact fun u v dt => exec_bootRomStart_of_no_image
  case start =>
    intro v fallback b hv
    subst hv
    rfl
  case tests => exact fun u dt t hold restricted => exec_startupTestsEnd_of_tests
  case hold =>
    intro t
    rw [startTests_hold_iff]
    simp only [and_or_left, exists_or, exists_and_left, or_assoc]
  case reset =>
    intro t c ht
    subst ht
    exact ⟨rfl, rfl, rfl, rfl, rfl, rfl, rfl, rfl, rfl, rfl, rfl, rfl, rfl, rfl, rfl⟩

end Sys2Proof.Proofs


/-! Proofs about what follows a command (03 R79, 20 R530, 21 R544): the replies that leave, what sending them changes,
and which of them stay. -/
namespace Sys2Proof.Machine
open Sys2Proof.Safety

/-- Every command completes: its next state is what its own effect leaves, settled. -/
theorem exec_settled (c : Instr) (s : State) : ∃ u : State, exec c s = .next (settled u) := by
  cases c <;> exact ⟨_, rfl⟩

/-! ### What sending changes -/

/-- `t` is `s` but for the fabric, what is put out, the count of free values and what a raise writes. -/
def Sent (s t : State) : Prop :=
  ∃ f o n fl j c p q, t = { s with
    fabric := f, out := o, freeCtr := n, flue := fl, journal := j, mem := { s.mem with journalLost := c }
    start := { s.start with resetPending := p, resetPendingAt := q } }

theorem Sent.refl (s : State) : Sent s s := ⟨_, _, _, _, _, _, _, _, rfl⟩

theorem Sent.trans {s t u : State} (h : Sent s t) (k : Sent t u) : Sent s u := by
  obtain ⟨_, _, _, _, _, _, _, _, rfl⟩ := h
  obtain ⟨_, _, _, _, _, _, _, _, rfl⟩ := k
  exact ⟨_, _, _, _, _, _, _, _, rfl⟩

theorem Sent.ite {s t u : State} {c : Prop} [Decidable c] (h : Sent s t) (k : Sent s u) : Sent s (if c then t else u) := by
  split <;> assumption

theorem Sent.porter {s t : State} (h : Sent s t) : t.porter = s.porter := by
  obtain ⟨_, _, _, _, _, _, _, _, rfl⟩ := h; rfl

theorem Sent.ports {s t : State} (h : Sent s t) : t.ports = s.ports := by
  obtain ⟨_, _, _, _, _, _, _, _, rfl⟩ := h; rfl

theorem Raised.sent {s t : State} (h : Raised s t) : Sent s t := by
  obtain ⟨_, _, _, _, _, rfl⟩ := h
  exact ⟨_, _, _, _, _, _, _, _, rfl⟩

theorem put_sent (s : State) (o : Out) : Sent s (s.put o) := ⟨_, _, _, _, _, _, _, _, rfl⟩

theorem modFabric_sent (s : State) (f : Fabric → Fabric) : Sent s (s.modFabric f) := ⟨_, _, _, _, _, _, _, _, rfl⟩

theorem modLink_sent (s : State) (l : Fin 4) (f : FabLink → FabLink) : Sent s (s.modLink l f) :=
  ⟨_, _, _, _, _, _, _, _, rfl⟩

theorem fresh_sent (s : State) : Sent s s.fresh.2 := ⟨_, _, _, _, _, _, _, _, rfl⟩

/-- A change that is repeated over a list keeps what a reflexive and transitive relation says of one change. -/
theorem forAll_rel {ι : Type} {R : State → State → Prop} (hrefl : ∀ s, R s s)
    (htrans : ∀ {s t u}, R s t → R t u → R s u) {f : ι → State → State} (h : ∀ i s, R s (f i s)) (l : List ι) (s : State) :
    R s (forAll l f s) := by
  induction l generalizing s with
  | nil => exact hrefl s
  | cons i l ih => exact htrans (h i s) (ih (f i s))

/-! ### The fabric (20 R522 to R531, R539) -/

theorem dropFab_sent (s : State) (cause : Nat) : Sent s (dropFab s cause) :=
  ((modFabric_sent s _).trans (raise_raised _ _ _).sent).trans (raiseIf_raised _ _ _ _).sent

theorem putFrame_sent (s : State) (l : Fin 4) (f : FabFrame) : Sent s (putFrame s l f) := put_sent s _

theorem pumpGo_sent (l : Fin 4) (c : FabClass) (k : Nat) (s : State) : Sent s (pumpGo l c k s) := by
  induction k generalizing s with
  | zero => exact Sent.refl s
  | succ k ih =>
    unfold pumpGo
    dsimp only
    split
    · exact Sent.refl s
    · split
      · exact ((modLink_sent s l _).trans (putFrame_sent _ l _)).trans (ih _)
      · exact Sent.refl s

theorem sendSyncFrame_sent (s : State) (l : Fin 4) (f : FabFrame) : Sent s (sendSyncFrame s l f) := by
  unfold sendSyncFrame
  dsimp only
  split
  · exact (modLink_sent s l _).trans (dropFab_sent _ _)
  · exact (modLink_sent s l _).trans (putFrame_sent _ l _)

theorem sendLink_sent (s : State) (l : Fin 4) (f : FabFrame) : Sent s (sendLink s l f) := by
  unfold sendLink
  split
  · exact dropFab_sent s 0
  · split
    · exact sendSyncFrame_sent s l f
    · dsimp only
      split
      · exact dropFab_sent s 2
      · exact (modLink_sent s l _).trans (pumpGo_sent l _ _ _)

theorem sendTree_sent (s : State) (f : FabFrame) (b : Bool) : Sent s (sendTree s f b) := by
  unfold sendTree
  exact Sent.ite (sendLink_sent s _ _) (dropFab_sent s 0)

theorem stampEseq_sent (s : State) (f : FabFrame) : Sent s (stampEseq s f).1 := ⟨_, _, _, _, _, _, _, _, rfl⟩

theorem sendFab_sent (s : State) (f : FabFrame) : Sent s (sendFab s f) := by
  refine (stampEseq_sent s f).trans ?_
  unfold sendFab
  generalize stampEseq s f = x
  obtain ⟨t, g⟩ := x
  dsimp only
  split
  · exact forAll_rel Sent.refl Sent.trans (fun l u => Sent.ite (sendLink_sent u l g) (Sent.refl u)) four t
  · split
    case h_3 => exact sendTree_sent t g _
    all_goals exact Sent.ite ((sendTree_sent t _ false).trans (sendTree_sent _ _ true)) (sendTree_sent t g _)

/-! ### Ethernet (21 R544) -/

theorem putEth_sent (s : State) (e : Fin 2) (frame : List Byte) : Sent s (putEth s e frame) := by
  unfold putEth
  split
  · exact Sent.refl s
  · exact put_sent s _

theorem putArp_sent (s : State) (e : Fin 2) (own ip : BitVec 32) : Sent s (putArp s e own ip) := putEth_sent s e _

theorem putUdp_sent (s : State) (e : Fin 2) (ip : BitVec 32) (i j : Nat) (body : List Byte) :
    Sent s (putUdp s e ip i j body) := by
  unfold putUdp
  split
  · exact Sent.refl s
  · exact (fresh_sent s).trans (putEth_sent _ e _)

/-- A port with an ARP request for a next hop added to those that are out. -/
def noteArp (s : State) (e : Fin 2) (hop : BitVec 32) : State :=
  modEth s e (fun p => { p with arpWait := p.arpWait ++ [(hop, s.clk)] })

/-- The next hop is asked for already, or it is noted and the request is sent. -/
theorem askArp_cases (s : State) (e : Fin 2) (ip : BitVec 32) :
    (∃ w ∈ s.ports.eth[e].arpWait, w.1 = nextHop s e ip) ∧ askArp s e ip = s ∨
      Sent (noteArp s e (nextHop s e ip)) (askArp s e ip) := by
  unfold askArp
  dsimp only
  split
  next h => exact .inl ⟨by simpa using h, rfl⟩
  · exact .inr (putArp_sent _ e _ _)

theorem askArp_porter (s : State) (e : Fin 2) (ip : BitVec 32) : (askArp s e ip).porter = s.porter := by
  rcases askArp_cases s e ip with ⟨-, h⟩ | h
  · rw [h]
  · exact h.porter

/-! ### The replies that leave (03 R74, R79) -/

theorem sentReply_replies (s : State) (r : Reply) : (sentReply s r).porter.replies = s.porter.replies.erase r := by
  unfold sentReply
  dsimp only
  split <;> rfl

theorem sentReply_ports (s : State) (r : Reply) : (sentReply s r).ports = s.ports := by
  unfold sentReply
  dsimp only
  split <;> rfl

/-- In `t` every port has at least the ARP requests out that it has in `s`, and is else as in `s`. -/
def AsksMore (s t : State) : Prop :=
  ∀ e : Fin 2, ∃ l, t.ports.eth[e] = { s.ports.eth[e] with arpWait := s.ports.eth[e].arpWait ++ l }

theorem AsksMore.of_ports {s t : State} (h : t.ports = s.ports) : AsksMore s t := fun _ => ⟨[], by simp [h]⟩

theorem AsksMore.nextHop {s t : State} (h : AsksMore s t) (e : Fin 2) (ip : BitVec 32) :
    nextHop t e ip = nextHop s e ip := by
  obtain ⟨l, hl⟩ := h e
  simp only [Machine.nextHop, hl]

/-- A packet that waits goes on waiting while the requests that are out stay out. -/
theorem AsksMore.waits {s t : State} (h : AsksMore s t) {x : Reply} (hw : Waits s x) : Waits t x := by
  unfold Waits at *
  split at hw
  · exact hw
  next e ip _ _ =>
    obtain ⟨l, hl⟩ := h e
    obtain ⟨w, hmem, hhop⟩ := hw
    rw [h.nextHop, hl]
    exact ⟨w, List.mem_append_left l hmem, hhop⟩
  · trivial

theorem noteArp_asksMore (s : State) (e : Fin 2) (hop : BitVec 32) : AsksMore s (noteArp s e hop) := by
  intro k
  by_cases hk : k = e
  · exact ⟨[(hop, s.clk)], by subst hk; simp [noteArp, modEth]⟩
  · exact ⟨[], by simp [noteArp, modEth, hk]⟩

theorem askArp_asksMore (s : State) (e : Fin 2) (ip : BitVec 32) : AsksMore s (askArp s e ip) := by
  rcases askArp_cases s e ip with ⟨-, h⟩ | h
  · exact AsksMore.of_ports (by rw [h])
  · intro k
    rw [h.ports]
    exact noteArp_asksMore s e _ k

/-- After it is asked for, the next hop of a packet is among the requests that are out. -/
theorem askArp_mem (s : State) (e : Fin 2) (ip : BitVec 32) :
    ∃ w ∈ (askArp s e ip).ports.eth[e].arpWait, w.1 = nextHop (askArp s e ip) e ip := by
  rw [(askArp_asksMore s e ip).nextHop]
  rcases askArp_cases s e ip with ⟨hw, h⟩ | h
  · rwa [h]
  · rw [h.ports]
    exact ⟨(nextHop s e ip, s.clk), by simp [noteArp, modEth], rfl⟩

/-- Each packet either leaves the queue or waits in it, and those that wait already go on waiting. -/
theorem flushOne_leaves (s : State) (r : Reply) : AsksMore s (flushOne s r) ∧
    ((flushOne s r).porter.replies = s.porter.replies.erase r ∨
      (flushOne s r).porter.replies = s.porter.replies ∧ Waits (flushOne s r) r) := by
  unfold flushOne
  split
  next e ip udp htr =>
    split
    · have hs := putUdp_sent s e ip 40960 udp.toNat r.bytes
      exact ⟨AsksMore.of_ports ((sentReply_ports _ r).trans hs.ports), .inl (by rw [sentReply_replies, hs.porter])⟩
    · refine ⟨askArp_asksMore s e ip, .inr ⟨by rw [askArp_porter], ?_⟩⟩
      unfold Waits
      rw [htr]
      exact askArp_mem s e ip
  next src htr =>
    have hs := sendFab_sent s (localFrame s (src.setWidth 8) (.packet r.bytes))
    exact ⟨AsksMore.of_ports ((sentReply_ports _ r).trans hs.ports), .inl (by rw [sentReply_replies, hs.porter])⟩
  next heth hfab =>
    refine ⟨AsksMore.of_ports rfl, .inr ⟨rfl, ?_⟩⟩
    unfold Waits
    split
    next htr => exact hfab _ htr
    next htr => exact (heth _ _ _ htr).elim
    · trivial

/-- Every packet of the queue waits, or the packets still to be sent name it as often as the queue holds it. -/
def LeftTo (s : State) (rest : List Reply) : Prop :=
  ∀ x ∈ s.porter.replies, Waits s x ∨ s.porter.replies.count x ≤ rest.count x

theorem LeftTo.flushOne {s : State} {r : Reply} {rest : List Reply} (h : LeftTo s (r :: rest)) :
    LeftTo (flushOne s r) rest := by
  obtain ⟨hask, hq⟩ := flushOne_leaves s r
  intro x hx
  have hin : x ∈ s.porter.replies := by
    rcases hq with hq | ⟨hq, -⟩
    · exact List.mem_of_mem_erase (hq ▸ hx)
    · exact hq ▸ hx
  refine (h x hin).elim (fun hw => .inl (hask.waits hw)) fun hc => ?_
  by_cases hxr : x = r
  · subst hxr
    rcases hq with hq | ⟨-, hw⟩
    · right
      rw [hq, List.count_erase_self]
      rw [List.count_cons_self] at hc
      omega
    · exact .inl hw
  · right
    rw [List.count_cons_of_ne (Ne.symm hxr)] at hc
    rcases hq with hq | ⟨hq, -⟩
    · rwa [hq, List.count_erase_of_ne hxr]
    · rwa [hq]

/-- Once every packet of the queue had its turn, those that are left wait. -/
theorem LeftTo.flushed {rest : List Reply} {s : State} (h : LeftTo s rest) : Flushed (rest.foldl Machine.flushOne s) := by
  induction rest generalizing s with
  | nil =>
    intro x hx
    refine (h x hx).resolve_right fun hc => ?_
    exact List.count_eq_zero.mp (Nat.le_zero.mp hc) hx
  | cons r rest ih => exact ih h.flushOne

/-! ### The segments of CAN replies (03 R79, R80) -/

/-- `t` is `s` but for the Porter, of which the queue and the parameters are the same. -/
def Pumped (s t : State) : Prop :=
  ∃ q : Porter, t = { s with porter := q } ∧ q.replies = s.porter.replies ∧ q.params = s.porter.params

theorem Pumped.refl (s : State) : Pumped s s := ⟨_, rfl, rfl, rfl⟩

theorem Pumped.trans {s t u : State} (h : Pumped s t) (k : Pumped t u) : Pumped s u := by
  obtain ⟨_, rfl, hr, hp⟩ := h
  obtain ⟨_, rfl, kr, kp⟩ := k
  exact ⟨_, rfl, kr.trans hr, kp.trans hp⟩

theorem Pumped.flushed {s t : State} (h : Pumped s t) (hf : Flushed s) : Flushed t := by
  obtain ⟨q, rfl, hq, -⟩ := h
  intro x hx
  exact (AsksMore.of_ports rfl).waits (hf x (hq ▸ hx))

theorem modObj_pumped (s : State) (b : Fin 512) (f : CanObj → CanObj) : Pumped s (modObj s b f) := by
  unfold modObj
  split
  · exact ⟨_, rfl, rfl, rfl⟩
  · exact Pumped.refl s

theorem pumpCan_pumped (s : State) (p : Fin 6) : Pumped s (pumpCan s p) := by
  unfold pumpCan
  dsimp only
  generalize ht : (if s.porter.canOut[p] = [] then _ else s) = t
  have hst : Pumped s t := by
    rw [← ht]
    split
    · split
      · exact ⟨_, rfl, rfl, rfl⟩
      · exact Pumped.refl s
    · exact Pumped.refl s
  refine hst.trans ?_
  split
  · split
    · split
      · exact Pumped.refl t
      · exact modObj_pumped t _ _
    · exact Pumped.refl t
  · exact Pumped.refl t

theorem pumpAll_pumped (s : State) : Pumped s (forAll six (fun p s => pumpCan s p) s) :=
  forAll_rel Pumped.refl Pumped.trans (fun p u => pumpCan_pumped u p) six s

theorem flushed_flushReplies (s : State) : Flushed (flushReplies s) :=
  (pumpAll_pumped _).flushed (LeftTo.flushed fun _ _ => .inr (Nat.le_refl _))

theorem flushed_settled (s : State) : Flushed (settled s) := flushed_flushReplies _

/-! ### What follows a command (17 R457, R470) -/

/-- `t` is `s` but for the Porter without its parameters, the ports, and what sending changes. -/
def Answered (s t : State) : Prop :=
  ∃ (p : Porter) (q : Ports), p.params = s.porter.params ∧ Sent { s with porter := p, ports := q } t

theorem Sent.answered {s t : State} (h : Sent s t) : Answered s t := ⟨_, _, rfl, h⟩

theorem Answered.trans {s t u : State} (h : Answered s t) (k : Answered t u) : Answered s u := by
  obtain ⟨_, _, hp, _, _, _, _, _, _, _, _, rfl⟩ := h
  obtain ⟨_, _, kp, _, _, _, _, _, _, _, _, rfl⟩ := k
  exact ⟨_, _, kp.trans hp, _, _, _, _, _, _, _, _, rfl⟩

theorem Answered.of_porter {s : State} {q : Porter} (h : q.params = s.porter.params) :
    Answered s { s with porter := q } := ⟨q, _, h, Sent.refl _⟩

theorem Pumped.answered {s t : State} (h : Pumped s t) : Answered s t := by
  obtain ⟨q, rfl, -, hp⟩ := h
  exact Answered.of_porter hp

theorem sentReply_answered (s : State) (r : Reply) : Answered s (sentReply s r) := by
  unfold sentReply
  dsimp only
  split
  · exact Answered.of_porter rfl
  · exact Answered.of_porter rfl

theorem askArp_answered (s : State) (e : Fin 2) (ip : BitVec 32) : Answered s (askArp s e ip) := by
  rcases askArp_cases s e ip with ⟨-, h⟩ | h
  · rw [h]
    exact (Sent.refl s).answered
  · exact ⟨_, _, rfl, h⟩

theorem flushOne_answered (s : State) (r : Reply) : Answered s (flushOne s r) := by
  unfold flushOne
  split
  · split
    · exact (putUdp_sent s _ _ _ _ _).answered.trans (sentReply_answered _ r)
    · exact askArp_answered s _ _
  · exact (sendFab_sent s _).answered.trans (sentReply_answered _ r)
  · exact (Sent.refl s).answered

theorem flushReplies_answered (s : State) : Answered s (flushReplies s) :=
  (forAll_rel (fun s => (Sent.refl s).answered) Answered.trans (fun r u => flushOne_answered u r) s.porter.replies s).trans
    (pumpAll_pumped _).answered

theorem settleReactions_calm {s : State} (h : Calm s) : settleReactions s = s := by
  obtain ⟨hreq, hhold⟩ := h
  have hid : s.modFlue (fun f => { f with resetReq := [], holdReq := false }) = s := by
    rw [← hreq, ← hhold]; rfl
  unfold settleReactions
  rw [hid, hreq, hhold]
  have hid' : s.modFlue (fun f => { f with resetReq := [] }) = s := by
    rw [← hreq]; rfl
  simp [hid']

theorem pumpCan_silent {s : State} (h : Silent s) (p : Fin 6) : pumpCan s p = s := by
  obtain ⟨hreplies, hout⟩ := h
  unfold pumpCan
  simp [hreplies, hout p]

theorem flushReplies_silent {s : State} (h : Silent s) : flushReplies s = s := by
  unfold flushReplies
  rw [h.1]
  exact forAll_rel (R := fun s t => Silent s → t = s) (fun _ _ => rfl) (fun ht hu hs => by rw [hu (ht hs ▸ hs), ht hs])
    (fun p _ hs => pumpCan_silent hs p) six s h

/-- Where no reaction is requested, what follows a command is the replies that leave. -/
theorem settled_calm_answered {s : State} (h : Calm s) : Answered s (settled s) := by
  unfold settled
  rw [settleReactions_calm h]
  exact flushReplies_answered s

end Sys2Proof.Machine

namespace Sys2Proof.Proofs
open Sys2Proof.Machine Sys2Proof.Safety

/-- Settles O49: every packet has its turn and then either is gone or waits; the tick of an empty queue moves none. -/
theorem repliesLeave : Obligations.RepliesLeave := by
  unfold Obligations.RepliesLeave
  intro s t hs hstep
  unfold step at hstep
  split at hstep
  · obtain rfl := Host.Outcome.next.inj hstep
    exact fun x hx => (AsksMore.of_ports rfl).waits (hs x hx)
  next c rest _ =>
    obtain ⟨u, hu⟩ := exec_settled c { s with pending := rest }
    obtain rfl := Host.Outcome.next.inj (hu.symm.trans hstep)
    exact flushed_settled u

/-- Settles O50: without a reaction only replies leave, and what they change is named by `Answered`. -/
theorem commandAftermath : Obligations.CommandAftermath := by
  unfold Obligations.CommandAftermath
  refine ⟨fun s hc hq => ?_, fun s hc => ?_⟩
  · rw [settled, settleReactions_calm hc, flushReplies_silent hq]
  · obtain ⟨p, q, hp, _, _, _, _, _, _, _, _, heq⟩ := settled_calm_answered hc
    rw [heq]
    simpa using hp

end Sys2Proof.Proofs


/-! Proofs about the replay window of a session (03 R84). A sequence number is judged by how far it lies behind the
highest one accepted, modulo 2^32: more than half the circle behind is ahead (00 R9). -/
namespace Sys2Proof.Machine

/-- At 32 bits, later is more than half the circle behind. -/
theorem later_iff (a b : BitVec 32) : later a b = true ↔ 2 ^ 31 < (b - a).toNat := by
  simp only [later, Bool.and_eq_true, decide_eq_true_eq, BitVec.toNat_sub]
  have := a.isLt
  have := b.isLt
  omega

/-- How far a number lies behind another one is counted over any third one. -/
theorem toNat_sub_add (a b c : BitVec 32) : (a - c).toNat = ((a - b).toNat + (b - c).toNat) % 2 ^ 32 := by
  simp only [BitVec.toNat_sub]
  have := a.isLt
  have := b.isLt
  have := c.isLt
  omega

theorem eq_of_toNat_sub_eq {a b c : BitVec 32} (h : (a - b).toNat = (a - c).toNat) : b = c := by
  refine BitVec.eq_of_toNat_eq ?_
  simp only [BitVec.toNat_sub] at h
  have := b.isLt
  have := c.isLt
  omega

/-- A number is acceptable ahead of the highest, or among the 32 behind it when its bit is clear. -/
theorem seqOk_iff (x : Session) (q : BitVec 32) : seqOk x q = true ↔ 2 ^ 31 < (x.seqHigh - q).toNat ∨
    1 ≤ (x.seqHigh - q).toNat ∧ (x.seqHigh - q).toNat ≤ 32 ∧ x.window.getLsbD ((x.seqHigh - q).toNat - 1) = false := by
  simp [seqOk, later_iff, and_assoc]

theorem getLsbD_one_shiftLeft {i j : Nat} (hi : i < 32) : (1#32 <<< j).getLsbD i = decide (i = j) := by
  rw [BitVec.getLsbD_shiftLeft, BitVec.getLsbD_one]
  by_cases h : i = j <;> simp [h] <;> omega

/-- The window after a number ahead by `d` was accepted: its own bit is set, and the older ones move up by `d`. -/
theorem getLsbD_movedWindow (w : BitVec 32) {d e : Nat} (hd : 1 ≤ d) (he : 1 ≤ e) (he32 : e ≤ 32) :
    (if d ≤ 32 then (w <<< d) ||| (1#32 <<< (d - 1)) else 0).getLsbD (e - 1) = false ↔
      e ≠ d ∧ (d < e → w.getLsbD (e - d - 1) = false) := by
  split
  · rw [BitVec.getLsbD_or, getLsbD_one_shiftLeft (by omega), BitVec.getLsbD_shiftLeft, Nat.sub_right_comm e d 1]
    rcases Nat.lt_trichotomy e d with h | rfl | h
    · simp [show ¬ e = d by omega, show ¬ d < e by omega, show e - 1 < d by omega, show ¬ e - 1 = d - 1 by omega]
    · simp
    · simp [h, show ¬ e = d by omega, show ¬ e - 1 < d by omega, show ¬ e - 1 = d - 1 by omega, show e - 1 < 32 by omega]
  · simp
    omega

theorem seqTake_of_ahead {x : Session} {q : BitVec 32} (h : 2 ^ 31 < (x.seqHigh - q).toNat) :
    seqTake x q = { x with seqHigh := q, window :=
      if (q - x.seqHigh).toNat ≤ 32 then (x.window <<< (q - x.seqHigh).toNat) ||| (1#32 <<< ((q - x.seqHigh).toNat - 1)) else 0 } :=
  if_pos ((later_iff q x.seqHigh).mpr h)

theorem seqHigh_seqTake_of_ahead {x : Session} {q : BitVec 32} (h : 2 ^ 31 < (x.seqHigh - q).toNat) :
    (seqTake x q).seqHigh = q := by
  rw [seqTake_of_ahead h]

theorem seqTake_of_window {x : Session} {q : BitVec 32} (h : ¬ 2 ^ 31 < (x.seqHigh - q).toNat) :
    seqTake x q = { x with window := x.window ||| (1#32 <<< ((x.seqHigh - q).toNat - 1)) } :=
  if_neg fun hl => h ((later_iff q x.seqHigh).mp hl)

/-- What is acceptable once a number ahead was accepted: it is the highest now, and the window moves by as much. -/
theorem seqOk_seqTake_of_ahead {x : Session} {q : BitVec 32} (h : 2 ^ 31 < (x.seqHigh - q).toNat) (r : BitVec 32) :
    seqOk (seqTake x q) r = true ↔ 2 ^ 31 < (q - r).toNat ∨ 1 ≤ (q - r).toNat ∧ (q - r).toNat ≤ 32 ∧
      (q - r).toNat ≠ (q - x.seqHigh).toNat ∧
      ((q - x.seqHigh).toNat < (q - r).toNat → x.window.getLsbD ((q - r).toNat - (q - x.seqHigh).toNat - 1) = false) := by
  have hround := toNat_sub_add q x.seqHigh q
  rw [BitVec.sub_self, BitVec.toNat_zero] at hround
  rw [seqTake_of_ahead h, seqOk_iff]
  exact or_congr_right (and_congr_right fun he => and_congr_right fun he32 =>
    getLsbD_movedWindow x.window (by omega) he he32)

/-- What is acceptable once a number of the window was accepted: what was, without that number. -/
theorem seqOk_seqTake_of_window {x : Session} {q : BitVec 32} (h : ¬ 2 ^ 31 < (x.seqHigh - q).toNat) (r : BitVec 32) :
    seqOk (seqTake x q) r = true ↔ 2 ^ 31 < (x.seqHigh - r).toNat ∨
      1 ≤ (x.seqHigh - r).toNat ∧ (x.seqHigh - r).toNat ≤ 32 ∧
        x.window.getLsbD ((x.seqHigh - r).toNat - 1) = false ∧ (x.seqHigh - r).toNat - 1 ≠ (x.seqHigh - q).toNat - 1 := by
  rw [seqTake_of_window h, seqOk_iff]
  refine or_congr_right (and_congr_right fun he => and_congr_right fun he32 => ?_)
  rw [BitVec.getLsbD_or, getLsbD_one_shiftLeft (by simp only at *; omega)]
  simp

/-! The three clauses of the window, for a number that was ahead and for one of the window. -/
section
variable {x : Session} {q r : BitVec 32}

theorem seqOk_seqTake_self (x : Session) (q : BitVec 32) : seqOk (seqTake x q) q = false := by
  rw [← Bool.not_eq_true]
  by_cases h : 2 ^ 31 < (x.seqHigh - q).toNat
  · rw [seqOk_seqTake_of_ahead h, BitVec.sub_self]
    simp
  · rw [seqOk_seqTake_of_window h]
    rintro (hahead | ⟨-, -, -, hne⟩)
    · exact h hahead
    · exact hne rfl

theorem seqOk_seqTake_of_refused (hr : seqOk x r = false)
    (hnear : ((seqTake x q).seqHigh - r).toNat ≤ 2 ^ 31) : seqOk (seqTake x q) r = false := by
  rw [← Bool.not_eq_true, seqOk_iff] at hr
  rw [← Bool.not_eq_true]
  by_cases h : 2 ^ 31 < (x.seqHigh - q).toNat
  · rw [seqHigh_seqTake_of_ahead h] at hnear
    have hround := toNat_sub_add q x.seqHigh q
    have hsum := toNat_sub_add q x.seqHigh r
    rw [BitVec.sub_self, BitVec.toNat_zero] at hround
    rw [seqOk_seqTake_of_ahead h]
    rintro (hahead | ⟨-, he32, hne, hclear⟩)
    · omega
    · have he : (q - r).toNat = (q - x.seqHigh).toNat + (x.seqHigh - r).toNat := by omega
      refine hr (.inr ⟨by omega, by omega, ?_⟩)
      rw [← hclear (by omega), he, Nat.add_sub_cancel_left]
  · rw [seqOk_seqTake_of_window h]
    rintro (hahead | ⟨he1, he32, hclear, -⟩)
    · exact hr (.inl hahead)
    · exact hr (.inr ⟨he1, he32, hclear⟩)

theorem seqOk_seqTake_of_ok (hq : seqOk x q = true) (hr : seqOk x r = true) (hne : r ≠ q)
    (hnear : ((seqTake x q).seqHigh - r).toNat ≤ 32) : seqOk (seqTake x q) r = true := by
  rw [seqOk_iff] at hr
  by_cases h : 2 ^ 31 < (x.seqHigh - q).toNat
  · rw [seqHigh_seqTake_of_ahead h] at hnear
    have hround := toNat_sub_add q x.seqHigh q
    have hsum := toNat_sub_add q x.seqHigh r
    rw [BitVec.sub_self, BitVec.toNat_zero] at hround
    have hpos : (q - r).toNat ≠ 0 := fun h0 =>
      hne (eq_of_toNat_sub_eq (a := q) (by rw [h0, BitVec.sub_self, BitVec.toNat_zero]))
    rw [seqOk_seqTake_of_ahead h]
    rcases hr with hahead | ⟨he1, he32, hclear⟩
    · exact .inr ⟨by omega, hnear, by omega, fun _ => by omega⟩
    · have he : (q - r).toNat = (q - x.seqHigh).toNat + (x.seqHigh - r).toNat := by omega
      refine .inr ⟨by omega, hnear, by omega, fun _ => ?_⟩
      rw [he, Nat.add_sub_cancel_left, hclear]
  · have hin := ((seqOk_iff x q).mp hq).resolve_left h
    rw [seqOk_seqTake_of_window h]
    refine hr.imp_right fun ⟨he1, he32, hclear⟩ => ⟨he1, he32, hclear, fun hsame => hne ?_⟩
    exact eq_of_toNat_sub_eq (a := x.seqHigh) (by omega)
end

end Sys2Proof.Machine

namespace Sys2Proof.Proofs
open Sys2Proof.Machine

/-- Settles O56: by whether the accepted number was ahead of the highest or one of the window. -/
theorem replayWindow : Obligations.ReplayWindow := by
  unfold Obligations.ReplayWindow
  intro x q hq
  exact ⟨seqOk_seqTake_self x q, fun _ => seqOk_seqTake_of_refused, fun _ => seqOk_seqTake_of_ok hq⟩

end Sys2Proof.Proofs


/-! Proofs about the carriage of a packet: its segments on CAN (03 R80) and its escaping on a serial port (03 R79). -/
namespace Sys2Proof.Machine

/-! ### Segments -/

section
variable {k : Nat}

theorem segGo_of_le {l : List Byte} (h : l.length ≤ k) (fuel n : Nat) (first : Bool) :
    segGo k (fuel + 1) n first l = [BitVec.ofNat 8 (flag first 7 + 64 + n % 64) :: l] := if_pos h

theorem segGo_of_lt {l : List Byte} (h : k < l.length) (fuel n : Nat) (first : Bool) :
    segGo k (fuel + 1) n first l =
      (BitVec.ofNat 8 (flag first 7 + n % 64) :: l.take k) :: segGo k fuel (n + 1) false (l.drop k) := if_neg (Nat.not_le.mpr h)

theorem segGo_ne_nil (fuel n : Nat) (first : Bool) (l : List Byte) : segGo k (fuel + 1) n first l ≠ [] := by
  rcases Nat.lt_or_ge k l.length with h | h
  · simp [segGo_of_lt h]
  · simp [segGo_of_le h]

/-- With fuel for every byte, the segments hold the bytes in order, each behind its control byte. -/
theorem segGo_flatMap_tail (hk : 0 < k) (fuel n : Nat) (first : Bool) (l : List Byte) (hf : l.length < fuel) :
    (segGo k fuel n first l).flatMap List.tail = l := by
  induction fuel generalizing n first l with
  | zero => omega
  | succ fuel ih =>
    rcases Nat.lt_or_ge k l.length with h | h
    · have hrest := ih (n + 1) false (l.drop k) (by rw [List.length_drop]; omega)
      rw [segGo_of_lt h, List.flatMap_cons, hrest, List.tail_cons, List.take_append_drop]
    · simp [segGo_of_le h]

theorem length_le_of_mem_segGo (fuel n : Nat) (first : Bool) (l : List Byte) :
    ∀ seg ∈ segGo k fuel n first l, seg.length ≤ k + 1 := by
  induction fuel generalizing n first l with
  | zero => simp [segGo]
  | succ fuel ih =>
    rcases Nat.lt_or_ge k l.length with h | h
    · rw [segGo_of_lt h]
      refine List.forall_mem_cons.mpr ⟨?_, ih (n + 1) false (l.drop k)⟩
      rw [List.length_cons, List.length_take]
      omega
    · simpa [segGo_of_le h] using h

/-- The control byte of a segment: FIRST and LAST by its place, and the count from that of the first one on. -/
theorem segGo_head (hk : 0 < k) (fuel n : Nat) (first : Bool) (l : List Byte) (hf : l.length < fuel) (j : Nat)
    (hj : j < (segGo k fuel n first l).length) : (segGo k fuel n first l)[j].head? =
      some (BitVec.ofNat 8 (flag (first && j == 0) 7 + flag (j + 1 == (segGo k fuel n first l).length) 6 + (n + j) % 64)) := by
  induction fuel generalizing n first l j with
  | zero => omega
  | succ fuel ih =>
    rcases Nat.lt_or_ge k l.length with h | h
    · simp only [segGo_of_lt h, List.length_cons] at hj ⊢
      cases j with
      | zero =>
        have hrest : segGo k fuel (n + 1) false (l.drop k) ≠ [] := by
          obtain ⟨f, rfl⟩ : ∃ f, fuel = f + 1 := ⟨fuel - 1, by omega⟩
          exact segGo_ne_nil f _ _ _
        simp [flag, hrest]
      | succ j =>
        have hrest := ih (n + 1) false (l.drop k) (by rw [List.length_drop]; omega) j (by omega)
        simpa [Nat.add_assoc, Nat.add_comm 1 j] using hrest
    · simp only [segGo_of_le h] at hj ⊢
      obtain rfl : j = 0 := by simpa using hj
      simp [flag]

end

theorem segBytes_pos (f : CanFormat) : 0 < segBytes f := by
  cases f <;> decide

/-! ### Escaping -/

/-- 0x7D announces an escaped byte, and any other byte stands for itself. -/
theorem unescape_escaped (c : Byte) (l : List Byte) :
    unescape (0x7D :: (c ^^^ 0x20) :: l) = (unescape l).map (fun m => c :: m) := by
  have hc : c ^^^ 0x20 ^^^ 0x20 = c := by rw [BitVec.xor_assoc, BitVec.xor_self, BitVec.xor_zero]
  simp only [unescape, if_true, hc]

theorem unescape_plain {b : Byte} (h : b ≠ 0x7D) (l : List Byte) : unescape (b :: l) = (unescape l).map (fun m => b :: m) := by
  rw [unescape.eq_def]
  exact if_neg h

theorem escape_cons (b : Byte) (l : List Byte) :
    escape (b :: l) = (if b = 0x7D ∨ b = 0x7E then [0x7D, b ^^^ 0x20] else [b]) ++ escape l := rfl

/-- The receiver undoes the escaping. -/
theorem unescape_escape (l : List Byte) : unescape (escape l) = some l := by
  induction l with
  | nil => rfl
  | cons b l ih =>
    rw [escape_cons]
    split
    · rw [List.cons_append, List.cons_append, List.nil_append, unescape_escaped, ih, Option.map_some]
    next h => rw [List.cons_append, List.nil_append, unescape_plain (fun e => h (.inl e)), ih, Option.map_some]

/-- No frame byte stands in an escaped packet. -/
theorem frameByte_notMem_escape (l : List Byte) : (0x7E : Byte) ∉ escape l := by
  induction l with
  | nil => exact List.not_mem_nil
  | cons b l ih =>
    rw [escape_cons, List.mem_append, not_or]
    refine ⟨?_, ih⟩
    split
    next h => rcases h with rfl | rfl <;> decide
    next h => simpa using fun e => h (.inr e.symm)

end Sys2Proof.Machine

namespace Sys2Proof.Proofs
open Sys2Proof.Machine

/-- Settles O57: the segments by the rounds that cut them, the escaping byte by byte. -/
theorem packetCarriage : Obligations.PacketCarriage := by
  unfold Obligations.PacketCarriage
  refine ⟨fun f l => ⟨?_, fun k hk => ⟨?_, ?_⟩⟩, fun l => ⟨unescape_escape l, frameByte_notMem_escape l⟩⟩
  · exact segGo_flatMap_tail (segBytes_pos f) _ 0 true l (Nat.lt_succ_self _)
  · exact length_le_of_mem_segGo _ 0 true l _ (List.getElem_mem hk)
  · have hhead := segGo_head (segBytes_pos f) _ 0 true l (Nat.lt_succ_self _) k hk
    rwa [Bool.true_and, Nat.zero_add] at hhead

end Sys2Proof.Proofs


/-! Proofs about the layout of the packets that the module sends (03 R65, R68 to R70): numbers as bytes, the length of a
digest, and a packet's header as the module parses it. -/
namespace Sys2Proof.Machine

/-! ### Numbers as bytes (03 R65) -/

@[simp] theorem length_beBytes (k n : Nat) : (beBytes k n).length = k := by
  induction k with
  | zero => rfl
  | succ k ih => rw [beBytes, List.length_cons, ih]

/-- Bytes behind a number shift it up by their count. -/
theorem foldl_beNat (l : List Byte) (a : Nat) :
    l.foldl (fun a b => a * 256 + b.toNat) a = a * 256 ^ l.length + beNat l := by
  induction l generalizing a with
  | nil => simp [beNat]
  | cons b l ih =>
    have hcons : beNat (b :: l) = (0 * 256 + b.toNat) * 256 ^ l.length + beNat l := ih _
    rw [List.foldl_cons, ih, hcons, List.length_cons, Nat.pow_succ, Nat.zero_mul, Nat.zero_add, Nat.add_mul,
      Nat.mul_assoc, Nat.mul_comm 256, Nat.add_assoc]

theorem beNat_append (l m : List Byte) : beNat (l ++ m) = beNat l * 256 ^ m.length + beNat m :=
  List.foldl_append.trans (foldl_beNat m (beNat l))

/-- What bytes of a number say: the number, modulo their range. -/
theorem beNat_beBytes (k n : Nat) : beNat (beBytes k n) = n % 256 ^ k := by
  induction k with
  | zero => rw [Nat.pow_zero, Nat.mod_one]; rfl
  | succ k ih =>
    have hhead : beNat [BitVec.ofNat 8 (n / 256 ^ k)] = n / 256 ^ k % 256 := by simp [beNat]
    rw [beBytes, ← List.singleton_append, beNat_append, ih, length_beBytes, hhead, Nat.pow_succ, Nat.mod_mul,
      Nat.add_comm, Nat.mul_comm]

/-- A field behind other bytes, and one at the front. -/
theorem field_append_right {pre : List Byte} {i : Nat} (h : pre.length ≤ i) (l : List Byte) (k : Nat) :
    field (pre ++ l) i k = field l (i - pre.length) k := by
  rw [field, field, List.drop_append, List.drop_eq_nil_of_le h, List.nil_append]

theorem field_beBytes (k n : Nat) (l : List Byte) : field (beBytes k n ++ l) 0 k = n % 256 ^ k := by
  simp [field, beNat_beBytes]

/-! ### Digests (03 R68) -/

theorem length_shaStart : shaStart.length = 8 := by
  rw [shaStart, List.length_map]
  decide

theorem length_shaStep (v : List (BitVec 32)) (kw : BitVec 32) : (shaStep v kw).length = 8 := rfl

theorem length_foldl_shaStep (l : List (BitVec 32)) {v : List (BitVec 32)} (h : v.length = 8) :
    (l.foldl shaStep v).length = 8 := by
  induction l generalizing v with
  | nil => exact h
  | cons x l ih => exact ih (length_shaStep v x)

theorem length_shaBlock {v : List (BitVec 32)} (h : v.length = 8) (block : List Byte) : (shaBlock v block).length = 8 := by
  simp [shaBlock, h, length_foldl_shaStep _ h]

theorem length_shaChain (k : Nat) (l : List Byte) {v : List (BitVec 32)} (h : v.length = 8) :
    (shaChain k l v).length = 8 := by
  induction k generalizing l v with
  | zero => exact h
  | succ k ih => exact ih _ (length_shaBlock h _)

theorem length_flatMap_beBytes (k : Nat) (v : List (BitVec 32)) :
    (v.flatMap (fun w => beBytes k w.toNat)).length = k * v.length := by
  induction v with
  | nil => rfl
  | cons w v ih =>
    rw [List.flatMap_cons, List.length_append, ih, length_beBytes, List.length_cons, Nat.mul_succ, Nat.add_comm]

theorem length_sha256 (m : List Byte) : (sha256 m).length = 32 := by
  rw [sha256, length_flatMap_beBytes, length_shaChain _ _ length_shaStart]

theorem length_hmac (key msg : List Byte) : (hmac key msg).length = 32 := length_sha256 _

/-! ### The packets (03 R65, R68, R69) -/

/-- The word of LEVEL, SV and SESSION in the header of a packet. -/
def Reply.word (r : Reply) : Nat := r.level.toNat * 8192 + flag r.sv 9 + r.session.toNat

/-- The 16 bytes of the header of a packet. -/
def Reply.header (r : Reply) : List Byte :=
  beBytes 1 (0x30 + flag r.completion 3 + flag (r.sv && !r.key.isEmpty) 2) ++ (beBytes 1 0 ++
    (beBytes 2 (r.opcode.toNat % 32768 + 32768) ++ (beBytes 2 r.tag.toNat ++ (beBytes 2 r.status.toNat ++
      (beBytes 2 r.data.length ++ (beBytes 2 r.word ++ beBytes 4 0))))))

/-- The authentication field of a packet: with a session key its sequence number and its MAC. -/
def Reply.authField (r : Reply) : List Byte :=
  if r.sv && !r.key.isEmpty then
    beBytes 4 r.seq.toNat ++ (hmac r.key (r.header ++ r.data ++ beBytes 4 r.seq.toNat)).take 16
  else []

theorem Reply.bytes_eq (r : Reply) : r.bytes =
    r.header ++ r.data ++ r.authField ++ beBytes 4 (crc32c (r.header ++ r.data ++ r.authField)).toNat := by
  have hhead : r.header ++ r.data = [BitVec.ofNat 8 (0x30 + flag r.completion 3 + flag (r.sv && !r.key.isEmpty) 2), 0] ++
      beBytes 2 (r.opcode.toNat % 32768 + 32768) ++ beBytes 2 r.tag.toNat ++ beBytes 2 r.status.toNat ++
      beBytes 2 r.data.length ++ beBytes 2 (r.level.toNat * 8192 + flag r.sv 9 + r.session.toNat) ++ beBytes 4 0 ++ r.data := by
    simp [Reply.header, Reply.word, beBytes]
  unfold Reply.bytes Reply.authField
  dsimp only
  rw [← hhead]
  split <;> simp

@[simp] theorem Reply.length_header (r : Reply) : r.header.length = 16 := by
  simp [Reply.header]

theorem Reply.length_authField (r : Reply) : r.authField.length = if r.sv && !r.key.isEmpty then 20 else 0 := by
  unfold Reply.authField
  split <;> simp [length_hmac]

/-- The last four bytes are the CRC of what stands before them. -/
theorem Reply.crc_bytes (r : Reply) :
    beNat (r.bytes.drop (r.bytes.length - 4)) = (crc32c (r.bytes.take (r.bytes.length - 4))).toNat := by
  have hlen : r.bytes.length - 4 = (r.header ++ r.data ++ r.authField).length := by
    rw [r.bytes_eq, List.length_append (bs := beBytes _ _), length_beBytes, Nat.add_sub_cancel]
  rw [hlen, r.bytes_eq, List.drop_left, List.take_left, beNat_beBytes]
  exact Nat.mod_eq_of_lt (crc32c _).isLt

theorem Reply.data_bytes (r : Reply) : (r.bytes.drop 16).take r.data.length = r.data := by
  rw [r.bytes_eq, List.append_assoc, List.append_assoc, List.drop_left' r.length_header, List.take_left]

/-- The header that a packet is sent with. -/
def Reply.hdr (r : Reply) : Hdr :=
  { version := 3, completion := r.completion, auth := r.sv && !r.key.isEmpty, reserved := false, hop := 0
    opcode := r.opcode ||| 0x8000#16, tag := r.tag, target := r.status, length := r.data.length, level := r.level
    sv := r.sv, session := r.session }

theorem Reply.bits_word (r : Reply) : bits r.word 15 13 = r.level.toNat ∧ bits r.word 12 10 = 0 ∧ bit r.word 9 = r.sv ∧
    bits r.word 8 0 = r.session.toNat := by
  have hl := r.level.isLt
  have hs := r.session.isLt
  cases h : r.sv <;> simp [bits, bit, Reply.word, flag, h] <;> omega

theorem Reply.word_lt (r : Reply) : r.word < 65536 := by
  have hl := r.level.isLt
  have hs := r.session.isLt
  cases h : r.sv <;> simp [Reply.word, flag, h] <;> omega

/-- The fields of a packet as sent, number by number. -/
theorem Reply.field_bytes (r : Reply) (h : r.data.length ≤ 1024) :
    field r.bytes 0 1 = 0x30 + flag r.completion 3 + flag (r.sv && !r.key.isEmpty) 2 ∧ field r.bytes 1 1 = 0 ∧
    field r.bytes 2 2 = r.opcode.toNat % 32768 + 32768 ∧ field r.bytes 4 2 = r.tag.toNat ∧
    field r.bytes 6 2 = r.status.toNat ∧ field r.bytes 8 2 = r.data.length ∧ field r.bytes 10 2 = r.word ∧
    field r.bytes 12 4 = 0 := by
  have hw := r.word_lt
  have ht := r.tag.isLt
  have hs := r.status.isLt
  have h0 : 0x30 + flag r.completion 3 + flag (r.sv && !r.key.isEmpty) 2 < 256 := by
    cases r.completion <;> cases (r.sv && !r.key.isEmpty) <;> decide
  simp only [r.bytes_eq, Reply.header, List.append_assoc]
  simp [field_append_right, field_beBytes]
  omega

theorem mod_add_bit15 {n : Nat} (h : n < 65536) : n % 32768 + 32768 = n ||| 32768 := by
  have hor : 32768 + n % 32768 = 32768 ||| n % 32768 :=
    Nat.two_pow_add_eq_or_of_lt (i := 15) (Nat.mod_lt n (by decide)) 1
  rcases Nat.lt_or_ge n 32768 with hlow | hhigh
  · rw [Nat.mod_eq_of_lt hlow] at hor ⊢
    rw [Nat.add_comm, hor, Nat.or_comm]
  · have hn : n = 32768 + n % 32768 := by omega
    calc n % 32768 + 32768 = 32768 ||| (32768 ||| n % 32768) := by rw [← Nat.or_assoc, Nat.or_self, ← hor, Nat.add_comm]
      _ = n ||| 32768 := by rw [← hor, ← hn, Nat.or_comm]

theorem opcode_or_bit15 (op : BitVec 16) : BitVec.ofNat 16 (op.toNat % 32768 + 32768) = op ||| 0x8000#16 := by
  rw [mod_add_bit15 op.isLt]
  simp

theorem parseHdr_bytes (r : Reply) (h : r.data.length ≤ 1024) : parseHdr r.bytes = r.hdr := by
  obtain ⟨f0, f1, f2, f4, f6, f8, f10, f12⟩ := r.field_bytes h
  obtain ⟨w15, w12, w9, w0⟩ := r.bits_word
  have hb0 : bits (field r.bytes 0 1) 7 4 = 3 ∧ bit (field r.bytes 0 1) 3 = r.completion ∧
      bit (field r.bytes 0 1) 2 = (r.sv && !r.key.isEmpty) ∧ bit (field r.bytes 0 1) 0 = false := by
    rw [f0]
    cases r.completion <;> cases (r.sv && !r.key.isEmpty) <;> decide
  obtain ⟨b7, b3, b2, b0⟩ := hb0
  simp [parseHdr, Reply.hdr, f1, f2, f4, f6, f8, f10, f12, w15, w12, w9, w0, b7, b3, b2, b0, opcode_or_bit15]

end Sys2Proof.Machine

namespace Sys2Proof.Proofs
open Sys2Proof.Machine

/-- Settles O58: the header is parsed field by field, and the rest stands where its lengths say. -/
theorem packetLayout : Obligations.PacketLayout := by
  unfold Obligations.PacketLayout
  intro r h
  have hlen : r.bytes.length = packetLen r.hdr := by
    rw [r.bytes_eq]
    simp [r.length_authField, packetLen, Reply.hdr, Nat.add_assoc]
  exact ⟨r.hdr, parseHdr_bytes r h, hlen, r.crc_bytes, rfl, rfl, rfl, rfl, rfl, rfl, rfl, rfl, rfl, rfl, rfl, rfl,
    r.data_bytes⟩

end Sys2Proof.Proofs


/-! Proofs about the intake of packets (03 R72, R80; 23 R577): the checks that a packet passes, the segments of CAN, and
the limits of long commands. -/
namespace Sys2Proof.Machine
open Sys2Proof.Safety

/-! ### COMMAND_PACKET_RECEIVE (03 R72) -/

theorem startState_of_up {s : State} (h : s.up = true) : s.start.startState = .ready ∨ s.start.startState = .restricted := by
  simpa [State.up] using h

/-- The newest packet of a session is noted in the Porter alone. -/
theorem touchSession_porter (s : State) (h : Hdr) (q : BitVec 32) : ∃ x : Porter, touchSession s h q = { s with porter := x } := by
  unfold touchSession
  split
  · exact ⟨_, rfl⟩
  · split
    · exact ⟨_, rfl⟩
    · exact ⟨_, rfl⟩

theorem si7_touchSession (s : State) (h : Hdr) (q : BitVec 32) : si7 (touchSession s h q) = si7 s := by
  obtain ⟨x, hx⟩ := touchSession_porter s h q
  rw [hx]; rfl

theorem up_touchSession (s : State) (h : Hdr) (q : BitVec 32) : (touchSession s h q).up = s.up := by
  obtain ⟨x, hx⟩ := touchSession_porter s h q
  rw [hx]; rfl

/-- A packet that passes every check becomes an outstanding command, and its session's newest. -/
theorem checkPacket_of_passes {s : State} {p : ReadyPacket} {i : OpInfo} (h : Passes s p i) :
    checkPacket s p (parseHdr p.bytes) =
      (touchSession s (parseHdr p.bytes) (authSeq (parseHdr p.bytes) p.bytes)).modPorter
        (fun x => { x with cmds := x.cmds ++ [cmdOf s p] }) := by
  obtain ⟨-, -, -, -, hver, hres, hlev, hop, hcomp, hsv, hauth, hhop, htag, hroom, hinfo, hkind, htgt, hidx, hacc, hsi7, -,
    hup⟩ := h
  have hsession : (!(parseHdr p.bytes).sv && (parseHdr p.bytes).session != 0) = false := by
    cases hc : (parseHdr p.bytes).sv
    · simp [hsv hc]
    · simp
  have hhold : (s.start.startState == .hold) = false := by
    rcases startState_of_up hup with h | h <;> rw [h] <;> rfl
  have hkey : (needsSi7 (parseHdr p.bytes) ((p.bytes.drop 16).take (parseHdr p.bytes).length) && !si7 s) = false := by
    simpa using hsi7
  unfold checkPacket
  simp only [hver, hres, hop, hcomp, hsession, hauth, htag, hroom, hinfo, hkind, htgt, hidx, hacc, hhold, hkey, hup,
    si7_touchSession, up_touchSession, Nat.not_lt.mpr hhop, Nat.not_lt.mpr hlev, bne_self_eq_false, Bool.or_self, Bool.false_and,
    decide_false, ne_eq, not_true_eq_false, Option.isSome_none, Bool.not_true, Bool.not_false, Bool.true_and,
    Bool.false_eq_true, Bool.true_eq_false, or_self, if_false]
  rfl

theorem receivePacket_of_passes {s : State} {p : ReadyPacket} {i : OpInfo} (h : Passes s p i) :
    receivePacket s p =
      (touchSession s (parseHdr p.bytes) (authSeq (parseHdr p.bytes) p.bytes)).modPorter
        (fun x => { x with cmds := x.cmds ++ [cmdOf s p] }) := by
  rw [← checkPacket_of_passes h]
  obtain ⟨hlen, hmax, hwhole, hcrc, -, -, -, -, -, -, -, -, -, -, -, -, -, -, -, -, hboot, hup⟩ := h
  have hstate : ¬ (s.start.startState = .boot ∨ s.start.startState = .tests) := by
    rcases startState_of_up hup with h | h <;> rw [h] <;> decide
  unfold receivePacket
  simp only [hboot, hup, Nat.not_lt.mpr hlen, Nat.not_lt.mpr hmax, ← hwhole, hcrc, hstate, Bool.not_true, Bool.false_and, Bool.or_self,
    Bool.false_eq_true, ne_eq, not_true_eq_false, or_self, if_false]

/-- A packet of the right length whose CRC is wrong only counts. -/
theorem receivePacket_of_wrong_crc {s : State} {p : ReadyPacket} (hboot : s.start.bootBegun = true) (hup : s.up = true)
    (hlen : 20 ≤ p.bytes.length) (hmax : (parseHdr p.bytes).length ≤ 1024)
    (hwhole : p.bytes.length = packetLen (parseHdr p.bytes))
    (hcrc : beNat (p.bytes.drop (p.bytes.length - 4)) ≠ (crc32c (p.bytes.take (p.bytes.length - 4))).toNat) :
    receivePacket s p = countTransport s p.tr.index 1 := by
  unfold receivePacket
  simp only [hboot, hup, Nat.not_lt.mpr hlen, Nat.not_lt.mpr hmax, ← hwhole, hcrc, Bool.not_true, Bool.false_and, Bool.or_self,
    Bool.false_eq_true, ne_eq, not_true_eq_false, not_false_eq_true, or_self, if_false, if_true]

/-- The oldest packet that is ready is received. -/
theorem exec_commandPacketReceive_of_ready {s : State} {p : ReadyPacket} {rest : List ReadyPacket} (dt : Nat)
    (h : s.porter.ready = p :: rest) : exec (.commandPacketReceive dt) s =
      .next (settled (receivePacket ((advance s dt).modPorter (fun x => { x with ready := rest })) p)) := by
  have h' : (advance s dt).porter.ready = p :: rest := h
  rw [exec_commandPacketReceive, execCommandPacketReceive]
  simp only [h', done]

/-! ### CAN segments (03 R80) -/

theorem modObj_canIn (s : State) (b : Fin 512) (f : CanObj → CanObj) : (modObj s b f).porter.canIn = s.porter.canIn := by
  unfold modObj
  split <;> rfl

theorem modObj_clk (s : State) (b : Fin 512) (f : CanObj → CanObj) : (modObj s b f).clk = s.clk := by
  unfold modObj
  split <;> rfl

theorem countTransport_clk (s : State) (t : Fin 12) (which : Nat) : (countTransport s t which).clk = s.clk := by
  unfold countTransport
  exact ((raiseIf_raised _ _ _ _).fields.1).trans (raise_raised _ _ _).fields.1

theorem dropSegment_clk (s : State) (p : Fin 6) : (dropSegment s p).clk = s.clk := countTransport_clk _ _ _

theorem dropSegment_ite_clk (c : Prop) [Decidable c] (s : State) (p : Fin 6) :
    (if c then dropSegment s p else s).clk = s.clk := by
  split
  · exact dropSegment_clk s p
  · rfl

section
variable {s : State} {p : Fin 6} {b : Fin 512} {o : CanObj} {f : CanFrame} {ctl : Byte} {body : List Byte}
  (hreq : requestObj s p = some b) (hobj : canObj s b = some o) (hframe : o.frame = some f) (hdata : f.data = ctl :: body)

include hreq hobj hframe hdata

/-- A first segment begins a packet, after it has discarded the one in progress. -/
theorem exec_canSegmentReceive_of_first (dt : Nat) (hfirst : ctl.getLsbD 7 = true) (hcount : (ctl.setWidth 6 : BitVec 6) = 0) :
    exec (.canSegmentReceive dt p) s = .next (settled
      (addSegment (if s.porter.canIn[p].isSome then dropSegment (modObj (advance s dt) b (fun o =>
          { o with new := false })) p else modObj (advance s dt) b (fun o => { o with new := false })) p
        { bytes := [], next := 0, lastAt := s.clk + dt } f body (ctl.getLsbD 6))) := by
  have hreq' : requestObj (advance s dt) p = some b := hreq
  have hobj' : canObj (advance s dt) b = some o := hobj
  rw [exec_canSegmentReceive, execCanSegmentReceive]
  simp only [hreq', hobj', Option.bind_some, hframe, hdata, hfirst, hcount, if_true, done, modObj_canIn,
    dropSegment_ite_clk, modObj_clk, advance_fields]

/-- A later segment joins the packet in progress when it is the next in count, and discards it otherwise. -/
theorem exec_canSegmentReceive_of_later (dt : Nat) {a : CanAssembly} (hlater : ctl.getLsbD 7 = false)
    (hin : s.porter.canIn[p] = some a) :
    exec (.canSegmentReceive dt p) s = .next (settled
      (if (ctl.setWidth 6 : BitVec 6) = a.next then
          addSegment (modObj (advance s dt) b (fun o => { o with new := false })) p a f body (ctl.getLsbD 6)
        else dropSegment (modObj (advance s dt) b (fun o => { o with new := false })) p)) := by
  have hreq' : requestObj (advance s dt) p = some b := hreq
  have hobj' : canObj (advance s dt) b = some o := hobj
  rw [exec_canSegmentReceive, execCanSegmentReceive]
  simp only [hreq', hobj', Option.bind_some, hframe, hdata, hlater, Bool.false_eq_true, if_false, done, modObj_canIn,
    advance_fields, hin]

end

/-- Without a segment for 100 ms the packet in progress is discarded. -/
theorem exec_canSegmentTimeout_of_elapsed {s : State} {dt : Nat} {p : Fin 6} {a : CanAssembly}
    (hin : s.porter.canIn[p] = some a) (hdue : a.lastAt + 20000000 ≤ s.clk + dt) :
    exec (.canSegmentTimeout dt p) s = .next (settled (dropSegment (advance s dt) p)) := by
  have hel : elapsed (advance s dt) a.lastAt (msTicks 100) = true := decide_eq_true hdue
  rw [exec_canSegmentTimeout, execCanSegmentTimeout]
  simp only [advance_fields, hin, hel, if_true, done]

/-! ### LONG_COMMAND_TIMEOUT (23 R577) -/

section
variable {s : State} {dt : Nat} {tr : Transport} {tag : BitVec 16} {c : Cmd}
  (hc : findCmd s tr tag = some c) (hrun : c.phase = .running)

include hc hrun

theorem exec_longCommandTimeout_of_store {x : Storing} (hop : c.opcode = 0x0102)
    (hdue : c.startedAt + 20000000 ≤ s.clk + dt) (hx : s.porter.storing = some x) (hid : x.cmd = c.id) :
    exec (.longCommandTimeout dt tr tag) s = .next (settled
      (completeAt ((advance s dt).modPorter (fun p => { p with storing := none })) c.id stTIMEOUT [])) := by
  have hc' : findCmd (advance s dt) tr tag = some c := hc
  have hel : elapsed (advance s dt) c.startedAt (msTicks 100) = true := decide_eq_true hdue
  rw [exec_longCommandTimeout, execLongCommandTimeout]
  simp [hc', hrun, hop, hel, hx, hid, done]

theorem exec_longCommandTimeout_of_enable (hop : c.opcode = 0x0200) (hdue : c.startedAt + 26000000000 ≤ s.clk + dt)
    (hen : s.drive[c.m].enabling.any (fun e => e.result.isNone) = true) :
    exec (.longCommandTimeout dt tr tag) s = .next (settled
      (faultStop (endEnable (advance s dt) c.m stTIMEOUT []) c.m none)) := by
  have hc' : findCmd (advance s dt) tr tag = some c := hc
  have hel : elapsed (advance s dt) c.startedAt (msTicks 130000) = true := decide_eq_true hdue
  rw [exec_longCommandTimeout, execLongCommandTimeout]
  simp only [hc', hrun, hop, hel, hen, done, advance_fields, ne_eq, not_true_eq_false, if_false, and_self, if_true]
  rfl

theorem exec_longCommandTimeout_of_imageEnd {x : ImageLoad} (hop : c.opcode = 0x0A12)
    (hdue : c.startedAt + 400000000 ≤ s.clk + dt) (hx : s.porter.load = some x) (hend : x.ending ≠ none) :
    exec (.longCommandTimeout dt tr tag) s = .next (settled
      (completeAt ((advance s dt).modPorter (fun p => { p with load := none })) c.id stTIMEOUT [])) := by
  have hc' : findCmd (advance s dt) tr tag = some c := hc
  have hel : elapsed (advance s dt) c.startedAt (msTicks 2000) = true := decide_eq_true hdue
  have hsome : x.ending.isSome = true := Option.isSome_iff_ne_none.mpr hend
  rw [exec_longCommandTimeout, execLongCommandTimeout]
  simp [hc', hrun, hop, hel, hx, hsome, done]

end

end Sys2Proof.Machine

namespace Sys2Proof.Proofs
open Sys2Proof.Machine Sys2Proof.Safety

/-- Settles O5, command by command; the time that passes before a packet is taken changes nothing that its checks read. -/
theorem packetIntake : Obligations.PacketIntake := by
  unfold Obligations.PacketIntake
  intro s dt
  refine ⟨fun p rest i hready h => ?_, fun p rest hready hboot hup hlen hmax hwhole hcrc => ?_, ?_, ?_, ?_, ?_, ?_, ?_⟩
  · have h' : Passes ((advance s dt).modPorter (fun x => { x with ready := rest })) p i := h
    rw [exec_commandPacketReceive_of_ready dt hready, receivePacket_of_passes h']
    rfl
  · rw [exec_commandPacketReceive_of_ready dt hready,
      receivePacket_of_wrong_crc (s := (advance s dt).modPorter _) hboot hup hlen hmax hwhole hcrc]
  · exact fun _ _ _ _ _ _ hreq hobj hframe hdata => exec_canSegmentReceive_of_first hreq hobj hframe hdata dt
  · exact fun _ _ _ _ _ _ _ hreq hobj hframe hdata => exec_canSegmentReceive_of_later hreq hobj hframe hdata dt
  · exact fun _ _ => exec_canSegmentTimeout_of_elapsed
  · exact fun _ _ _ _ hc hrun => exec_longCommandTimeout_of_store hc hrun
  · exact fun _ _ _ hc hrun => exec_longCommandTimeout_of_enable hc hrun
  · exact fun _ _ _ _ hc hrun => exec_longCommandTimeout_of_imageEnd hc hrun

end Sys2Proof.Proofs


/-! Proofs about the sessions (03 R82 to R86, 23 R591). The start of a command changes nothing that a session opcode
reads of the Porter: the berths, the keys and the time. -/
namespace Sys2Proof.Machine
open Sys2Proof.Safety

section
variable {s : State} {tr : Transport} {tag : BitVec 16} {c : Cmd}

theorem exec_sessionOpen_of_free {b : Fin 512} (h : Starts s tr tag 0x0700 c) (hlen : c.data.length = 18)
    (hslot : field c.data 16 1 ≤ 7) (hkey : s.porter.keys[finOf 8 (field c.data 16 1)] ≠ none)
    (hlow : 1 ≤ field c.data 17 1) (hhigh : field c.data 17 1 ≤ 4) (hfree : freeBerth s = some b)
    (hroom : sessionCount s < 64) :
    exec (.sessionOpen tr tag) s = .next (settled (reply (setBerth (freshNonce (begun s tr tag)).2 b (.session {
        isOpen := false, transport := c.tr, slot := finOf 8 (field c.data 16 1), level := BitVec.ofNat 3 (field c.data 17 1),
        nonces := c.data.take 16 ++ (freshNonce s).1, lastAt := s.clk, openTime := s.tb.now })) c stOK
      (beBytes 2 b.val ++ (freshNonce s).1))) := by
  have hkey' : (begun s tr tag).porter.keys[finOf 8 (field c.data 16 1)] ≠ none := hkey
  have hfree' : freeBerth (begun s tr tag) = some b := hfree
  have hroom' : ¬ 64 ≤ sessionCount (begun s tr tag) := Nat.not_le.mpr hroom
  rw [exec_sessionOpen, execSessionOpen, onCmd_starts h, needLen_of_length hlen]
  simp only [Nat.not_lt.mpr hslot, hkey', Nat.not_lt.mpr hlow, Nat.not_lt.mpr hhigh, hfree', hroom', or_self, if_false, done]
  rfl

theorem exec_sessionProve_of_right {x : Session} {k : KeySlot} (h : Starts s tr tag 0x0701 c) (hlen : c.data.length = 32)
    (hx : s.porter.berths[c.berth] = .session x) (hopen : x.isOpen = false) (hk : s.porter.keys[x.slot] = some k)
    (hproof : c.data = hmac k.key x.nonces) :
    exec (.sessionProve tr tag) s = .next (settled (reply (setBerth (begun s tr tag) c.berth (.session { x with
        isOpen := true, level := if x.level.toNat ≤ k.maxLevel.toNat then x.level else k.maxLevel,
        key := hmac k.key (sessionText ++ x.nonces), seqHigh := 0, window := BitVec.allOnes 32, lastAt := s.clk })) c stOK
      (beBytes 1 (if x.level.toNat ≤ k.maxLevel.toNat then x.level else k.maxLevel).toNat ++ beBytes 2 x.timeout))) := by
  have hx' : (begun s tr tag).porter.berths[c.berth] = .session x := hx
  have hk' : (begun s tr tag).porter.keys[x.slot] = some k := hk
  rw [exec_sessionProve, execSessionProve, onCmd_starts h, needLen_of_length hlen]
  simp only [hx', hopen, hk', if_pos hproof, Bool.false_eq_true, if_false, done]
  rfl

theorem exec_sessionClose_of_open {x : Session} (h : Starts s tr tag 0x0702 c) (hd : c.data = [])
    (hx : openSession s (BitVec.ofNat 9 c.berth.val) = some x) :
    exec (.sessionClose tr tag) s = .next (settled (reply (setBerth (begun s tr tag) c.berth .free) c stOK [])) := by
  have hx' : openSession (begun s tr tag) (BitVec.ofNat 9 c.berth.val) = some x := hx
  rw [exec_sessionClose, execSessionClose, onCmd_starts h, needLen_of_length (by rw [hd]; rfl)]
  simp only [hx', done]

end

section
variable {s : State} {dt : Nat} {b : Fin 512} {x : Session} (hx : s.porter.berths[b] = .session x)

include hx

theorem exec_sessionIdleTimeout_of_elapsed (hopen : x.isOpen = true) (hdue : x.lastAt + 200000000 * x.timeout ≤ s.clk + dt) :
    exec (.sessionIdleTimeout dt b) s = .next (settled (raise (setBerth (advance s dt) b .free) 20
      x.transport.index.val)) := by
  have hel : elapsed (advance s dt) x.lastAt (msTicks (1000 * x.timeout)) = true := by
    rw [elapsed_advance, decide_eq_true_eq, msTicks]
    omega
  rw [exec_sessionIdleTimeout, execSessionIdleTimeout]
  simp only [advance_fields, hx, hopen, hel, Bool.and_self, if_true, done]

theorem exec_sessionProofTimeout_of_elapsed (hopen : x.isOpen = false) (hdue : x.lastAt + 1000000000 ≤ s.clk + dt) :
    exec (.sessionProofTimeout dt b) s = .next (settled (setBerth (advance s dt) b .free)) := by
  have hel : elapsed (advance s dt) x.lastAt (msTicks 5000) = true := decide_eq_true hdue
  rw [exec_sessionProofTimeout, execSessionProofTimeout]
  simp only [advance_fields, hx, hopen, hel, Bool.not_false, Bool.and_self, if_true, done]

end

end Sys2Proof.Machine

namespace Sys2Proof.Proofs
open Sys2Proof.Machine Sys2Proof.Safety

/-- Settles O8, command by command. -/
theorem sessionCommands : Obligations.SessionCommands := by
  unfold Obligations.SessionCommands
  intro s tr tag c
  refine ⟨fun _ => exec_sessionOpen_of_free, fun _ _ => exec_sessionProve_of_right, fun _ => exec_sessionClose_of_open,
    fun _ _ _ hx => exec_sessionIdleTimeout_of_elapsed hx, fun _ _ _ hx => exec_sessionProofTimeout_of_elapsed hx⟩

end Sys2Proof.Proofs


/-! Proofs about the parameter opcodes (03 R87 to R91, 22 R564, 23 R582). -/
namespace Sys2Proof.Machine
open Sys2Proof.Safety

/-! ### What acceptance leaves of the parameters -/

theorem queueFor_params (s : State) (tr : Transport) (tag : BitVec 16) (cp fin : Bool) (st : BitVec 16) (d : List Byte) :
    (queueFor s tr tag cp fin st d).porter.params = s.porter.params := by
  unfold queueFor
  split
  · rfl
  · dsimp only
    split
    · split <;> rfl
    · split <;> rfl

theorem passed_params (s : State) (c : Cmd) : (passed s c).porter.params = s.porter.params := by
  unfold passed
  split
  · obtain ⟨d, hd⟩ := watchdogRestart_drive s c.tr
    rw [hd]
  · rfl

theorem accept_params (s : State) (c : Cmd) : (accept s c).porter.params = s.porter.params :=
  (queueFor_params (passed s c) c.tr c.tag false false stACCEPTED []).trans (passed_params s c)

/-! ### The opcodes -/

section
variable {s : State} {tr : Transport} {tag : BitVec 16} {c : Cmd}

theorem exec_paramRead_of_keys {ks : List Nat} (h : Starts s tr tag 0x0100 c) (hpos : 0 < c.data.length)
    (hmax : c.data.length ≤ 192) (hthree : c.data.length % 3 = 0)
    (hks : keysOf c (readPairs (c.data.length / 3) c.data) = .ok ks) :
    exec (.paramRead tr tag) s = .next (settled
      (reply (begun s tr tag) c stOK (ks.flatMap (readEntryOf (begun s tr tag))))) := by
  rw [exec_paramRead, execParamRead, onCmd_starts h]
  simp only [Nat.ne_of_gt hpos, Nat.not_lt.mpr hmax, hthree, hks, ne_eq, not_true_eq_false, or_self, if_false, done]

theorem exec_paramWrite_of_checked {es : List WEntry} {l : List WCheck} {entries : List (Nat × Nat)}
    (h : Starts s tr tag 0x0101 c) (hes : wEntries 256 c.data = some es) (hne : es ≠ []) (hl : l = es.map (wCheck c))
    (hentries : entries = l.map (fun x => (x.key, x.raw)))
    (hok : writeFault (begun s tr tag) (withEntries (begun s tr tag) entries) c l = none) :
    exec (.paramWrite tr tag) s = .next (settled (sealGroup (withEntries (begun s tr tag)
      (derivedEntries (withEntries (begun s tr tag) entries) entries)) entries (groupNeedsSi7 c l) (some c.id))) := by
  have hempty : es.isEmpty = false := by simpa using hne
  subst hl hentries
  rw [exec_paramWrite, execParamWrite, onCmd_starts h]
  simp only [hes, hempty, hok, Bool.false_eq_true, if_false, done]

/-- No other PARAM_STORE runs, and the module does not throttle. -/
theorem paramStore_not_refused (hthr : throttling s = false) (hidle : s.porter.storing = none)
    (honly : ∀ x ∈ s.porter.cmds, x.opcode = 0x0102 → x.phase ≠ .ended → (x.tr, x.tag) = c.id) :
    (throttling s || s.porter.storing.isSome
      || s.porter.cmds.any (fun x => x.opcode == 0x0102#16 && x.phase != .ended && (x.tr, x.tag) != c.id)) = false := by
  simpa [hthr, hidle] using honly

theorem exec_paramStore_of_idle (h : Starts s tr tag 0x0102 c) (hd : c.data = []) (hthr : throttling s = false)
    (hidle : s.porter.storing = none)
    (honly : ∀ x ∈ (begun s tr tag).porter.cmds, x.opcode = 0x0102 → x.phase ≠ .ended → (x.tr, x.tag) = c.id) :
    exec (.paramStore tr tag) s = .next (settled
      ((modCopy (accept (begun s tr tag) c) (storeTarget s) (fun x => { x with crcOk := false })).modPorter (fun p => { p with
        storing := some {
          cmd := c.id, target := storeTarget s, values := s.porter.params,
          keys := storeKeys (modCopy (accept (begun s tr tag) c) (storeTarget s) (fun x => { x with crcOk := false })),
          generation := if (copyOf s (!storeTarget s)).crcOk then (copyOf s (!storeTarget s)).generation + 1 else 1 } }))) := by
  have hparams : (accept (begun s tr tag) c).porter.params = s.porter.params := accept_params _ c
  rw [exec_paramStore, execParamStore, onCmd_starts h, done, needState,
    paramStore_not_refused (s := begun s tr tag) hthr hidle honly]
  rw [if_neg Bool.false_ne_true, needLen_of_length (by rw [hd]; rfl), ← hparams]
  rfl

theorem exec_paramInfo_of_known {k : Nat} {p : PSpec} (h : Starts s tr tag 0x0103 c) (hlen : c.data.length = 3)
    (hk : keyFor c (beNat (c.data.take 2)) (beNat (c.data.drop 2)) = .ok k)
    (hp : pinfo (keyKind k) (beNat (c.data.take 2)) (beNat (c.data.drop 2)) = some p) :
    exec (.paramInfo tr tag) s = .next (settled (reply (begun s tr tag) c stOK (infoBytes k p))) := by
  rw [exec_paramInfo, execParamInfo, onCmd_starts h, needLen_of_length hlen]
  simp only [hk, hp, done]

end

section
variable {s : State} {x : Storing} (dt : Nat) (hx : s.porter.storing = some x)

include hx

theorem exec_paramStoreComplete_of_good : exec (.paramStoreComplete dt false) s = .next (settled (completeAt
    ((modCopy ((advance s dt).modPorter (fun p => { p with storing := none })) x.target (fun _ => {
      crcOk := true, generation := x.generation, values := x.values, keys := x.keys })).modStart (fun b =>
        { b with needStore := false })) x.cmd stOK [])) := by
  rw [exec_paramStoreComplete, execParamStoreComplete]
  simp only [advance_fields, hx, Bool.false_eq_true, if_false, done]

theorem exec_paramStoreComplete_of_bad : exec (.paramStoreComplete dt true) s = .next (settled (completeAt
    (raise ((advance s dt).modPorter (fun p => { p with storing := none })) 252 0) x.cmd stEXECFAULT [])) := by
  rw [exec_paramStoreComplete, execParamStoreComplete]
  simp only [advance_fields, hx, if_true, done]

end

end Sys2Proof.Machine

namespace Sys2Proof.Proofs
open Sys2Proof.Machine Sys2Proof.Safety

/-- Settles O23, command by command. -/
theorem parameterOpcodes : Obligations.ParameterOpcodes := by
  unfold Obligations.ParameterOpcodes
  intro s tr tag c
  exact ⟨fun _ => exec_paramRead_of_keys, fun _ _ _ => exec_paramWrite_of_checked, exec_paramStore_of_idle,
    fun dt _ hx => exec_paramStoreComplete_of_good dt hx, fun dt _ hx => exec_paramStoreComplete_of_bad dt hx,
    fun _ _ => exec_paramInfo_of_known⟩

end Sys2Proof.Proofs


/-! Proofs about the converters, the trips and the position inputs (04 R103 to R108, R114 to R117, 06 R176, R179). -/
namespace Sys2Proof.Machine

/-! ### Readings of the inputs that time leaves alone -/

@[simp] theorem analogUp_advance (s : State) (dt : Nat) : analogUp (advance s dt) = analogUp s := rfl
@[simp] theorem tripOf_advance (s : State) (dt : Nat) (m : Fin 4) (c : Fin 5) (seen : BitVec 15) (level : BitVec 10) :
    tripOf (advance s dt) m c seen level = tripOf s m c seen level := rfl
@[simp] theorem tripSource_advance (s : State) (dt : Nat) (m : Fin 4) (c : Fin 5) :
    tripSource (advance s dt) m c = tripSource s m c := rfl
@[simp] theorem ainOwned_advance (s : State) (dt : Nat) (a : Fin 16) : ainOwned (advance s dt) a = ainOwned s a := rfl
@[simp] theorem windowTrips_advance (s : State) (dt : Nat) (a : Fin 16) (level : BitVec 10) :
    windowTrips (advance s dt) a level = windowTrips s a level := rfl
@[simp] theorem nextScan_advance (s : State) (dt : Nat) (k : Fin 2) : nextScan (advance s dt) k = nextScan s k := rfl
@[simp] theorem portPar_advance (s : State) (dt : Nat) (p : Fin 4) (i : Nat) : portPar (advance s dt) p i = portPar s p i := rfl
@[simp] theorem portMode_advance (s : State) (dt : Nat) (p : Fin 4) : portMode (advance s dt) p = portMode s p := rfl
@[simp] theorem portFilter_advance (s : State) (dt : Nat) (p : Fin 4) : portFilter (advance s dt) p = portFilter s p := rfl
@[simp] theorem zBad_advance (s : State) (dt : Nat) (p : Fin 4) (n : Int) : zBad (advance s dt) p n = zBad s p n := rfl

/-- A number below the size is its own index. -/
theorem finOf_of_lt {n k : Nat} [NeZero n] (h : k < n) : finOf n k = ⟨k, h⟩ := Fin.ext (Nat.mod_eq_of_lt h)

/-! ### Trips (04 R106 to R108) -/

/-- The note of a source against an enable in progress enables and disables no machine. -/
theorem noteSource_en (s : State) (n k : Fin 4) (src cause : Nat) : (noteSource s n src cause).en k = s.en k := by
  by_cases h : k = n
  · subst h
    simp [noteSource, State.en]
  · simp [noteSource, State.en, h]

theorem raise_en (s : State) (n a : Nat) (k : Fin 4) : (raise s n a).en k = s.en k := by
  simp only [State.en, raise_fields]

/-- OVERCURRENT_TRIP on an input beyond its limits notes and raises its source, and trips the machine if it is enabled. -/
theorem exec_overcurrentTrip_of_trip {s : State} {m n : Fin 4} {c : Fin 5} {seen : BitVec 15} {level : BitVec 10} (dt : Nat)
    (h : tripOf s m c seen level = some n) :
    exec (.overcurrentTrip dt m c seen level) s = .next (settled (if s.en n then
      tripMachine (raise (noteSource (advance s dt) n (52 + (tripSource s m c).val) c.val) (52 + (tripSource s m c).val)
        c.val) n
      else raise (noteSource (advance s dt) n (52 + (tripSource s m c).val) c.val) (52 + (tripSource s m c).val) c.val)) := by
  simp only [exec_overcurrentTrip, execOvercurrentTrip, done, tripOf_advance, h, tripSource_advance, raise_en,
    noteSource_en, advance_reads]

/-- UNOWNED_WINDOW_TRIP raises 3.14 for an input beyond its limits that no machine owns. -/
theorem exec_unownedWindowTrip_of_trip {s : State} {a : Fin 16} {level : BitVec 10} (dt : Nat) (ho : ainOwned s a = false)
    (ht : windowTrips s a level = true) :
    exec (.unownedWindowTrip dt a level) s = .next (settled (raise (advance s dt) 62 a.val)) := by
  simp [execUnownedWindowTrip, done, ho, ht]

/-! ### The start of a conversion (04 R103, 06 R176) -/

@[simp] theorem takeSar_clk (s : State) (k : Fin 2) : (takeSar s k).clk = s.clk := rfl

section
variable {s : State} {dt : Nat} {m : Fin 4} (ha : analogUp s = true) (hc : s.tb.counting = true)
include ha hc

/-- At its instant the conversion of a channel takes its converter. -/
theorem exec_sarConversionStart_of_channel {c : Fin 4} (hs : startsAt (advance s dt) m (finOf 5 c.val) 0 = true) :
    exec (.sarConversionStart dt m (finOf 6 c.val)) s = .next (settled
      ((takeSar (advance s dt) (if sarOf s m (finOf 5 c.val) then 1 else 0)).modChan m c (fun x =>
        { x with converting := some (s.clk + dt) }))) := by
  have h5 : c.val < 5 := Nat.lt_succ_of_lt c.isLt
  rw [finOf_of_lt h5] at hs ⊢
  rw [finOf_of_lt (Nat.lt_succ_of_lt h5)]
  simp only [exec_sarConversionStart, execSarConversionStart, done, analogUp_advance, ha, advance_tb, hc, Bool.and_self,
    Bool.not_true, Bool.false_eq_true, if_false, dif_pos h5, hs, dif_pos c.isLt, Fin.eta, takeSar_clk, advance_fields]
  rfl

/-- So does that of a neutral-point input, item 4. -/
theorem exec_sarConversionStart_of_neutral {c : Fin 6} (h4 : c.val = 4) (hs : startsAt (advance s dt) m 4 0 = true) :
    exec (.sarConversionStart dt m c) s = .next (settled
      ((takeSar (advance s dt) (if sarOf s m 4 then 1 else 0)).modTfu m (fun t =>
        { t with npConv := some (s.clk + dt) }))) := by
  have h5 : c.val < 5 := by omega
  have hnot : ¬ c.val < 4 := by omega
  have hitem : (⟨c.val, h5⟩ : Fin 5) = 4 := Fin.ext h4
  simp only [exec_sarConversionStart, execSarConversionStart, done, analogUp_advance, ha, advance_tb, hc, Bool.and_self,
    Bool.not_true, Bool.false_eq_true, if_false, dif_pos h5, hitem, hs, dif_neg hnot, takeSar_clk, advance_fields]
  rfl

/-- In a free slot the scan, item 5, takes the next input of its converter. -/
theorem exec_sarConversionStart_of_scan {c : Fin 6} {k : Fin 2} {a : Fin 16} (h5 : c.val = 5) (hk : k = finOf 2 m.val)
    (hfree : s.sar[k].busyUntil ≤ s.clk + dt) (hsoon : ownedSoon (advance s dt) k = false) (ha' : nextScan s k = some a) :
    exec (.sarConversionStart dt m c) s = .next (settled { advance s dt with
      sar := vmod s.sar k (fun x => { x with
        busyUntil := s.clk + dt + 100, last := some a, scan := some (a, s.clk + dt) }) }) := by
  have hnot : ¬ c.val < 5 := by omega
  subst hk
  simp only [exec_sarConversionStart, execSarConversionStart, done, takeSar, analogUp_advance, ha, advance_tb, hc,
    Bool.and_self, Bool.not_true, Bool.false_eq_true, if_false, dif_neg hnot, advance_fields, Nat.not_lt.2 hfree, hsoon,
    or_self, nextScan_advance, ha', vmod_vmod]

end

/-! ### The end of a conversion (04 R103, R105, 06 R179) -/

section
variable {s : State} {dt at' : Nat} {m : Fin 4} {w : BitVec 16} (hdue : at' + 100 ≤ s.clk + dt)
include hdue

/-- The word of a channel crosses into the TFU, unless it is disturbed. -/
theorem exec_sarConversionComplete_of_channel {u : State} {c : Fin 4} (hc : s.chans[m][c].converting = some at')
    (hu : u = { (advance s dt).modChan m c (fun x => { x with converting := none, endRun := endRunOf x.endRun w }) with
      ain := vmod s.ain (ainOf m c) (fun _ => w.toInt) }) :
    exec (.sarConversionComplete dt m (finOf 6 c.val) w) s = .next (settled
      (if disturbed u m (finOf 5 c.val) at' then countDisturbed u m
        else u.modChan m c (fun x => { x with sar := some (w.toInt, at'), disturbedRun := 0 }))) := by
  have h5 : c.val < 5 := Nat.lt_succ_of_lt c.isLt
  have helapsed : elapsed (advance s dt) at' 100 = true := decide_eq_true hdue
  subst hu
  rw [finOf_of_lt h5, finOf_of_lt (Nat.lt_succ_of_lt h5)]
  simp only [exec_sarConversionComplete, execSarConversionComplete, done, c.isLt, dif_pos, advance_fields, hc, helapsed,
    if_true, Fin.eta]

/-- The word of a neutral-point input, item 4, crosses in the same way. -/
theorem exec_sarConversionComplete_of_neutral {u : State} {c : Fin 6} {a : Fin 16} (h4 : c.val = 4)
    (hc : s.tfu[m].npConv = some at') (ha : npAin s m = some a)
    (hu : u = { (advance s dt).modTfu m (fun x => { x with npConv := none, npEnd := endRunOf x.npEnd w }) with
      ain := vmod s.ain a (fun _ => w.toInt) }) :
    exec (.sarConversionComplete dt m c w) s = .next (settled
      (if disturbed u m 4 at' then countDisturbed u m
        else u.modTfu m (fun x => { x with npSar := some (w.toInt, at'), npRun := 0 }))) := by
  have hnot : ¬ c.val < 4 := by omega
  have helapsed : elapsed (advance s dt) at' 100 = true := decide_eq_true hdue
  have ha' : ∀ f, npAin ((advance s dt).modTfu m f) m = some a := fun _ => ha
  subst hu
  simp only [exec_sarConversionComplete, execSarConversionComplete, done, dif_neg hnot, if_pos h4, advance_fields, hc,
    helapsed, if_true, ha', State.modTfu_fields]

/-- The word of a scanned input, item 5, is the latest conversion of that input. -/
theorem exec_sarConversionComplete_of_scan {c : Fin 6} {k : Fin 2} {a : Fin 16} (h5 : c.val = 5) (hk : k = finOf 2 m.val)
    (hc : s.sar[k].scan = some (a, at')) :
    exec (.sarConversionComplete dt m c w) s = .next (settled { advance s dt with
      sar := vmod s.sar k (fun x => { x with scan := none }), ain := vmod s.ain a (fun _ => w.toInt) }) := by
  have hlt : ¬ c.val < 4 := by omega
  have hne : ¬ c.val = 4 := by omega
  have helapsed : elapsed (advance s dt) at' 100 = true := decide_eq_true hdue
  subst hk
  simp only [exec_sarConversionComplete, execSarConversionComplete, done, dif_neg hlt, if_neg hne, advance_fields, hc,
    helapsed, if_true]

end

/-! ### The inputs A, B and Z (04 R114, R115) -/

section
variable {s : State} {stable : Nat} {p : Fin 4} (dt : Nat) (hm : portMode s p = 3) (hf : portFilter s p ≤ stable)
include hm hf

/-- A single step of A and B that has passed the filter moves the count and the position. -/
theorem exec_abzEdge_of_step {a b : Bool} {q : Int} (hq : quadStep s.posPorts[p].levelA s.posPorts[p].levelB a b = q)
    (h0 : q ≠ 0) (h2 : q ≠ 2) :
    exec (.abzEdge dt p a b stable) s = .next (settled ((advance s dt).modPort p (fun x => { x with
      levelA := a, levelB := b, count := x.count + q, lastEdge := some (x.count + q, at25 (advance s dt)),
      posTick := at25 (advance s dt), pos := posOfCount (x.count + q) (portPar s p 7),
      counts := keepFrom (s.clk + dt - 200) ((at25 (advance s dt), x.count + q) :: x.counts) }))) := by
  simp only [exec_abzEdge, execAbzEdge, done, portMode_advance, portFilter_advance, advance_fields, hm, Nat.not_lt.2 hf,
    hq, h0, h2, ne_eq, not_true_eq_false, or_self, if_false, State.modPort_modPort]
  rfl

/-- A double step counts an error. -/
theorem exec_abzEdge_of_double {a b : Bool} (hq : quadStep s.posPorts[p].levelA s.posPorts[p].levelB a b = 2) :
    exec (.abzEdge dt p a b stable) s = .next (settled (countError ((advance s dt).modPort p (fun x =>
      { x with levelA := a, levelB := b })) p)) := by
  simp [-Fin.getElem_fin, execAbzEdge, done, hm, Nat.not_lt.2 hf, hq]

/-- An index records the count, and counts an error where the count is off whole turns. -/
theorem exec_zIndexEdge_of_filtered :
    exec (.zIndexEdge dt p stable) s = .next (settled
      (if zBad s p s.posPorts[p].count then
        countError ((advance s dt).modPort p (fun x => { x with zCount := some x.count })) p
      else (advance s dt).modPort p (fun x => { x with zCount := some x.count }))) := by
  simp only [exec_zIndexEdge, execZIndexEdge, done, portMode_advance, portFilter_advance, advance_fields, hm,
    Nat.not_lt.2 hf, zBad_advance, ne_eq, not_true_eq_false, or_self, if_false]
  rfl

end

/-! ### SSI transfers (04 R116, R117) -/

section
variable {s : State} {dt at' len : Nat} {p : Fin 4} {raw : BitVec 32} (ht : s.posPorts[p].ssiAt = some at')
  (hlen : len = bits (portPar s p 10) 5 0)
  (hdue : (len + 2) * 200000 ≤ (s.clk + dt - at') * bits (portPar s p 10) 31 16)
include ht hlen hdue

/-- A transfer that has taken its clock periods counts a frame error where it is bad or beyond the tolerance, and else
becomes the position. -/
theorem exec_ssiTransferComplete_of_ended {v : Nat} {expect : Option (BitVec 32)} {got : BitVec 32} (bad : Bool)
    (hv : v = if bit (portPar s p 10) 8 then grayGo 32 (lowBits len raw.toNat) else lowBits len raw.toNat)
    (he : expect = if s.posPorts[p].locked then some (ssiExpect s p at') else none) (hg : got = ssiPos s p len v expect) :
    exec (.ssiTransferComplete dt p raw bad) s = .next (settled
      (if bad = true ∨ expect.any (fun e => decide (portPar s p 12 < (got - e).toInt.natAbs)) = true then
        frameError (advance s dt) p
      else (advance s dt).modPort p (fun x => { x with
        ssiAt := none, frameRun := 0, locked := true, pos := got, posTick := at' }))) := by
  have ht' : (advance s dt).posPorts[p].ssiAt = some at' := ht
  have hended : ¬ ((advance s dt).clk - at') * bits (portPar (advance s dt) p 10) 31 16
      < (bits (portPar (advance s dt) p 10) 5 0 + 2) * 200000 := Nat.not_lt.2 (hlen ▸ hdue)
  subst hg he hv hlen
  rw [exec_ssiTransferComplete, execSsiTransferComplete, done, ht']
  dsimp only
  rw [if_neg hended]
  rfl

/-- A complete transfer within the tolerance of the expected position becomes the position. -/
theorem exec_ssiTransferComplete_of_good {v : Nat} {expect : Option (BitVec 32)} {got : BitVec 32}
    (hv : v = if bit (portPar s p 10) 8 then grayGo 32 (lowBits len raw.toNat) else lowBits len raw.toNat)
    (he : expect = if s.posPorts[p].locked then some (ssiExpect s p at') else none) (hg : got = ssiPos s p len v expect)
    (hnear : ∀ e, expect = some e → (got - e).toInt.natAbs ≤ portPar s p 12) :
    exec (.ssiTransferComplete dt p raw false) s = .next (settled ((advance s dt).modPort p (fun x => { x with
      ssiAt := none, frameRun := 0, locked := true, pos := got, posTick := at' }))) := by
  have hany : expect.any (fun e => decide (portPar s p 12 < (got - e).toInt.natAbs)) = false := by
    cases expect with
    | none => rfl
    | some e => exact decide_eq_false (Nat.not_lt.2 (hnear e rfl))
  rw [exec_ssiTransferComplete_of_ended ht hlen hdue false hv he hg, hany]
  rfl

/-- A transfer with a wrong start or the error bit counts a frame error. -/
theorem exec_ssiTransferComplete_of_bad :
    exec (.ssiTransferComplete dt p raw true) s = .next (settled (frameError (advance s dt) p)) := by
  rw [exec_ssiTransferComplete_of_ended ht hlen hdue true rfl rfl rfl, if_pos (Or.inl rfl)]

end

end Sys2Proof.Machine

namespace Sys2Proof.Proofs
open Sys2Proof.Machine Sys2Proof.Safety

/-- Settles O26, command by command. -/
theorem sensorCommands : Obligations.SensorCommands := by
  unfold Obligations.SensorCommands
  intro s
  refine ⟨fun dt m n c seen level htrip hen => ?_, fun dt m n c seen level htrip hen => ?_,
    fun dt _ _ => exec_unownedWindowTrip_of_trip dt,
    fun _ _ _ ha hc => exec_sarConversionStart_of_channel ha hc, fun _ _ ha hc => exec_sarConversionStart_of_neutral ha hc rfl,
    fun _ _ _ _ ha hc => exec_sarConversionStart_of_scan ha hc rfl,
    fun _ _ _ _ _ _ hc hdue => exec_sarConversionComplete_of_channel hdue hc,
    fun _ _ _ _ _ _ hc hdue => exec_sarConversionComplete_of_neutral hdue rfl hc,
    fun _ _ _ _ _ _ hk hc hdue => exec_sarConversionComplete_of_scan hdue rfl hk hc,
    fun dt _ _ _ _ _ hm hf => exec_abzEdge_of_step dt hm hf, fun dt _ _ _ _ hm hf => exec_abzEdge_of_double dt hm hf,
    fun dt _ _ hm hf => exec_zIndexEdge_of_filtered dt hm hf,
    fun _ _ _ _ _ _ _ _ ht hlen hdue => exec_ssiTransferComplete_of_good ht hlen hdue,
    fun _ _ _ _ _ ht hlen hdue => exec_ssiTransferComplete_of_bad ht hlen hdue⟩
  · rw [exec_overcurrentTrip_of_trip dt htrip, hen, if_pos rfl]
  · rw [exec_overcurrentTrip_of_trip dt htrip, hen, if_neg Bool.false_ne_true]

end Sys2Proof.Proofs


/-! Proofs about the calibration of currents and position ports (04 R111, R113, 14 R362 to R371, 23 R593). -/
namespace Sys2Proof.Machine
open Sys2Proof.Safety

/-! ### Readings of the calibration that time leaves alone -/

@[simp] theorem h3Voted_advance (s : State) (dt : Nat) : h3Voted (advance s dt) = h3Voted s := rfl
@[simp] theorem demodulated_advance (s : State) (dt : Nat) (p : Fin 4) (l : List (BitVec 14)) :
    demodulated (advance s dt) p l = demodulated s p l := rfl
@[simp] theorem chanSource_advance (s : State) (dt : Nat) (m c : Fin 4) : chanSource (advance s dt) m c = chanSource s m c := rfl
@[simp] theorem baseOffset_advance (s : State) (dt : Nat) (m c : Fin 4) : baseOffset (advance s dt) m c = baseOffset s m c := rfl

/-! ### The windows of current calibration (14 R362 to R364) -/

/-- A full window, or one of 1 s, is closed, and a new one begins. -/
theorem exec_calWindowClose_of_due {s : State} {dt : Nat} {m : Fin 4} {k : Fin 3}
    (hst : s.cal.machines[m].stopped = false) (hsus : s.cal.machines[m].suspended = false)
    (hdue : s.pm m 0x9003 1 ≤ s.cal.machines[m].win[k].sums.n ∨ s.cal.machines[m].win[k].at' + 200000000 ≤ s.clk + dt) :
    exec (.calWindowClose dt m k) s = .next (settled ((advance s dt).modCalM m (fun c => { c with
      closed := vmod c.closed k (fun _ => some s.cal.machines[m].win[k]),
      win := vmod c.win k (fun _ => { at' := s.clk + dt }) }))) := by
  have hclose : s.pm m 0x9003 1 ≤ s.cal.machines[m].win[k].sums.n
      ∨ elapsed (advance s dt) s.cal.machines[m].win[k].at' (msTicks 1000) = true := hdue.imp_right decide_eq_true
  simp only [exec_calWindowClose, execCalWindowClose, done, advance_fields, advance_reads, hst, hsus, hclose,
    Bool.not_false, and_self, if_true]

/-- CAL_FIT takes a closed window away, and fits it while the calibration runs and H3 is voted. -/
theorem exec_calFit_of_closed {s u : State} {dt : Nat} {m : Fin 4} {k : Fin 3} {w : CalWindow}
    (hw : s.cal.machines[m].closed[k] = some w)
    (hu : u = (advance s dt).modCalM m (fun c => { c with closed := vmod c.closed k (fun _ => none) })) :
    exec (.calFit dt m k) s = .next (settled (if s.cal.machines[m].stopped = true ∨ h3Voted s = false then u
      else if k = 0 then fitPhase u m 0 w else if k = 1 then fitPhase u m 1 w else fitZero u m w)) := by
  have hw' : s.cal.machines[(m : Nat)].closed[(k : Nat)] = some w := hw
  have hv : ∀ f, h3Voted ((advance s dt).modCalM m f) = h3Voted s := fun _ => rfl
  subst hu
  simp [execCalFit, done, hv, hw']

/-! ### The standstill capture (14 R365) -/

/-- The capture begins once the standstill has held for 100 ms. -/
theorem exec_standstillCaptureStart_of_still {s : State} {dt at' : Nat} {m : Fin 4}
    (hat : s.cal.machines[m].stillAt = some at') (hdue : at' + 20000000 ≤ s.clk + dt)
    (hnone : s.cal.machines[m].capture = none) (hnot : s.cal.machines[m].captured = false) :
    exec (.standstillCaptureStart dt m) s = .next (settled ((advance s dt).modCalM m (fun k => { k with
      capture := some (0, [(0, 0, 0), (0, 0, 0), (0, 0, 0)]) }))) := by
  have hstill : elapsedO (advance s dt) (some at') (msTicks 100) = true := decide_eq_true hdue
  simp only [exec_standstillCaptureStart, execStandstillCaptureStart, done, advance_fields, hat, hstill, hnone, hnot,
    Option.isNone_none, Bool.not_false, Bool.and_self, if_true]

section
variable {s : State} {dt n : Nat} {m : Fin 4} {l : List (Int × Int × Int)} (hc : s.cal.machines[m].capture = some (n, l))
include hc

/-- A capture of fewer than 256 boundaries goes on. -/
theorem exec_standstillCaptureEnd_of_lt (hn : n < 256) :
    exec (.standstillCaptureEnd dt m) s = .next (settled (advance s dt)) := by
  simp only [exec_standstillCaptureEnd, execStandstillCaptureEnd, done, advance_fields, hc, hn, if_true]

/-- A whole capture is judged by its averages and its spread: they are sealed as the offsets, or cause 3 is raised. -/
theorem exec_standstillCaptureEnd_of_full {u : State} {used : List ((Int × Int × Int) × Nat)} (hn : 256 ≤ n)
    (hused : used = l.zipIdx.filter (fun x => chanSource s m (finOf 4 x.2) != 0))
    (hu : u = (advance s dt).modCalM m (fun k => { k with capture := none, captured := true })) :
    exec (.standstillCaptureEnd dt m) s = .next (settled (
      if used.all (fun x => decide ((neigh x.1.1 256 - baseOffset s m (finOf 4 x.2)).natAbs ≤ ((256 * s.pm m 0x9003
          3 : Nat) : Int))
        && decide (x.1.2.2 - x.1.2.1 ≤ 16384))
      then used.foldl (fun v x => sealCal v m (finOf 4 x.2) v.cal.machines[m].gain[finOf 4 x.2] (neigh x.1.1 256)) u
      else raise u (192 + m.val) 3)) := by
  have hlimit : ((256 * s.pm m 0x9003 3 : Nat) : Int) = 256 * (s.pm m 0x9003 3 : Nat) := by omega
  subst hu hused
  simp only [exec_standstillCaptureEnd, execStandstillCaptureEnd, done, advance_fields, advance_reads, chanSource_advance,
    baseOffset_advance, hc, Nat.not_lt.2 hn, if_false, hlimit]

end

/-! ### The ports (04 R111, R113) -/

/-- The loss of a port and an error of its count leave time and parameters alone. -/
theorem portLoss_clk_porter (s : State) (p : Fin 4) :
    (portLoss s p).clk = s.clk ∧ (portLoss s p).porter = s.porter := by
  unfold portLoss
  split
  · exact ⟨rfl, rfl⟩
  · simp only [raise_fields, State.modPort_fields, and_self]

theorem countError_clk_porter (s : State) (p : Fin 4) :
    (countError s p).clk = s.clk ∧ (countError s p).porter = s.porter := by
  unfold countError
  dsimp only
  split
  · simp only [portLoss_clk_porter, raiseIf_fields, raise_fields, State.modPort_fields, and_self]
  · simp only [raiseIf_fields, raise_fields, State.modPort_fields, and_self]

/-- A half period of a resolver port gives the angle its first value, and later ones move the loop. The time since the last
value is a number: it is 0 where that value stands later than the present tick. -/
theorem exec_resolverHalfPeriod_of_mode {s u v : State} {dt r : Nat} {m : Fin 4} {samples : List (BitVec 14 × BitVec 14)}
    {sn cs : Int} {x : Int × Int} {now : BitVec 32} {e : Int} (hm : portMode s m = 1) (ha : analogUp s = true)
    (hsn : sn = demodulated s m (samples.map (·.1))) (hcs : cs = demodulated s m (samples.map (·.2)))
    (hr : r = 1 + Config.outside 2 [m.val] % 8)
    (hu : u = (advance s dt).modPort m (fun y => { y with
      ampRun := if ampBad m sn cs then Nat.min 4 (y.ampRun + 1) else 0 }))
    (hx : x = portCorrect u m sn cs) (hv : v = portCollect u m sn cs (atan16 x.1 x.2) s.posPorts[m].loopSpeed)
    (hnow : now = posNow v m) (he : e = angleDiff (atan16 x.1 x.2) (BitVec.ofNat 16 (now.toNat * r))) :
    exec (.resolverHalfPeriod dt m samples) s = .next (settled (if s.posPorts[m].locked = false then
      v.modPort m (fun y => { y with
        pos := BitVec.ofInt 32 (neigh (atan16 x.1 x.2).toNat r), posTick := s.clk + dt, locked := true })
      else v.modPort m (fun y => { y with
        pos := now + BitVec.ofInt 32
          (neigh (Config.filter 0 e (s.clk + dt - s.posPorts[m].posTick : Nat) (portPar s m 6)) r),
        posTick := s.clk + dt,
        loopSpeed := clampI (-8388352) 8388352
          (y.loopSpeed + Config.filter 1 e (s.clk + dt - s.posPorts[m].posTick : Nat) (portPar s m 6)) }))) := by
  have hport : u.posPorts[m] = { s.posPorts[m] with
    ampRun := if ampBad m sn cs then Nat.min 4 (s.posPorts[m].ampRun + 1) else 0 } := by simp [hu]
  have hclk : v.clk = s.clk + dt := by rw [hv, hu]; rfl
  have hpar : portPar v m 6 = portPar s m 6 := by rw [hv, hu]; rfl
  obtain ⟨a, b⟩ := x
  simp only [exec_resolverHalfPeriod, execResolverHalfPeriod, done, portMode_advance, analogUp_advance, hm, ha,
    demodulated_advance, ← hsn, ← hcs, ← hr, ← hu, ← hx, hport, ← hv, hclk, hpar, ← hnow, ← he, ne_eq, not_true_eq_false,
    Bool.true_eq_false, or_self, if_false, Bool.not_eq_true']

/-- A sample of a sin/cos port moves the count, the angle and the loop; an angle outside the counted period counts an
error. -/
theorem exec_sincosPeriodCount_of_mode {s u v w : State} {dt : Nat} {m : Fin 4} {cross : Option Bool} {sn cs : BitVec 16}
    {fast off : Bool} {n ref frac ang e : Int} {x : Int × Int} (hm : portMode s m = 2) (ha : analogUp s = true)
    (hn : n = s.posPorts[m].count + (if cross = some true then 1 else if cross = some false then -1 else 0))
    (href : ref = if cross = some true then 4096 * n else if cross = some false then 4096 * (n + 1)
      else s.posPorts[m].angle)
    (hu : u = (advance s dt).modPort m (fun y => { y with
      ampAt := if ampBad m sn.toInt cs.toInt then some (y.ampAt.getD (s.clk + dt)) else none }))
    (hx : x = portCorrect u m sn.toInt cs.toInt)
    (hv : v = portCollect u m sn.toInt cs.toInt (atan16 x.1 x.2) s.posPorts[m].loopSpeed)
    (hfrac : frac = neigh (atan16 x.1 x.2).toNat 16)
    (hang : ang = if fast then 4096 * n else ref + ((frac - ref + 2048) % 4096 - 2048))
    (hoff : off = (!fast && (if cross.isSome then decide (1024 < (ang - ref).natAbs)
      else decide (ang < 4096 * n - 1024) || decide (4096 * (n + 1) + 1024 < ang))))
    (hw : w = if off then countError v m else v)
    (he : e = (ang - s.posPorts[m].angle) - neigh (s.posPorts[m].loopSpeed * ((s.clk + dt - s.posPorts[m].posTick : Nat)
      : Int) * 4096 * (portPar s m 7 : Nat)) (4 * 65536 * 46875000)) :
    exec (.sincosPeriodCount dt m cross sn cs fast) s = .next (settled (w.modPort m (fun y => { y with
      count := if off then ang / 4096 else n,
      angle := ang, interpOff := fast, pos := BitVec.ofInt 32 (neigh (ang * 4 * 65536) (4096 * portPar s m 7)),
      posTick := s.clk + dt,
      loopSpeed := clampI (-8388352) 8388352
        (y.loopSpeed + Config.filter 1 e (s.clk + dt - s.posPorts[m].posTick : Nat) (portPar s m 6)) }))) := by
  have hport : u.posPorts[m] = { s.posPorts[m] with
    ampAt := if ampBad m sn.toInt cs.toInt then some (s.posPorts[m].ampAt.getD (s.clk + dt)) else none } := by simp [hu]
  obtain ⟨hclk, hporter⟩ : w.clk = s.clk + dt ∧ w.porter = s.porter := by
    have hvs : v.clk = s.clk + dt ∧ v.porter = s.porter := by rw [hv, hu]; exact ⟨rfl, rfl⟩
    rw [hw]
    split
    · rwa [(countError_clk_porter v m).1, (countError_clk_porter v m).2]
    · exact hvs
  have hpar : ∀ i, portPar w m i = portPar s m i := fun i => by
    simp only [portPar, State.p0, State.par, hporter]
  obtain ⟨a, b⟩ := x
  -- the count moves up, moves down or stands, and the angle that it stands for is that of the crossing or the last one
  obtain _ | _ | _ := cross
  all_goals
    simp only [reduceCtorEq, Option.some.injEq, Bool.false_eq_true, Bool.true_eq_false, if_true, if_false, Int.add_zero,
      ← Int.sub_eq_add_neg] at hn href
    subst href
    simp only [exec_sincosPeriodCount, execSincosPeriodCount, done, portMode_advance, analogUp_advance, hm, ha,
      advance_fields, ← hu, ← hx, hport, ← hv, ← hn, ← hfrac, ← hang, ← hoff, ← hw, hclk, hpar, ← he, ne_eq,
      not_true_eq_false, Bool.true_eq_false, or_self, if_false]

/-! ### The fit of a port (14 R366, R367) -/

/-- PORT_CAL_FIT on a collected set of sums, while the calibration of the port is on and H3 is voted: steady sums over at
most 10 s are fitted, and others rejected. -/
theorem exec_portCalFit_of_closed {s u : State} {dt : Nat} {m : Fin 4} {x : PortSums}
    (hx : s.cal.ports[m].closed = some x) (hst : s.cal.ports[m].stopped = false) (hon : s.p0 (0x9100 + m.val) 1 ≠ 0)
    (hv : h3Voted s = true) (hm : portMode s m = 1 ∨ portMode s m = 2)
    (hu : u = (advance s dt).modCal (fun c => { c with ports := vmod c.ports m (fun y => { y with closed := none }) })) :
    exec (.portCalFit dt m) s = .next (settled
      (if x.steady (if portMode s m = 1 then some (portPar s m 2) else none) = false ∨ 2000000000 < x.span then
        portRejected u m
      else (portFitOf x).elim (portRejected u m) (takePortFit u m))) := by
  have hu' : h3Voted u = h3Voted s ∧ (∀ i j, u.p0 i j = s.p0 i j) ∧ portMode u m = portMode s m
      ∧ ∀ i, portPar u m i = portPar s m i := by
    subst hu; exact ⟨rfl, fun _ _ => rfl, rfl, fun _ => rfl⟩
  obtain ⟨hvoted, hpar, hmode, hport⟩ := hu'
  simp only [exec_portCalFit, execPortCalFit, done, advance_fields, hx, ← hu, hst, hvoted, hv, hpar, hon, hmode, hport, hm,
    msTicks, Bool.false_eq_true, Bool.not_true, not_true_eq_false, or_self, if_false, Bool.not_eq_true', Nat.reduceMul]
  cases portFitOf x <;> rfl

/-! ### The restarts (23 R593) -/

section
variable {s : State} {tr : Transport} {tag : BitVec 16} {c : Cmd}

/-- CAL_RESTART starts a stopped calibration again. -/
theorem exec_calRestart_of_stopped (h : Starts s tr tag 0x0900 c) (hd : c.data = [])
    (hst : s.cal.machines[c.m].stopped = true) :
    exec (.calRestart tr tag) s = .next (settled (reply ((begun s tr tag).modCalM c.m (fun k => { k with
      stopped := false, stopCause := 0, consRun := Vector.replicate 2 0, beyondRun := Vector.replicate 2 0 })) c stOK [])) := by
  have hst' : (begun s tr tag).cal.machines[c.m].stopped = true := hst
  rw [exec_calRestart, execCalRestart, onCmd_starts h, done, needState, hst']
  rw [if_neg (by decide), needLen_of_length (by rw [hd]; rfl)]

/-- It refuses one that runs. -/
theorem exec_calRestart_of_running (h : Starts s tr tag 0x0900 c) (hst : s.cal.machines[c.m].stopped = false) :
    exec (.calRestart tr tag) s = .next (settled (reply (begun s tr tag) c stREFUSED [])) := by
  have hst' : (begun s tr tag).cal.machines[c.m].stopped = false := hst
  rw [exec_calRestart, execCalRestart, onCmd_starts h, done, needState, hst']
  rfl

/-- PORT_CAL_RESTART does the same for a port. -/
theorem exec_portCalRestart_of_port {m : Fin 4} {b : Byte} (h : Starts s tr tag 0x0901 c) (hd : c.data = [b])
    (hb : b.toNat = m.val) :
    exec (.portCalRestart tr tag) s = .next (settled (if s.cal.ports[m].stopped = true
      then reply ((begun s tr tag).modCal (fun k => { k with
        ports := vmod k.ports m (fun y => { y with stopped := false, beyondRun := 0 }) })) c stOK []
      else reply (begun s tr tag) c stREFUSED [])) := by
  have hlen : c.data.length = 1 := by rw [hd]; rfl
  have hp : (c.data.headD 0).toNat = m.val := by rw [hd]; exact hb
  have hfin : finOf 4 (c.data.headD 0).toNat = m := by rw [hp, finOf_of_lt m.isLt]
  have hlt : ¬ 4 ≤ (c.data.headD 0).toNat := by rw [hp]; exact Nat.not_le.2 m.isLt
  rw [exec_portCalRestart, execPortCalRestart, onCmd_starts h, needLen_of_length hlen, done]
  simp only [hfin, if_neg hlt]
  rfl

end

end Sys2Proof.Machine

namespace Sys2Proof.Proofs
open Sys2Proof.Machine Sys2Proof.Safety

/-- O38 but for one point, which keeps it unsettled. It takes the time since the last value of a port as a difference of
integers, where the model takes one of numbers, so for a state in which that value stands later than the present tick it
holds only if the filter, which is free (log 10), makes no difference between a negative time and none. -/
theorem liveCalibration_of_filter
    (hfilter : ∀ i e t p : Int, t < 0 → Config.filter i e t p = Config.filter i e 0 p) : Obligations.LiveCalibration := by
  have htime : ∀ (a b c : Nat) (i e p : Int),
      Config.filter i e ((a : Int) + b - c) p = Config.filter i e (a + b - c : Nat) p := by
    intro a b c i e p
    rcases Nat.lt_or_ge (a + b) c with h | h
    · rw [hfilter i e _ p (by omega), Nat.sub_eq_zero_of_le (Nat.le_of_lt h)]
      rfl
    · have hsub : ((a + b - c : Nat) : Int) = (a : Int) + b - c := by omega
      rw [hsub]
  unfold Obligations.LiveCalibration
  intro s
  refine ⟨fun _ _ _ => exec_calWindowClose_of_due, fun dt m k w hw hoff => ?_, fun u dt m k w hw hst hv hu => ?_,
    fun _ _ _ => exec_standstillCaptureStart_of_still, fun _ _ _ _ => exec_standstillCaptureEnd_of_lt,
    fun _ _ _ _ _ _ hc => exec_standstillCaptureEnd_of_full hc,
    fun u v dt m samples sn cs x r hm ha hsn hcs hr hu hx hv hl => ?_,
    fun u v dt m samples sn cs x r now e hm ha hsn hcs hr hu hx hv hl hnow he => ?_,
    fun u v w dt m cross sn cs fast off n ref frac ang e x hm ha hn href hu hx hv hfrac hang hoff hw he => ?_,
    fun u dt m x hx hst hon hv hm hu hbad => ?_, fun u dt m x f hx hst hon hv hm hu hsteady hspan hfit => ?_,
    fun _ _ _ _ _ => exec_calRestart_of_stopped, fun _ _ _ _ _ => exec_calRestart_of_running,
    fun _ _ _ _ _ _ => exec_portCalRestart_of_port⟩
  · rw [exec_calFit_of_closed hw rfl, if_pos hoff]
  · have hruns : ¬ (s.cal.machines[m].stopped = true ∨ h3Voted s = false) := by rw [hst, hv]; decide
    rw [exec_calFit_of_closed hw hu, if_neg hruns]
  · rw [exec_resolverHalfPeriod_of_mode hm ha hsn hcs hr hu hx hv rfl rfl, if_pos hl]
  · have hl' : ¬ s.posPorts[m].locked = false := by rw [hl]; decide
    rw [exec_resolverHalfPeriod_of_mode hm ha hsn hcs hr hu hx hv hnow he, if_neg hl']
    simp only [htime]
  · rw [exec_sincosPeriodCount_of_mode hm ha hn href hu hx hv hfrac hang hoff hw he]
    simp only [htime]
  · rw [exec_portCalFit_of_closed hx hst hon hv hm hu]
    rcases hbad with hbad | hbad | hbad
    · rw [if_pos (Or.inl hbad)]
    · rw [if_pos (Or.inr hbad)]
    · rw [hbad, Option.elim_none, ite_self]
  · have hgood : ¬ (x.steady (if portMode s m = 1 then some (portPar s m 2) else none) = false ∨ 2000000000 < x.span) := by
      rw [hsteady]; simp [hspan]
    rw [exec_portCalFit_of_closed hx hst hon hv hm hu, if_neg hgood, hfit, Option.elim_some]

/-- The point is needed: from O38 it follows, for every calm state with a locked resolver port whose last value stands
later than the present tick, that the filter gives the loop's speed the same change for that negative time as for none. -/
theorem filter_of_liveCalibration (h : Obligations.LiveCalibration) {s : State} {m : Fin 4} (hm : portMode s m = 1)
    (ha : analogUp s = true) (hl : s.posPorts[m].locked = true) (hc : Calm s) (hlate : s.clk < s.posPorts[m].posTick) :
    ∃ e : Int, clampI (-8388352) 8388352 (s.posPorts[m].loopSpeed + Config.filter 1 e 0 (portPar s m 6)) =
      clampI (-8388352) 8388352 (s.posPorts[m].loopSpeed +
        Config.filter 1 e ((s.clk : Int) - s.posPorts[m].posTick) (portPar s m 6)) := by
  obtain ⟨u, hu⟩ : ∃ u, u = (advance s 0).modPort m (fun y => { y with
    ampRun := if ampBad m (demodulated s m []) (demodulated s m []) then Nat.min 4 (y.ampRun + 1) else 0 }) := ⟨_, rfl⟩
  obtain ⟨x, hx⟩ : ∃ x, x = portCorrect u m (demodulated s m []) (demodulated s m []) := ⟨_, rfl⟩
  obtain ⟨v, hv⟩ : ∃ v, v = portCollect u m (demodulated s m []) (demodulated s m []) (atan16 x.1 x.2)
    s.posPorts[m].loopSpeed := ⟨_, rfl⟩
  obtain ⟨e, he⟩ : ∃ e, e = angleDiff (atan16 x.1 x.2)
    (BitVec.ofNat 16 ((posNow v m).toNat * (1 + Config.outside 2 [m.val] % 8))) := ⟨_, rfl⟩
  obtain ⟨-, -, -, -, -, -, -, hloop, -⟩ := h s
  have hl' : ¬ s.posPorts[m].locked = false := by rw [hl]; decide
  have hmodel := exec_resolverHalfPeriod_of_mode (samples := []) (dt := 0) hm ha rfl rfl rfl hu hx hv rfl he
  have hstated := hloop u v 0 m [] _ _ x _ _ e hm ha rfl rfl rfl hu hx hv hl rfl he
  rw [hstated, if_neg hl'] at hmodel
  have hspeed : v.posPorts[m].loopSpeed = s.posPorts[m].loopSpeed := by
    rw [hv, hu]; simp [portCollect, State.modPort]
  have hread : ∀ f : Port → Port, (settled (v.modPort m f)).posPorts[m] = f v.posPorts[m] := by
    intro f
    have hflue : v.flue = s.flue := by rw [hv, hu]; rfl
    have hcalm : Calm (v.modPort m f) := by
      obtain ⟨h1, h2⟩ := hc
      exact ⟨(congrArg Flue.resetReq hflue).trans h1, (congrArg Flue.holdReq hflue).trans h2⟩
    obtain ⟨_, _, _, _, _, _, _, _, _, _, _, heq⟩ := settled_calm_answered hcalm
    rw [heq]
    simp [State.modPort]
  have heq := congrArg (fun t : State => t.posPorts[m].loopSpeed) (Host.Outcome.next.inj hmodel)
  have hzero : s.clk - s.posPorts[m].posTick = 0 := by omega
  simp only [hread, hspeed, Nat.add_zero, hzero] at heq
  exact ⟨e, by simpa using heq.symm⟩

end Sys2Proof.Proofs


/-! Proofs about the end of a Stove run (08 R220, R221) and the freeze of a speed ramp at the ceiling (05 R150). -/
namespace Sys2Proof.Machine

/-! ### Pools and named stages are read of the parameters, which time leaves alone -/

@[simp] theorem stovePool_advance (s : State) (dt : Nat) (k : Fin 4) : stovePool (advance s dt) k = stovePool s k := rfl
@[simp] theorem stoveOf_advance (s : State) (dt : Nat) (m : Fin 4) : stoveOf (advance s dt) m = stoveOf s m := rfl
@[simp] theorem namedStage_advance (s : State) (dt : Nat) (k m : Fin 4) (which : Nat) :
    namedStage (advance s dt) k m which = namedStage s k m which := rfl

/-! ### STOVE_RUN_END (08 R220, R221) -/

/-- The outputs that a run with the stages `st` places for commit: of each enabled machine of the pool the named ones, and
of a late run none (08 R220, R221). -/
def placedRefs (s : State) (k : Fin 4) (st : Vector Stage 64) (late : Bool) : Vector (Option Refs) 4 :=
  if late then Vector.replicate 4 none
  else Vector.ofFn (fun m : Fin 4 => if m ∈ stovePool s k ∧ s.en m = true then some (refsOf s k m st) else none)

/-- The end of a run takes over its stages and spends its presets, before its saturated stages are counted. -/
theorem exec_stoveRunEnd_of_run {s : State} {k : Fin 4} {at' : Nat} (dt : Nat) (hrun : s.stove[k].runAt = some at') :
    exec (.stoveRunEnd dt k) s = .next (settled (runCounters ((advance s dt).modStove k (fun v => { v with
      stages := runStages (advance s dt) k, shown := (runStages (advance s dt) k).map stageWord,
      runAt := none, late := false, presets := Vector.replicate 4 none, softStart := Vector.replicate 4 false,
      placed := placedRefs (advance s dt) k (runStages (advance s dt) k) s.stove[k].late })) k)) := by
  simp only [exec_stoveRunEnd, execStoveRunEnd, done, advance_fields, hrun, Option.isSome_some, if_true, placedRefs]

/-! ### CEILING_RAMP_FREEZE (05 R150) -/

/-- For an enabled machine H1 seals the wanted freeze of its ramp stage, unless it is already sealed or in force. -/
theorem exec_ceilingRampFreeze_of_stove {s : State} {k m : Fin 4} {n : Nat} {now want : Bool} (dt : Nat)
    (hk : stoveOf s m = some k) (hn : n = namedStage s k m 8)
    (hnow : now = s.stove[k].freezeSealed[m].getD (decide (n < 64) && s.stove[k].stages[finOf 64 n].frozen))
    (hwant : want = (stovePool s k).any (fun j => namedStage s k j 8 == n && s.tfu[j].ceiling)) :
    exec (.ceilingRampFreeze dt m) s = .next (settled (if s.en m = true ∧ now ≠ want then
      (advance s dt).modStove k (fun v => { v with freezeSealed := vmod v.freezeSealed m (fun _ => some want) })
      else advance s dt)) := by
  subst hn hnow hwant
  simp only [exec_ceilingRampFreeze, execCeilingRampFreeze, done, stoveOf_advance, hk, stovePool_advance,
    namedStage_advance, advance_fields, advance_reads]
  rfl

end Sys2Proof.Machine

namespace Sys2Proof.Proofs
open Sys2Proof.Machine Sys2Proof.Safety

/-- Settles O27: the end of a run in time, the end of a late one, and the freeze. -/
theorem stoveAndCeiling : Obligations.StoveAndCeiling := by
  unfold Obligations.StoveAndCeiling
  intro s dt k
  refine ⟨?inTime, ?late, ?freeze⟩
  case inTime =>
    intro at' st hrun hlate hst
    rw [exec_stoveRunEnd_of_run dt hrun, hlate, hst]
    rfl
  case late =>
    intro at' st hrun hlate hst
    rw [exec_stoveRunEnd_of_run dt hrun, hlate, hst]
    rfl
  case freeze => exact fun m n now want hk hn hnow hwant => exec_ceilingRampFreeze_of_stove dt hk hn hnow hwant

end Sys2Proof.Proofs


/-! Proofs about the current choppers and the axis settings at the drive die (09 R257 to R260, 11 R295). -/
namespace Sys2Proof.Machine

/-! ### What time leaves alone at the die -/

@[simp] theorem dieSet_advance (s : State) (dt : Nat) (k : Fin 6) (i : Nat) : dieSet (advance s dt) k i = dieSet s k i := rfl
@[simp] theorem legFree_advance (s : State) (dt : Nat) (l : Fin 12) : legFree (advance s dt) l = legFree s l := rfl
@[simp] theorem shortAsOff_advance (s : State) (dt : Nat) : shortAsOff (advance s dt) = shortAsOff s := rfl

/-! ### What the operations on a leg leave alone -/

@[simp] theorem wantSw_clk (s : State) (l : Fin 12) (w : LegSw) : (wantSw s l w).clk = s.clk := rfl

@[simp] theorem beginPhase_clk (s : State) (l : Fin 12) (p : Phase) : (beginPhase s l p).clk = s.clk := rfl

@[simp] theorem releaseRef_clk (s : State) (l : Fin 12) : (releaseRef s l).clk = s.clk := by
  unfold releaseRef
  dsimp only
  split
  · rfl
  · split
    · rfl
    · split <;> rfl

/-- Only the legs of a driven axis are free. -/
theorem legFree_of_short {s : State} {l : Fin 12} (h : s.axes[axisOfLeg l].state = .short) : legFree s l = false := by
  unfold legFree
  rw [h]
  exact Bool.and_false _

/-! ### The choppers (09 R258) -/

section
variable {s : State} {dt : Nat} {l : Fin 12}

theorem exec_chopperCurrentReached_of_reached (hp : s.legs[l].phase = .on) (hsw : s.legs[l].sw = polarity s.legs[l].ref)
    (hf : legFree s l = true) (ht : s.legs[l].blankAt + 50 * dieSet s (axisOfLeg l) 3 ≤ s.clk + dt) :
    exec (.chopperCurrentReached dt l) s = .next (settled
      (beginPhase (advance s dt) l (if dieSet s (axisOfLeg l) 10 = 0 then .slow else .fast))) := by
  simp only [exec_chopperCurrentReached, execChopperCurrentReached, done, advance_fields, dieSet_advance,
    legFree_advance, elapsed_advance, hp, hsw, hf, ht, decide_true, and_self, if_true]
  rfl

theorem exec_chopperFastDecayEnd_of_elapsed (hp : s.legs[l].phase = .fast) (h8 : dieSet s (axisOfLeg l) 10 < 8)
    (hf : legFree s l = true)
    (ht : s.legs[l].phaseAt + 25 * dieSet s (axisOfLeg l) 9 * dieSet s (axisOfLeg l) 10 ≤ s.clk + dt) :
    exec (.chopperFastDecayEnd dt l) s = .next (settled
      (releaseRef ((wantSw (advance s dt) l .bothOff).modLeg l (fun g => { g with phase := .slow })) l)) := by
  simp only [exec_chopperFastDecayEnd, execChopperFastDecayEnd, done, advance_fields, dieSet_advance, legFree_advance,
    elapsed_advance, hp, h8, hf, ht, decide_true, and_self, if_true]

theorem exec_chopperOffExpiry_of_decay (hp : s.legs[l].phase = .fast ∨ s.legs[l].phase = .slow)
    (hf : legFree s l = true) (ht : s.legs[l].phaseAt + 200 * dieSet s (axisOfLeg l) 9 ≤ s.clk + dt) :
    exec (.chopperOffExpiry dt l) s = .next (settled (beginPhase ((advance s dt).modLeg l (fun g => { g with
      ref := g.refHeld.getD g.ref, refHeld := none })) l .on)) := by
  have hel : elapsed (advance s dt) s.legs[l].phaseAt (usTicks (dieSet s (axisOfLeg l) 9)) = true := by
    rw [elapsed_advance, decide_eq_true_eq, usTicks]
    omega
  simp only [exec_chopperOffExpiry, execChopperOffExpiry, done, advance_fields, dieSet_advance, legFree_advance, hp, hf,
    hel, and_self, if_true]

/-- A braking leg (09 R260): it is not free, so that the off time of a decay does not count for it. -/
theorem exec_chopperOffExpiry_of_short (hst : s.axes[axisOfLeg l].state = .short) (hl : s.legs[l].latched = false)
    (hso : s.legs[l].softOff = false) (hlost : s.auxLink.linkLost = false) (hb : s.legs[l].boot = .none')
    (ht : s.legs[l].phaseAt + 5000 ≤ s.clk + dt) :
    exec (.chopperOffExpiry dt l) s = .next (settled ((wantSw (advance s dt) l (if s.legs[l].wanted = .highOn
      then .lowOn else .highOn)).modLeg l (fun g => { g with phaseAt := s.clk + dt }))) := by
  have hel : elapsed (advance s dt) s.legs[l].phaseAt (usTicks 25) = true := decide_eq_true ht
  simp only [exec_chopperOffExpiry, execChopperOffExpiry, done, advance_fields, legFree_advance, legFree_of_short hst,
    hst, hl, hso, hlost, hb, hel, Bool.false_eq_true, and_false, if_false, and_self, if_true]

end

/-! ### Microsteps, references and leg modes (09 R257, 11 R292, R295) -/

section
variable {s : State} {dt at' : Nat} {j k : Fin 6} {rest : List AuxItem}

theorem exec_microstepApply_of_step {u : State} {forward : Bool}
    (hu : u = releaseRef (releaseRef (advance s dt) (legOf k false)) (legOf k true)) (hlost : u.auxLink.linkLost = false)
    (htake : takeItem (dueItem u k true) u.auxLink.dieQueue = some (.step j forward at', rest)) :
    exec (.microstepApply dt k) s = .next (settled (takeRefs ((u.modAux (fun a =>
        { a with dieQueue := rest })).modAxis k
      (fun a => { a with
        history := (a.history ++ [(s.clk + dt, a.applied)]).drop (a.history.length - 7),
        applied := if forward then a.applied + 1 else a.applied - 1, mu := if forward then a.mu + 1 else a.mu - 1,
        stepped := some (s.clk + dt, (match a.stepped with
          | some (t, n) => if t = s.clk + dt then n else 0
          | none => 0) + (if forward then 1 else -1)) })) k)) := by
  have hclk : u.clk = s.clk + dt := by
    rw [hu, releaseRef_clk, releaseRef_clk]
    rfl
  simp only [exec_microstepApply, execMicrostepApply, done, ← hu, hlost, htake, State.modAux_fields, hclk,
    Bool.false_eq_true, if_false] <;> rfl

theorem exec_auxSettingApply_of_reference {i : Nat} (hlost : s.auxLink.linkLost = false)
    (htake : takeItem (dueItem (advance s dt) k false) s.auxLink.dieQueue = some (.reference j i at', rest)) :
    exec (.auxSettingApply dt k) s = .next (settled (takeRefs (((advance s dt).modAux (fun a =>
      { a with dieQueue := rest })).modAxis k (fun a => { a with iSet := i })) k)) := by
  simp only [exec_auxSettingApply, execAuxSettingApply, done, advance_fields, hlost, htake, Bool.false_eq_true, if_false]

theorem exec_auxSettingApply_of_legMode {md : AxisState} (hlost : s.auxLink.linkLost = false)
    (htake : takeItem (dueItem (advance s dt) k false) s.auxLink.dieQueue = some (.legMode j md at', rest)) :
    exec (.auxSettingApply dt k) s = .next (settled (applyMode ((advance s dt).modAux (fun a =>
      { a with dieQueue := rest })) k md)) := by
  simp only [exec_auxSettingApply, execAuxSettingApply, done, advance_fields, hlost, htake, Bool.false_eq_true, if_false]

end

/-! ### The standstill (09 R260) -/

theorem exec_standstillIdleExpiry_of_elapsed {s u : State} {dt at' : Nat} {k : Fin 6} {md : Option AxisState}
    (hen : s.axes[k].enabled = true) (hst : s.axes[k].standstill = false) (hat : s.axes[k].idleAt = some at')
    (ht : at' + 200000 * s.axes[k].idleSet.2.1 ≤ s.clk + dt)
    (hmd : md = (if s.axes[k].idleSet.2.2 = 1 then some .off else if s.axes[k].idleSet.2.2 = 2 then some (if shortAsOff s
      then .off else .short) else none))
    (hu : u = (advance s dt).modAxis k (fun a => { a with standstill := true })) :
    exec (.standstillIdleExpiry dt k) s = .next (settled (md.elim u (fun x =>
      if s.tb.lastGrid = some (s.clk + dt) then
        u.modAux (fun a => { a with outbox := a.outbox ++ [AuxItem.legMode k x (s.clk + dt + 4000)] })
      else u.modAxis k (fun a => { a with modeDue := some x })))) := by
  have hel : elapsedO (advance s dt) (some at') (msTicks s.axes[k].idleSet.2.1) = true := by
    rw [elapsedO_advance, Option.any_some, decide_eq_true_eq, msTicks]
    omega
  have hclk : u.clk = s.clk + dt := by rw [hu]; rfl
  have hgrid : u.tb.lastGrid = s.tb.lastGrid := by rw [hu]; simp
  have hhot : shortAsOff u = shortAsOff s := by rw [hu]; rfl
  simp only [exec_standstillIdleExpiry, execStandstillIdleExpiry, done, advance_fields, hen, hst, hat, hel, ← hu, hclk,
    hgrid, hhot, and_self, if_true]
  subst hmd
  generalize s.axes[k].idleSet.2.2 = n
  -- the setting of the standstill: 1 is OFF, 2 is SHORT, and no other sends a leg mode
  match n with
  | 0 => rfl
  | 1 => rfl
  | 2 => cases shortAsOff s <;> rfl
  | _ + 3 => rfl

end Sys2Proof.Machine

namespace Sys2Proof.Proofs
open Sys2Proof.Machine

/-- Settles O30, command by command. -/
theorem coilChopping : Obligations.CoilChopping := by
  unfold Obligations.CoilChopping
  intro s dt l k
  refine ⟨?reached, ?fastEnd, ?offEnd, ?brakes, ?step, ?reference, ?mode, ?standstill⟩
  case reached =>
    rintro rfl hp hsw hf ht
    exact exec_chopperCurrentReached_of_reached hp hsw hf ht
  case fastEnd =>
    rintro rfl hp h8 hf ht
    exact exec_chopperFastDecayEnd_of_elapsed hp h8 hf ht
  case offEnd =>
    rintro rfl hp hf ht
    exact exec_chopperOffExpiry_of_decay hp hf ht
  case brakes =>
    rintro rfl hst hl hso hlost hb ht
    exact exec_chopperOffExpiry_of_short hst hl hso hlost hb ht
  case step => exact fun u j forward at' rest hu hlost htake => exec_microstepApply_of_step hu hlost htake
  case reference => exact fun j i at' rest hlost htake => exec_auxSettingApply_of_reference hlost htake
  case mode => exact fun j md at' rest hlost htake => exec_auxSettingApply_of_legMode hlost htake
  case standstill =>
    intro at' md u hen hst hat ht hmd hu
    rw [exec_standstillIdleExpiry_of_elapsed hen hst hat ht hmd hu]
    cases md <;> rfl

end Sys2Proof.Proofs


/-! Proofs about the auxiliary command link (11 R292 to R294), the axis grid (09 R239) and the opcodes of an axis (23
R587). -/
namespace Sys2Proof.Machine
open Sys2Proof.Safety

/-! ### Readings that time and the link leave alone -/

@[simp] theorem anyAxis_modAux (s : State) (f : AuxLink → AuxLink) : (s.modAux f).anyAxis = s.anyAxis := rfl

/-! ### AUX_LINK_SLOT (11 R292) -/

section
variable {s : State} {dt : Nat} {up : AuxFrame} (hc : s.tb.counting = true) (hr : s.runs = true)
  (hn : (advance s dt).tb.now.toNat % 200 = 0) (hs : s.auxLink.slotAt ≠ some (s.clk + dt))
  (hup : up = auxFrame (upData (advance s dt) s.auxLink.reports.head? s.auxLink.lastGood) (s.auxLink.upSeq + 1))
include hc hr hn hs hup

/-- With no frame to be sent again the slot carries the next item down, or an idle frame. -/
theorem exec_auxLinkSlot_of_fresh {d : BitVec 80} (ha : s.auxLink.again = [])
    (hd : d = downData (advance s dt) s.auxLink.outbox.head?) :
    exec (.auxLinkSlot dt) s = .next (settled ((((advance s dt).modAux (fun a => { a with
      slotAt := some (s.clk + dt), outbox := a.outbox.drop 1, seq := a.seq + 1, downLine := some (auxFrame d (a.seq + 1)),
      unechoed := a.unechoed ++ [(d, a.seq + 1, s.clk + dt, 0)], upSeq := a.upSeq + 1,
      upLine := some (up, a.reports.head?), reports := a.reports.drop 1 })).put
        (.auxDown (auxFrame d (s.auxLink.seq + 1)))).put (.auxUp up))) := by
  subst hd hup
  simp only [exec_auxLinkSlot, execAuxLinkSlot, done, advance_tb, advance_reads, advance_fields, hc, hr, hn, hs, ha, ne_eq,
    not_false_eq_true, and_self, if_true, State.modAux]

/-- A frame to be sent again goes before any item. -/
theorem exec_auxLinkSlot_of_again {d : BitVec 80} {q : BitVec 4} {n : Nat} {xs : List (BitVec 80 × BitVec 4 × Nat)}
    (ha : s.auxLink.again = (d, q, n) :: xs) :
    exec (.auxLinkSlot dt) s = .next (settled ((((advance s dt).modAux (fun a => { a with
      slotAt := some (s.clk + dt), again := xs, downLine := some (auxFrame d q),
      unechoed := a.unechoed ++ [(d, q, s.clk + dt, n)], upSeq := a.upSeq + 1,
      upLine := some (up, a.reports.head?), reports := a.reports.drop 1 })).put
        (.auxDown (auxFrame d q))).put (.auxUp up))) := by
  subst hup
  simp only [exec_auxLinkSlot, execAuxLinkSlot, done, advance_tb, advance_reads, advance_fields, hc, hr, hn, hs, ha, ne_eq,
    not_false_eq_true, and_self, if_true]
  rfl

end

/-! ### AUX_DOWNLINK_RECEIVE (11 R294, R295) -/

/-- The die's end of the link once a good frame has come down: its sequence number is noted, and it counts towards the
return of a lost link while no axis is enabled. -/
def AuxLink.downGood (a : AuxLink) (x : AuxFrame) (anyAxis : Bool) : AuxLink := { a with
  downLine := none, badDown := 0, lastGood := some x.seq, taken := (x.seq :: a.taken).take 8,
  goodDown := if anyAxis then 0 else Nat.min 16 (a.goodDown + 1) }

/-- A lost link is back after 16 good frames with no axis enabled: this one and 15 before it. -/
theorem AuxLink.sixteen_le_downGood (a : AuxLink) (x : AuxFrame) (anyAxis : Bool) :
    16 ≤ (a.downGood x anyAxis).goodDown ↔ ¬ (anyAxis || decide (a.goodDown < 15)) = true := by
  cases anyAxis
  · simp only [AuxLink.downGood, Bool.false_eq_true, if_false, Bool.false_or, decide_eq_true_eq, Nat.min_def]
    split <;> omega
  · simp [AuxLink.downGood]

/-- The third bad frame in a row comes after two. -/
theorem AuxLink.three_le_badDown (a : AuxLink) : 3 ≤ Nat.min 3 (a.badDown + 1) ↔ 2 ≤ a.badDown := by
  simp only [Nat.min_def]
  split <;> omega

section
variable {s u : State} {dt : Nat} {flip : Option (BitVec 92)}

/-- A good frame: on a lost link it may be the one that brings it back; otherwise the die takes its item, unless one of
the last eight frames had its sequence number. -/
theorem exec_auxDownlinkReceive_of_frame {x : AuxFrame} (hx : auxReceived s.auxLink.downLine flip = some x)
    (hu : u = (advance s dt).modAux (fun a => a.downGood x s.anyAxis)) :
    exec (.auxDownlinkReceive dt flip) s = .next (settled
      (if s.auxLink.linkLost = true then
        if 16 ≤ u.auxLink.goodDown then u.modAux (fun a => { a with linkLost := false }) else u
      else (downItem u x.data).elim u (fun y => if x.seq ∈ s.auxLink.taken then u else dieTake u y))) := by
  subst hu
  simp only [exec_auxDownlinkReceive, execAuxDownlinkReceive, done, advance_fields, hx, State.modAux_modAux,
    anyAxis_modAux, advance_reads, State.modAux_fields, AuxLink.downGood, List.contains_iff_mem]
  cases downItem _ x.data <;> rfl

theorem exec_auxDownlinkReceive_of_good {x : AuxFrame} (hx : auxReceived s.auxLink.downLine flip = some x)
    (hlost : s.auxLink.linkLost = false) (hu : u = (advance s dt).modAux (fun a => a.downGood x s.anyAxis)) :
    exec (.auxDownlinkReceive dt flip) s = .next (settled ((downItem u x.data).elim u (fun y =>
      if x.seq ∈ s.auxLink.taken then u else dieTake u y))) := by
  rw [exec_auxDownlinkReceive_of_frame hx hu, hlost, if_neg Bool.false_ne_true]

theorem exec_auxDownlinkReceive_of_lost {x : AuxFrame} (hx : auxReceived s.auxLink.downLine flip = some x)
    (hlost : s.auxLink.linkLost = true) :
    exec (.auxDownlinkReceive dt flip) s = .next (settled ((advance s dt).modAux (fun a => { a.downGood x s.anyAxis with
      linkLost := s.anyAxis || decide (a.goodDown < 15) }))) := by
  have hgood : ((advance s dt).modAux (fun a => a.downGood x s.anyAxis)).auxLink.goodDown =
      (s.auxLink.downGood x s.anyAxis).goodDown := rfl
  have hback := s.auxLink.sixteen_le_downGood x s.anyAxis
  rw [exec_auxDownlinkReceive_of_frame hx rfl, if_pos hlost, hgood]
  by_cases h : (s.anyAxis || decide (s.auxLink.goodDown < 15)) = true
  · rw [if_neg (fun h16 => hback.1 h16 h)]
    simp only [State.modAux, advance_fields, AuxLink.downGood, h, hlost]
  · rw [if_pos (hback.2 h)]
    simp only [State.modAux, advance_fields, AuxLink.downGood, Bool.eq_false_iff.2 h]

theorem exec_auxDownlinkReceive_of_bad (hx : auxReceived s.auxLink.downLine flip = none)
    (hu : u = (advance s dt).modAux (fun a => { a with
      downLine := none, badDown := Nat.min 3 (a.badDown + 1), goodDown := 0 })) :
    exec (.auxDownlinkReceive dt flip) s = .next (settled (if 2 ≤ s.auxLink.badDown ∧ s.auxLink.linkLost = false
      then dieLost u else u)) := by
  subst hu
  simp only [exec_auxDownlinkReceive, execAuxDownlinkReceive, done, State.modAux_modAux, State.modAux_fields,
    advance_fields, hx, s.auxLink.three_le_badDown]

end

/-! ### AUX_UPLINK_RECEIVE (11 R292, R294) -/

section
variable {s u : State} {dt : Nat} {flip : Option (BitVec 92)}

/-- Frames that an echo does not name, in the two ways to ask for them. -/
theorem bne_eq_decide_some_ne {n : Nat} (q e : BitVec n) : (q != e) = decide (some e ≠ some q) := by
  by_cases h : e = q
  · simp [h]
  · simp [h, Ne.symm h]

theorem exec_auxUplinkReceive_of_good {x : AuxFrame}
    (hx : auxReceived (s.auxLink.upLine.map (fun x => x.1)) flip = some x)
    (hu : u = (advance s dt).modAux (fun a => { a with
      upLine := none, badUp := 0, unechoed := a.unechoed.filter (fun y => decide (upEchoOf x.data ≠ some y.2.1)),
      again := a.again.filter (fun y => decide (upEchoOf x.data ≠ some y.2.1)) })) :
    exec (.auxUplinkReceive dt flip) s = .next (settled ((upReport x.data).elim u (takeDieReport u))) := by
  subst hu
  simp only [exec_auxUplinkReceive, execAuxUplinkReceive, done, advance_fields, hx, State.modAux_modAux]
  cases hecho : upEchoOf x.data with
  | none => cases upReport x.data <;> rfl
  | some e =>
    simp only [← bne_eq_decide_some_ne]
    cases upReport x.data <;> rfl

theorem exec_auxUplinkReceive_of_bad (hx : auxReceived (s.auxLink.upLine.map (fun x => x.1)) flip = none)
    (hu : u = (advance s dt).modAux (fun a => { a with
      upLine := none, badUp := a.badUp + 1,
      reports := match s.auxLink.upLine with | some (_, some r) => r :: a.reports | _ => a.reports })) :
    exec (.auxUplinkReceive dt flip) s = .next (settled (if s.auxLink.badUp = 2 then
      forAll six (fun k v => disableAxis (axisEnableFails v k 153 0) k)
        (raiseIf (ctrInc 16 s.auxLink.errors).2 (raise (u.modAux (fun a =>
          { a with errors := (ctrInc 16 s.auxLink.errors).1 })) 153 0) 154 4)
      else u)) := by
  have hthird : s.auxLink.badUp + 1 = 3 ↔ s.auxLink.badUp = 2 := Nat.succ_inj
  subst hu
  simp only [exec_auxUplinkReceive, execAuxUplinkReceive, done, State.modAux_modAux, State.modAux_fields, advance_fields,
    hx, hthird] <;> rfl

end

/-! ### AUX_RESEND_TIMEOUT (11 R293) and AXIS_GRID_TICK (09 R239) -/

/-- Frames without an echo for two slots go again, three times at most. -/
theorem exec_auxResendTimeout_eq (s : State) (dt : Nat) :
    exec (.auxResendTimeout dt) s = .next (settled ((advance s dt).modAux (fun a => { a with
      unechoed := a.unechoed.filter (fun x => !decide (x.2.2.1 + 400 ≤ s.clk + dt)),
      again := a.again ++ ((s.auxLink.unechoed.filter (fun x => decide (x.2.2.1 + 400 ≤ s.clk + dt))).filter
        (fun x => decide (x.2.2.2 < 3))).map (fun x => (x.1, x.2.1, x.2.2.2 + 1)) }))) := by
  simp only [exec_auxResendTimeout, execAuxResendTimeout, done, elapsed_advance, advance_fields, usTicks]

theorem exec_axisGridTick_of_due {s : State} {dt : Nat} (late : BitVec 6) (hc : s.tb.counting = true)
    (hr : s.runs = true) (hn : (advance s dt).tb.now.toNat % 2000 = 0) (hg : s.tb.lastGrid ≠ some (s.clk + dt)) :
    exec (.axisGridTick dt late) s = .next (settled (forAll six (fun k u => axisCommit u k (late.getLsbD k.val))
      ((advance s dt).modTb (fun t => { t with lastGrid := some (s.clk + dt) })))) := by
  simp only [exec_axisGridTick, execAxisGridTick, done, advance_tb, advance_reads, advance_fields, hc, hr, hn, hg, ne_eq,
    not_false_eq_true, and_self, if_true]

/-! ### AXIS_ENABLE and AXIS_DISABLE (23 R587) -/

/-- The settings that an axis sends to the die are read of the parameters. -/
theorem axisSettings_of_params {s t : State} (h : t.porter.params = s.porter.params) (k : Fin 6) :
    axisSettings t k = axisSettings s k := by
  simp only [axisSettings, State.pa, State.par, h]

theorem p0_of_params {s t : State} (h : t.porter.params = s.porter.params) (i j : Nat) : t.p0 i j = s.p0 i j := by
  simp only [State.p0, State.par, h]

section
variable {s u : State} {tr : Transport} {tag : BitVec 16} {c : Cmd}

theorem exec_axisDisable_of_starts (h : Starts s tr tag 0x0401 c) (hd : c.data = []) :
    exec (.axisDisable tr tag) s = .next (settled ((waitCommit (match s.axes[c.axis].disableReq with
      | some w => replyAt (begun s tr tag) w stOK []
      | none => begun s tr tag) c).modAxis c.axis (fun a => { a with disableReq := some (some c.id) }))) := by
  rw [exec_axisDisable, execAxisDisable, onCmd_starts h, needLen_of_length (by rw [hd]; rfl), done]
  rfl

/-- A check of AXIS_ENABLE refuses it. -/
def axisEnableRefused (s : State) (k : Fin 6) : Bool :=
  enableForbidden s none || s.axes[k].enabled || s.axes[k].enabling.isSome || (axisChan s k).isNone || s.auxLink.linkLost
    || !s.legs[legOf k false].lowOk || !s.legs[legOf k true].lowOk

theorem axisEnableRefused_of_passes {s : State} {k : Fin 6} (hf : enableForbidden s none = false)
    (hen : s.axes[k].enabled = false) (hing : s.axes[k].enabling = none) (hch : axisChan s k ≠ none)
    (hlost : s.auxLink.linkLost = false) (ha : s.legs[legOf k false].lowOk = true)
    (hb : s.legs[legOf k true].lowOk = true) : axisEnableRefused s k = false := by
  have hsome : (axisChan s k).isNone = false := Option.isNone_eq_false_iff.2 (Option.isSome_iff_ne_none.2 hch)
  simp only [axisEnableRefused, hf, hen, hing, hsome, hlost, ha, hb, Option.isSome_none, Bool.not_true, Bool.or_self]

theorem exec_axisEnable_of_starts (h : Starts s tr tag 0x0400 c) (hd : c.data = [])
    (hok : axisEnableRefused (begun s tr tag) c.axis = false)
    (hu : u = (accept (((begun s tr tag).modLeg (legOf c.axis false) clearedLeg).modLeg (legOf c.axis true) clearedLeg)
      c).modAxis c.axis (fun x => { x with
        enabling := some (s.clk, some c.id), scRaised := false, softLegs := [], fullSink := false })) :
    exec (.axisEnable tr tag) s = .next (settled (axisEnabled (u.modAux (fun l => { l with
      outbox := l.outbox ++ (if s.auxLink.hyst.isNone then [.hysteresis (s.p0 0x94F0 1) (s.p0 0x94F0 2)] else [])
        ++ [.setting c.axis (axisSettings s c.axis)] })) c.axis)) := by
  obtain ⟨w, hw⟩ : ∃ w, w = accept (((begun s tr tag).modLeg (legOf c.axis false) clearedLeg).modLeg
    (legOf c.axis true) clearedLeg) c := ⟨_, rfl⟩
  have hframe : w.clk = s.clk ∧ w.auxLink = s.auxLink := by
    obtain ⟨_, _, h⟩ := accept_frame (((begun s tr tag).modLeg (legOf c.axis false) clearedLeg).modLeg
      (legOf c.axis true) clearedLeg) c
    rw [hw, h]
    exact ⟨rfl, rfl⟩
  obtain ⟨hclk, haux⟩ := hframe
  have hparams : u.porter.params = s.porter.params := by rw [hu]; exact accept_params _ c
  have hlink : u.auxLink = s.auxLink := by rw [hu, ← hw]; exact haux
  rw [← hw] at hu
  rw [axisEnableRefused] at hok
  rw [exec_axisEnable, execAxisEnable, onCmd_starts h, done]
  simp only [hok, Bool.false_eq_true, if_false, needLen_of_length (show c.data.length = 0 by rw [hd]; rfl), ← hw, hclk,
    ← hu, hlink, axisSettings_of_params hparams, p0_of_params hparams]

end

end Sys2Proof.Machine

namespace Sys2Proof.Proofs
open Sys2Proof.Machine Sys2Proof.Safety

/-- Settles O31, command by command. -/
theorem auxiliaryLink : Obligations.AuxiliaryLink := by
  unfold Obligations.AuxiliaryLink
  intro s
  refine ⟨?fresh, ?again, ?downGood, ?downOnLost, ?downBad, ?upGood, ?upBad, exec_auxResendTimeout_eq s, ?grid, ?disable,
    ?enable⟩
  case fresh => exact fun dt d up hc hr hn hs ha hd hup => exec_auxLinkSlot_of_fresh hc hr hn hs hup ha hd
  case again => exact fun dt d q n xs up hc hr hn hs ha hup => exec_auxLinkSlot_of_again hc hr hn hs hup ha
  case downGood =>
    intro u dt flip x hx hlost hu
    rw [exec_auxDownlinkReceive_of_good hx hlost hu]
    cases downItem u x.data <;> rfl
  case downOnLost => exact fun dt flip x hx hlost => exec_auxDownlinkReceive_of_lost hx hlost
  case downBad => exact fun u dt flip hx hu => exec_auxDownlinkReceive_of_bad hx hu
  case upGood =>
    intro u dt flip x hx hu
    rw [exec_auxUplinkReceive_of_good hx hu]
    cases upReport x.data <;> rfl
  case upBad => exact fun u dt flip hx hu => exec_auxUplinkReceive_of_bad hx hu
  case grid => exact fun dt late hc hr hn hg => exec_axisGridTick_of_due late hc hr hn hg
  case disable => exact fun tr tag c hstart hd => exec_axisDisable_of_starts hstart hd
  case enable =>
    intro u tr tag c hstart hd hf hen hing hch hlost ha hb hu
    exact exec_axisEnable_of_starts hstart hd
      (axisEnableRefused_of_passes (s := begun s tr tag) hf hen hing hch hlost ha hb) hu

end Sys2Proof.Proofs

/-! Proofs about the trip frames and the uplinks of a gate link (10 R265, R275, R282, R283). -/
namespace Sys2Proof.Machine

section
variable {s : State} {dt : Nat} {m : Fin 4}

/-! ### TRIP_FRAME_LAUNCH (10 R265, 04 R107) -/

/-- At a character boundary with the line free the trip frame goes before the OFF frame, and takes its place. -/
theorem exec_tripFrameLaunch_of_free (hb : stampOf (advance s dt) (s.clk + dt) % 8 = 0)
    (hf : s.gl[m].busyUntil ≤ s.clk + dt) :
    exec (.tripFrameLaunch dt m) s = .next (settled (
      if s.tfu[m].tripFrameDue then
        sendFrame (((advance s dt).modTfu m (fun t => { t with tripFrameDue := false })).modGl m (fun g =>
          { g with offDue := false })) m (((s.clk + dt : Nat) : Int) - 2) .trip 0 s.drive[m].brk 0
      else if s.gl[m].offDue then
        sendFrame ((advance s dt).modGl m (fun g => { g with offDue := false })) m (((s.clk + dt : Nat) : Int) - 2)
          .off 0 false 0
      else advance s dt)) := by
  rw [← Int.natCast_add] at hb
  simp only [exec_tripFrameLaunch, execTripFrameLaunch, done, advance_fields, hb, hf, decide_true, Bool.and_self,
    Bool.not_true, Bool.false_eq_true, if_false]

/-! ### UPLINK_MISSING (10 R283) -/

theorem exec_uplinkMissing_of_over {w : BitVec 8 × FrameCode × Nat} {r : List (BitVec 8 × FrameCode × Nat)}
    (hw : s.gl[m].awaits = w :: r) (ht : w.2.2 + 160 ≤ s.clk + dt) :
    exec (.uplinkMissing dt m) s = .next (settled (uplinkBad ((advance s dt).modGl m (fun g =>
      { g with awaits := r })) m)) := by
  simp only [exec_uplinkMissing, execUplinkMissing, done, advance_fields, elapsed_advance, hw, ht, decide_true, if_true]

/-! ### UPLINK_FRAME_RECEIVE (10 R275, R282, R283) -/

section
variable {f : BitVec 64} {w : BitVec 8 × FrameCode × Nat}

theorem exec_uplinkFrameReceive_of_bad {r : List (BitVec 8 × FrameCode × Nat)} (hw : s.gl[m].awaits = w :: r)
    (hf : upGood f = false) :
    exec (.uplinkFrameReceive dt m f) s = .next (settled (uplinkBad ((advance s dt).modGl m (fun g =>
      { g with awaits := r })) m)) := by
  simp only [exec_uplinkFrameReceive, execUplinkFrameReceive, done, advance_fields, hw, hf, Bool.not_false, if_true]

/-- A configuration report in a status frame is kept: its value as the item that it names, and item 0x32 as reported
(10 R276, R281). -/
def keepReport (s : State) (m : Fin 4) (f : BitVec 64) : State :=
  if upBit f 15 = true ∧ (upGs f).toNat / 65536 < 51 then s.modGl m (fun g => { g with
    items := vmod g.items (finOf 51 ((upGs f).toNat / 65536)) (fun _ => (upGs f).setWidth 16)
    checkReported := g.checkReported || (upGs f).toNat / 65536 == 50 })
  else s

/-- A good frame whose echo names an awaited frame ends the wait for it; in time it becomes the last good uplink, and
late it counts as a bad one. -/
theorem exec_uplinkFrameReceive_of_awaited (hf : upGood f = true)
    (hw : s.gl[m].awaits.find? (fun w => w.1 == upEcho f) = some w) :
    exec (.uplinkFrameReceive dt m f) s = .next (settled (
      if w.2.2 + 160 < s.clk + dt then
        uplinkBad ((advance s dt).modGl m (fun g => { g with awaits := g.awaits.filter (fun x => x.1 != w.1) })) m
      else uplinkChecks (keepReport ((advance s dt).modGl m (fun g => { g with
        awaits := g.awaits.filter (fun x => x.1 != w.1), up := f, upOk := true, missRun := 0 })) m f) m f w.2.1
          (s.clk + dt - 64))) := by
  simp only [exec_uplinkFrameReceive, execUplinkFrameReceive, done, advance_fields, hf, hw, Bool.not_true,
    Bool.false_eq_true, if_false, State.modGl_modGl, State.modGl_fields, keepReport, apply_ite State.clk, ite_self]

end

end

end Sys2Proof.Machine

namespace Sys2Proof.Proofs
open Sys2Proof.Machine

/-- Settles O25, command by command. -/
theorem gateLinkCommands : Obligations.GateLinkCommands := by
  unfold Obligations.GateLinkCommands
  intro s
  refine ⟨?trip, ?off, ?missing, ?bad, ?inTime, ?late⟩
  case trip =>
    intro dt m hb hf htrip
    rw [exec_tripFrameLaunch_of_free hb hf, if_pos htrip]
  case off =>
    intro dt m hb hf htrip hoff
    rw [exec_tripFrameLaunch_of_free hb hf, htrip, if_neg Bool.false_ne_true, if_pos hoff]
  case missing => exact fun dt m w r hw ht => exec_uplinkMissing_of_over hw ht
  case bad => exact fun dt m f w r hw hf => exec_uplinkFrameReceive_of_bad hw hf
  case inTime =>
    intro t u dt m f w hf hw hle ht hu
    rw [exec_uplinkFrameReceive_of_awaited hf hw, if_neg (Nat.not_lt.2 hle), keepReport, hu, ht]
  case late =>
    intro dt m f w hf hw ht
    rw [exec_uplinkFrameReceive_of_awaited hf hw, if_pos ht]

end Sys2Proof.Proofs

/-! Proofs about the phases of a stop (12 R330, R331, R338) and about the brake release, command HOLD, render and the
chopper without effect (12 R323, R333 to R336). -/
namespace Sys2Proof.Machine

/-! ### Readings that time leaves alone -/

@[simp] theorem braked_advance (s : State) (dt : Nat) (m : Fin 4) : braked (advance s dt) m = braked s m := rfl
@[simp] theorem running_advance (s : State) (dt : Nat) (m : Fin 4) : running (advance s dt) m = running s m := rfl

/-- A timer that has run its time when the time has passed. -/
theorem elapsedO_advance_of_le {s : State} {dt at' lim : Nat} (h : at' + lim ≤ s.clk + dt) :
    elapsedO (advance s dt) (some at') lim = true := decide_eq_true h

/-! ### The ends of a stop's phases (12 R330, R331) -/

/-- A brake stop is counted, and the count raises its source when OVF sets (12 R338). -/
def countBrakeStop (s : State) (m : Fin 4) : State :=
  raiseIf (ctrInc 16 s.drive[m].brakeStops).2
    (s.modDrive m (fun d => { d with brakeStops := (ctrInc 16 s.drive[m].brakeStops).1 })) (172 + m.val) 4

section
variable {s : State} {dt at' : Nat} {m : Fin 4} {p : Stop} (hp : s.drive[m].stop = some p)
include hp

theorem exec_stopZeroTimeout_of_elapsed {d : Nat} (hd : d = Nat.max 1 (s.pm m 0x2703 3))
    (hph : p.phase = .speed ∨ p.phase = .zero)
    (ht : p.startedAt + ((15625 * p.speed0 + d - 1) / d + msTicks 1000) ≤ s.clk + dt) :
    exec (.stopZeroTimeout dt m) s = .next (settled
      (enterBrake (raise (noteSource (advance s dt) m (172 + m.val) 0) (172 + m.val) 0) m
        { p with fault := true, quick := false })) := by
  subst hd
  simp only [exec_stopZeroTimeout, execStopZeroTimeout, done, advance_fields, advance_reads, elapsed_advance, hp, hph, ht,
    decide_true, and_self, if_true]

theorem exec_zeroDwellEnd_of_elapsed (hph : p.phase = .zero) (hz : p.zeroAt = some at')
    (ht : at' + msTicks (s.pm m 0x2703 5) ≤ s.clk + dt) :
    exec (.zeroDwellEnd dt m) s = .next (settled (
      if p.kind = .ramp then enterTorqueRamp (advance s dt) m p (torqueRef (advance s dt) m)
      else enterBrake (advance s dt) m p)) := by
  simp only [exec_zeroDwellEnd, execZeroDwellEnd, done, advance_fields, advance_reads, hp, hph, hz,
    elapsedO_advance_of_le ht, and_self, if_true]

theorem exec_brakeHoldExpiry_of_elapsed (hb : p.brakeAt = some at')
    (ht : at' + msTicks (s.pm m 0x2506 3) ≤ s.clk + dt) :
    exec (.brakeHoldExpiry dt m) s = .next (settled (
      if p.phase = .brake then enterTorqueRamp (advance s dt) m p p.torque
      else if p.phase = .offWait then reachStopped (advance s dt) m false else advance s dt)) := by
  simp only [exec_brakeHoldExpiry, execBrakeHoldExpiry, done, advance_fields, advance_reads, hp, hb,
    elapsedO_advance_of_le ht, if_true]

/-- At torque 0 the stop ends; it is a brake stop when the brake was requested. -/
theorem exec_torqueRampEnd_of_zero (hph : p.phase = .torqueRamp)
    (ht : rampTorque p.torque (s.pm m 0x2506 4) (s.clk + dt - p.rampAt) = 0) :
    exec (.torqueRampEnd dt m) s = .next (settled (reachStopped
      (if p.brakeAt.isSome then countBrakeStop (advance s dt) m else advance s dt) m p.quick)) := by
  simp only [exec_torqueRampEnd, execTorqueRampEnd, done, advance_fields, advance_reads, hp, hph, ht, and_self, if_true,
    countBrakeStop]

end

/-! ### The brake at a start (12 R333) -/

section
variable {s : State} {dt at' : Nat} {m : Fin 4} {e : Enabling} (he : s.drive[m].enabling = some e)
include he

theorem exec_brakeReleaseWaitEnd_of_elapsed (hat : e.releaseAt = some at')
    (ht : at' + msTicks (s.pm m 0x2704 3) ≤ s.clk + dt) (hr : e.released = false) :
    exec (.brakeReleaseWaitEnd dt m) s = .next (settled ((advance s dt).modDrive m (fun d => { d with
      enabling := some { e with released := true } }))) := by
  simp only [exec_brakeReleaseWaitEnd, execBrakeReleaseWaitEnd, done, advance_fields, advance_reads, he,
    hat, elapsedO_advance_of_le ht, hr, Bool.not_false, Bool.and_self, if_true]

theorem exec_brakeReleaseTimeout_of_elapsed {u : State} (hb : braked s m = true) (hrel : e.releaseAt = none)
    (hres : e.result = none) (hat : e.softAt = some at') (ht : at' + msTicks 500 ≤ s.clk + dt)
    (hu : u = raise (noteSource (advance s dt) m (172 + m.val) 3) (172 + m.val) 3) :
    exec (.brakeReleaseTimeout dt m) s = .next (settled
      (reachStopped (failStart u m (u.drive[m].enabling.bind (fun e => e.firstSource))) m false)) := by
  subst hu
  simp only [exec_brakeReleaseTimeout, execBrakeReleaseTimeout, done, advance_fields, braked_advance,
    he, hb, hrel, hres, hat, Option.isNone_none, elapsedO_advance_of_le ht, Bool.and_self, if_true]

end

/-! ### Command watchdog and command HOLD (12 R334, R335) -/

/-- A stop request to the profile channel of Stove `k` when its pool has the machine: the model's choice where 12 R334
speaks of the Stove (log 52). -/
def requestProfileStop (m k : Fin 4) (s : State) : State :=
  if bit (s.ps k 0x3001 1) m.val then
    match stoveChan s k with
    | none => s
    | some c => s.modProf c (fun p => { p with reqs := p.reqs ++ [(.stop, none)] })
  else s

section
variable {s : State} {dt at' : Nat} {m : Fin 4}

theorem exec_commandWatchdogExpiry_of_elapsed (hon : s.pm m 0x2706 1 ≠ 0) (hen : s.en m = true)
    (hs : s.drive[m].stop = none) (hh : s.drive[m].inHold = false)
    (ht : s.drive[m].lastCmd + msTicks (s.pm m 0x2706 1) ≤ s.clk + dt) :
    exec (.commandWatchdogExpiry dt m) s = .next (settled (forAll four (requestProfileStop m)
      ((enterDegraded (advance s dt) m .hold (some 2)).modDrive m (fun d => { d with holdAt := s.clk + dt })))) := by
  simp only [exec_commandWatchdogExpiry, execCommandWatchdogExpiry, done, advance_fields, advance_reads, elapsed_advance,
    hon, hen, hs, hh, ht, ne_eq, not_false_eq_true, decide_true, and_self, if_true]
  rfl

theorem exec_commandHoldExpiry_of_elapsed (hh : s.drive[m].inHold = true) (hen : s.en m = true)
    (hs : s.drive[m].stop = none) (hr : s.drive[m].reqs = [])
    (ht : s.drive[m].holdAt + msTicks (s.pm m 0x2706 3) ≤ s.clk + dt) :
    exec (.commandHoldExpiry dt m) s = .next (settled
      ((raise (noteSource (advance s dt) m (168 + m.val) 3) (168 + m.val) 3).modDrive m (fun d => { d with
        inHold := false, reqs := d.reqs ++ [{ fault := false, quick := false }] }))) := by
  simp only [exec_commandHoldExpiry, execCommandHoldExpiry, done, advance_fields, advance_reads, elapsed_advance, hh, hen,
    hs, hr, ht, decide_true, and_self, if_true]

/-! ### Render (12 R334, R336) -/

/-- The dwell leaves render when the machine is in it, with the render torque as preset, and enters it otherwise. -/
theorem exec_renderDwellExpiry_of_elapsed {u : State} (hrun : s.startM[m].state = .run) (hs : s.drive[m].stop = none)
    (hat : s.drive[m].renderAt = some at') (ht : at' + msTicks (s.pm m 0x2707 5) ≤ s.clk + dt)
    (hu : u = (advance s dt).modDrive m (fun d => { d with renderAt := none })) :
    exec (.renderDwellExpiry dt m) s = .next (settled (
      if s.drive[m].inRender then
        ((sealPreset u m (renderTorque s m)).modStartM m (fun x => { x with
          heldTorque := renderTorque s m, reacquiring := true })).modDrive m (fun d => { d with
            inRender := false, overspeedAt := none })
      else enterDegraded u m .render (some 4))) := by
  have hin : u.drive[m].inRender = s.drive[m].inRender := by simp [hu]
  have hpre : renderTorque u m = renderTorque s m := by rw [hu]; rfl
  simp only [exec_renderDwellExpiry, execRenderDwellExpiry, done, advance_fields, advance_reads, hrun,
    hs, hat, elapsedO_advance_of_le ht, and_self, if_true, ← hu, hin, hpre]

theorem exec_renderOverspeed_of_elapsed (hin : s.drive[m].inRender = true) (hrun : running s m = true)
    (hat : s.drive[m].overspeedAt = some at') (ht : at' + msTicks 100 ≤ s.clk + dt) :
    exec (.renderOverspeed dt m) s = .next (settled (faultStop (requestSbc
      ((raise (noteSource (advance s dt) m (168 + m.val) 5) (168 + m.val) 5).modDrive m (fun d => { d with
        overspeedAt := none })) m) m none)) := by
  simp only [exec_renderOverspeed, execRenderOverspeed, done, advance_fields, running_advance, hin, hrun,
    hat, elapsedO_advance_of_le ht, and_self, if_true]

/-! ### The chopper without effect (12 R323) -/

theorem exec_chopperTEffExpiry_of_elapsed (hat : s.drive[m].effAt = some at')
    (ht : at' + usTicks (s.pm m 0x2701 4) ≤ s.clk + dt) :
    exec (.chopperTEffExpiry dt m) s = .next (settled (chopperOff (setChop (advance s dt) m 2 true) m)) := by
  simp only [exec_chopperTEffExpiry, execChopperTEffExpiry, done, advance_fields, advance_reads, hat,
    elapsedO_advance_of_le ht, if_true]

end

end Sys2Proof.Machine

namespace Sys2Proof.Proofs
open Sys2Proof.Machine

/-- Settles O20, command by command; of each, case by case in the order in which the command asks. -/
theorem stopPhases : Obligations.StopPhases := by
  unfold Obligations.StopPhases
  intro s dt m p
  refine ⟨?late, ?ramp, ?brake, ?held, ?offWait, ?unbraked, ?braked⟩
  case late => exact fun d hp hd hph ht => exec_stopZeroTimeout_of_elapsed hp hd hph ht
  case ramp =>
    intro at' hp hph hz ht hk
    rw [exec_zeroDwellEnd_of_elapsed hp hph hz ht, if_pos hk, enterTorqueRamp]
    rfl
  case brake =>
    intro at' hp hph hz ht hk
    rw [exec_zeroDwellEnd_of_elapsed hp hph hz ht, if_neg hk]
  case held =>
    intro at' hp hb ht hph
    rw [exec_brakeHoldExpiry_of_elapsed hp hb ht, if_pos hph, enterTorqueRamp]
    rfl
  case offWait =>
    intro at' hp hb ht hph
    have hne : p.phase ≠ .brake := by rw [hph]; decide
    rw [exec_brakeHoldExpiry_of_elapsed hp hb ht, if_neg hne, if_pos hph]
  case unbraked =>
    intro hp hph hb ht
    rw [exec_torqueRampEnd_of_zero hp hph ht, hb, Option.isSome_none, if_neg Bool.false_ne_true]
  case braked =>
    intro at' hp hph hb ht
    rw [exec_torqueRampEnd_of_zero hp hph ht, hb, Option.isSome_some, if_pos rfl, countBrakeStop]
    rfl

/-- Settles O21, command by command. The stop requests of the watchdog go to the profile channel of every Stove whose
pool has the machine, which is the model's choice (log 52). -/
theorem brakeAndHold : Obligations.BrakeAndHold := by
  unfold Obligations.BrakeAndHold
  intro s
  refine ⟨?release, ?noRelease, ?watchdog, ?hold, ?render, ?leave, ?overspeed, ?chopper⟩
  case release => exact fun dt m e at' he hat ht hr => exec_brakeReleaseWaitEnd_of_elapsed he hat ht hr
  case noRelease =>
    exact fun u dt m e at' he hb hrel hres hat ht hu => exec_brakeReleaseTimeout_of_elapsed he hb hrel hres hat ht hu
  case watchdog =>
    rintro dt m _ rfl hon hen hs hh ht
    exact exec_commandWatchdogExpiry_of_elapsed hon hen hs hh ht
  case hold => exact fun dt m hh hen hs hr ht => exec_commandHoldExpiry_of_elapsed hh hen hs hr ht
  case render =>
    intro dt m at' hrun hs hat ht hin
    rw [exec_renderDwellExpiry_of_elapsed hrun hs hat ht rfl, hin, if_neg Bool.false_ne_true]
  case leave =>
    intro dt m at' hrun hs hat ht hin
    rw [exec_renderDwellExpiry_of_elapsed hrun hs hat ht rfl, if_pos hin]
  case overspeed => exact fun dt m at' hin hrun hat ht => exec_renderOverspeed_of_elapsed hin hrun hat ht
  case chopper => exact fun dt m at' hat ht => exec_chopperTEffExpiry_of_elapsed hat ht

end Sys2Proof.Proofs

/-! Proofs about load sharing and the transfer to a partner module (13 R344 to R352): the frames that a module takes out
of its inbox, the distributor, the misses, and the transfer. -/
namespace Sys2Proof.Machine

/-! ### What time leaves alone, and what the compared CRC does not cover -/

@[simp] theorem member_advance (s : State) (dt : Nat) (m : Fin 4) : member (advance s dt) m = member s m := rfl
@[simp] theorem isMaster_advance (s : State) (dt : Nat) (m : Fin 4) : isMaster (advance s dt) m = isMaster s m := rfl
@[simp] theorem xferCrc_modShare (s : State) (m : Fin 4) (f : Share → Share) : xferCrc (s.modShare m f) m = xferCrc s m := rfl

/-! ### Frames from the inbox (13 R344, R350) -/

/-- What a command makes of the first frame of its kind in the inbox; without one nothing changes. -/
def withInbox (s : State) (p : FabFrame → Bool) (act : FabFrame → State → State) : State :=
  match takeInbox s p with
  | none => s
  | some (f, u) => act f u

section
variable {s u : State} {p : FabFrame → Bool} {act : FabFrame → State → State} {f : FabFrame}

theorem withInbox_of_some (h : takeInbox s p = some (f, u)) : withInbox s p act = act f u := by rw [withInbox, h]

theorem withInbox_of_empty (h : s.fabric.inbox = []) : withInbox s p act = s := by
  have hnone : takeInbox s p = none := by rw [takeInbox, h, List.find?_nil]
  rw [withInbox, hnone]

end

/-- The kinds of message that the commands of load sharing take out. -/
def isMemberReport (f : FabFrame) : Bool := match f.msg with | .memberReport _ => true | _ => false
def isShare (f : FabFrame) : Bool := match f.msg with | .share .. => true | _ => false
def isTransfer (f : FabFrame) : Bool := match f.msg with | .transfer .. => true | _ => false

/-- A report goes to every machine; `takeReport` lets the masters of its group take it. -/
def deliverReport (f : FabFrame) (s : State) : State :=
  match f.msg with
  | .memberReport r => forAll four (fun m v => takeReport v m r f.src) s
  | _ => s

/-- A share goes to every member machine that has the group and the index which it names. -/
def deliverShare (f : FabFrame) (s : State) : State :=
  match f.msg with
  | .share g sender k v last => forAll four (fun m s =>
      if member s m ∧ shareGroup s m = g ∧ shareIndex s m = k then takeShare s m sender v last f.src else s) s
  | _ => s

/-- A transfer frame goes to every channel whose partner is the machine and the module that sent it. -/
def deliverTransfer (f : FabFrame) (s : State) : State :=
  match f.msg with
  | .transfer n _ enabled crc => forAll four (fun m v =>
      if xferRole v m ≠ 0 ∧ v.pm m 0x8201 2 = f.src.toNat ∧ v.pm m 0x8201 3 = n.val then takeTransfer v m enabled crc
      else v) s
  | _ => s

theorem exec_memberReportReceive_eq (dt : Nat) (s : State) : exec (.memberReportReceive dt) s =
    .next (settled (withInbox (advance s dt) isMemberReport deliverReport)) := rfl

theorem exec_shareReceive_eq (dt : Nat) (s : State) : exec (.shareReceive dt) s =
    .next (settled (withInbox (advance s dt) isShare deliverShare)) := rfl

theorem exec_transferFrameReceive_eq (dt : Nat) (s : State) : exec (.transferFrameReceive dt) s =
    .next (settled (withInbox (advance s dt) isTransfer deliverTransfer)) := rfl

/-- A transfer frame that carries no CRC leaves the transfer as armed as it was (13 R350). -/
theorem takeTransfer_none (s : State) (m : Fin 4) (enabled : Bool) :
    takeTransfer s m enabled none = s.modShare m (fun x => { x with
      partnerSeen := true, xferArrived := true, xferMissed := 0, partnerActive := enabled }) := rfl

/-- A CRC arms the transfer when it equals the module's own; one that differs disarms it, and raises 11.6 cause 2 when the
transfer was armed (13 R350). -/
theorem takeTransfer_some (s : State) (m : Fin 4) (enabled : Bool) (c : BitVec 32) :
    takeTransfer s m enabled (some c) = raiseIf (s.share[m].armed && !(c == xferCrc s m)) (s.modShare m (fun x => { x with
      partnerSeen := true, xferArrived := true, xferMissed := 0, partnerActive := enabled
      armed := c == xferCrc s m })) 182 (16 * m.val + 2) := by
  simp only [takeTransfer, State.modShare_modShare, xferCrc_modShare, State.modShare_fields, Fin.getElem_fin, vmod_self]

section
variable {s : State} {dt : Nat} {m : Fin 4}

/-! ### DISTRIBUTOR_RUN (13 R344, R345) -/

/-- What a run of the distributor leaves of its result: it has run for this sample, T_D, and whether the group is
saturated. A saturation that begins raises 11.4, as its counter does when OVF sets. -/
def recordRun (s : State) (m : Fin 4) (sat : Bool) (td den : Int) (n : Counter × Bool) : State :=
  raiseIf n.2 (raiseIf (sat && !s.share[m].sat) (s.modShare m (fun x => { x with
    distributed := true, sat := sat, saturated := n.1, td := nearest td den
    satLimit := if sat then some (decide (0 < td)) else none })) 180 (16 * m.val)) 180 (16 * m.val + 1)

/-- With the demand of the run and the reports of the boundary, the master distributes, once in a sample. -/
theorem exec_distributorRun_of_ready {j : Fin 4} {l : List (Fin 8 × Int)} {sat : Bool} {td den : Int}
    (hm : isMaster s m = true) (hen : s.en m = true) (hd : s.share[m].distributed = false) (hj : stoveOf s m = some j)
    (hrun : s.stove[j].running = true) (hat : s.stove[j].runAt = none) (hin : reportsIn (advance s dt) m = true)
    (hl : distribute (advance s dt) m = (l, sat, td, den)) :
    exec (.distributorRun dt m) s = .next (settled (sendShares (recordRun (advance s dt) m sat td den
      (if sat then ctrInc 32 s.share[m].saturated else (s.share[m].saturated, false))) m l)) := by
  simp only [exec_distributorRun, execDistributorRun, done, stoveOf_advance, isMaster_advance, advance_reads,
    advance_fields, hm, hen, hd, hj, hrun, hat, hin, hl, Option.isNone_none, Bool.and_self, Bool.not_true, Bool.or_self,
    Bool.false_eq_true, if_false, recordRun, raiseIf]

/-! ### REPORT_SHARE_MISS (13 R346, R348)

That a loss acts at this command, and that a share is missed 2 µs before the boundary, is the model's choice (log 53). -/

/-- The report of member `k` is missed: it is held, and the member begins its way back anew. -/
def missReport (s : State) (m : Fin 4) (k : Fin 8) : State :=
  countMiss (s.modShare m (fun y => { y with members := vmod y.members k (fun y => { y with
    heldNow := true, missed := y.missed + 1, rejoin := 0 }) })) m

/-- The master finds member `k` lost (13 R349). -/
def loseMember (s : State) (m : Fin 4) (k : Fin 8) : State :=
  raiseIf (ctrInc 16 s.share[m].losses).2 (raise (s.modShare m (fun y => { y with
    losses := (ctrInc 16 s.share[m].losses).1
    members := vmod y.members k (fun y => { y with lost := true, alive := false, missed := 0 }) })) (176 + m.val) 0)
    (176 + m.val) 3

/-- A report that is not there at its step is missed, and the second in a row loses the member. -/
theorem exec_reportShareMiss_of_report {u : State} {k : Fin 8} (hm : isMaster s m = true)
    (hr : s.share[m].members[k].report.isSome = true) (ha : s.share[m].members[k].arrived = false)
    (hh : s.share[m].members[k].heldNow = false) (hl : s.share[m].members[k].lost = false)
    (ht : elapsedO (advance s dt) s.tb.lastBoundary[m] (600 + 400 * groupHops (advance s dt) m) = true)
    (hu : u = missReport (advance s dt) m k) :
    exec (.reportShareMiss dt m (some k)) s = .next (settled (
      if u.share[m].members[k].missed < 2 then u else loseMember u m k)) := by
  simp only [exec_reportShareMiss, execReportShareMiss, done, isMaster_advance, advance_fields, advance_tb,
    hm, hr, ha, hh, hl, ht, and_self, if_true, ← missReport.eq_def, ← hu, ← Nat.not_lt, ite_not, ← loseMember.eq_def]

/-- The share of machine `m` is missed. -/
def missShare (s : State) (m : Fin 4) : State :=
  (countMiss s m).modShare m (fun y => { y with missed := y.missed + 1 })

/-- A share that is not there 2 µs before the boundary is missed, and the second in a row loses the master of a
follower. -/
theorem exec_reportShareMiss_of_share {u : State} (hm : member s m = true) (hen : s.en m = true)
    (hr : s.share[m].received = none) (hh : s.share[m].heldNow = false) (hl : s.share[m].masterLost = false)
    (ht : elapsedO (advance s dt) s.tb.lastBoundary[m] (s.Ts m - 400) = true) (hu : u = missShare (advance s dt) m) :
    exec (.reportShareMiss dt m none) s = .next (settled (if 2 ≤ u.share[m].missed ∧ shareRole u m = 1 then
      masterLost (u.modShare m (fun y => { y with missed := 0 })) m else u)) := by
  simp only [exec_reportShareMiss, execReportShareMiss, done, member_advance, advance_reads, advance_fields, advance_tb,
    hm, hen, hr, hh, hl, ht, and_self, if_true, ← missShare.eq_def, ← hu]

/-! ### TRANSFER_TIMEOUT (13 R352) -/

theorem exec_transferTimeout_of_elapsed (ha : s.share[m].active = true) (hst : s.startM[m].state ≠ .run)
    (hr : s.startM[m].reachedRun = false) (hen : s.en m = true)
    (ht : s.share[m].xferAt + msTicks (s.pm m 0x8201 4) ≤ s.clk + dt) :
    exec (.transferTimeout dt m) s = .next (settled
      (faultStop (raise (advance s dt) 182 (16 * m.val + 1)) m none)) := by
  simp only [exec_transferTimeout, execTransferTimeout, done, advance_reads, advance_fields, elapsed_advance, ha, hst, hr,
    hen, ht, decide_true, ne_eq, not_false_eq_true, and_self, if_true]

end

end Sys2Proof.Machine

namespace Sys2Proof.Proofs
open Sys2Proof.Machine

/-- Settles O40, command by command. That a loss acts at REPORT_SHARE_MISS, and that a share is missed 2 µs before the
boundary, is the model's choice (log 53). -/
theorem loadSharing : Obligations.LoadSharing := by
  unfold Obligations.LoadSharing
  intro s
  refine ⟨?report, ?empty, ?share, ?distributor, ?missedReport, ?missedShare, ?transfer, ?withCrc, ?withoutCrc, ?late⟩
  case report =>
    intro dt f r u hm h
    rw [exec_memberReportReceive_eq, withInbox_of_some (p := isMemberReport) h, deliverReport, hm]
  case empty =>
    intro dt h
    have hin : (advance s dt).fabric.inbox = [] := h
    rw [exec_memberReportReceive_eq, exec_shareReceive_eq, exec_transferFrameReceive_eq, withInbox_of_empty hin,
      withInbox_of_empty hin, withInbox_of_empty hin]
    exact ⟨rfl, rfl, rfl⟩
  case share =>
    intro dt f g sender k v last u hm h
    rw [exec_shareReceive_eq, withInbox_of_some (p := isShare) h, deliverShare, hm]
  case distributor =>
    rintro dt m j l sat td den _ hm hen hd hj hrun hat hin hl rfl
    exact exec_distributorRun_of_ready hm hen hd hj hrun hat hin hl
  case missedReport =>
    rintro u dt m k _ b rfl hm hr ha hh hl hb ht hu
    exact exec_reportShareMiss_of_report hm hr ha hh hl (hb ▸ elapsedO_advance_of_le ht) hu
  case missedShare =>
    exact fun u dt m b hm hen hr hh hl hb ht hu =>
      exec_reportShareMiss_of_share hm hen hr hh hl (hb ▸ elapsedO_advance_of_le ht) hu
  case transfer =>
    intro dt f n st enabled crc u hm h
    rw [exec_transferFrameReceive_eq, withInbox_of_some (p := isTransfer) h, deliverTransfer, hm]
  case withCrc =>
    rintro m enabled _ c rfl
    exact takeTransfer_some s m enabled c
  case withoutCrc => exact fun m enabled => takeTransfer_none s m enabled
  case late => exact fun dt m ha hst hr hen ht => exec_transferTimeout_of_elapsed ha hst hr hen ht

end Sys2Proof.Proofs

/-! Proofs about the margins, the rails and the sensors of the control die (14 R368 to R370). -/
namespace Sys2Proof.Machine

/-! ### Work that returns at an interval -/

/-- Periodic work is due when it was never done, or was last done at least `lim` ticks ago. -/
def due (s : State) (last : Option Nat) (lim : Nat) : Bool :=
  match last with
  | none => true
  | some a => elapsed s a lim

section
variable {s : State} {dt lim : Nat} {last : Option Nat}

theorem due_advance_of_le (h : ∀ a, last = some a → a + lim ≤ s.clk + dt) : due (advance s dt) last lim = true := by
  cases last with
  | none => rfl
  | some a => exact decide_eq_true (h a rfl)

theorem due_advance_of_lt {a : Nat} (hlast : last = some a) (h : s.clk + dt < a + lim) :
    due (advance s dt) last lim = false := by
  subst hlast
  exact decide_eq_false (Nat.not_le.2 h)

end

section
variable {s u : State} {dt : Nat}

/-! ### REPLICA_MEASURE (14 R369) -/

/-- The margins of region `k` as a measurement at the present tick records them. -/
def recordMargins (s : State) (k : Fin 9) (m0 m1 : Int) : State :=
  s.modCal (fun x => { x with regions := vmod x.regions k (fun r => { r with
    margins := (clampI 0 65535 m0, clampI 0 65535 m1), measuredAt := some s.clk }) })

/-- A measurement leaves the rail of its region as fixed as it was. -/
theorem recordMargins_fixed (s : State) (k : Fin 9) (m0 m1 : Int) :
    (recordMargins s k m0 m1).cal.regions[k].fixed = s.cal.regions[k].fixed := by
  simp only [recordMargins, State.modCal_fields, Fin.getElem_fin, vmod_self]

/-- The rail of region `k` is fixed, and 12.5 cause 1 raised. -/
def fixRail (s : State) (k : Fin 9) : State :=
  raise (s.modCal (fun x => { x with regions := vmod x.regions k (fun r => { r with fixed := true }) })) 197 (k.val + 16)

theorem exec_replicaMeasure_of_due {k : Fin 9} {m0 m1 : Int}
    (h : due (advance s dt) s.cal.regions[k].measuredAt 200000 = true) (hu : u = recordMargins (advance s dt) k m0 m1) :
    exec (.replicaMeasure dt k m0 m1) s = .next (settled
      (if 150 < (m0 - m1).natAbs ∧ s.cal.regions[k].fixed = false then fixRail u k else u)) := by
  have hexec : exec (.replicaMeasure dt k m0 m1) s = .next (settled (
      if !due (advance s dt) s.cal.regions[k].measuredAt 200000 then advance s dt
      else if 150 < (m0 - m1).natAbs ∧ (recordMargins (advance s dt) k m0 m1).cal.regions[k].fixed = false then
        fixRail (recordMargins (advance s dt) k m0 m1) k
      else recordMargins (advance s dt) k m0 m1)) := rfl
  rw [hexec, h, recordMargins_fixed, ← hu]
  rfl

/-! ### RAIL_MARGIN_ADJUST (14 R368) -/

theorem exec_railMarginAdjust_eq (dt : Nat) (s : State) : exec (.railMarginAdjust dt) s = .next (settled
    (if !due (advance s dt) s.cal.railAt 2000000 then advance s dt
    else forAll [0, 1, 2, 3, 4, 5, 6, 7, 8] adjustRegion
      ((advance s dt).modCal (fun x => { x with railAt := some (s.clk + dt) })))) := rfl

/-! ### SENSOR_CROSS_CHECK (14 R370) -/

/-- The trims may run: no machine and no axis is enabled, and the module has been quiet for a minute. -/
def trimsRun (s : State) : Bool := !s.anyMachine && !s.anyAxis && elapsed s s.cal.quietAt (msTicks 60000)

theorem trimsRun_iff (s : State) :
    trimsRun s = true ↔ s.anyMachine = false ∧ s.anyAxis = false ∧ s.cal.quietAt + 12000000000 ≤ s.clk := by
  have hquiet : elapsed s s.cal.quietAt (msTicks 60000) = true ↔ s.cal.quietAt + 12000000000 ≤ s.clk :=
    decide_eq_true_iff
  simp only [trimsRun, Bool.and_eq_true, Bool.not_eq_true', hquiet, and_assoc]

/-- The first check of a quiet module starts the timer of the trims, and later ones move them. -/
def moveTrims (s : State) : State :=
  match s.cal.trimAt with
  | some _ => trimSensors s
  | none => s.modCal (fun x => { x with trimAt := some s.clk })

theorem exec_sensorCrossCheck_of_due (h : due (advance s dt) s.cal.checkAt 200000000 = true)
    (hu : u = forAll tenSensors crossCheck ((advance s dt).modCal (fun x => { x with checkAt := some (s.clk + dt) }))) :
    exec (.sensorCrossCheck dt) s = .next (settled
      (if trimsRun u then moveTrims u else u.modCal (fun x => { x with trimAt := none }))) := by
  have hexec : exec (.sensorCrossCheck dt) s = .next (settled (
      if !due (advance s dt) s.cal.checkAt 200000000 then advance s dt
      else if trimsRun u then moveTrims u else u.modCal (fun x => { x with trimAt := none }))) := by
    -- `u` stays a variable: its comparisons are not run to see whether the timer of the trims runs
    simp only [exec_sensorCrossCheck, execSensorCrossCheck, done, advance_fields, ← hu]
    rfl
  rw [hexec, h]
  rfl

end

end Sys2Proof.Machine

namespace Sys2Proof.Proofs
open Sys2Proof.Machine

/-- Settles O39, command by command. How a region is adjusted and a sensor compared stands behind `adjustRegion` and
`crossCheck` (logs 56, 57). -/
theorem railsAndDieSensors : Obligations.RailsAndDieSensors := by
  unfold Obligations.RailsAndDieSensors
  intro s
  refine ⟨?measure, ?adjust, ?early, ?check⟩
  case measure => exact fun u dt k m0 m1 ht hu => exec_replicaMeasure_of_due (due_advance_of_le ht) hu
  case adjust =>
    intro dt ht
    rw [exec_railMarginAdjust_eq, due_advance_of_le ht]
    rfl
  case early =>
    intro dt at' hat ht
    rw [exec_railMarginAdjust_eq, due_advance_of_lt hat ht]
    rfl
  case check =>
    intro u dt ht hu
    simp only [exec_sensorCrossCheck_of_due (due_advance_of_le ht) hu, trimsRun_iff]
    rfl

end Sys2Proof.Proofs

/-! Proofs about the safe inputs and outputs, the monitoring of motion and the safety connections (15_safety). -/
namespace Sys2Proof.Machine

/-! ### Readings of a view that time leaves alone -/

section
variable (s : State) (dt : Nat) (h0 : Bool)

@[simp] theorem safeView_advance : safeView (advance s dt) h0 = safeView s h0 := rfl
@[simp] theorem v0_advance (i j : Nat) : v0 (advance s dt) h0 i j = v0 s h0 i j := rfl
@[simp] theorem vm_advance (m : Fin 4) (i j : Nat) : vm (advance s dt) h0 m i j = vm s h0 m i j := rfl
@[simp] theorem inFilter_advance (k : Fin 9) : inFilter (advance s dt) h0 k = inFilter s h0 k := rfl
@[simp] theorem inDisc_advance (k : Fin 9) : inDisc (advance s dt) h0 k = inDisc s h0 k := rfl
@[simp] theorem inputOn_advance (k : Fin 9) : inputOn (advance s dt) h0 k = inputOn s h0 k := rfl
@[simp] theorem outMachine_advance (o : Fin 4) : outMachine (advance s dt) o = outMachine s o := rfl
@[simp] theorem sbcIn_advance (m : Fin 4) : sbcIn (advance s dt) m = sbcIn s m := rfl
@[simp] theorem connOn_advance (c : Fin 8) : connOn (advance s dt) h0 c = connOn s h0 c := rfl
@[simp] theorem h0Runs_advance : h0Runs (advance s dt) = h0Runs s := rfl

end

/-- An interval is over in the new tick when none was begun, or the last one began at least its length before. -/
theorem dueAt_advance_of_le {s : State} {dt every : Nat} {at' : Option Nat}
    (h : ∀ a, at' = some a → a + every ≤ s.clk + dt) : dueAt (advance s dt) at' every = true := by
  cases at' with
  | none => rfl
  | some a => exact decide_eq_true (h a rfl)

/-! ### Safe inputs (15 R401, R402) -/

section
variable {s u : State} {dt at' : Nat} {h0 : Bool} {k : Fin 9}

theorem exec_safeInputFilterExpiry_of_elapsed {chB : Bool} {x : SafeInput} (hx : (safeView s h0).inputs[k] = x)
    (hat : (if chB then x.filterB else x.filterA) = some at')
    (ht : at' + (196 * inFilter s h0 k - 20) ≤ s.clk + dt)
    (hview : (h0 || (s.safety.damperUp && s.safety.loaded)) = true) :
    exec (.safeInputFilterExpiry dt h0 k chB) s = .next (settled (inputChanged (modInput (advance s dt) h0 k (fun x =>
      if chB then { x with accB := levelOn (advance s dt) h0 k true x.levelB, filterB := none }
      else { x with accA := levelOn (advance s dt) h0 k false x.levelA, filterA := none })) h0 k
        (inputOn (advance s dt) h0 k))) := by
  subst hx
  simp only [exec_safeInputFilterExpiry, execSafeInputFilterExpiry, done, safeView_advance, inFilter_advance, hat,
    elapsedO_advance_of_le ht, advance_fields, hview, Bool.and_self, if_true]

theorem exec_safeInputDiscrepancy_of_elapsed {x y : SafeInput} (hx : (safeView s h0).inputs[k] = x)
    (hy : (safeView s (!h0)).inputs[k] = y) (hat : x.discAt = some at')
    (ht : at' + msTicks (inDisc s h0 k) ≤ s.clk + dt) (hd : x.disc = false)
    (hu : u = modInput (advance s dt) h0 k (fun x => { x with disc := true, onAt := none })) :
    exec (.safeInputDiscrepancy dt h0 k) s = .next (settled (evalSafety
      (if y.disc = false then inputFaultRaise u k 0 else u))) := by
  subst hx hy
  simp only [exec_safeInputDiscrepancy, execSafeInputDiscrepancy, done, safeView_advance, inDisc_advance, hat,
    elapsedO_advance_of_le ht, hd, ← hu, Bool.not_false, Bool.and_self, if_true, Bool.not_eq_true']

/-- A failed test is a fault of the input when it is the first of its run. -/
theorem exec_safeInputTest_of_fail {f : Bool} {hold : Option Nat} (hf : s.safety.inFault[k] = f)
    (hhold : s.safety.testHold[k] = hold) (hup : s.safety.damperUp = true)
    (ht : ∀ a, s.safety.testAt[k] = some a → a + msTicks 10 ≤ s.clk + dt)
    (hu : u = (advance s dt).modSafety (fun x => { x with
      testAt := vmod x.testAt k (fun _ => some (s.clk + dt)), testHold := vmod x.testHold k (fun _ => some 16),
      inFault := vmod x.inFault k (fun _ => true) })) :
    exec (.safeInputTest dt k false) s = .next (settled (evalSafety
      (if f = false ∨ hold = none then inputFaultRaise u k 1 else u))) := by
  subst hf hhold
  simp only [exec_safeInputTest, execSafeInputTest, done, advance_fields, hup, dueAt_advance_of_le ht, Bool.and_self,
    if_true, Bool.false_eq_true, if_false, State.modSafety_modSafety, State.modSafety_fields, ← hu, Bool.or_eq_true,
    Bool.not_eq_true', Option.isNone_iff_eq_none]

/-- A passed test counts down what the last failed one left of its 16 passes. -/
theorem exec_safeInputTest_of_pass (hup : s.safety.damperUp = true)
    (ht : ∀ a, s.safety.testAt[k] = some a → a + msTicks 10 ≤ s.clk + dt) :
    exec (.safeInputTest dt k true) s = .next (settled ((advance s dt).modSafety (fun x => { x with
      testAt := vmod x.testAt k (fun _ => some (s.clk + dt)),
      testHold := vmod x.testHold k (fun h => h.bind (fun n => if 2 ≤ n then some (n - 1) else none)) }))) := by
  simp only [exec_safeInputTest, execSafeInputTest, done, advance_fields, hup, dueAt_advance_of_le ht, Bool.and_self,
    if_true, State.modSafety_modSafety]
  congr 4
  funext x
  congr 2
  funext h
  obtain _ | _ | _ | n := h <;> rfl

end

/-! ### Safe outputs and GEN (15 R388, R396 to R398, R403, R404) -/

section
variable {s u : State} {dt at' : Nat} {m o : Fin 4}

theorem exec_safeOutputTest_of_due {chB read after : Bool} {x : SafeOut} (hx : s.safety.outs[o] = x)
    (hup : s.safety.damperUp = true) (ht : outTestDue (advance s dt) o chB = true)
    (hu : u = (advance s dt).modSafety (fun x => { x with outs := vmod x.outs o (fun y =>
      if chB then { y with testB := some (s.clk + dt), readB := after }
      else { y with testA := some (s.clk + dt), readA := after }) })) :
    exec (.safeOutputTest dt o chB read after) s = .next (settled (
      if (read = true ∨ after ≠ (if chB then x.b else x.a)) ∧ x.fault = false then evalSafety (outFails u o 0)
      else u)) := by
  subst hx
  simp only [exec_safeOutputTest, execSafeOutputTest, done, advance_fields, hup, ht, Bool.and_self, if_true, ← hu,
    Bool.and_eq_true, Bool.or_eq_true, bne_iff_ne, Bool.not_eq_true']

theorem exec_genReadbackFault_of_differs {a b ga gb : Bool} (hga : s.safety.genA[m] = ga)
    (hgb : s.safety.genB[m] = gb) (hf : s.safety.genFault[m] = false) (hup : s.safety.damperUp = true)
    (hab : a ≠ ga ∨ b ≠ gb) :
    exec (.genReadbackFault dt m a b) s = .next (settled (evalSafety (genLow (needRestart
      (raise ((advance s dt).modSafety (fun x => { x with genFault := vmod x.genFault m (fun _ => true) })) 217
        (16 * m.val + 2)) (fun j => j == m)) m 217 2))) := by
  have hdiff : (a != ga || b != gb) = true := by simpa only [Bool.or_eq_true, bne_iff_ne] using hab
  simp only [exec_genReadbackFault, execGenReadbackFault, done, advance_fields, hup, hga, hgb, hdiff, hf,
    Bool.not_false, Bool.and_self, if_true]

theorem exec_genRaiseTimeout_of_elapsed {e : Enabling} (he : s.drive[m].enabling = some e)
    (hs : e.genSeen = false) (hr : e.result = none) (hat : s.safety.genReq[m] = some at')
    (ht : at' + msTicks 1 ≤ s.clk + dt) :
    exec (.genRaiseTimeout dt m) s = .next (settled
      (reachStopped (endEnable (advance s dt) m stEXECFAULT [0xFF, 0]) m false)) := by
  simp only [exec_genRaiseTimeout, execGenRaiseTimeout, done, advance_fields, he, hs, hr, hat, elapsedO_advance_of_le ht,
    Option.isNone_none, Bool.not_false, Bool.and_self, if_true]

/-- The Damper turns a requested output on when GEN is high, no SBC is in force and the output has no fault. -/
theorem exec_brakeReleaseRequest_of_granted (hm : outMachine s o = some m) (hup : s.safety.damperUp = true)
    (hreq : s.safety.releaseReq[m] = true) (hgen : (s.safety.genA[m] && s.safety.genB[m]) = true)
    (hno : (sbcIn s m || s.safety.sbcReq[m] || s.safety.outs[o].fault) = false) :
    exec (.brakeReleaseRequest dt o) s = .next (settled (driveOut (advance s dt) o true)) := by
  simp only [exec_brakeReleaseRequest, execBrakeReleaseRequest, done, outMachine_advance, hm, advance_fields, hup, hreq,
    sbcIn_advance, hgen, hno, Bool.not_true, Bool.or_self, Bool.false_eq_true, if_false]

/-- A request without GEN high is discarded. -/
theorem exec_brakeReleaseRequest_of_gen_low (hm : outMachine s o = some m) (hup : s.safety.damperUp = true)
    (hreq : s.safety.releaseReq[m] = true)
    (hgen : (s.safety.genA[m] && s.safety.genB[m]) = false) :
    exec (.brakeReleaseRequest dt o) s = .next (settled ((advance s dt).modSafety (fun x => { x with
      releaseReq := vmod x.releaseReq m (fun _ => false) }))) := by
  simp only [exec_brakeReleaseRequest, execBrakeReleaseRequest, done, outMachine_advance, hm, advance_fields, hup, hreq,
    hgen, Bool.not_true, Bool.not_false, Bool.or_self, Bool.false_eq_true, if_false, if_true]

theorem exec_brakeFeedbackTimeout_of_elapsed {fb : Nat} {x : SafeOut} (hx : s.safety.outs[o] = x)
    (hat : x.feedbackAt = some at') (hfb : fb = v0 s false (0x6020 + o.val) 4)
    (ht : at' + msTicks (v0 s false (0x6020 + o.val) 5) ≤ s.clk + dt) :
    exec (.brakeFeedbackTimeout dt o) s = .next (settled (
      if fb < 7 ∧ inputOn s false (finOf 9 fb) ≠ (x.a && x.b) then
        evalSafety (outFails (advance s dt) o 1)
      else (advance s dt).modSafety (fun y => { y with
        outs := vmod y.outs o (fun z => { z with feedbackAt := none }) }))) := by
  subst hx
  simp only [exec_brakeFeedbackTimeout, execBrakeFeedbackTimeout, done, v0_advance, advance_fields, hat,
    elapsedO_advance_of_le ht, inputOn_advance, ← hfb, if_true]

end

/-! ### Stopping functions (15 R391 to R393) -/

section
variable {s : State} {dt at' : Nat} {h0 : Bool} {m : Fin 4}

theorem exec_ss1TimeExpiry_of_elapsed {x : Ss1} (hx : (safeView s h0).fns[m].ss1 = some x)
    (hn : x.sbcAt = none) (ht : x.startedAt + msTicks (vm s h0 m 0x6102 2) ≤ s.clk + dt) :
    exec (.ss1TimeExpiry dt h0 m) s = .next (settled (evalSafety (ss1Ends (advance s dt) h0 m))) := by
  simp only [exec_ss1TimeExpiry, execSs1TimeExpiry, done, safeView_advance, vm_advance, hx, hn, elapsed_advance, ht,
    Option.isNone_none, decide_true, Bool.and_self, if_true]

theorem exec_sbcStoDelayExpiry_of_elapsed {x : Ss1} (hx : (safeView s h0).fns[m].ss1 = some x)
    (hat : x.sbcAt = some at') (ht : at' + msTicks (vm s h0 m 0x6101 3) ≤ s.clk + dt) :
    exec (.sbcStoDelayExpiry dt h0 m) s = .next (settled (evalSafety (modFn (advance s dt) h0 m (fun f =>
      { f with stoReaction := true, ss1 := none })))) := by
  simp only [exec_sbcStoDelayExpiry, execSbcStoDelayExpiry, done, safeView_advance, vm_advance, hx, hat,
    elapsedO_advance_of_le ht, if_true]

theorem exec_sosMonitorStart_of_elapsed {x : SafeFn} (hx : (safeView s h0).fns[m] = x) (hp : x.sosPos = none)
    (hat : x.sosAt = some at') (ht : at' + msTicks (vm s h0 m 0x6103 1) ≤ s.clk + dt) :
    exec (.sosMonitorStart dt h0 m) s = .next (settled
      (modFn (advance s dt) h0 m (fun f => { f with sosPos := some (viewPos (advance s dt) h0 m).1 }))) := by
  subst hx
  simp only [exec_sosMonitorStart, execSosMonitorStart, done, safeView_advance, vm_advance, hp, hat,
    elapsedO_advance_of_le ht, Option.isNone_none, Bool.and_self, if_true]

theorem exec_slsReachExpiry_of_elapsed {j : Fin 4} (hat : (safeView s h0).fns[m].slsNext = some (j, at'))
    (ht : at' + msTicks (vm s h0 m 0x6104 5) ≤ s.clk + dt) :
    exec (.slsReachExpiry dt h0 m) s = .next (settled (modFn (advance s dt) h0 m (fun f =>
      { f with slsSel := j, slsNext := none }))) := by
  simp only [exec_slsReachExpiry, execSlsReachExpiry, done, safeView_advance, vm_advance, hat, elapsed_advance, ht,
    decide_true, if_true]

end

/-! ### Speed and position (15 R399, R400) -/

/-- When just one of two levels has changed, neither have both stayed nor have both changed. -/
theorem one_level_changed : ∀ a b a' b' : Bool, (a ≠ a') ≠ (b ≠ b') →
    (a == a' && b == b') = false ∧ (a != a' && b != b') = false := by decide

section
variable {s u : State} {dt stable : Nat} {q : Fin 2} {a b : Bool} {x : SpPort} (hx : s.safety.ports[q] = x)
  (hup : s.safety.damperUp = true)
include hx hup

/-- A change of one level counts by its direction, and the motion of the port's machine is checked. -/
theorem exec_spPortEdge_of_one {up : Bool} (hst : 5 * v0 s false (0x6030 + q.val) 3 ≤ stable)
    (hone : (x.levelA ≠ a) ≠ (x.levelB ≠ b))
    (hdir : up = (if x.levelA ≠ a then a != b else a == b))
    (hu : u = (advance s dt).modSafety (fun y => { y with ports := vmod y.ports q (fun z => { z with
      levelA := a, levelB := b, pos := if up then z.pos + 1 else z.pos - 1, current := z.current + 1, positive := up }) })) :
    exec (.spPortEdge dt q a b stable) s = .next (settled (match spMachine s q with
      | none => u
      | some m => motionChecks u false m)) := by
  obtain ⟨hstay, hboth⟩ := one_level_changed _ _ _ _ hone
  have hm : spMachine u q = spMachine s q := by rw [hu]; rfl
  subst hx
  simp only [exec_spPortEdge, execSpPortEdge, done, advance_fields, v0_advance, hup, Nat.not_lt.2 hst, hstay, hboth,
    bne_iff_ne, ← hdir, Bool.or_false, Bool.not_true, decide_false, Bool.or_self, Bool.false_eq_true, if_false, ← hu, hm] <;> rfl

/-- A change of both levels at once is a fault of the port, taken once. -/
theorem exec_spPortEdge_of_both (hst : 5 * v0 s false (0x6030 + q.val) 3 ≤ stable) (ha : x.levelA ≠ a)
    (hb : x.levelB ≠ b)
    (hu : u = (advance s dt).modSafety (fun y => { y with
      ports := vmod y.ports q (fun z => { z with levelA := a, levelB := b, fault := true }) })) :
    exec (.spPortEdge dt q a b stable) s = .next (settled (match spMachine s q with
      | none => u
      | some m => if x.fault = true then u else spFails u q m 0 false)) := by
  have hm : spMachine u q = spMachine s q := by rw [hu]; rfl
  subst hx
  simp only [exec_spPortEdge, execSpPortEdge, done, advance_fields, v0_advance, hup, Nat.not_lt.2 hst, bne_iff_ne.2 ha,
    bne_iff_ne.2 hb, beq_eq_false_iff_ne.2 ha, Bool.false_and, Bool.and_self, Bool.or_true, Bool.not_true, decide_false,
    Bool.or_self, Bool.false_eq_true, if_false, if_true, ← hu, hm] <;> rfl

theorem exec_spSubgateEnd_of_due
    (ht : ∀ a, x.gateAt = some a → a + usTicks (125 * v0 s false (0x6030 + q.val) 4) ≤ s.clk + dt)
    (hu : u = (advance s dt).modSafety (fun y => { y with ports := vmod y.ports q (fun z => { z with
      gates := Vector.ofFn (fun i : Fin 8 => if i.val = 0 then z.current else z.gates[finOf 8 (i.val - 1)]),
      current := 0, gateAt := some (s.clk + dt) }) })) :
    exec (.spSubgateEnd dt q) s = .next (settled (match spMachine s q with
      | none => u
      | some m => speedChecks u false m)) := by
  have hm : spMachine u q = spMachine s q := by rw [hu]; rfl
  subst hx
  simp only [exec_spSubgateEnd, execSpSubgateEnd, done, advance_fields, v0_advance, hup, dueAt_advance_of_le ht,
    Bool.and_self, if_true, ← hu, hm] <;> rfl

end

theorem exec_h0SafetyCheck_of_due {s : State} {dt : Nat} (hr : h0Runs s = true)
    (ht : ∀ a, s.safety.h0CheckAt = some a → a + msTicks 1 ≤ s.clk + dt) :
    exec (.h0SafetyCheck dt) s = .next (settled (forAll four (fun m v => h0Check v m)
      ((advance s dt).modSafety (fun x => { x with h0CheckAt := some (s.clk + dt) })))) := by
  simp only [exec_h0SafetyCheck, execH0SafetyCheck, done, h0Runs_advance, hr, advance_fields, dueAt_advance_of_le ht,
    Bool.and_self, if_true]

/-- The loss of the position port of a machine with a safe position port is a cross-check fault, taken once. -/
theorem h0Check_of_port {s u : State} {m : Fin 4} {q : Fin 2} (hq : spOf s true m = some q)
    (hu : u = crossSpeed (motionChecks (speedChecks s true m) true m) q m) :
    h0Check s m = (if (∃ p, portOf u m = some p ∧ u.posPorts[p].lost = true) ∧
      u.safety.xchk[m] = false then spFails u q m 2 true else u) := by
  simp only [h0Check, hq, ← hu, Bool.and_eq_true, Bool.not_eq_true']
  cases portOf u m <;> simp

/-! ### Safety connections and the safety set (15 R407 to R418) -/

section
variable {s : State} {dt : Nat} {c : Fin 8}

theorem exec_safetyPduReceive_of_some {u : State} {tr : Nat} {l : List Byte} {rest : List (Nat × List Byte)}
    (hin : s.safety.pduIn = (tr, l) :: rest) (hu : u = (advance s dt).modSafety (fun x => { x with pduIn := rest })) :
    exec (.safetyPduReceive dt) s = .next (settled (match pduConn u tr l with
      | none => u
      | some c => if s.safety.damperUp then pduBoth u c l else u)) := by
  have hup : u.safety.damperUp = s.safety.damperUp := by rw [hu]; rfl
  simp only [exec_safetyPduReceive, execSafetyPduReceive, done, advance_fields, hin, ← hu, hup] <;> rfl

/-- The send period of a connection is over, or its status bits have changed and 1 ms has passed since the last send. -/
def pduDue (s : State) (c : Fin 8) (x : SafeLink) : Bool :=
  dueAt s x.sentAt (msTicks (s.p0 (0x6040 + c.val) 7)) ||
    (dueAt s x.sentAt (msTicks 1) && statusPayload s true != x.sentBits)

theorem pduDue_of_sentAt {x : SafeLink} (h : ∀ a, x.sentAt = some a → a + msTicks (s.p0 (0x6040 + c.val) 7) ≤ s.clk + dt
      ∨ (a + msTicks 1 ≤ s.clk + dt ∧ statusPayload (advance s dt) true ≠ x.sentBits)) :
    pduDue (advance s dt) c x = true := by
  rw [pduDue]
  simp only [advance_reads]
  cases hat : x.sentAt with
  | none => rfl
  | some a =>
    simp only [dueAt, elapsed_advance, Bool.or_eq_true, Bool.and_eq_true, decide_eq_true_eq, bne_iff_ne]
    exact h a hat

section
variable {x : SafeLink} (hx : s.safety.links[c] = x) (hc : connOn s true c = true) (hr : h0Runs s = true)
  (hup : s.safety.damperUp = true) (hdue : pduDue (advance s dt) c x = true)
include hx hc hr hup hdue

theorem exec_safetyPduSend_of_equal {pdu : List Byte}
    (hp : pdu = statusPdu (advance s dt) true c (x.seq + 1))
    (heq : statusPdu (advance s dt) false c (x.seq + 1) = pdu) :
    exec (.safetyPduSend dt c) s = .next (settled (carryPdu ((modLinkS (advance s dt) c (fun y => { y with
      seq := y.seq + 1, sentAt := some (s.clk + dt), sentBits := statusPayload (advance s dt) true })).put
        (.safetyPdu c pdu)) c pdu)) := by
  subst hx
  rw [pduDue] at hdue
  simp only [exec_safetyPduSend, execSafetyPduSend, done, connOn_advance, h0Runs_advance, hc, hr, advance_fields, hup,
    Bool.and_self, Bool.true_and] at hdue ⊢
  simp only [hdue, if_true, ← hp, heq]

theorem exec_safetyPduSend_of_differs {pdu : List Byte}
    (hp : pdu = statusPdu (advance s dt) true c (x.seq + 1))
    (hne : statusPdu (advance s dt) false c (x.seq + 1) ≠ pdu) :
    exec (.safetyPduSend dt c) s = .next (settled (raiseIf (ctrInc 16 x.disagreements).2
      (modLinkS (advance s dt) c (fun y => { y with
        disagreements := (ctrInc 16 x.disagreements).1, sentAt := some (s.clk + dt) })) 223
        (16 * c.val + 2))) := by
  subst hx
  rw [pduDue] at hdue
  simp only [exec_safetyPduSend, execSafetyPduSend, done, connOn_advance, h0Runs_advance, hc, hr, advance_fields, hup,
    Bool.and_self, Bool.true_and] at hdue ⊢
  simp only [hdue, if_true, ← hp, hne, if_false]

end

theorem exec_safetyWatchdogExpiry_of_elapsed {h0 : Bool} {at' : Nat} {x : SafeConn}
    (hx : (safeView s h0).conns[c] = x) (hc : connOn s h0 c = true) (hl : x.lost = false)
    (hat : x.lastAt = some at') (ht : at' + msTicks (v0 s h0 (0x6040 + c.val) 6) ≤ s.clk + dt) :
    exec (.safetyWatchdogExpiry dt h0 c) s = .next (settled (connLost (advance s dt) h0 c (some 6))) := by
  subst hx
  simp only [exec_safetyWatchdogExpiry, execSafetyWatchdogExpiry, done, connOn_advance, hc, safeView_advance, hl, hat,
    v0_advance, elapsedO_advance_of_le ht, Bool.not_false, Bool.and_self, if_true]

theorem exec_safetySetLoad_of_runs {u v w : State} {crc : BitVec 32} {bad : Bool} (hr : h0Runs s = true)
    (hcrc : crc = safetyCrc (advance s dt)) (hbad : bad = decide (crc ≠ BitVec.ofNat 32 (s.p0 0x6000 1)))
    (hu : u = raiseIf bad ((advance s dt).modSafety (fun x => { x with crcH0 := crc })) 222 0)
    (hv : v = raiseIf bad (u.modSafety (fun x => { x with
      crcDamper := crc, loaded := true, cfgFault := bad,
      set := u.porter.params.filter (fun c => decide (0x6000 ≤ keyIdx c.1) && decide (keyIdx c.1 < 0x7000)) })) 222 1)
    (hw : w = (if bad then needRestart v (fun _ => true) else v)) :
    exec (.safetySetLoad dt) s = .next (settled (if u.safety.damperUp = false then u else
      evalSafety (startWatchdogs (startWatchdogs (if u.safety.loaded = false then startFilters w else w) false) true))) := by
  have hw' : w = if crc ≠ BitVec.ofNat 32 (s.p0 0x6000 1) then needRestart v (fun _ => true) else v := by
    simp only [hw, hbad, decide_eq_true_eq]
  simp only [exec_safetySetLoad, execSafetySetLoad, done, h0Runs_advance, hr, Bool.not_true, Bool.false_eq_true, if_false,
    ← hcrc, advance_reads, ← hbad, ← hu, ← hv, ← hw', Bool.not_eq_true']

end

end Sys2Proof.Machine

namespace Sys2Proof.Proofs
open Sys2Proof.Machine

/-- Settles O43, command by command. The filter accepts from the lower figure of t_filter on, which is the model's choice
(log 79). -/
theorem safeInputsOutputs : Obligations.SafeInputsOutputs := by
  unfold Obligations.SafeInputsOutputs
  intro s
  refine ⟨fun dt k chB level => rfl, fun h0 k level => rfl, fun h0 k level => rfl, ?filter, ?discrepancy, ?testFails,
    ?testPasses, ?output, ?readback, ?granted, ?notGranted, ?timeout, ?release, ?discard, ?feedback⟩
  case filter =>
    intro dt at' h0 chB k hat ht hview
    refine exec_safeInputFilterExpiry_of_elapsed rfl hat ht ?_
    obtain h | ⟨hup, hload⟩ := hview
    · rw [h, Bool.true_or]
    · rw [hup, hload, Bool.and_self, Bool.or_true]
  case discrepancy => exact fun u dt h0 k at' hat ht hd hu => exec_safeInputDiscrepancy_of_elapsed rfl rfl hat ht hd hu
  case testFails => exact fun u dt k hup ht hu => exec_safeInputTest_of_fail rfl rfl hup ht hu
  case testPasses => exact fun dt k hup ht => exec_safeInputTest_of_pass hup ht
  case output => exact fun u dt o chB read after hup ht hu => exec_safeOutputTest_of_due rfl hup ht hu
  case readback => exact fun dt m a b hup hf hab => exec_genReadbackFault_of_differs rfl rfl hf hup hab
  case granted =>
    intro dt m hg
    rw [exec_genRaise, execGenRaise, hg]
    rfl
  case notGranted =>
    intro dt m hg
    rw [exec_genRaise, execGenRaise, hg]
    rfl
  case timeout => exact fun dt m e at' he hs hr hat ht => exec_genRaiseTimeout_of_elapsed he hs hr hat ht
  case release =>
    intro dt o m hm hup hreq ha hb hsbc hq hf
    exact exec_brakeReleaseRequest_of_granted hm hup hreq (by rw [ha, hb]; rfl) (by rw [hsbc, hq, hf]; rfl)
  case discard =>
    intro dt o m hm hup hreq hgen
    exact exec_brakeReleaseRequest_of_gen_low hm hup hreq (Bool.and_eq_false_iff.2 hgen)
  case feedback => exact fun dt o at' fb hat hfb ht => exec_brakeFeedbackTimeout_of_elapsed rfl hat hfb ht

/-- Settles O44, command by command. A leading B counts up (log 27). -/
theorem motionMonitoring : Obligations.MotionMonitoring := by
  unfold Obligations.MotionMonitoring
  intro s
  refine ⟨?ss1, ?sbc, ?sos, ?sls, ?edge, ?both, ?gate, ?check, ?machine⟩
  case ss1 => exact fun dt h0 m x hx hn ht => exec_ss1TimeExpiry_of_elapsed hx hn ht
  case sbc => exact fun dt h0 m x at' hx hat ht => exec_sbcStoDelayExpiry_of_elapsed hx hat ht
  case sos => exact fun dt h0 m at' hp hat ht => exec_sosMonitorStart_of_elapsed rfl hp hat ht
  case sls => exact fun dt h0 m j at' hat ht => exec_slsReachExpiry_of_elapsed hat ht
  case edge => exact fun u dt stable q a b up hup hst hone hdir hu => exec_spPortEdge_of_one rfl hup hst hone hdir hu
  case both => exact fun u dt stable q a b hup hst ha hb hu => exec_spPortEdge_of_both rfl hup hst ha hb hu
  case gate => exact fun u dt q hup ht hu => exec_spSubgateEnd_of_due rfl hup ht hu
  case check => exact fun dt hr ht => exec_h0SafetyCheck_of_due hr ht
  case machine => exact fun u m q hq hu => h0Check_of_port hq hu

/-- Settles O45, command by command. A difference of the two channels' PDUs is counted (15 R421, log 58). -/
theorem safetyConnections : Obligations.SafetyConnections := by
  unfold Obligations.SafetyConnections
  intro s
  refine ⟨?receive, ?send, ?differ, ?form, ?watchdog, ?load⟩
  case receive => exact fun dt tr l rest u hin hu => exec_safetyPduReceive_of_some hin hu
  case send =>
    exact fun dt c pdu hc hr hup hdue hp heq => exec_safetyPduSend_of_equal rfl hc hr hup (pduDue_of_sentAt hdue) hp heq
  case differ =>
    exact fun dt c pdu hc hr hup hdue hp hne =>
      exec_safetyPduSend_of_differs rfl hc hr hup (pduDue_of_sentAt hdue) hp hne
  case form =>
    rintro h0 c seq _ _ rfl rfl
    rfl
  case watchdog => exact fun dt h0 c at' hc hl hat ht => exec_safetyWatchdogExpiry_of_elapsed rfl hc hl hat ht
  case load => exact fun u v w dt crc bad hr hcrc hbad hu hv hw => exec_safetySetLoad_of_runs hr hcrc hbad hu hv hw

end Sys2Proof.Proofs

/-! Proofs about the Flue (17_faults): what a raise keeps of the sticky bits and of the records, the words that show the
sources, the release of a record, and the commands and opcodes of the Flue. -/
namespace Sys2Proof.Machine
open Sys2Proof.Safety

/-! ### What a raise keeps (17 R455, R462) -/

/-- From `s` to `t` no sticky bit goes, and the records that were latched stay but for REPEAT. -/
def Keeps (s t : State) : Prop :=
  (∀ n, sticky s n = true → sticky t n = true) ∧
  (∀ r, s.flue.fer = some r → ∃ b, t.flue.fer = some { r with repeated := b }) ∧
  (∀ f r, s.flue.fer = some f → s.flue.ner = some r → ∃ b, t.flue.ner = some { r with repeated := b })

theorem Keeps.of_eq {s t : State} (hs : t.flue.sticky = s.flue.sticky) (hf : t.flue.fer = s.flue.fer)
    (hn : t.flue.ner = s.flue.ner) : Keeps s t :=
  ⟨fun n h => by rwa [sticky, hs], fun r h => ⟨r.repeated, by rw [hf, h]⟩, fun _ r _ h => ⟨r.repeated, by rw [hn, h]⟩⟩

theorem Keeps.refl (s : State) : Keeps s s := .of_eq rfl rfl rfl

theorem Keeps.trans {s t u : State} (h : Keeps s t) (k : Keeps t u) : Keeps s u := by
  obtain ⟨hs, hf, hn⟩ := h
  obtain ⟨ks, kf, kn⟩ := k
  refine ⟨fun n h => ks n (hs n h), fun r h => ?_, fun f r hfer hner => ?_⟩
  · obtain ⟨_, ht⟩ := hf r h
    obtain ⟨b, hu⟩ := kf _ ht
    exact ⟨b, hu⟩
  · obtain ⟨_, hft⟩ := hf f hfer
    obtain ⟨_, hnt⟩ := hn f r hfer hner
    obtain ⟨b, hu⟩ := kn _ _ hft hnt
    exact ⟨b, hu⟩

theorem Keeps.ite {s t u : State} {c : Prop} [Decidable c] (h : Keeps s t) (k : Keeps s u) :
    Keeps s (if c then t else u) := by split <;> assumption

section
variable {again : State → Nat → Nat → State} (ha : ∀ s n a, Keeps s (again s n a))
include ha

theorem jput_keeps (s : State) (kind code : Nat) (stamp : Stamp) (data : List Byte) :
    Keeps s (jput again s kind code stamp data) := by
  unfold jput
  split
  · exact .of_eq rfl rfl rfl
  · have hlost : Keeps s ((s.modMem (fun m => { m with journalLost := (ctrInc 32 s.mem.journalLost).1 })).modJournal
        (fun j => { j with lostPending := j.lostPending + 1 })) := .of_eq rfl rfl rfl
    exact .ite ((hlost.trans (ha _ _ _)).trans (ha _ _ _)) (hlost.trans (ha _ _ _))

/-- A record is latched in the place that is free, or marks one of its own source as repeated, or is lost. -/
theorem latchRecord_keeps (s : State) (r : FaultRec) : Keeps s (latchRecord again s r) := by
  unfold latchRecord
  split
  next hfer => exact ⟨fun _ h => h, fun _ h => (Option.some_ne_none _ (h.symm.trans hfer)).elim,
    fun _ _ h => (Option.some_ne_none _ (h.symm.trans hfer)).elim⟩
  next fr hfer =>
    split
    · refine ⟨fun _ h => h, fun x h => ⟨true, ?_⟩, fun _ x _ h => ⟨x.repeated, h⟩⟩
      obtain rfl : fr = x := Option.some.inj (hfer.symm.trans h)
      rfl
    · split
      next hner => exact ⟨fun _ h => h, fun x h => ⟨x.repeated, h⟩,
        fun _ _ _ h => (Option.some_ne_none _ (h.symm.trans hner)).elim⟩
      next nr hner =>
        split
        · refine ⟨fun _ h => h, fun x h => ⟨x.repeated, h⟩, fun _ x _ h => ⟨true, ?_⟩⟩
          obtain rfl : nr = x := Option.some.inj (hner.symm.trans h)
          rfl
        · have hlost : Keeps s (s.modFlue (fun f => { f with
              lost := (ctrInc 16 s.flue.lost).1, lostRaised := true })) := .of_eq rfl rfl rfl
          have hfirst : ∀ c : Bool, Keeps s (if c then again (s.modFlue (fun f => { f with
              lost := (ctrInc 16 s.flue.lost).1, lostRaised := true })) 241 0 else s.modFlue (fun f => { f with
              lost := (ctrInc 16 s.flue.lost).1, lostRaised := true })) := fun _ => .ite (hlost.trans (ha _ _ _)) hlost
          exact .ite ((hfirst _).trans (ha _ _ _)) (hfirst _)

theorem queueMsg_keeps (s : State) (m : EventMsg) : Keeps s (queueMsg again s m) := by
  unfold queueMsg
  split
  · exact .of_eq rfl rfl rfl
  · have hdrop : Keeps s (s.modFlue (fun f => { f with dropped := (ctrInc 16 s.flue.dropped).1, dropOwed := true })) :=
      .of_eq rfl rfl rfl
    exact .ite (hdrop.trans (ha _ _ _)) hdrop

theorem resetReaction_keeps (s : State) : Keeps s (resetReaction again s) := by
  unfold resetReaction
  exact .ite ((ha s _ _).trans (.of_eq rfl rfl rfl)) (.of_eq rfl rfl rfl)

theorem reactResets_keeps (s : State) (src addr : Nat) : Keeps s (reactResets again s src addr) := by
  have hreq : Keeps s (match ownerOf src addr with
      | some b => if bit (raiseWord s src) 2 = true ∧ b ∉ s.flue.resetReq then
          s.modFlue (fun f => { f with resetReq := f.resetReq ++ [b] }) else s
      | none => s) := by
    split
    · exact .ite (.of_eq rfl rfl rfl) (.refl s)
    · exact .refl s
  exact .ite (hreq.trans (resetReaction_keeps ha _)) hreq

theorem react_keeps (s : State) (src addr : Nat) (r : FaultRec) (was : Bool) : Keeps s (react again s src addr r was) := by
  have hmsg : ∀ (c : Bool) (m : EventMsg) (t : State), Keeps t (if c then queueMsg again t m else t) :=
    fun _ m t => .ite (queueMsg_keeps ha t m) (.refl t)
  unfold react
  dsimp only
  split
  · exact (hmsg _ _ s).trans (hmsg _ _ _)
  · exact ((hmsg _ _ s).trans (hmsg _ _ _)).trans (reactResets_keeps ha _ _ _)

end

/-- The record that a raise latches. -/
def raiseRec (s : State) (master : BitVec 8) (src addr kind : Nat) (retry : Retry) : FaultRec :=
  { source := BitVec.ofNat 8 src, master := master, kind := BitVec.ofNat 3 kind, retry := retry,
    addr := BitVec.ofNat 32 addr, stamp := s.tb.now }

/-- A raise as the Flue's own bits show it: the line, the sticky bit, the machines named and the raises of the tick. -/
def noteRaise (s : State) (src addr : Nat) (r : FaultRec) (level : Bool) : State :=
  s.modFlue (fun f => { f with
    live := if level then bitSet f.live src else f.live
    sticky := bitSet f.sticky src
    named := vmod f.named (finOf 256 src) (fun v => (if sticky s src then v else 0) ||| namedBy src addr)
    quietAt := vmod f.quietAt (finOf 256 src) (fun _ => s.clk)
    raised := (if f.raisedAt = s.clk then f.raised.filter (fun x => x.1.source != r.source) else []) ++
      [(r, sticky s src)]
    raisedAt := s.clk })

/-- What follows a noted raise: its record, its journal entry and its reaction. -/
def followRaise (again : State → Nat → Nat → State) (s : State) (src addr : Nat) (r : FaultRec) (was : Bool) : State :=
  let t := if was then latchRecord again s r else jraise again (latchRecord again s r) r
  if t.start.resetPending.isSome || maskOff t src then t else react again t src addr r was

theorem raiseWith_eq (again : State → Nat → Nat → State) (s : State) (master : BitVec 8) (src addr kind : Nat)
    (retry : Retry) (level : Bool) : raiseWith again s master src addr kind retry level =
      if !s.start.bootBegun then s
      else if level && live s src then s
      else followRaise again (noteRaise s src addr (raiseRec s master src addr kind retry) level) src addr
        (raiseRec s master src addr kind retry) (sticky s src) := rfl

theorem getLsbD_bitSet_of_getLsbD {v : BitVec 256} {n : Nat} (h : v.getLsbD n = true) (i : Nat) :
    (bitSet v i).getLsbD n = true := by
  rw [bitSet, BitVec.getLsbD_or, h, Bool.true_or]

theorem getLsbD_bitSet_self (v : BitVec 256) {i : Nat} (h : i < 256) : (bitSet v i).getLsbD i = true := by
  simp [bitSet, h]

theorem noteRaise_keeps (s : State) (src addr : Nat) (r : FaultRec) (level : Bool) : Keeps s (noteRaise s src addr r level) :=
  ⟨fun _ h => getLsbD_bitSet_of_getLsbD h src, fun x h => ⟨x.repeated, h⟩, fun _ x _ h => ⟨x.repeated, h⟩⟩

section
variable {again : State → Nat → Nat → State} (ha : ∀ s n a, Keeps s (again s n a))
include ha

theorem followRaise_keeps (s : State) (src addr : Nat) (r : FaultRec) (was : Bool) :
    Keeps s (followRaise again s src addr r was) := by
  have hrec : Keeps s (if was then latchRecord again s r else jraise again (latchRecord again s r) r) :=
    .ite (latchRecord_keeps ha s r) ((latchRecord_keeps ha s r).trans (jput_keeps ha _ _ _ _ _))
  exact .ite hrec (hrec.trans (react_keeps ha _ _ _ _ _))

theorem raiseWith_keeps (s : State) (master : BitVec 8) (src addr kind : Nat) (retry : Retry) (level : Bool) :
    Keeps s (raiseWith again s master src addr kind retry level) := by
  rw [raiseWith_eq]
  exact .ite (.refl s) (.ite (.refl s) ((noteRaise_keeps s _ _ _ _).trans (followRaise_keeps ha _ _ _ _ _)))

/-- Once the boot ROM has begun, a raise that its line does not hold back sets the sticky bit. -/
theorem sticky_raiseWith {s : State} {src : Nat} {level : Bool} (hb : s.start.bootBegun = true) (hsrc : src < 256)
    (hl : (level && live s src) = false) (master : BitVec 8) (addr kind : Nat) (retry : Retry) :
    sticky (raiseWith again s master src addr kind retry level) src = true := by
  rw [raiseWith_eq, hb, hl]
  exact (followRaise_keeps ha _ _ _ _ _).1 src (getLsbD_bitSet_self _ hsrc)

end

theorem raiseGo_keeps (k : Nat) : ∀ (s : State) (n a : Nat), Keeps s (raiseGo k s n a) := by
  induction k with
  | zero => exact fun s _ _ => .refl s
  | succ k ih => exact fun s n a => raiseWith_keeps ih s _ n a 0 .none' false

theorem raise_keeps (s : State) (n a : Nat) : Keeps s (raise s n a) := raiseGo_keeps 6 s n a

theorem raiseIf_keeps (c : Bool) (s : State) (n a : Nat) : Keeps s (raiseIf c s n a) := .ite (raise_keeps s n a) (.refl s)

/-! ### Recovery and release (17 R463, R465) -/

/-- A recovery marks a first-error record of its source as recovered, and it stays. -/
theorem recover_fer {s : State} {r : FaultRec} {src : Nat} (h : s.flue.fer = some r) (hsrc : r.source.toNat = src) :
    ∃ b, (recover s src).flue.fer = some { r with recovered := true, repeated := b } := by
  unfold recover
  dsimp only
  refine (((jput_keeps (raiseGo_keeps 5) _ _ _ _ _).trans (raiseIf_keeps _ _ _ _)).trans (raiseIf_keeps _ _ _ _)).2.1
    { r with recovered := true } ?_
  simp only [State.modFlue_fields, h, hsrc, if_true]

theorem latchedNow_of_ne {s : State} (h : s.flue.raisedAt ≠ s.clk) (r : FaultRec) : latchedNow s r = false := by
  rw [latchedNow, decide_eq_false h, Bool.false_and]

theorem releaseFer_of_some {s : State} {r : FaultRec} (h : s.flue.ner = some r) : (releaseFer s).flue.ner = none ∧
    (releaseFer s).flue.fer = some (if latchedNow s r then { r with sameTick := false } else { r with moved := true }) := by
  simp only [releaseFer, State.modFlue_fields, h, and_self]

theorem releaseFer_of_none {s : State} (h : s.flue.ner = none) : (releaseFer s).flue.fer = none := by
  simp only [releaseFer, State.modFlue_fields, h]

/-! ### The words that show the sources (17 R455, R471) -/

theorem bit_eq_testBit (n i : Nat) : bit n i = n.testBit i := Nat.testBit_eq_decide_div_mod_eq.symm

/-- A sum of flags at the places below `n` is below 2^n and shows each flag at its place. -/
theorem sum_flags (p : Nat → Bool) (n : Nat) :
    (List.range n).foldl (fun a g => a + flag (p g) g) 0 < 2 ^ n ∧
    ∀ g < n, ((List.range n).foldl (fun a g => a + flag (p g) g) 0).testBit g = p g := by
  induction n with
  | zero => exact ⟨Nat.one_pos, fun g h => absurd h (Nat.not_lt_zero g)⟩
  | succ n ih =>
    obtain ⟨hlt, hbits⟩ := ih
    rw [List.range_succ, List.foldl_append, List.foldl_cons, List.foldl_nil]
    generalize (List.range n).foldl (fun a g => a + flag (p g) g) 0 = x at hlt hbits
    cases hp : p n with
    | false =>
      have hx : x + flag false n = x := rfl
      rw [hx]
      refine ⟨by omega, fun g hg => ?_⟩
      obtain rfl | hlast := Nat.lt_succ_iff_lt_or_eq.1 hg |>.symm
      · rw [Nat.testBit_lt_two_pow hlt, hp]
      · exact hbits g hlast
    | true =>
      have hx : x + flag true n = 2 ^ n + x := Nat.add_comm x (2 ^ n)
      rw [hx]
      refine ⟨by omega, fun g hg => ?_⟩
      obtain rfl | hlast := Nat.lt_succ_iff_lt_or_eq.1 hg |>.symm
      · rw [Nat.testBit_two_pow_add_eq, Nat.testBit_lt_two_pow hlt, hp]
        rfl
      · rw [Nat.testBit_two_pow_add_gt hlast]
        exact hbits g hlast

theorem ne_zero_iff_getLsbD {w : Nat} (v : BitVec w) : v ≠ 0#w ↔ ∃ b : Fin w, v.getLsbD b.val = true := by
  constructor
  · intro h
    by_contra hall
    refine h (BitVec.eq_of_getLsbD_eq fun i hi => ?_)
    rw [BitVec.getLsbD_zero]
    exact Bool.eq_false_iff.2 fun hbit => hall ⟨⟨i, hi⟩, hbit⟩
  · rintro ⟨b, hb⟩ rfl
    exact absurd hb (by rw [BitVec.getLsbD_zero]; decide)

theorem bit_flueSum (s : State) (g : Fin 16) :
    bit (flueSum s) g.val = true ↔ ∃ b : Fin 16, sticky s (16 * g.val + b.val) = true := by
  rw [bit_eq_testBit, flueSum, (sum_flags (fun g => (s.flue.sticky >>> (16 * g)).setWidth 16 != 0#16) 16).2 g.val g.isLt,
    bne_iff_ne, ne_zero_iff_getLsbD]
  simp only [BitVec.getLsbD_setWidth, BitVec.getLsbD_ushiftRight, Fin.is_lt, decide_true, Bool.true_and, sticky]

theorem bit_word256 (v : BitVec 256) (i : Nat) (b : Fin 32) : bit (word256 v i) b.val = v.getLsbD (32 * i + b.val) := by
  rw [bit_eq_testBit, word256, BitVec.testBit_toNat, BitVec.getLsbD_setWidth, BitVec.getLsbD_ushiftRight,
    decide_eq_true b.isLt, Bool.true_and]

/-- FLUE_LIVE lies from 0x40010040 on. -/
theorem regWord_flueLive (s : State) (i : Fin 8) :
    regWord s (0x40010040 + 4 * i.val) = some (word256 s.flue.live i.val) := by
  have halign : ¬ (0x40010040 + 4 * i.val) % 4 ≠ 0 := by omega
  have hblock : (0x40010040 + 4 * i.val) / 65536 = 0x4001 := by omega
  have hoff : (0x40010040 + 4 * i.val) % 65536 = 0x40 + 4 * i.val := by omega
  have hword : (0x40 + 4 * i.val - 0x40) / 4 = i.val := by omega
  have hsum : ¬ 0x40 + 4 * i.val = 0 := by omega
  have hsticky : ¬ (0x20 ≤ 0x40 + 4 * i.val ∧ 0x40 + 4 * i.val < 0x40) := by omega
  have hlive : 0x40 ≤ 0x40 + 4 * i.val ∧ 0x40 + 4 * i.val < 0x60 := by omega
  rw [regWord, if_neg halign]
  simp only [hblock, hoff, flueReg, if_neg hsum, if_neg hsticky, if_pos hlive, hword]

/-! ### Commands and opcodes of the Flue (17 R457 to R469) -/

section
variable {s : State} {dt : Nat}

theorem exec_quietCheck_of_due {slow : Bool} (hp : s.p0 0x0610 1 ≠ 1) (hdue : checkDue (advance s dt) slow = true) :
    exec (.quietCheck dt slow) s = .next (settled ((List.range 256).foldl (fun u src =>
      if decide (1000 ≤ u.pe src 0x7010 1) == slow && quietDue u src then recover u src else u)
      ((advance s dt).modFlue (fun f => { f with
        checkAt := f.checkAt.set (if slow then 1 else 0 : Fin 2) (some (s.clk + dt)) })))) := by
  simp only [exec_quietCheck, execQuietCheck, done, advance_reads, hp, hdue, Bool.true_eq_false, or_self, if_false,
    advance_fields]

theorem exec_quietCheck_of_w1c (slow : Bool) (hp : s.p0 0x0610 1 = 1) :
    exec (.quietCheck dt slow) s = .next (settled (advance s dt)) := by
  simp only [exec_quietCheck, execQuietCheck, done, advance_reads, hp, true_or, if_true]

theorem exec_eventMessageTake_of_takes {u : State} {h : Fin 4} (ht : hearthTakes s.hearths[h] = true)
    (hu : u = (match s.flue.queue.find? (fun m => m.hearth == h) with
      | some m => bindInput ((advance s dt).modFlue (fun f => { f with queue := takeMessage h f.queue })) h (.message m)
      | none => advance s dt)) :
    exec (.eventMessageTake dt h) s = .next (settled (if s.flue.dropOwed = true ∧ u.flue.queue.length < 64 then
      raise (u.modFlue (fun f => { f with dropOwed := false })) 240 0 else u)) := by
  have howed : u.flue.dropOwed = s.flue.dropOwed := by
    rw [hu]
    split <;> rfl
  have hexec : exec (.eventMessageTake dt h) s = .next (settled (if hearthTakes s.hearths[h] then
      if u.flue.dropOwed = true ∧ u.flue.queue.length < 64 then
        raise (u.modFlue (fun f => { f with dropOwed := false })) 240 0 else u
      else advance s dt)) := by
    rw [hu]
    rfl
  rw [hexec, if_pos ht, howed]

end

section
variable {s : State} {tr : Transport} {tag : BitVec 16} {c : Cmd}

theorem exec_flueRead_of_starts (h : Starts s tr tag 0x0600 c) (hd : c.data = []) :
    exec (.flueRead tr tag) s = .next (settled (reply (begun s tr tag) c stOK (([flueSum s] ++
      (List.range 8).map (word256 s.flue.sticky) ++ (List.range 8).map (word256 s.flue.live) ++ recWords s.flue.fer ++
      recWords s.flue.ner).flatMap (beBytes 4)))) := by
  rw [exec_flueRead, execFlueRead, onCmd_starts h, needLen_of_length (by rw [hd]; rfl)]
  rfl

theorem exec_faultClear_of_starts {named kept : List Nat} (h : Starts s tr tag 0x0601 c) (hlen : c.data.length = 32)
    (hn : named = (List.range 256).filter (maskBit c.data))
    (hk : kept = named.filter (fun src => sticky s src && live s src)) :
    exec (.faultClear tr tag) s = .next (settled (reply (named.foldl clearSource (begun s tr tag)) c stOK
      ((List.range 32).map (fun i => BitVec.ofNat 8 ((List.range 8).foldl (fun a b =>
        a + flag ((8 * (31 - i) + b) ∈ kept) b) 0))))) := by
  subst hn hk
  rw [exec_faultClear, execFaultClear, onCmd_starts h, needLen_of_length hlen]
  rfl

theorem exec_recordRelease_of_named {r : FaultRec} (h : Starts s tr tag 0x0602 c) (hlen : c.data.length = 5)
    (hfer : s.flue.fer = some r) (hsrc : r.source.toNat = beNat (c.data.take 1))
    (hstamp : r.stamp.toNat % 2 ^ 32 = beNat (c.data.drop 1)) :
    exec (.recordRelease tr tag) s = .next (settled (reply (releaseFer (begun s tr tag)) c stOK [])) := by
  have hfer' : (begun s tr tag).flue.fer = some r := hfer
  rw [exec_recordRelease, execRecordRelease, onCmd_starts h, needLen_of_length hlen]
  simp only [hfer', hsrc, hstamp, and_self, if_true, done]

end

end Sys2Proof.Machine

namespace Sys2Proof.Proofs
open Sys2Proof.Machine

/-- Settles O34, command by command. -/
theorem faultOpcodes : Obligations.FaultOpcodes := by
  unfold Obligations.FaultOpcodes
  intro s
  refine ⟨fun dt src master a kind r => rfl, ?quiet, ?w1c, ?message, fun h v => rfl, fun dt => rfl, fun dt i w => rfl,
    ?read, ?clear, ?release⟩
  case quiet => exact fun dt slow hp hdue => exec_quietCheck_of_due hp hdue
  case w1c => exact fun dt slow hp => exec_quietCheck_of_w1c slow hp
  case message => exact fun u dt h ht hu => exec_eventMessageTake_of_takes ht hu
  case read => exact fun tr tag c h hd => exec_flueRead_of_starts h hd
  case clear => exact fun tr tag c named kept h hlen hn hk => exec_faultClear_of_starts h hlen hn hk
  case release => exact fun tr tag c r h hlen hfer hsrc hstamp => exec_recordRelease_of_named h hlen hfer hsrc hstamp

/-- Settles O54: a raise sets the sticky bit and what follows it keeps it, and the words show the bits place by place. -/
theorem stickyBits : Obligations.StickyBits := by
  unfold Obligations.StickyBits
  refine ⟨?event, ?operation, bit_flueSum, ?live⟩
  case event => exact fun s src addr hb => sticky_raiseWith (raiseGo_keeps 5) hb src.isLt rfl _ addr 0 .none'
  case operation =>
    intro s src addr kind r hb hl
    exact sticky_raiseWith (raiseGo_keeps 5) hb src.isLt (by rw [hl, Bool.and_false]) _ addr kind r
  case live => exact fun s i => ⟨_, regWord_flueLive s i, bit_word256 s.flue.live i.val⟩

/-- Settles O55: what a raise keeps of the records, what a recovery marks, and the two cases of a release. -/
theorem recordsStay : Obligations.RecordsStay := by
  unfold Obligations.RecordsStay
  intro s r
  refine ⟨?fer, ?ner, ?recovered, ?moved, ?sameTick, releaseFer_of_none⟩
  case fer =>
    intro src addr hfer
    obtain ⟨b, h⟩ := (raise_keeps s src addr).2.1 r hfer
    exact ⟨_, h, rfl, rfl, rfl, rfl⟩
  case ner =>
    intro src addr f hfer hner
    obtain ⟨b, h⟩ := (raise_keeps s src addr).2.2 f r hfer hner
    exact ⟨_, h, rfl, rfl, rfl⟩
  case recovered =>
    intro src hfer hsrc
    obtain ⟨b, h⟩ := recover_fer hfer hsrc
    exact ⟨_, h, rfl, rfl, rfl⟩
  case moved =>
    intro hner hlate
    obtain ⟨hn, hf⟩ := releaseFer_of_some hner
    rw [latchedNow_of_ne hlate] at hf
    exact ⟨hf, hn⟩
  case sameTick =>
    intro hner hnow
    obtain ⟨hn, hf⟩ := releaseFer_of_some hner
    rw [hnow] at hf
    exact ⟨hf, hn⟩

end Sys2Proof.Proofs

/-! Proofs about a step (what runs, and that every command completes) and about the reset state (02 R48, 15 R420, 16 R449,
17 R471, 24 R603). -/
namespace Sys2Proof.Machine
open Sys2Proof.Safety

/-- A step with a command at the front of the queue runs that command with the rest of the queue waiting. -/
theorem step_cons (s : State) (c : Instr) (rest : List Instr) :
    step { s with pending := c :: rest } = exec c { s with pending := rest } := rfl

theorem step_of_empty {s : State} (h : s.pending = []) : step s = .next (advance s 1) := by
  rw [step, h]

theorem step_of_pending {s : State} {c : Instr} {rest : List Instr} (h : s.pending = c :: rest) :
    step s = exec c { s with pending := rest } := by
  rw [step, h]

/-- HRT_STAT of every Hearth after reset (16 R449). -/
theorem regWord_reset_hrtStat : ∀ h : Fin 4, regWord State.reset (0x40030000 + 0x100 * h.val) = some 0x07F80000 := by
  decide

/-- DMP status of every machine after reset (15 R420). -/
theorem regWord_reset_dmpStatus : ∀ m : Fin 4, regWord State.reset (0x40100010 + 4 * m.val) = some 0x80E00800 := by
  decide

theorem regWord_reset_flueSum : regWord State.reset 0x40010000 = some 0 := by
  decide

theorem silent_reset : Silent State.reset := ⟨rfl, fun _ => Vector.getElem_replicate ..⟩

theorem flushed_reset : Flushed State.reset := fun _ h => absurd h List.not_mem_nil

end Sys2Proof.Machine

namespace Sys2Proof.Proofs
open Sys2Proof.Machine

/-- Settles O46, from the definition of a step. -/
theorem stepRunsFront : Obligations.StepRunsFront := by
  unfold Obligations.StepRunsFront
  exact step_cons

/-- Settles O47: every command completes (`exec_settled`), so a step with a command waiting answers a next state. -/
theorem stepAlwaysAnswers : Obligations.StepAlwaysAnswers := by
  unfold Obligations.StepAlwaysAnswers
  refine ⟨exec_settled, fun s => step_of_empty, fun c rest s h => ?_⟩
  obtain ⟨u, hu⟩ := exec_settled c { s with pending := rest }
  exact ⟨settled u, by rw [step_of_pending h, hu]⟩

/-- Settles O48, field by field. -/
theorem resetState : Obligations.ResetState := by
  unfold Obligations.ResetState
  exact ⟨regWord_reset_hrtStat, rfl, regWord_reset_flueSum, rfl, regWord_reset_dmpStatus, rfl, ⟨rfl, rfl⟩, silent_reset,
    flushed_reset, rfl⟩

end Sys2Proof.Proofs

/-! Proofs about the votes, the classification, the digests and the resynchronisation of a Hearth (16 R425 to R439), and
about its split, rejoin and debug (16 R441 to R448). -/
namespace Sys2Proof.Machine
open Sys2Proof.Safety

/-! ### The vote (16 R426 to R430) -/

section
variable {s u : State} {dt : Nat} {h : Fin 4} {offers : List (Fin 3 × LaneEntry)}
  {misread again : Vector (Option LaneEntry) 3} {bad badAgain : Vector Bool 2} {first : Fin 3}

/-- The transient fault of the voter is recorded, and counted. -/
def voterTransient (s : State) (h : Fin 4) (seq : BitVec 8) : State :=
  bumpHearth (classify s h .transient 0 seq) h 32 (fun y => y.transients) (fun c y => { y with transients := c })
    (232 + h.val) (hearthAddr h 4 0 0)

/-- While a Hearth votes and no disagreement waits, a vote with an entry in every voted lane issues what agrees, at once
or after the retry, and otherwise leaves a disagreement. -/
theorem exec_transactionVote_of_votes {x : Hearth} {heads retried : Vector LaneEntry 3} (hx : u.hearths[h] = x)
    (hheads : heads = laneHeads x misread) (hretried : retried = laneHeads x again) (hb : s.start.bootBegun = true)
    (hv : votes s.hearths[h] = true) (hu : u = issueOffers (advance s dt) h offers)
    (hf : first = (if x.mode = .split then 0 else (votedLanes x).headD 0)) (hd : x.disagreed = none)
    (hl : lanesPresent x = true) :
    exec (.transactionVote dt h offers misread again bad badAgain) s = .next (settled (
      if votesAgree x heads && trivetsAgree x bad then issue u h heads[first]
      else if votesAgree x retried && trivetsAgree x badAgain then
        issue (voterTransient u h retried[first].seq) h retried[first]
      else u.modHearth h (fun y => { y with disagreed := some (retried, badAgain) }))) := by
  subst hx
  simp only [exec_transactionVote, execTransactionVote, done, advance_fields, hb, hv, ← hu, ← hf, hd, hl, ← hheads,
    ← hretried, Bool.not_true, Bool.or_self, Bool.false_eq_true, if_false, Option.isSome_none, voterTransient]

end

/-! ### Classification (16 R432, R435) -/

/-- The transaction goes on with entry `e`, unless its Hearth halted. -/
def issueUnlessHalted (s : State) (h : Fin 4) (e : LaneEntry) : State :=
  if s.hearths[h].mode = .halted then s else issue s h e

section
variable {s : State} {dt : Nat} {h : Fin 4} {x : Hearth} {l : Vector LaneEntry 3} {bad : Vector Bool 2}
  {dg : Vector (BitVec 32) 3} (hx : s.hearths[h] = x)
include hx

section
variable (hv : votes x = true) (hd : x.disagreed = some (l, bad))
include hv hd

theorem exec_disagreementClassify_of_split (hm : x.mode = .split) :
    exec (.disagreementClassify dt h dg) s = .next (settled
      (haltHearth (classify (advance s dt) h .undecidable 0 l[(0 : Fin 3)].seq) h 3 0)) := by
  subst hx
  simp only [exec_disagreementClassify, execDisagreementClassify, done, advance_fields, hv, hd, hm, Bool.not_true,
    Bool.false_eq_true, if_false, if_true]

theorem exec_disagreementClassify_of_three (hm : x.mode ≠ .split) (h3 : (votedLanes x).length = 3) :
    exec (.disagreementClassify dt h dg) s = .next (settled (classifyThree (advance s dt) h l bad dg)) := by
  subst hx
  obtain ⟨a, b, c, hl⟩ := List.length_eq_three.1 h3
  simp only [exec_disagreementClassify, execDisagreementClassify, done, advance_fields, hv, hd, hm, hl, Bool.not_true,
    Bool.false_eq_true, if_false]

theorem exec_disagreementClassify_of_two {i j : Fin 3} (hm : x.mode ≠ .split) (h2 : votedLanes x = [i, j]) :
    exec (.disagreementClassify dt h dg) s = .next (settled (classifyTwo (advance s dt) h l dg i j)) := by
  subst hx
  simp only [exec_disagreementClassify, execDisagreementClassify, done, advance_fields, hv, hd, hm, h2, Bool.not_true,
    Bool.false_eq_true, if_false]

end

/-- Without a minority lane the Hearth halts. -/
theorem classifyThree_of_none (ho : oddLane x l = none) :
    classifyThree s h l bad dg = haltHearth (classify s h .undecidable 0 (BitVec.ofNat 8 x.txn)) h
      (if x.trivetOk[(0 : Fin 2)] && x.trivetOk[(1 : Fin 2)] then 3 else 4) 0 := by
  subst hx
  simp only [classifyThree, ho]

/-- A minority lane `i` under the two Trivets' results `b0`, `b1`: wrong Trivets fail or halt the Hearth, and otherwise
it is the core's fault where the digests differ, else the lane's own. -/
def classifyOdd (s : State) (h : Fin 4) (i : Fin 3) (both b0 b1 : Bool) (differ : Prop) [Decidable differ]
    (odd rest : LaneEntry) : State :=
  if both && (b0 || b1) then
    if b0 && b1 then haltHearth (classify s h .trivet 0 rest.seq) h 3 0
    else issueUnlessHalted (failTrivet (classify s h .trivet 0 rest.seq) h (if b0 then 0 else 1) rest.seq.toNat) h rest
  else issueUnlessHalted (if differ then coreFault s h i odd (sameFields odd rest == false) else laneFault s h i odd) h
    rest

theorem classifyThree_of_some {i k : Fin 3} {both : Bool} (ho : oddLane x l = some i)
    (hk : k = (if i = 0 then 1 else 0))
    (hboth : both = (x.trivetOk[(0 : Fin 2)] && x.trivetOk[(1 : Fin 2)])) : classifyThree s h l bad dg =
      classifyOdd s h i both bad[(0 : Fin 2)] bad[(1 : Fin 2)] (dg[i] ≠ dg[k]) l[i] l[k] := by
  subst hx
  simp only [classifyThree, ho, ← hk, ← hboth, classifyOdd, issueUnlessHalted]

end

section
variable {s : State} {h : Fin 4} {i : Fin 3} {both b0 b1 : Bool} {differ : Prop} [Decidable differ]
  {odd rest : LaneEntry}

theorem classifyOdd_of_lane (hb : (both && (b0 || b1)) = false) : classifyOdd s h i both b0 b1 differ odd rest =
    issueUnlessHalted (if differ then coreFault s h i odd (sameFields odd rest == false) else laneFault s h i odd) h
      rest := by
  rw [classifyOdd, hb, if_neg Bool.false_ne_true]

/-- One Trivet whose result is wrong fails. -/
theorem classifyOdd_of_trivet (hb : (b0 ^^ b1) = true) : classifyOdd s h i true b0 b1 differ odd rest =
    issueUnlessHalted (failTrivet (classify s h .trivet 0 rest.seq) h (if b0 then 0 else 1) rest.seq.toNat) h rest := by
  cases b0 <;> cases b1
  · simp at hb
  · rfl
  · rfl
  · simp at hb

end

/-! ### Digests, resynchronisation and the online test (16 R431 to R439) -/

/-- What the digests `p`, `q`, `r` of three cores in service say. -/
def compareThree (s : State) (h : Fin 4) (x : Hearth) (a b c : Fin 3) (p q r : BitVec 32) : State :=
  if p == q && p == r then s.modHearth h (fun y => { y with latentRun := Vector.replicate 3 0 })
  else if p == q then latentDivergence s h c
  else if p == r then latentDivergence s h b
  else if q == r then latentDivergence s h a
  else haltHearth (classify s h .undecidable a (BitVec.ofNat 8 x.txn)) h 3 0

/-- What the digests of the cores in service say: the three of them by which are equal, or the two. -/
def compareDigests (s : State) (h : Fin 4) (x : Hearth) (dg : Vector (BitVec 32) 3) : State :=
  match coresIn x with
  | [a, b, c] => compareThree s h x a b c dg[a] dg[b] dg[c]
  | [a, b] => if dg[a] = dg[b] then s else
      haltHearth (classify s h .undecidable a (BitVec.ofNat 8 x.txn)) h 4 0
  | _ => s

section
variable {s u : State} {dt : Nat} {h : Fin 4} {x : Hearth}

theorem exec_digestPoint_of_due {dg : Vector (BitVec 32) 3} (hx : s.hearths[h] = x)
    (hb : s.start.bootBegun = true) (hv : votes x = true) (hm : x.mode ≠ .split) (hr : x.mode ≠ .resync)
    (hd : x.disagreed = none) (ht : ∀ a, x.digestAt = some a → a + msTicks 1 ≤ s.clk + dt)
    (hu : u = (advance s dt).modHearth h (fun y => { y with digestAt := some (s.clk + dt) })) :
    exec (.digestPoint dt h dg) s = .next (settled (compareDigests u h x dg)) := by
  have hexec : exec (.digestPoint dt h dg) s = .next (settled (
      if !votes x || x.mode == .split || x.mode == .resync || x.disagreed.isSome ||
          !due (advance s dt) x.digestAt (msTicks 1) || !s.start.bootBegun then advance s dt
      else compareDigests u h x dg)) := by
    rw [hu, ← hx]
    rfl
  rw [hexec, hv, beq_eq_false_iff_ne.2 hm, beq_eq_false_iff_ne.2 hr, hd, due_advance_of_le ht, hb]
  rfl

theorem compareThree_eq {a b c : Fin 3} {p q r : BitVec 32} : compareThree s h x a b c p q r =
    if p = q ∧ p = r then s.modHearth h (fun y => { y with latentRun := Vector.replicate 3 0 })
    else if p = q then latentDivergence s h c
    else if p = r then latentDivergence s h b
    else if q = r then latentDivergence s h a
    else haltHearth (classify s h .undecidable a (BitVec.ofNat 8 x.txn)) h 3 0 := by
  simp only [compareThree, Bool.and_eq_true, beq_iff_eq]

theorem compareDigests_of_three {dg : Vector (BitVec 32) 3} {a b c : Fin 3} (hc : coresIn x = [a, b, c]) :
    compareDigests s h x dg = compareThree s h x a b c dg[a] dg[b] dg[c] := by
  simp only [compareDigests, hc]

theorem compareDigests_of_two {dg : Vector (BitVec 32) 3} {a b : Fin 3} (hc : coresIn x = [a, b]) :
    compareDigests s h x dg = if dg[a] = dg[b] then s else
      haltHearth (classify s h .undecidable a (BitVec.ofNat 8 x.txn)) h 4 0 := by
  simp only [compareDigests, hc]

theorem exec_resyncComplete_of_resync {dg : Vector (BitVec 32) 3} {r : Resync} (hx : s.hearths[h] = x)
    (hr : x.resync = some r) :
    exec (.resyncComplete dt h dg) s = .next (settled (
      if (coresIn x).all (fun i => dg[i] == dg[r.source]) then
        dropLine ((advance s dt).modHearth h (fun y => placeCore { y with resync := none, mode := serviceMode y } r.core))
          (224 + h.val)
      else retireCore (advance s dt) h r.core)) := by
  subst hx
  simp only [exec_resyncComplete, execResyncComplete, done, advance_fields, hr]

theorem exec_trivetOnlineTest_of_due {pass : Bool} {t : Fin 2} (hx : s.hearths[h] = x)
    (hb : s.start.bootBegun = true) (hv : votes x = true) (hm : x.mode = .triplex)
    (ht : ∀ a, x.testAt = some a → a + msTicks 1000 ≤ s.clk + dt) (htr : t = (if x.nextTest < 144 then 0 else 1))
    (hu : u = (advance s dt).modHearth h (fun y => { y with
      testAt := some (s.clk + dt), nextTest := (y.nextTest + 1) % 288 })) :
    exec (.trivetOnlineTest dt h pass) s = .next (settled (if pass then u else failTrivet
      (raise u (232 + h.val) (hearthAddr h 3 t.val (x.txn % 256))) h t (x.txn % 256))) := by
  have hexec : exec (.trivetOnlineTest dt h pass) s = .next (settled (
      if !votes x || x.mode != .triplex || !due (advance s dt) x.testAt (msTicks 1000) || !s.start.bootBegun then
        advance s dt
      else if pass then u else failTrivet
        (raise u (232 + h.val) (hearthAddr h 3 t.val (x.txn % 256))) h t (x.txn % 256))) := by
    rw [hu, htr, ← hx]
    rfl
  rw [hexec, hv, hm, due_advance_of_le ht, hb]
  rfl

end

/-! ### Fields of a command's data -/

/-- A byte of a command's data as a field. -/
theorem field_byte {l : List Byte} {i : Nat} {b : Byte} (h : l[i]? = some b) : field l i 1 = b.toNat := by
  obtain ⟨hi, hb⟩ := List.getElem?_eq_some_iff.1 h
  rw [field, List.drop_eq_getElem_cons hi, hb]
  simp [beNat]

theorem finOf_val {n : Nat} [NeZero n] (i : Fin n) : finOf n i.val = i := Fin.ext (Nat.mod_eq_of_lt i.isLt)

theorem toNat_beq_one (v : Byte) : (v.toNat == 1) = (v == 1) := by
  rw [Bool.eq_iff_iff, beq_iff_eq, beq_iff_eq, ← BitVec.toNat_inj]
  rfl

/-! ### Split and rejoin (16 R441 to R443) -/

theorem needState_of_length {s : State} {c : Cmd} {n : Nat} (h : c.data.length = n) (f : State → State) :
    needState s c false n f = f s := needLen_of_length h f

section
variable {s : State} {dt : Nat} {h : Fin 4} {x : Hearth} {tr : Transport} {tag : BitVec 16} {c : Cmd}

/-- What HEARTH_SPLIT makes of a Hearth other than H0 that its data name. -/
theorem exec_hearthSplit_of_hearth {n mode : Byte} (hx : s.hearths[h] = x) (hst : Starts s tr tag 0x0A20 c)
    (hd : c.data = [n, mode]) (hn : n.toNat = h.val) (h1 : 1 ≤ h.val) :
    exec (.hearthSplit tr tag) s = .next (settled (
      if x.mode != .triplex || !maySplit s h || x.splitting.isSome then
        reply (begun s tr tag) c stREFUSED []
      else if 1 < mode.toNat then reply (begun s tr tag) c stBADPARAM (elemHeader 0 1)
      else reply ((begun s tr tag).modHearth h (fun y => { y with
        splitting := some { startedAt := s.clk, test := mode.toNat == 1, debug := false } })) c stOK [])) := by
  have h3 : h.val ≤ 3 := by omega
  have hfield : field c.data 0 1 = h.val := (field_byte (by rw [hd]; rfl)).trans hn
  have hmode : field c.data 1 1 = mode.toNat := field_byte (by rw [hd]; rfl)
  have hin : (decide (1 ≤ h.val) && decide (h.val ≤ 3)) = true := by rw [decide_eq_true h1, decide_eq_true h3]; rfl
  have hout : ¬ (h.val < 1 ∨ 3 < h.val) := by omega
  have hexec : exec (.hearthSplit tr tag) s = .next (settled (needState (begun s tr tag) c
      (decide (1 ≤ h.val) && decide (h.val ≤ 3) &&
        (x.mode != .triplex || !maySplit s h || x.splitting.isSome)) 2 (fun u =>
      if h.val < 1 ∨ 3 < h.val then reply u c stBADPARAM (elemHeader 0 0)
      else if 1 < mode.toNat then reply u c stBADPARAM (elemHeader 0 1)
      else reply (u.modHearth h (fun y => { y with
        splitting := some { startedAt := u.clk, test := mode.toNat == 1, debug := false } })) c stOK []))) := by
    simp only [exec_hearthSplit, execHearthSplit, done, onCmd_starts hst, hfield, hmode, finOf_val, ← hx]
    rfl
  rw [hexec, hin, Bool.true_and]
  cases x.mode != .triplex || !maySplit s h || x.splitting.isSome with
  | true => rfl
  | false =>
    rw [needState_of_length (by rw [hd]; rfl), if_neg hout]
    rfl

/-- A split takes no time. -/
@[simp] theorem enterSplit_clk (s : State) (h : Fin 4) (debug : Bool) : (enterSplit s h debug).clk = s.clk := by
  simp only [enterSplit, bumpHearth, raiseIf_fields, raise_fields, State.modHearth_fields]

theorem exec_splitComplete_of_empty {r : SplitRun} (hx : s.hearths[h] = x) (hs : x.splitting = some r)
    (hr : x.resync = none) (hd : x.disagreed = none) (hm : x.mode ≠ .halted)
    (hl : ∀ i ∈ votedLanes x, x.lanes[i] = []) :
    exec (.splitComplete dt h) s = .next (settled (enterSplit ((advance s dt).modHearth h (fun y => { y with
      splitting := none, testing := r.test })) h r.debug)) := by
  have hempty : (votedLanes x).any (fun i => x.lanes[i] != []) = false :=
    List.any_eq_false.2 fun i hi => by rw [hl i hi]; decide
  subst hx
  simp only [exec_splitComplete, execSplitComplete, done, advance_fields, hs, hr, hd, beq_eq_false_iff_ne.2 hm, hempty,
    Option.isSome_none, Bool.or_self, Bool.false_eq_true, if_false]

theorem exec_hearthRejoin_of_split {n : Byte} (hx : s.hearths[h] = x) (hst : Starts s tr tag 0x0A21 c)
    (hd : c.data = [n]) (hn : n.toNat = h.val) (h1 : 1 ≤ h.val) (hm : x.mode = .split) (hr : x.rejoining = none) :
    exec (.hearthRejoin tr tag) s = .next (settled (waitCommit ((begun s tr tag).modHearth h (fun y => { y with
      testing := false, waitsFor := some c.id,
      rejoining := some { startedAt := s.clk, test := false, debug := false } })) c)) := by
  have h3 : h.val ≤ 3 := by omega
  have hfield : field c.data 0 1 = h.val := (field_byte (by rw [hd]; rfl)).trans hn
  have hout : ¬ (h.val < 1 ∨ 3 < h.val) := by omega
  have hexec : exec (.hearthRejoin tr tag) s = .next (settled (needState (begun s tr tag) c
      (decide (1 ≤ h.val) && decide (h.val ≤ 3) &&
        (x.mode != .split || x.rejoining.isSome)) 1 (fun u =>
      if h.val < 1 ∨ 3 < h.val then reply u c stBADPARAM (elemHeader 0 0)
      else waitCommit (u.modHearth h (fun y => { y with
        testing := false, waitsFor := some c.id,
        rejoining := some { startedAt := u.clk, test := false, debug := false } })) c))) := by
    simp only [exec_hearthRejoin, execHearthRejoin, done, onCmd_starts hst, hfield, finOf_val, ← hx]
    rfl
  rw [hexec, hm, hr]
  simp only [bne_self_eq_false, Option.isSome_none, Bool.or_self, Bool.and_false]
  rw [needState_of_length (by rw [hd]; rfl), if_neg hout]
  rfl

/-- The cores in service whose digests differ from core 0's. -/
def offCores (x : Hearth) (dg : Vector (BitVec 32) 3) : List (Fin 3) :=
  (coresIn x).filter (fun i => i != 0 && dg[i] != dg[(0 : Fin 3)])

/-- The reply of a rejoin that is over, with the mode that it left. -/
def replyMode (u : State) (h : Fin 4) (id : Option (Transport × BitVec 16)) : State :=
  replyAt u id stOK [BitVec.ofNat 8 u.hearths[h].mode.code]

theorem exec_coreTestEnd_of_testing (hx : s.hearths[h] = x) (ht : x.testing = true) (hm : x.mode = .split) :
    exec (.coreTestEnd dt h) s = .next (settled ((advance s dt).modHearth h (fun y => { y with
      testing := false, rejoining := some { startedAt := s.clk + dt, test := true, debug := false } }))) := by
  subst hx
  simp only [exec_coreTestEnd, execCoreTestEnd, done, advance_fields, ht, hm, and_self, if_true]

section
variable {u : State} {r : SplitRun} {dg : Vector (BitVec 32) 3} {off : List (Fin 3)}
  (hx : s.hearths[h] = x) (hr : x.rejoining = some r) (hs : x.splitting = none)
  (ho : off = offCores x dg)
include hx hr hs ho

theorem exec_rejoinComplete_of_equal (he : off = [])
    (hu : u = (raise ((advance s dt).modHearth h rejoined) 237 (hearthAddr h 1 0 0)).modHearth h (fun y => { y with
      waitsFor := none, rejoining := none, debugHalted := false })) :
    exec (.rejoinComplete dt h dg) s = .next (settled (replyMode u h x.waitsFor)) := by
  subst hx
  rw [offCores] at ho
  simp only [exec_rejoinComplete, execRejoinComplete, replyMode, done, advance_fields, hr, hs, ← ho, he, ← hu,
    Option.isSome_none, Bool.false_eq_true, if_false, if_true]

theorem exec_rejoinComplete_of_first (hne : off ≠ []) (h2 : r.second = false) :
    exec (.rejoinComplete dt h dg) s = .next (settled ((advance s dt).modHearth h (fun y => { y with
      rejoining := some { r with second := true } }))) := by
  subst hx
  rw [offCores] at ho
  simp only [exec_rejoinComplete, execRejoinComplete, done, advance_fields, hr, hs, ← ho, hne, h2, Option.isSome_none,
    Bool.not_false, Bool.false_eq_true, if_false, if_true]

theorem exec_rejoinComplete_of_one {i : Fin 3} (h1 : off = [i]) (h2 : r.second = true)
    (hu : u = (retireCore ((advance s dt).modHearth h rejoined) h i).modHearth h (fun y => { y with
      waitsFor := none, rejoining := none, debugHalted := false })) :
    exec (.rejoinComplete dt h dg) s = .next (settled (replyMode u h x.waitsFor)) := by
  subst hx
  rw [offCores] at ho
  simp only [exec_rejoinComplete, execRejoinComplete, replyMode, done, advance_fields, hr, hs, ← ho, h1, h2, ← hu,
    Option.isSome_none, Bool.not_true, Bool.false_eq_true, if_false, List.cons_ne_nil]

theorem exec_rejoinComplete_of_more (hm : 2 ≤ off.length) (h2 : r.second = true) :
    exec (.rejoinComplete dt h dg) s = .next (settled (replyAt (raise ((advance s dt).modHearth h (fun y => { y with
      waitsFor := none, rejoining := none, debugHalted := false })) 237 (hearthAddr h 2 0 0)) x.waitsFor
        stEXECFAULT [])) := by
  obtain ⟨i, j, l, hl⟩ : ∃ i j l, off = i :: j :: l := by
    obtain _ | ⟨i, _ | ⟨j, l⟩⟩ := off
    · simp at hm
    · simp at hm
    · exact ⟨i, j, l, rfl⟩
  subst hx
  rw [offCores] at ho
  simp only [exec_rejoinComplete, execRejoinComplete, done, advance_fields, hr, hs, ← ho, hl, h2, Option.isSome_none,
    Bool.not_true, Bool.false_eq_true, if_false, List.cons_ne_nil]

end

/-! ### Debug (16 R444 to R448) -/

theorem exec_debugHalt_of_may {u : State} (hx : s.hearths[h] = x) (hun : s.ports.unlocked = true)
    (hdh : x.debugHalted = false) (hm : x.mode ≠ .halted) (hmay : (h != 0 && !maySplit s h) = false)
    (hu : u = (if h = 0 then forAll four (fun m v => setShutdown v m true) (advance s dt) else advance s dt)) :
    exec (.debugHalt dt h) s = .next (settled (raise (u.modHearth h (fun y =>
        if y.replaySel then { y with debugHalted := true, log := [] }
        else if y.mode = .split then { y with debugHalted := true, debugSplit := true }
        else { y with debugHalted := true, splitting := some { startedAt := s.clk + dt, test := false, debug := true } }))
      238 (hearthAddr h 1 0 0))) := by
  have hclk : u.clk = s.clk + dt := by
    rw [hu]
    split
    · exact forAll_keeps (f := fun m v => setShutdown v m true) State.clk (fun _ _ => rfl) (advance s dt)
    · rfl
  have hmay' : (h != 0 && !maySplit (advance s dt) h) = false := hmay
  subst hx
  simp only [exec_debugHalt, execDebugHalt, done, advance_fields, hun, hdh, beq_eq_false_iff_ne.2 hm, hmay', ← hu, hclk,
    Bool.not_true, Bool.or_self, Bool.false_eq_true, if_false]

section
variable (hx : s.hearths[h] = x) (hun : s.ports.unlocked = true) (hdh : x.debugHalted = true)
include hx hun hdh

/-- A halt in REPLAY ends with equal digests, and goes over to the main path with others. -/
theorem exec_debugResume_of_replay {single : Bool} {dg : Vector (BitVec 32) 3} {agree : Bool}
    (hr : x.rejoining = none) (hin : inReplay x = true)
    (ha : agree = (coresIn x).all (fun i => dg[i] == dg[(0 : Fin 3)])) :
    exec (.debugResume dt h single dg) s = .next (settled (
      if agree then
        if single then (advance s dt).modHearth h (fun y => { y with log := [] })
        else raise ((advance s dt).modHearth h (fun y => { y with debugHalted := false, log := [] })) 238 (hearthAddr h 2 0 0)
      else if single then enterSplit (advance s dt) h true
      else (raise (enterSplit (advance s dt) h true) 238 (hearthAddr h 2 0 0)).modHearth h (fun y => { y with
        rejoining := some { startedAt := s.clk + dt, test := false, debug := true } }))) := by
  subst hx
  simp only [exec_debugResume, execDebugResume, done, advance_fields, hun, hdh, hr, hin, ← ha, raise_fields,
    enterSplit_clk, Option.isSome_none, Bool.not_true, Bool.or_self, Bool.false_eq_true, if_false, if_true]

theorem exec_debugResume_of_main {single : Bool} {dg : Vector (BitVec 32) 3} (hr : x.rejoining = none)
    (hin : inReplay x = false) :
    exec (.debugResume dt h single dg) s = .next (settled (if single then advance s dt
      else (raise (advance s dt) 238 (hearthAddr h 2 0 0)).modHearth h (fun y => { y with
        rejoining := some { startedAt := s.clk + dt, test := false, debug := true } }))) := by
  subst hx
  simp only [exec_debugResume, execDebugResume, done, advance_fields, hun, hdh, hr, hin, raise_fields, Option.isSome_none,
    Bool.not_true, Bool.or_self, Bool.false_eq_true, if_false]

theorem exec_replayWrite_of_shared {a v : BitVec 32} {e : LaneEntry}
    (he : e = { addr := a, data := if a.getLsbD 2 then v.setWidth 64 else v.setWidth 64 <<< 32,
                enables := if a.getLsbD 2 then 0x0F else 0xF0, kind := 2, attr := 0,
                seq := BitVec.ofNat 8 x.txn, parityOk := true }) :
    exec (.replayWrite dt h true a v) s = .next (settled (busStore ((advance s dt).put (.bus h e)) h e)) := by
  subst hx
  simp only [exec_replayWrite, execReplayWrite, done, advance_fields, hun, hdh, ← he, Bool.not_true, Bool.or_self,
    Bool.false_eq_true, if_false, if_true]

theorem exec_replayWrite_of_core {a v : BitVec 32} (hin : inReplay x = true) :
    exec (.replayWrite dt h false a v) s = .next (settled (if s.hearths[h].log.length < 256 then
        (advance s dt).modHearth h (fun y => { y with log := y.log ++ [⟨a, v⟩] })
      else raise (enterSplit ((advance s dt).modHearth h (fun y => { y with log := [] })) h true) 238
        (hearthAddr h 3 0 0))) := by
  subst hx
  simp only [exec_replayWrite, execReplayWrite, done, advance_fields, hun, hdh, hin, Bool.not_true, Bool.or_self,
    Bool.false_eq_true, if_false]

end

theorem exec_dbgAccess_of_unlocked {b : Bool} (hun : s.ports.unlocked = true) (hir : s.ports.ir = .dbgAccess)
    (hdh : s.hearths[h].debugHalted = false) :
    exec (.dbgAccess dt h (some b)) s = .next (settled ((advance s dt).modHearth h (fun y => { y with replaySel := b }))) := by
  simp only [exec_dbgAccess, execDbgAccess, done, advance_fields, hun, hir, hdh, BEq.rfl, Bool.not_false, Bool.and_self,
    if_true]

end

end Sys2Proof.Machine

namespace Sys2Proof.Proofs
open Sys2Proof.Machine

/-- Settles O35, command by command; of each, case by case in the order in which the command asks. -/
theorem votesAndDigests : Obligations.VotesAndDigests := by
  unfold Obligations.VotesAndDigests
  intro s
  refine ⟨?agree, ?transient, ?disagree, ?issue, ?split, ?none, ?lane, ?trivets, ?trivet, ?two, ?equal, ?third, ?second,
    ?first, ?all, ?pair, ?returns, ?retires, ?test⟩
  case agree =>
    rintro u dt h offers misread again bad badAgain _ first hb hv hu rfl hf hd hl hva hta
    rw [exec_transactionVote_of_votes rfl rfl rfl hb hv hu hf hd hl, hva, hta]
    rfl
  case transient =>
    rintro u dt h offers misread again bad badAgain _ first hb hv hu rfl hf hd hl hno hva hta
    rw [exec_transactionVote_of_votes rfl rfl rfl hb hv hu hf hd hl, hno, hva, hta]
    rfl
  case disagree =>
    rintro u dt h offers misread again bad badAgain _ first hb hv hu rfl hf hd hl hno hnoAgain
    rw [exec_transactionVote_of_votes rfl rfl rfl hb hv hu hf hd hl, hno, hnoAgain]
    rfl
  case issue =>
    rintro _ h e rfl
    rfl
  case split => exact fun dt h l bad dg _ hv hd hm => exec_disagreementClassify_of_split rfl hv hd hm
  case none =>
    intro dt h l bad dg _ hv hd hm h3 ho
    rw [exec_disagreementClassify_of_three rfl hv hd hm h3, classifyThree_of_none (s := advance s dt) rfl ho]
    rfl
  case lane =>
    intro u v dt h l bad dg i k both _ hv hd hm h3 ho hk hboth hb hu
    rw [exec_disagreementClassify_of_three rfl hv hd hm h3, classifyThree_of_some (s := advance s dt) rfl ho hk hboth,
      classifyOdd_of_lane hb, hu]
    rfl
  case trivets =>
    rintro u v dt h l bad dg i k both _ hv hd hm h3 ho hk hboth rfl rfl
    rw [exec_disagreementClassify_of_three rfl hv hd hm h3, classifyThree_of_some (s := advance s dt) rfl ho hk hboth]
    rfl
  case trivet =>
    rintro u v dt h l bad dg i k both _ hv hd hm h3 ho hk hboth rfl hb hu
    rw [exec_disagreementClassify_of_three rfl hv hd hm h3, classifyThree_of_some (s := advance s dt) rfl ho hk hboth,
      classifyOdd_of_trivet hb, hu]
    rfl
  case two => exact fun dt h l bad dg i j _ hv hd hm h2 => exec_disagreementClassify_of_two rfl hv hd hm h2
  case equal =>
    intro u dt h dg a b c hb hv hm hr hd ht hc hu hab hac
    rw [exec_digestPoint_of_due rfl hb hv hm hr hd ht hu, compareDigests_of_three hc, compareThree_eq,
      if_pos ⟨hab, hac⟩]
  case third =>
    intro u dt h dg a b c hb hv hm hr hd ht hc hu hab hac
    rw [exec_digestPoint_of_due rfl hb hv hm hr hd ht hu, compareDigests_of_three hc, compareThree_eq,
      if_neg (fun k => hac k.2), if_pos hab]
  case second =>
    intro u dt h dg a b c hb hv hm hr hd ht hc hu hab hac
    rw [exec_digestPoint_of_due rfl hb hv hm hr hd ht hu, compareDigests_of_three hc, compareThree_eq,
      if_neg (fun k => hab k.1), if_neg hab, if_pos hac]
  case first =>
    intro u dt h dg a b c hb hv hm hr hd ht hc hu hab hac hbc
    rw [exec_digestPoint_of_due rfl hb hv hm hr hd ht hu, compareDigests_of_three hc, compareThree_eq,
      if_neg (fun k => hab k.1), if_neg hab, if_neg hac, if_pos hbc]
  case all =>
    intro u dt h dg a b c hb hv hm hr hd ht hc hu hab hac hbc
    rw [exec_digestPoint_of_due rfl hb hv hm hr hd ht hu, compareDigests_of_three hc, compareThree_eq,
      if_neg (fun k => hab k.1), if_neg hab, if_neg hac, if_neg hbc]
  case pair =>
    intro u dt h dg a b hb hv hm hr hd ht hc hu
    rw [exec_digestPoint_of_due rfl hb hv hm hr hd ht hu, compareDigests_of_two hc]
  case returns =>
    intro dt h r dg hr hall
    rw [exec_resyncComplete_of_resync rfl hr, if_pos hall]
  case retires =>
    intro dt h r dg hr hall
    rw [exec_resyncComplete_of_resync rfl hr, hall]
    rfl
  case test => exact fun u dt h pass t hb hv hm ht htr hu => exec_trivetOnlineTest_of_due rfl hb hv hm ht htr hu

/-- Settles O36, command by command. A split that is under way refuses another (log 72). -/
theorem splitAndDebug : Obligations.SplitAndDebug := by
  unfold Obligations.SplitAndDebug
  intro s
  refine ⟨?split, ?refused, ?completes, ?rejoin, ?test, ?equal, ?again, ?one, ?more, ?halt, ?replay, ?main, ?shared,
    ?core, ?access, fun dt h => rfl⟩
  case split =>
    intro dt h tr tag c n mode hst hd hn h1 hmode hs hm hmay
    rw [exec_hearthSplit_of_hearth rfl hst hd hn h1, hm, hmay, hs, if_neg (by decide), if_neg (Nat.not_lt.2 hmode),
      toNat_beq_one]
  case refused =>
    intro dt h tr tag c n mode hst hd hn h1 hno
    rw [exec_hearthSplit_of_hearth rfl hst hd hn h1, if_pos]
    simpa only [Bool.or_eq_true, bne_iff_ne, Bool.not_eq_true', Option.isSome_iff_ne_none, or_assoc] using hno
  case completes =>
    intro dt h r hs hr hd hm hl
    rw [exec_splitComplete_of_empty rfl hs hr hd hm hl, enterSplit, State.modHearth_modHearth]
  case rejoin => exact fun dt h tr tag c n hst hd hn h1 hm hr => exec_hearthRejoin_of_split rfl hst hd hn h1 hm hr
  case test => exact fun dt h ht hm => exec_coreTestEnd_of_testing rfl ht hm
  case equal => exact fun u dt h r dg off hr hs ho he hu => exec_rejoinComplete_of_equal rfl hr hs ho he hu
  case again => exact fun u dt h r dg off hr hs ho hne h2 => exec_rejoinComplete_of_first rfl hr hs ho hne h2
  case one => exact fun u dt h r dg off i hr hs ho h1 h2 hu => exec_rejoinComplete_of_one rfl hr hs ho h1 h2 hu
  case more => exact fun u dt h r dg off hr hs ho hm h2 => exec_rejoinComplete_of_more rfl hr hs ho hm h2
  case halt =>
    intro u dt h hun hdh hm hmay hu
    refine exec_debugHalt_of_may rfl hun hdh hm ?_ hu
    obtain rfl | hsplit := hmay
    · rfl
    · rw [hsplit, Bool.not_true, Bool.and_false]
  case replay =>
    intro dt h single dg agree hun hdh hr hin ha
    rw [exec_debugResume_of_replay rfl hun hdh hr hin ha]
    cases agree <;> cases single <;> simp
  case main => exact fun dt h single dg agree hun hdh hr hin => exec_debugResume_of_main rfl hun hdh hr hin
  case shared => exact fun dt h a v e hun hdh he => exec_replayWrite_of_shared rfl hun hdh he
  case core => exact fun dt h a v hun hdh hin => exec_replayWrite_of_core rfl hun hdh hin
  case access => exact fun dt h b hun hir hdh => exec_dbgAccess_of_unlocked hun hir hdh

end Sys2Proof.Proofs

/-! Proofs about the memories (22_memory_journal): the ring of the journal, scrubbing and the patrol, uncorrectable
reads, and the trace recorder with its opcodes. -/
namespace Sys2Proof.Machine
open Sys2Proof.Safety

/-- The data of a command without parameters. -/
theorem length_of_nil {c : Cmd} (h : c.data = []) : c.data.length = 0 := by rw [h]; rfl

/-! ### The write of journal entries (22 R565, R566) -/

/-- With no loss to report the oldest queued entry is written, and lost when its write ends in error. -/
theorem exec_journalWrite_of_queue {s u : State} {dt : Nat} {e : JournalItem} {rest : List JournalItem} {bad : Bool}
    (hl : s.journal.lostPending = 0) (hq : s.journal.queue = e :: rest)
    (hu : u = (advance s dt).modJournal (fun j => { j with queue := rest })) :
    exec (.journalWrite dt bad) s = .next (settled (if (ringPut u e bad).2 then (ringPut u e bad).1
      else entryLost (ringPut u e bad).1)) := by
  simp only [exec_journalWrite, execJournalWrite, writeOne, done, advance_fields, hl, hq, ← hu, Nat.lt_irrefl, if_false]

/-- After a loss the entry that reports the lost ones is written first. -/
theorem exec_journalWrite_of_lost {s : State} {dt : Nat} {e : JournalItem} {bad : Bool}
    (hl : 0 < s.journal.lostPending)
    (he : e = ⟨8, 0, (advance s dt).tb.now, beBytes 4 s.journal.lostPending ++ List.replicate 8 0⟩) :
    exec (.journalWrite dt bad) s = .next (settled (if (ringPut (advance s dt) e bad).2 then
      (ringPut (advance s dt) e bad).1.modJournal (fun j => { j with
        lostPending := j.lostPending - s.journal.lostPending })
      else (ringPut (advance s dt) e bad).1)) := by
  simp only [exec_journalWrite, execJournalWrite, writeOne, done, advance_fields, hl, he, if_true]

/-- A good write of an entry: its bytes in the ring, its words no longer poisoned, the next SEQ. -/
theorem ringPut_of_good (s : State) (e : JournalItem) :
    ringPut s e false = ((s.modMem (fun m => { m with
      mram := cellsPut m.mram (ringAddr s.journal.nextSeq.toNat) (entryBytes s.journal.nextSeq e),
      poisoned := m.poisoned.filter (fun w => !(decide (ringAddr s.journal.nextSeq.toNat ≤ w + 7) &&
        decide (w < ringAddr s.journal.nextSeq.toNat + (entryBytes s.journal.nextSeq e).length))) })).modJournal
          (fun j => { j with nextSeq := j.nextSeq + 1, held := Nat.min 524288 (j.held + 1) }), true) := rfl

/-! ### The entry that is read back (22 R565, 23 R590) -/

/-- What consecutive bytes read as, byte by byte. -/
theorem cellsGet_eq_of_cellGet {l : List Host.Cell} {bs : List Byte} {a : Nat}
    (h : ∀ i, i < bs.length → cellGet l (a + i) = bs.getD i 0) : cellsGet l a bs.length = bs := by
  induction bs generalizing a with
  | nil => rfl
  | cons b bs ih =>
    have hhead : cellGet l a = b := h 0 (Nat.succ_pos _)
    have htail : cellsGet l (a + 1) bs.length = bs := ih fun i hi => by
      rw [Nat.add_assoc, Nat.add_comm 1 i]
      exact h (i + 1) (Nat.succ_lt_succ hi)
    rw [List.length_cons, cellsGet, hhead, htail]

/-- Bytes that read the same one by one read the same together. -/
theorem cellsGet_congr {l m : List Host.Cell} {a k : Nat}
    (h : ∀ i, i < k → cellGet l (a + i) = cellGet m (a + i)) : cellsGet l a k = cellsGet m a k := by
  induction k generalizing a with
  | zero => rfl
  | succ k ih =>
    have htail : cellsGet l (a + 1) k = cellsGet m (a + 1) k := ih fun i hi => by
      rw [Nat.add_assoc, Nat.add_comm 1 i]
      exact h (i + 1) (Nat.succ_lt_succ hi)
    rw [cellsGet, cellsGet, htail, show cellGet l a = cellGet m a from h 0 (Nat.succ_pos _)]

/-- Bytes that were written are read back. -/
theorem cellsGet_cellsPut_same {l : List Host.Cell} (h : cellsWf l = true) (a : Nat) (bs : List Byte) :
    cellsGet (cellsPut l a bs) a bs.length = bs :=
  cellsGet_eq_of_cellGet fun i hi => by
    rw [cellGet_cellsPut bs h, if_pos ⟨Nat.le_add_right a i, Nat.add_lt_add_left hi a⟩, Nat.add_sub_cancel_left]

/-- Bytes apart from those written read as before. -/
theorem cellsGet_cellsPut_apart {l : List Host.Cell} (h : cellsWf l = true) {a b k : Nat} {bs : List Byte}
    (hd : b + k ≤ a ∨ a + bs.length ≤ b) : cellsGet (cellsPut l a bs) b k = cellsGet l b k :=
  cellsGet_congr fun i hi => by rw [cellGet_cellsPut bs h, if_neg (by omega)]

/-- The bytes of an entry before its CRC. -/
def entryHead (seq : BitVec 32) (e : JournalItem) : List Byte :=
  beBytes 4 seq.toNat ++ beBytes 7 e.stamp.toNat ++ beBytes 1 e.kind.toNat ++ beBytes 2 e.code.toNat ++ [0, 0]
    ++ (e.data ++ List.replicate 12 0).take 12

theorem entryBytes_eq (seq : BitVec 32) (e : JournalItem) :
    entryBytes seq e = entryHead seq e ++ beBytes 4 (crc32c (entryHead seq e)).toNat := rfl

theorem length_entryHead (seq : BitVec 32) (e : JournalItem) : (entryHead seq e).length = 28 := by
  simp [entryHead]

theorem length_entryBytes (seq : BitVec 32) (e : JournalItem) : (entryBytes seq e).length = 32 := by
  rw [entryBytes_eq, List.length_append, length_entryHead, length_beBytes]

/-- The CRC of an entry is that of the bytes before it. -/
theorem crc_entryBytes (seq : BitVec 32) (e : JournalItem) :
    beBytes 4 (crc32c ((entryBytes seq e).take 28)).toNat = (entryBytes seq e).drop 28 := by
  have hlen := length_entryHead seq e
  rw [entryBytes_eq, List.take_left' hlen, List.drop_left' hlen]

/-- Entries of different places of the ring lie apart. -/
theorem ringAddr_apart {p q : Nat} (h : q % 524288 ≠ p % 524288) :
    ringAddr q + 32 ≤ ringAddr p ∨ ringAddr p + 32 ≤ ringAddr q := by
  unfold ringAddr
  omega

theorem mram_ringPut (s : State) (e : JournalItem) : (ringPut s e false).1.mem.mram =
    cellsPut s.mem.mram (ringAddr s.journal.nextSeq.toNat) (entryBytes s.journal.nextSeq e) := by
  rw [ringPut_of_good]
  simp only [State.modJournal_fields, State.modMem_fields]

/-- After a good write the entry stands in the ring. -/
theorem cellsGet_ringPut {s : State} (h : Memory.wf s.mem = true) (e : JournalItem) :
    cellsGet (ringPut s e false).1.mem.mram (ringAddr s.journal.nextSeq.toNat) 32 = entryBytes s.journal.nextSeq e := by
  have hwf : cellsWf s.mem.mram = true := (Bool.and_eq_true _ _ ▸ h).2
  have hsame := cellsGet_cellsPut_same hwf (ringAddr s.journal.nextSeq.toNat) (entryBytes s.journal.nextSeq e)
  rw [length_entryBytes] at hsame
  rw [mram_ringPut, hsame]

/-- After a good write no word of the entry is poisoned. -/
theorem poisoned_ringPut (s : State) (e : JournalItem) :
    (ringPut s e false).1.mem.poisoned.any (fun w => decide (ringAddr s.journal.nextSeq.toNat ≤ w + 7) &&
      decide (w < ringAddr s.journal.nextSeq.toNat + 32)) = false := by
  simp only [ringPut_of_good, State.modJournal_fields, State.modMem_fields, length_entryBytes, List.any_filter,
    Bool.not_and_self, List.any_eq_false]
  simp

/-- An entry just written is not DAMAGED and reads back whole. -/
theorem readEntry_ringPut {s : State} (h : Memory.wf s.mem = true) (e : JournalItem) :
    readEntry (ringPut s e false).1 s.journal.nextSeq.toNat = 0 :: entryBytes s.journal.nextSeq e := by
  have hgood : entryDamaged (ringPut s e false).1 s.journal.nextSeq.toNat = false := by
    simp only [entryDamaged, cellsGet_ringPut h, poisoned_ringPut, crc_entryBytes, bne_self_eq_false, Bool.or_self]
  rw [readEntry, hgood, cellsGet_ringPut h]
  rfl

/-- A good write leaves the other places of the ring. -/
theorem cellsGet_ringPut_of_ne {s : State} (h : Memory.wf s.mem = true) (e : JournalItem) {q : Nat}
    (hq : q % 524288 ≠ s.journal.nextSeq.toNat % 524288) :
    cellsGet (ringPut s e false).1.mem.mram (ringAddr q) 32 = cellsGet s.mem.mram (ringAddr q) 32 := by
  have hwf : cellsWf s.mem.mram = true := (Bool.and_eq_true _ _ ▸ h).2
  rw [mram_ringPut]
  refine cellsGet_cellsPut_apart hwf ?_
  rw [length_entryBytes]
  exact ringAddr_apart hq

/-! ### JOURNAL_READ (23 R590) -/

/-- The start of a command leaves the journal and the memories. -/
theorem begun_journal (s : State) (tr : Transport) (tag : BitVec 16) : (begun s tr tag).journal = s.journal := rfl

theorem begun_mem (s : State) (tr : Transport) (tag : BitVec 16) : (begun s tr tag).mem = s.mem := rfl

theorem readEntry_begun (s : State) (tr : Transport) (tag : BitVec 16) (q : Nat) :
    readEntry (begun s tr tag) q = readEntry s q := by
  unfold readEntry entryDamaged
  rw [begun_mem]

/-- The reply to a JOURNAL_READ: the SEQ after the last entry, then the entries of a span. -/
def entriesOf (s : State) (span : Nat × Nat) : List Byte :=
  beBytes 4 ((span.1 + span.2) % 2 ^ 32) ++
    (List.range span.2).flatMap (fun i => readEntry s ((span.1 + i) % 2 ^ 32))

/-- Entries from a SEQ to the newest. -/
def entriesBack (s : State) (first : Nat) : Nat := (s.journal.nextSeq.toNat + 2 ^ 32 - first) % 2 ^ 32

/-- The entries that a JOURNAL_READ returns: the first and how many. -/
def journalSpan (s : State) (first n : Nat) : Nat × Nat :=
  if entriesBack s first ≤ s.journal.held then (first, Nat.min n (entriesBack s first))
  else if entriesBack s first ≤ 2 ^ 31 then (oldestSeq s, Nat.min n s.journal.held)
  else (first, 0)

theorem oldestSeq_begun (s : State) (tr : Transport) (tag : BitVec 16) : oldestSeq (begun s tr tag) = oldestSeq s := by
  unfold oldestSeq
  rw [begun_journal]

theorem journalSpan_begun (s : State) (tr : Transport) (tag : BitVec 16) (first n : Nat) :
    journalSpan (begun s tr tag) first n = journalSpan s first n := by
  unfold journalSpan entriesBack
  rw [begun_journal, oldestSeq_begun]

theorem entriesOf_begun (s : State) (tr : Transport) (tag : BitVec 16) (span : Nat × Nat) :
    entriesOf (begun s tr tag) span = entriesOf s span := by
  unfold entriesOf
  simp only [readEntry_begun]

/-- JOURNAL_READ answers the entries of its span. -/
theorem exec_journalRead_of_span {s : State} {tr : Transport} {tag : BitVec 16} {c : Cmd} {first n start k : Nat}
    (h : Starts s tr tag 0x0603 c) (hlen : c.data.length = 5) (hf : beNat (c.data.take 4) = first)
    (hn : beNat (c.data.drop 4) = n) (h1 : 1 ≤ n) (h30 : n ≤ 30) (hspan : journalSpan s first n = (start, k)) :
    exec (.journalRead tr tag) s = .next (settled (reply (begun s tr tag) c stOK (entriesOf s (start, k)))) := by
  subst hf hn
  have hrange : ¬ (beNat (c.data.drop 4) < 1 ∨ 30 < beNat (c.data.drop 4)) := by omega
  rw [exec_journalRead, execJournalRead, onCmd_starts h, needLen_of_length hlen, if_neg hrange]
  extract_lets held next back
  have hread : (if back ≤ held then (beNat (c.data.take 4), Nat.min (beNat (c.data.drop 4)) back)
      else if back ≤ 2 ^ 31 then (oldestSeq (begun s tr tag), Nat.min (beNat (c.data.drop 4)) held)
      else (beNat (c.data.take 4), 0)) = (start, k) := by
    rw [← hspan, ← journalSpan_begun s tr tag]
    rfl
  rw [hread, ← entriesOf_begun s tr tag]
  rfl

/-- From a SEQ that is held the span begins there. -/
theorem journalSpan_of_held {s : State} {first n back : Nat} (hb : back = entriesBack s first)
    (h : back ≤ s.journal.held) : journalSpan s first n = (first, Nat.min n back) := by
  subst hb
  rw [journalSpan, if_pos h]

/-- From an older SEQ it begins with the oldest entry held; from one that is to come it is empty. -/
theorem journalSpan_of_not_held {s : State} {first n back : Nat} (hb : back = entriesBack s first)
    (h : s.journal.held < back) :
    journalSpan s first n = if back ≤ 2 ^ 31 then (oldestSeq s, Nat.min n s.journal.held) else (first, 0) := by
  subst hb
  rw [journalSpan, if_neg (Nat.not_le.2 h)]

/-- An empty span is answered by its SEQ alone. -/
theorem entriesOf_empty (s : State) (first : Nat) : entriesOf s (first, 0) = beBytes 4 (first % 2 ^ 32) := by
  rw [entriesOf, List.range_zero, List.flatMap_nil, List.append_nil, Nat.add_zero]

/-! ### The scrubber and uncorrectable reads (22 R557, R562) -/

/-- A row of a scrub pass without a corrected word is unmarked. -/
theorem exec_sramScrub_of_clean (s : State) (dt : Nat) (row : Fin 16384) :
    exec (.sramScrub dt row 0) s = .next (settled ((advance s dt).modMem (fun m => { m with
      rowMarks := m.rowMarks.filter (· != row.val) }))) := rfl

theorem memCount_rowMarks (s : State) (k n : Nat) : (memCount s k n).mem.rowMarks = s.mem.rowMarks := by
  unfold memCount
  split <;> simp

/-- A row with corrected words is marked, and spared when it was marked at the pass before. -/
theorem exec_sramScrub_of_corrected {s u : State} {dt n : Nat} (row : Fin 16384) (hn : n ≠ 0)
    (hu : u = memCount (advance s dt) 0 n) :
    exec (.sramScrub dt row n) s = .next (settled (if row.val ∈ s.mem.rowMarks then
      spareSramRow (u.modMem (fun m => { m with rowMarks := m.rowMarks.filter (· != row.val) }))
      else u.modMem (fun m => { m with rowMarks := row.val :: m.rowMarks }))) := by
  have hmarks : u.mem.rowMarks = s.mem.rowMarks := by rw [hu, memCount_rowMarks]; rfl
  simp only [exec_sramScrub, execSramScrub, done, hn, if_false, ← hu, hmarks]

/-- The words that a lasting uncorrectable read loses are marked. -/
def poison (s : State) (w : Nat) : State :=
  s.modMem (fun m => { m with poisoned := if w ∈ m.poisoned then m.poisoned else m.poisoned ++ [w] })

/-- A lasting uncorrectable read of SRAM is raised, counted, its row spared and its word lost. -/
theorem exec_uncorrectableRead_of_sram {s u v : State} {dt a : Nat} {h : Fin 4} (k : Nat) (entry : Bool)
    (hu : u = memCount (raiseBy (advance s dt) (hearthMaster (advance s dt) h) 249 a 2 .lasting) 1 1)
    (hv : v = poison (spareSramRow u) (a / 4 * 4)) :
    exec (.uncorrectableRead dt true a true h k entry) s = .next (settled (lostWord v true a h k entry)) := by
  simp only [exec_uncorrectableRead, execUncorrectableRead, done, if_true, ← hu, hv, poison]

/-- A lasting uncorrectable read of MRAM is raised, counted, its row spared and its word lost. -/
theorem exec_uncorrectableRead_of_mram {s u v : State} {dt a : Nat} (h : Fin 4) (k : Nat) (entry : Bool)
    (hu : u = (spareMramRow (memCount (raiseOp (advance s dt) 250 a 2 .lasting) 3 1) (dieOf a)).1)
    (hv : v = poison u (a / 8 * 8)) :
    exec (.uncorrectableRead dt false a true h k entry) s = .next (settled (lostWord v false a h k entry)) := by
  simp only [exec_uncorrectableRead, execUncorrectableRead, done, if_true, if_false, Bool.false_eq_true, ← hu, hv,
    poison]

/-- An uncorrectable read that is not lasting is raised and counted. -/
theorem exec_uncorrectableRead_of_sram_once (s : State) (dt a : Nat) (h : Fin 4) (k : Nat) (entry : Bool) :
    exec (.uncorrectableRead dt true a false h k entry) s = .next (settled (memCount
      (raiseBy (advance s dt) (hearthMaster (advance s dt) h) 249 a 2 .transient) 1 1)) := by
  simp only [exec_uncorrectableRead, execUncorrectableRead, done, if_true, if_false, Bool.false_eq_true]

theorem exec_uncorrectableRead_of_mram_once (s : State) (dt a : Nat) (h : Fin 4) (k : Nat) (entry : Bool) :
    exec (.uncorrectableRead dt false a false h k entry) s = .next (settled (memCount
      (raiseOp (advance s dt) 250 a 2 .transient) 3 1)) := by
  simp only [exec_uncorrectableRead, execUncorrectableRead, done, if_false, Bool.false_eq_true]

section
variable (v : State) {a : Nat} (h : Fin 4) (k : Nat) (entry : Bool)

theorem lostWord_of_code (ha : a < 0x00C00000) : lostWord v true a h k entry = haltHearth v h 3 0 := by
  simp only [lostWord, ha, if_true]

theorem lostWord_of_group (ha : 0x00C00000 ≤ a) (hb : a < 0x00E00000) :
    lostWord v true a h k entry = (match v.porter.groups[k]? with
      | some g => replyAt (v.modPorter (fun p => { p with groups := p.groups.eraseIdx k })) g.cmd stEXECFAULT []
      | none => v) := by
  simp only [lostWord, Nat.not_lt.2 ha, hb, if_true, if_false] <;> rfl

theorem lostWord_of_sample (ha : 0x00E00000 ≤ a) (hb : a < 0x00F00000) :
    lostWord v true a h k entry = v.modTrace (fun t => { t with
      damaged := true, staging := t.staging.modify k (fun l => l.map (fun _ => 0x80000000)) }) := by
  have hc : ¬ a < 0x00C00000 := by omega
  simp only [lostWord, hc, Nat.not_lt.2 ha, hb, if_true, if_false]

theorem lostWord_of_entry (ha : 0x00F00000 ≤ a) :
    lostWord v true a h k true = (if k < v.journal.queue.length then
      entryLost (v.modJournal (fun j => { j with queue := j.queue.eraseIdx k })) else v) := by
  have hc : ¬ a < 0x00C00000 := by omega
  have hd : ¬ a < 0x00E00000 := by omega
  simp only [lostWord, hc, hd, Nat.not_lt.2 ha, if_true, if_false]

theorem lostWord_of_packet (ha : 0x00F00000 ≤ a) :
    lostWord v true a h k false = (if k < v.porter.ready.length then
      v.modPorter (fun p => { p with ready := p.ready.eraseIdx k })
      else match v.porter.replies[k - v.porter.ready.length]? with
        | some r => sentReply v r
        | none => v) := by
  have hc : ¬ a < 0x00C00000 := by omega
  have hd : ¬ a < 0x00E00000 := by omega
  simp only [lostWord, hc, hd, Nat.not_lt.2 ha, if_true, if_false, Bool.false_eq_true] <;> rfl
end

/-- A word of MRAM by its area. -/
theorem lostWord_of_mram (v : State) (a : Nat) (h : Fin 4) (k : Nat) (entry : Bool) :
    lostWord v false a h k entry = (
      if a < 0x10800000 then v.modStore (fun x => { x with imageA := { x.imageA with sigOk := false } })
      else if a < 0x10900000 then v.modStore (fun x => { x with copy0 := { x.copy0 with crcOk := false } })
      else if a < 0x10910000 then v.modStore (fun x => { x with boot0 := { x.boot0 with crcOk := false } })
      else if a < 0x12000000 then v
      else if a < 0x14000000 then v.modTrace (fun t => { t with
          records := t.records.modify k (fun r => { r with damaged := true }) })
      else if a < 0x14800000 then v.modStore (fun x => { x with imageB := { x.imageB with sigOk := false } })
      else if a < 0x14900000 then v.modStore (fun x => { x with copy1 := { x.copy1 with crcOk := false } })
      else if a < 0x14910000 then v.modStore (fun x => { x with boot1 := { x.boot1 with crcOk := false } })
      else v.modTrace (fun t => { t with records := t.records.modify k (fun r => { r with damaged := true }) })) := by
  unfold lostWord
  exact if_neg Bool.false_ne_true

/-! ### The trace recorder (22 R568 to R570) -/

/-- A condition that holds at this tick triggers. -/
theorem exec_traceTriggerCondition_of_met {s : State} {dt : Nat} {x : TraceCause}
    (h : conditionMet (advance s dt) x = true) :
    exec (.traceTriggerCondition dt x) s = .next (settled (traceTrigger (advance s dt) x)) := by
  simp only [exec_traceTriggerCondition, execTraceTriggerCondition, done, h, if_true]

theorem conditionMet_source {s : State} {n : Fin 256} (hb : bit (s.p0 0x0720 (21 + n.val / 64)) (n.val % 64) = true)
    (hr : raisedNow s n.val ≠ none) : conditionMet s (.source n) = true := by
  rw [conditionMet, hb, Option.isSome_iff_ne_none.2 hr]
  rfl

theorem conditionMet_level {s : State} (hx : s.trace.crossed = true) (hc : s.p0 0x0720 25 % 16 ∈ traceChannels s) :
    conditionMet s .level = true := by
  rw [conditionMet, hx, List.contains_iff_mem.2 hc]
  rfl

theorem conditionMet_lat {s : State} {k : Fin 8} (hk : s.p0 0x0720 27 = k.val)
    (he : s.lats[k].edgeAt = some s.clk) : conditionMet s .lat = true := by
  have hedge : s.lats[k.val].edgeAt = some s.clk := he
  simp [conditionMet, hk, finOf_val, hedge]

/-- The first trigger begins the share after it. -/
theorem traceTrigger_of_pre {s : State} (h : s.trace.phase = .pre) (x : TraceCause) :
    traceTrigger s x = s.modTrace (fun t => { t with
      phase := .post, trigger := some (s.tb.now, x, x.protects), postLeft := traceCapacity s - tracePre s }) := by
  simp only [traceTrigger, h]

/-- A later trigger joins one of its own tick and is counted otherwise. -/
theorem traceTrigger_of_later {s : State} {x y : TraceCause} {at' : Stamp} {prot : Bool}
    (h : s.trace.phase = .post ∨ s.trace.phase = .copy) (ht : s.trace.trigger = some (at', y, prot)) :
    traceTrigger s x = (if at' = s.tb.now then
      s.modTrace (fun t => { t with trigger := some (at', if x.rank < y.rank then x else y, prot || x.protects) })
      else raise (s.modTrace (fun t => { t with later := t.later + 1 })) 254 1) := by
  obtain h | h := h <;> simp only [traceTrigger, h, ht]

/-- A capture whose share after the trigger is full is copied. -/
theorem exec_traceRecordCopy_of_full {s : State} (dt : Nat) (hp : s.trace.phase = .post) (hl : s.trace.postLeft = 0) :
    exec (.traceRecordCopy dt) s = .next (settled ((advance s dt).modTrace (fun t => { t with phase := .copy }))) := by
  simp only [exec_traceRecordCopy, execTraceRecordCopy, done, advance_fields, hp, hl, and_self, if_true]

theorem spareMramRow_of_spare {s : State} {die : Fin 2} (h : 0 < s.mem.spareMram[die]) :
    (spareMramRow s die).2 = true := by
  rw [spareMramRow, if_pos h]

theorem spareMramRow_of_none {s : State} {die : Fin 2} (h : s.mem.spareMram[die] = 0) :
    (spareMramRow s die).2 = false := by
  rw [spareMramRow, if_neg (Nat.not_lt.2 (Nat.le_of_eq h))]

/-- The record that a copy stores. -/
def traceRecordOf (u : State) (at' : Stamp) (cause : TraceCause) (prot : Bool) : TraceRec :=
  { number := u.trace.nextNumber, stamp := at', cause := cause, channels := traceChannels u, isProtected := prot
    damaged := u.trace.damaged, laterTriggers := u.trace.later, data := u.trace.staging.flatten }

section
variable {s u : State} {dt : Nat} {at' : Stamp} {cause : TraceCause} {prot bad : Bool} {r : TraceRec}
  (hp : s.trace.phase = .copy) (ht : s.trace.trigger = some (at', cause, prot))
include hp ht

/-- The end of a copy stores the record, raises 15.14, notes it in the journal and arms again. -/
theorem exec_traceCopyComplete_of_good (hspare : bad = true → 0 < s.mem.spareMram[0])
    (hu : u = (if bad then (spareMramRow (advance s dt) 0).1 else advance s dt)) (hr : r = traceRecordOf u at' cause prot) :
    exec (.traceCopyComplete dt bad) s = .next (settled (traceArm (journal
      (raise (storeRecord (u.modTrace (fun t => { t with nextNumber := t.nextNumber + 1 })) r) 254 0) 9 0
      (beBytes 2 r.number.toNat ++ beBytes 1 cause.code.toNat ++ beBytes 1 (flag prot 0 + flag r.damaged 1) ++
        beBytes 4 r.len ++ List.replicate 4 0)))) := by
  subst hu hr
  cases bad with
  | false =>
    simp only [exec_traceCopyComplete, execTraceCopyComplete, done, advance_fields, hp, ht, ne_eq, not_true_eq_false,
      if_false, Bool.false_eq_true, Bool.not_true, traceRecordOf]
  | true =>
    have hok : (spareMramRow (advance s dt) 0).2 = true := spareMramRow_of_spare (s := advance s dt) (hspare rfl)
    simp only [exec_traceCopyComplete, execTraceCopyComplete, done, advance_fields, hp, ht, ne_eq, not_true_eq_false,
      if_false, if_true, hok, Bool.false_eq_true, Bool.not_true, traceRecordOf]

/-- Without a spare row a bad write loses the record. -/
theorem exec_traceCopyComplete_of_bad (hspare : s.mem.spareMram[0] = 0) :
    exec (.traceCopyComplete dt true) s = .next (settled (traceArm (spareMramRow (advance s dt) 0).1)) := by
  have hok : (spareMramRow (advance s dt) 0).2 = false := spareMramRow_of_none (s := advance s dt) hspare
  simp only [exec_traceCopyComplete, execTraceCopyComplete, done, advance_fields, hp, ht, ne_eq, not_true_eq_false,
    if_false, if_true, hok, Bool.not_false]
end

/-! ### The opcodes of the trace recorder (23 R598) -/

section
variable {s : State} {tr : Transport} {tag : BitVec 16} {c : Cmd}

/-- TRACE_TRIGGER triggers, and is refused unless the recorder was armed. -/
theorem exec_traceTrigger_of_starts (h : Starts s tr tag 0x0B00 c) (hd : c.data = []) :
    exec (.traceTrigger tr tag) s = .next (settled (reply (traceTrigger (begun s tr tag) .opcode) c
      (if s.trace.phase = .pre then stOK else stREFUSED) [])) := by
  rw [exec_traceTrigger, execTraceTrigger, onCmd_starts h, needLen_of_length (length_of_nil hd)]
  by_cases hp : s.trace.phase = .pre
  · rw [if_pos hp, if_pos (show (begun s tr tag).trace.phase = .pre from hp)]; rfl
  · rw [if_neg hp, if_neg (show ¬ (begun s tr tag).trace.phase = .pre from hp)]; rfl

/-- TRACE_LIST answers the newest records. -/
theorem exec_traceList_of_starts {l : List TraceRec} (h : Starts s tr tag 0x0B01 c) (hd : c.data = [])
    (hl : l = listed s) :
    exec (.traceList tr tag) s = .next (settled (reply (begun s tr tag) c stOK (beBytes 1 l.length ++
      l.flatMap (fun r => beBytes 2 r.number.toNat ++ beBytes 8 r.stamp.toNat ++ beBytes 1 r.cause.code.toNat
        ++ beBytes 1 (flag r.isProtected 0 + flag r.damaged 1) ++ beBytes 4 r.len)))) := by
  rw [exec_traceList, execTraceList, onCmd_starts h, needLen_of_length (length_of_nil hd), hl]
  rfl

/-- TRACE_READ answers the bytes asked for. -/
theorem exec_traceRead_of_starts {r : TraceRec} {off n : Nat} (h : Starts s tr tag 0x0B02 c) (hlen : c.data.length = 8)
    (hr : s.trace.records.find? (fun x => x.number.toNat == beNat (c.data.take 2)) = some r)
    (ho : beNat ((c.data.drop 2).take 4) = off) (hn : beNat (c.data.drop 6) = n) (h1 : 1 ≤ n) (h1000 : n ≤ 1000)
    (hin : off + n ≤ r.len) :
    exec (.traceRead tr tag) s = .next (settled (reply (begun s tr tag) c stOK ((r.bytes.drop off).take n))) := by
  have hrange : ¬ (n < 1 ∨ 1000 < n) := by omega
  have hrec : (begun s tr tag).trace.records.find? (fun x => x.number.toNat == beNat (c.data.take 2)) = some r := hr
  simp only [exec_traceRead, execTraceRead, onCmd_starts h, needLen_of_length hlen, done, hrec, ho, hn, hrange,
    Nat.not_lt.2 hin, if_false]

section
variable {r : TraceRec} {num : Nat} (h : Starts s tr tag 0x0B03 c) (hlen : c.data.length = 3)
  (hnum : beNat (c.data.take 2) = num) (hr : s.trace.records.find? (fun x => x.number.toNat == num) = some r)
include h hlen hnum hr

/-- TRACE_PROTECT with 0 unprotects a record whose cause lets it. -/
theorem exec_traceProtect_of_unprotect (hp : beNat (c.data.drop 2) = 0) (hc : r.cause.protects = false) :
    exec (.traceProtect tr tag) s = .next (settled (reply ((begun s tr tag).modTrace (fun t => { t with
      records := t.records.map (fun x => if x.number = r.number then { x with isProtected := false }
        else x) })) c stOK [])) := by
  have hrec : (begun s tr tag).trace.records.find? (fun x => x.number.toNat == num) = some r := hr
  simp only [exec_traceProtect, execTraceProtect, onCmd_starts h, needLen_of_length hlen, done, hnum, hrec, hp, hc,
    Nat.not_lt_zero, Bool.false_eq_true, and_false, if_false, Nat.zero_ne_one, false_and, raiseIf]
  rfl

/-- TRACE_PROTECT with 0 is refused for a record that its cause protects. -/
theorem exec_traceProtect_of_refused (hp : beNat (c.data.drop 2) = 0) (hc : r.cause.protects = true) :
    exec (.traceProtect tr tag) s = .next (settled (reply (begun s tr tag) c stREFUSED [])) := by
  have hrec : (begun s tr tag).trace.records.find? (fun x => x.number.toNat == num) = some r := hr
  simp only [exec_traceProtect, execTraceProtect, onCmd_starts h, needLen_of_length hlen, done, hnum, hrec, hp, hc,
    Nat.not_lt_zero, and_self, if_false, if_true]

/-- TRACE_PROTECT with 1 protects a record, over the oldest protected ones when there are too many. -/
theorem exec_traceProtect_of_protect {l : List TraceRec × Bool} (hp : beNat (c.data.drop 2) = 1)
    (hl : l = (if r.isProtected then (s.trace.records, false) else freeProtected r.len 81 s.trace.records)) :
    exec (.traceProtect tr tag) s = .next (settled (reply (raiseIf l.2 ((begun s tr tag).modTrace (fun t => { t with
      records := l.1.map (fun x => if x.number = r.number then { x with isProtected := true } else x) })) 254 2)
        c stOK [])) := by
  have hrec : (begun s tr tag).trace.records.find? (fun x => x.number.toNat == num) = some r := hr
  subst hl
  cases hprot : r.isProtected <;>
    simp only [exec_traceProtect, execTraceProtect, onCmd_starts h, needLen_of_length hlen, done, hnum, hrec, hp,
      hprot, Nat.lt_irrefl, Nat.one_ne_zero, false_and, if_false, Bool.not_false, Bool.not_true, and_self, if_true,
      Bool.false_eq_true, and_false] <;> rfl
end
end
end Sys2Proof.Machine

namespace Sys2Proof.Proofs
open Sys2Proof.Machine Sys2Proof.Safety

/-- Settles O32: each lasting read goes through `lostWord` by its area, JOURNAL_READ through the distance of its SEQ from
the newest. That a write in error loses its entry (log 65) and cause 3 of the halt (log 72) are the model's choices. -/
theorem journalAndErrors : Obligations.JournalAndErrors := by
  unfold Obligations.JournalAndErrors
  intro s
  refine ⟨?write, ?report, ?put, ?held, ?notHeld, ?clean, ?scrub, ?patrol, ?sramOnce, ?mramOnce, ?code, ?group,
    ?sample, ?entry, ?packet, ?mram⟩
  case write => exact fun dt e rest bad u hl hq hu => exec_journalWrite_of_queue hl hq hu
  case report => exact fun dt e bad hl he => exec_journalWrite_of_lost hl he
  case put => exact ringPut_of_good s
  case held =>
    intro tr tag c first n back h hlen hf hn h1 h30 hb hheld
    exact exec_journalRead_of_span h hlen hf hn h1 h30 (journalSpan_of_held hb hheld)
  case notHeld =>
    intro tr tag c first n back h hlen hf hn h1 h30 hb hheld
    have hspan := journalSpan_of_not_held (n := n) hb hheld
    by_cases hold : back ≤ 2 ^ 31
    · rw [if_pos hold] at hspan ⊢
      exact exec_journalRead_of_span h hlen hf hn h1 h30 hspan
    · rw [if_neg hold] at hspan ⊢
      rw [exec_journalRead_of_span h hlen hf hn h1 h30 hspan, entriesOf_empty]
  case clean => exact exec_sramScrub_of_clean s
  case scrub => exact fun dt row n u hn hu => exec_sramScrub_of_corrected row hn hu
  case patrol => exact fun dt n => exec_mramPatrol dt n s
  case sramOnce => exact fun dt a k h entry => exec_uncorrectableRead_of_sram_once s dt a h k entry
  case mramOnce => exact fun dt a k h entry => exec_uncorrectableRead_of_mram_once s dt a h k entry
  case code =>
    intro u v dt a k h entry hu hv ha
    rw [exec_uncorrectableRead_of_sram k entry hu hv, lostWord_of_code v h k entry ha]
  case group =>
    intro u v dt a k h entry hu hv ha hb
    exact (exec_uncorrectableRead_of_sram k entry hu hv).trans
      (congrArg (fun t => Host.Outcome.next (settled t)) (lostWord_of_group v h k entry ha hb))
  case sample =>
    intro u v dt a k h entry hu hv ha hb
    rw [exec_uncorrectableRead_of_sram k entry hu hv, lostWord_of_sample v h k entry ha hb]
  case entry =>
    rintro u v dt a k h entry hu hv ha rfl
    rw [exec_uncorrectableRead_of_sram k true hu hv, lostWord_of_entry v h k ha]
  case packet =>
    rintro u v dt a k h entry hu hv ha rfl
    exact (exec_uncorrectableRead_of_sram k false hu hv).trans
      (congrArg (fun t => Host.Outcome.next (settled t)) (lostWord_of_packet v h k ha))
  case mram =>
    intro u v dt a k h entry hu hv
    rw [exec_uncorrectableRead_of_mram h k entry hu hv, lostWord_of_mram]

/-- Settles O33, by the condition that holds, the phase of the recorder, and the checks of the opcodes. The 63
records of TRACE_LIST and the protection by a joined trigger are the model's choice (log 25). -/
theorem traceRecorder : Obligations.TraceRecorder := by
  unfold Obligations.TraceRecorder
  intro s
  refine ⟨?source, ?level, ?lat, ?first, ?later, ?copy, ?good, ?bad, ?trigger, ?list, ?read, ?unprotect, ?refused,
    ?protect⟩
  case source => exact fun dt n hb hr =>
    exec_traceTriggerCondition_of_met (conditionMet_source (s := advance s dt) hb hr)
  case level => exact fun dt hx hc => exec_traceTriggerCondition_of_met (conditionMet_level (s := advance s dt) hx hc)
  case lat => exact fun dt k hk he => exec_traceTriggerCondition_of_met (conditionMet_lat (s := advance s dt) hk he)
  case first => exact fun x h => traceTrigger_of_pre h x
  case later => exact fun x y at' prot h ht => traceTrigger_of_later h ht
  case copy => exact exec_traceRecordCopy_of_full
  case good => exact fun u dt at' cause prot bad r hp ht hspare hu hr => exec_traceCopyComplete_of_good hp ht hspare hu hr
  case bad => exact fun dt at' cause prot hp ht hspare => exec_traceCopyComplete_of_bad hp ht hspare
  case trigger => exact fun tr tag c h hd => exec_traceTrigger_of_starts h hd
  case list => exact fun tr tag c l h hd hl => exec_traceList_of_starts h hd hl
  case read => exact fun tr tag c r off n h hlen hr ho hn h1 h1000 hin =>
    exec_traceRead_of_starts h hlen hr ho hn h1 h1000 hin
  case unprotect => exact fun tr tag c r num h hlen hnum hr hp hc => exec_traceProtect_of_unprotect h hlen hnum hr hp hc
  case refused => exact fun tr tag c r num h hlen hnum hr hp hc => exec_traceProtect_of_refused h hlen hnum hr hp hc
  case protect => exact fun tr tag c r num l h hlen hnum hr hp hl => exec_traceProtect_of_protect h hlen hnum hr hp hl

/-- Settles O59: the entry's 32 bytes lie apart from every other place, and its last four are the CRC of the others. -/
theorem journalKeepsEntries : Obligations.JournalKeepsEntries := by
  unfold Obligations.JournalKeepsEntries
  intro s dt e rest hwf hl hq
  have hwf' : Memory.wf ((advance s dt).modJournal (fun j => { j with queue := rest })).mem = true := hwf
  refine ⟨(ringPut ((advance s dt).modJournal (fun j => { j with queue := rest })) e false).1, ?_, ?_, rfl, ?_, rfl, rfl,
    rfl⟩
  · exact exec_journalWrite_of_queue hl hq rfl
  · exact readEntry_ringPut hwf' e
  · exact fun q hne => cellsGet_ringPut_of_ne hwf' e hne

end Sys2Proof.Proofs

/-! Proofs about temperatures and the loss of a sensor (18_thermal, 04 R121, 06 R164). -/
namespace Sys2Proof.Machine
open Sys2Proof.Safety

theorem evalEvery_advance (s : State) (dt : Nat) (n : Fin 44) : evalEvery (advance s dt) n = evalEvery s n := rfl

theorem channelTest_advance (s : State) (dt : Nat) (m c : Fin 4) (seen : LossTest) :
    channelTest (advance s dt) m c seen = channelTest s m c seen := rfl

theorem npAin_advance (s : State) (dt : Nat) (m : Fin 4) : npAin (advance s dt) m = npAin s m := rfl

/-- An evaluation that is due tests the reading, then the envelope, and ends a throttle. -/
theorem exec_thermalEvaluation_of_due {s : State} {dt : Nat} {n : Fin 44} {rd : ThermalInput} {raw : Option Int}
    (hon : sensorOn (advance s dt) n = true)
    (hdue : ∀ a, s.thermal.sensors[n].evalAt = some a → a + evalEvery s n ≤ s.clk + dt)
    (hrd : readingOf (advance s dt) n rd = some raw) :
    exec (.thermalEvaluation dt n rd) s = .next (settled
      (throttleEnds (throttling (advance s dt)) (envelopeCheck (evalSensor (advance s dt) n raw (rd == .noItem))))) := by
  have hdue' : (match (advance s dt).thermal.sensors[n].evalAt with
      | none => true
      | some a => elapsed (advance s dt) a (evalEvery (advance s dt) n)) = true := by
    cases hat : s.thermal.sensors[n].evalAt with
    | none => simp only [advance_fields, hat]
    | some a =>
      have hle := hdue a hat
      simp only [advance_fields, hat, elapsed_advance, evalEvery_advance, hle, decide_true]
  rw [exec_thermalEvaluation, execThermalEvaluation]
  simp only [hon, hrd, Bool.not_true, Bool.false_eq_true, if_false, done]
  exact congrArg (fun t => Host.Outcome.next (settled t)) (if_pos hdue')

/-- A sensor that is off is marked off. -/
theorem exec_thermalEvaluation_of_off {s : State} {dt : Nat} {n : Fin 44} (rd : ThermalInput)
    (hoff : sensorOn (advance s dt) n = false) :
    exec (.thermalEvaluation dt n rd) s = .next (settled (sensorOff (advance s dt) n)) := by
  simp only [exec_thermalEvaluation, execThermalEvaluation, done, hoff, Bool.not_false, if_true]

/-- A factor that differs from the one sealed or in force is sealed. -/
theorem exec_thermalFactorSeal_of_changed {s : State} {dt k : Nat} {m : Fin 4}
    (hk : k = factorOf (advance s dt) (machineLevel (advance s dt) m).1)
    (hne : s.thermal.kSealed[m].getD s.thermal.k[m] ≠ k) :
    exec (.thermalFactorSeal dt m) s = .next (settled ((advance s dt).modThermal (fun t => { t with
      kSealed := vmod t.kSealed m (fun _ => some k) }))) := by
  simp only [exec_thermalFactorSeal, execThermalFactorSeal, done, ← hk, advance_fields, hne.symm, if_false]

/-- An acknowledged replacement lets the level move again. -/
theorem exec_thermalAck_of_replaced {s : State} (dt : Nat) {n : Fin 44} {x : Sensor}
    (hx : s.thermal.sensors[n] = x) (h : x.state = .replaced ∨ x.state = .noEst) :
    exec (.thermalAck dt n) s = .next (settled
      (raise ((advance s dt).modSensor n (fun y => { y with frozen := false })) 205 (n.val + 256))) := by
  subst hx
  simp only [exec_thermalAck, execThermalAck, ackSensor, done, advance_fields, h, if_true]

/-- A channel whose test holds is lost. -/
theorem exec_sensorLoss_of_channel {s : State} (dt : Nat) {m c : Fin 4} {i : Fin 5} {seen : LossTest}
    (hi : i.val = c.val) (ht : channelTest s m c seen = true) :
    exec (.sensorLoss dt m i false seen) s = .next (settled (channelLost (advance s dt) m c)) := by
  have hlt : i.val < 4 := hi ▸ c.isLt
  have hc : (⟨i.val, hlt⟩ : Fin 4) = c := Fin.ext hi
  simp only [exec_sensorLoss, execSensorLoss, done, hlt, dif_pos, hc, channelTest_advance, ht, Bool.false_eq_true,
    if_false, if_true]

/-- A position port whose test holds is lost. -/
theorem exec_sensorLoss_of_port {s : State} {dt : Nat} {m : Fin 4} (i : Fin 5) {seen : LossTest}
    (ht : portTest (advance s dt) m seen = true) :
    exec (.sensorLoss dt m i true seen) s = .next (settled (portLoss (advance s dt) m)) := by
  simp only [exec_sensorLoss, execSensorLoss, done, ht, if_true]

/-- The lost neutral-point input stops the TFU. -/
theorem exec_sensorLoss_of_neutralPoint {s : State} (dt : Nat) {m : Fin 4} (seen : LossTest) {x : Tfu}
    (hx : s.tfu[m] = x) (hin : npAin s m ≠ none) (hnot : x.npLost = false) (hrun : 3 ≤ x.npEnd) :
    exec (.sensorLoss dt m 4 false seen) s = .next (settled (stopTfu (raise (noteSource ((advance s dt).modTfu m
      (fun t => { t with npLost := true })) m (48 + m.val) 3) (48 + m.val) 3) m)) := by
  have hnone : (npAin s m).isNone = false := by rwa [← Bool.not_eq_true, Option.isNone_iff_eq_none]
  have hend : ¬ x.npEnd < 3 := Nat.not_lt.2 hrun
  have hitem : ¬ (4 : Fin 5).val < 4 := by decide
  subst hx
  simp only [exec_sensorLoss, execSensorLoss, done, hitem, dif_neg, not_false_eq_true, npAin_advance, hnone,
    advance_fields, hnot, hend, Bool.false_eq_true, or_self, if_false]
end Sys2Proof.Machine

namespace Sys2Proof.Proofs
open Sys2Proof.Machine Sys2Proof.Safety

/-- Settles O37, by the conditions of each command on the state that time leads to. -/
theorem thermalCommands : Obligations.ThermalCommands := by
  unfold Obligations.ThermalCommands
  intro s dt
  refine ⟨?due, ?off, ?factor, ?ack, ?channel, ?port, ?neutralPoint⟩
  case due => exact fun n rd raw hon hdue hrd => exec_thermalEvaluation_of_due hon hdue hrd
  case off => exact fun n rd hoff => exec_thermalEvaluation_of_off rd hoff
  case factor => exact fun m k hk hne => exec_thermalFactorSeal_of_changed hk hne
  case ack => exact fun n h => exec_thermalAck_of_replaced dt rfl h
  case channel => exact fun m i c seen hi ht => exec_sensorLoss_of_channel dt hi ht
  case port => exact fun m i seen ht => exec_sensorLoss_of_port i ht
  case neutralPoint => exact fun m seen hin hnot hrun => exec_sensorLoss_of_neutralPoint dt seen rfl hin hnot hrun

end Sys2Proof.Proofs

/-! Proofs about the CAN ports (19_can): the events on a line, sleep and wake-up, and the object opcodes. -/
namespace Sys2Proof.Machine
open Sys2Proof.Safety

/-! ### Objects and attempts (19 R501, R507) -/

theorem canObj_advance (s : State) (dt : Nat) (b : Fin 512) : canObj (advance s dt) b = canObj s b := rfl

theorem canObj_modCan (s : State) (p : Fin 6) (f : CanPort → CanPort) (b : Fin 512) :
    canObj (s.modCan p f) b = canObj s b := rfl

theorem canActive_advance (s : State) (dt : Nat) (p : Fin 6) : canActive (advance s dt) p = canActive s p := rfl

theorem canMode_advance (s : State) (dt : Nat) (p : Fin 6) : canMode (advance s dt) p = canMode s p := rfl

theorem portFormats_advance (s : State) (dt : Nat) (p : Fin 6) : portFormats (advance s dt) p = portFormats s p := rfl

theorem bestPending_advance (s : State) (dt : Nat) (p : Fin 6) : bestPending (advance s dt) p = bestPending s p := rfl

/-- A change of an object is a write of its berth. -/
theorem modObj_of_canObj {s : State} {b : Fin 512} {o : CanObj} (h : canObj s b = some o) (f : CanObj → CanObj) :
    modObj s b f = setBerth s b (.can (f o)) := by
  rw [modObj, h]

/-- A change of an object depends on what it makes of that object alone. -/
theorem modObj_congr {s : State} {b : Fin 512} {o : CanObj} {f g : CanObj → CanObj} (h : canObj s b = some o)
    (hfg : f o = g o) : modObj s b f = modObj s b g := by
  rw [modObj_of_canObj h, modObj_of_canObj h, hfg]

/-- What is done on an attempt depends on what is done with its frame alone. -/
theorem onAttempt_congr {s : State} {p : Fin 6} {f g : Fin 512 → State → State}
    (h : ∀ b, s.can[p].attempt = some b → f b s = g b s) : onAttempt s p f = onAttempt s p g := by
  unfold onAttempt
  split
  · rfl
  next b hb => rw [h b hb]

/-! ### Events on a line (19 R505 to R509) -/

section
variable {s : State} (dt : Nat) {p : Fin 6}

/-- An active port in NORMAL offers its highest-ranked frame. -/
theorem exec_canStartOfFrame_of_active (ha : canActive s p = true) (hm : canMode s p = 1) :
    exec (.canStartOfFrame dt p) s = .next (settled
      ((advance s dt).modCan p (fun c => { c with attempt := bestPending s p }))) := by
  simp only [exec_canStartOfFrame, execCanStartOfFrame, done, canActive_advance, canMode_advance, bestPending_advance,
    ha, hm, beq_self_eq_true, Bool.and_self, if_true]

/-- The frame offered is committed at the sample point. -/
theorem exec_canSofSamplePoint_of_attempt {b : Fin 512} {o : CanObj} {f : TxPending}
    (hat : s.can[p].attempt = some b) (ho : canObj s b = some o) (hf : o.pend = some f) :
    exec (.canSofSamplePoint dt p) s = .next (settled (setBerth ((advance s dt).modCan p (fun c => { c with
      sofStamp := (advance s dt).tb.now })) b (.can { o with pend := some { f with committed := true } }))) := by
  have hat' : ((advance s dt).modCan p (fun c => { c with sofStamp := (advance s dt).tb.now })).can[p].attempt
      = some b := by
    simpa only [State.modCan_fields, advance_fields, Fin.getElem_fin, vmod_self] using hat
  have ho' : canObj ((advance s dt).modCan p (fun c => { c with sofStamp := (advance s dt).tb.now })) b = some o := ho
  rw [exec_canSofSamplePoint, execCanSofSamplePoint]
  simp only [hat', canObj_modCan, canObj_advance, ho, Option.any_some, Option.isSome_some, if_true,
    modObj_of_canObj ho', hf, done]

/-- A frame of a format that the port receives is placed, and counts REC down by one. -/
theorem exec_canFrameReceive_of_low (frame : CanFrame) {x : CanPort} (hx : s.can[p] = x)
    (ha : canActive s p = true) (hfmt : (portFormats s p).getLsbD (formatBit frame.format) = true)
    (hr : x.recv < 128) :
    exec (.canFrameReceive dt p frame) s = .next (settled
      (placeFrame (canTally (advance s dt) p x.tec (x.recv - 1)) p frame)) := by
  subst hx
  simp only [exec_canFrameReceive, execCanFrameReceive, done, canActive_advance, portFormats_advance, ha, hfmt,
    advance_fields, Nat.not_le.2 hr, Bool.and_self, if_true, if_false]

/-- From 128 on REC goes to a free value between 119 and 127. -/
theorem exec_canFrameReceive_of_high (frame : CanFrame) {x : CanPort} (hx : s.can[p] = x)
    (ha : canActive s p = true) (hfmt : (portFormats s p).getLsbD (formatBit frame.format) = true)
    (hr : 128 ≤ x.recv) :
    exec (.canFrameReceive dt p frame) s = .next (settled (placeFrame
      (canTally (advance s dt).fresh.2 p x.tec (119 + (advance s dt).fresh.1 % 9)) p frame)) := by
  subst hx
  simp only [exec_canFrameReceive, execCanFrameReceive, done, canActive_advance, portFormats_advance, ha, hfmt,
    advance_fields, hr, Bool.and_self, if_true] <;> rfl

/-- A frame whose loop delay is not measured, or that has no data phase, ends as sent. -/
theorem exec_canFrameSent_of_plain {b : Fin 512} {o : CanObj} {delay : Option (BitVec 8)} (ha : canActive s p = true)
    (hat : s.can[p].attempt = some b) (ho : canObj s b = some o)
    (hd : delay = none ∨ (o.format ≠ .fdBrs ∧ o.format ≠ .xl)) :
    exec (.canFrameSent dt p delay) s = .next (settled (onAttempt (advance s dt) p (fun b s => frameSent s p b))) := by
  have hnone : (if o.format == .fdBrs || o.format == .xl then delay else none) = none := by
    obtain hd | ⟨hbrs, hxl⟩ := hd
    · rw [hd, ite_self]
    · rw [beq_false_of_ne hbrs, beq_false_of_ne hxl]; rfl
  simp only [exec_canFrameSent, execCanFrameSent, done, canActive_advance, ha, Bool.not_true, Bool.false_eq_true,
    if_false]
  congr 2
  refine onAttempt_congr fun d hat' => ?_
  obtain rfl : b = d := Option.some.inj (hat.symm.trans hat')
  simp only [canObj_advance, ho, Option.any_some, hnone]

section
variable {b : Fin 512} {o : CanObj} {d : BitVec 8} (ha : canActive s p = true)
  (hat : s.can[p].attempt = some b) (ho : canObj s b = some o) (hfmt : o.format = .fdBrs ∨ o.format = .xl)
include ha hat ho hfmt

/-- A loop delay of up to 127 periods is kept and the frame ends as sent. -/
theorem exec_canFrameSent_of_delay (hd : d.toNat ≤ 127) (hsum : d.toNat + s.p0 (0x1210 + p.val) 9 ≤ 127) :
    exec (.canFrameSent dt p (some d)) s = .next (settled (onAttempt (advance s dt) p (fun b s =>
      frameSent (s.modCan p (fun c => { c with loopDelay := d.toNat })) p b))) := by
  have hphase : (o.format == .fdBrs || o.format == .xl) = true := by obtain h | h := hfmt <;> rw [h] <;> rfl
  have hfit : ¬ (127 < d.toNat ∨ 127 < d.toNat + s.p0 (0x1210 + p.val) 9) := by omega
  simp only [exec_canFrameSent, execCanFrameSent, done, canActive_advance, ha, Bool.not_true, Bool.false_eq_true,
    if_false]
  congr 2
  refine onAttempt_congr fun e hat' => ?_
  obtain rfl : b = e := Option.some.inj (hat.symm.trans hat')
  simp only [canObj_advance, ho, Option.any_some, hphase, if_true]
  exact if_neg hfit

/-- A longer loop delay is a bit error in the data phase. -/
theorem exec_canFrameSent_of_late (hd : 127 < d.toNat ∨ 127 < d.toNat + s.p0 (0x1210 + p.val) 9) :
    exec (.canFrameSent dt p (some d)) s = .next (settled (onAttempt (advance s dt) p (fun _ s =>
      canError (s.modCan p (fun c => { c with loopDelay := d.toNat })).freshBool.2 p
        (if (s.modCan p (fun c => { c with loopDelay := d.toNat })).freshBool.1 then .bitRecessive
          else .bitDominant) true true false false))) := by
  have hphase : (o.format == .fdBrs || o.format == .xl) = true := by obtain h | h := hfmt <;> rw [h] <;> rfl
  simp only [exec_canFrameSent, execCanFrameSent, done, canActive_advance, ha, Bool.not_true, Bool.false_eq_true,
    if_false]
  congr 2
  refine onAttempt_congr fun e hat' => ?_
  obtain rfl : b = e := Option.some.inj (hat.symm.trans hat')
  simp only [canObj_advance, ho, Option.any_some, hphase, if_true]
  exact if_pos hd
end

/-- T_OUT withdraws a frame that is not committed. -/
theorem exec_canTxTimeout_of_elapsed {b : Fin 512} {o : CanObj} {f : TxPending} (ho : canObj s b = some o)
    (hf : o.pend = some f) (hc : f.committed = false) (hne : o.tOut ≠ 0) (ht : f.at' + msTicks o.tOut ≤ s.clk + dt) :
    exec (.canTxTimeout dt b) s = .next (settled (withdraw (advance s dt) b .timeout stTIMEOUT)) := by
  have hdue : o.pend.any (fun f => !f.committed && o.tOut != 0 && elapsed (advance s dt) f.at' (msTicks o.tOut))
      = true := by
    rw [hf, Option.any_some, hc, elapsed_advance, decide_eq_true ht, bne_iff_ne.2 hne]
    rfl
  simp only [exec_canTxTimeout, execCanTxTimeout, done, canObj_advance, ho, hdue, if_true]

/-- After the restart delay a bus-off port begins to recover. -/
theorem exec_canRestartDelayExpiry_of_elapsed {at' : Nat} (hst : s.can[p].state = .busOff)
    (hat : s.can[p].restartAt = some at') (ht : at' + msTicks (s.p0 (0x1200 + p.val) 4) ≤ s.clk + dt) :
    exec (.canRestartDelayExpiry dt p) s = .next (settled ((advance s dt).modCan p (fun c => { c with
      state := .recovering, restartAt := none }))) := by
  simp only [exec_canRestartDelayExpiry, execCanRestartDelayExpiry, done, advance_fields, advance_reads, hst, hat,
    elapsedO_advance, Option.any_some, ht, decide_true, and_self, if_true]

/-- A recovered port is ERROR_ACTIVE with its counts cleared. -/
theorem exec_canBusOffRecovered_of_recovering (hst : s.can[p].state = .recovering) :
    exec (.canBusOffRecovered dt p) s = .next (settled (canRaise
      ((advance s dt).modCan p (fun c => { c with state := .errorActive, tec := 0, recv := 0 })) p 3 0)) := by
  simp only [exec_canBusOffRecovered, execCanBusOffRecovered, done, advance_fields, hst, if_true]

/-- Integration restores the fault state that the port had. -/
theorem exec_canIntegrationComplete_of_integrating (hst : s.can[p].state = .integrating) :
    exec (.canIntegrationComplete dt p) s = .next (settled
      ((advance s dt).modCan p (fun c => { c with state := c.saved }))) := by
  simp only [exec_canIntegrationComplete, execCanIntegrationComplete, done, advance_fields, hst, if_true]

/-! ### Sleep and wake-up (19 R511 to R515) -/

theorem canSleepRefused_advance : canSleepRefused (advance s dt) p = canSleepRefused s p := rfl

theorem exec_canSleepRequest_of_free (h : canSleepRefused s p = false) :
    exec (.canSleepRequest dt p) s = .next (settled (canSleep (advance s dt) p)) := by
  simp only [exec_canSleepRequest, execCanSleepRequest, done, canSleepRefused_advance, h, Bool.false_eq_true, if_false]

/-- A port that has gone to sleep: its wake-up settings frozen, its fault state kept. -/
def asleep (s : State) (p : Fin 6) : State :=
  s.modCan p (fun c => { c with
    state := .sleep, saved := c.state, wakeSet := some ((List.range 7).map (fun k => s.p0 (0x1220 + p.val) (k + 1)))
    sleepAt := s.clk, sleepReq := false, wakeReq := none, attempt := none })

/-- A port with a sleep request sleeps, and wakes at once when that was asked for at this tick. -/
theorem exec_canSleepEntry_of_request (hr : s.can[p].sleepReq = true) (ha : canActive s p = true) :
    exec (.canSleepEntry dt p) s = .next (settled (if s.can[p].wakeReq == some (s.clk + dt)
      then wakeCan (asleep (advance s dt) p) p 3 else asleep (advance s dt) p)) := by
  simp only [exec_canSleepEntry, execCanSleepEntry, done, advance_fields, canActive_advance, hr, ha, Bool.and_self,
    if_true, asleep]

/-- A low level of the filter length wakes by edge. -/
theorem exec_canEdgeWake_of_low {low filter : Nat} {r : List Nat} {x : CanPort} (hx : s.can[p] = x)
    (hw : x.wakeSet = some (0 :: filter :: r)) (hst : x.state = .sleep) (hl : 5 * filter ≤ low)
    (ht : x.sleepAt + 5 * filter ≤ s.clk + dt) :
    exec (.canEdgeWake dt p low) s = .next (settled (wakeCan (advance s dt) p 1)) := by
  subst hx
  simp only [exec_canEdgeWake, execCanEdgeWake, done, advance_fields, hw, hst, hl, ht, and_self, if_true]

/-- A frame that matches wakes an integrated port and is placed. -/
theorem exec_canFrameWake_of_match {frame : CanFrame} {flt id mask ide pat dmask : Nat} {x : CanPort}
    (hx : s.can[p] = x) (hw : x.wakeSet = some [1, flt, id, mask, ide, pat, dmask]) (hst : x.state = .sleep)
    (hfmt : (portFormats s p).getLsbD (formatBit frame.format) = true)
    (hon : wakesOn id mask ide pat dmask frame = true) :
    exec (.canFrameWake dt p frame true) s = .next (settled (placeFrame (wakeCan (advance s dt) p 2) p frame)) := by
  subst hx
  rw [exec_canFrameWake, execCanFrameWake]
  simp only [advance_fields, portFormats_advance, hw]
  exact congrArg (fun t => Host.Outcome.next (settled t)) (if_pos ⟨hst, trivial, hfmt, hon⟩)
end

/-! ### The object opcodes (23 R591, R592) -/

theorem canObj_of_userObj {s : State} {c : Cmd} {o : CanObj} (h : userObj s c = some o) :
    canObj s c.berth = some o := by
  unfold userObj at h
  split at h
  next x hx =>
    split at h
    · exact (Option.some_ne_none _ h.symm).elim
    · rwa [← h]
  next => exact (Option.some_ne_none _ h.symm).elim

theorem userObj_begun (s : State) (tr : Transport) (tag : BitVec 16) (c : Cmd) :
    userObj (begun s tr tag) c = userObj s c := rfl

theorem begun_freeCtr (s : State) (tr : Transport) (tag : BitVec 16) : (begun s tr tag).freeCtr = s.freeCtr := rfl

theorem gapBytes_begun (s : State) (tr : Transport) (tag : BitVec 16) (n : Nat) :
    gapBytes (begun s tr tag) n = gapBytes s n := by
  unfold gapBytes
  rw [begun_freeCtr]

section
variable {s : State} {tr : Transport} {tag : BitVec 16} {c : Cmd}

/-- The object that a CAN_OBJ_BIND describes (19 R502). -/
def boundObj (c : Cmd) : CanObj where
  tx := fld c 1 1 == 0
  port := finOf 6 (fld c 0 1)
  format := if fld c 1 1 = 0 then formatOf (fld c 2 1) else .classical
  formats := if fld c 1 1 = 0 then 0 else BitVec.ofNat 3 (fld c 3 1)
  ide := fld c 4 1 == 1
  id := BitVec.ofNat 29 (fld c 8 4)
  mask := if fld c 1 1 = 0 then 0 else BitVec.ofNat 29 (fld c 12 4)
  rtr := BitVec.ofNat 2 (fld c 5 1)
  xlHdr := if fld c 1 1 = 0 then BitVec.ofNat 32 (fld c 16 4) else 0
  af := if fld c 1 1 = 0 then BitVec.ofNat 32 (fld c 20 4) else 0
  single := fld c 1 1 == 0 && fld c 6 1 == 1
  overwrite := !(fld c 1 1 == 0) && fld c 7 1 == 1
  tOut := if fld c 1 1 = 0 then fld c 24 2 else 0

/-- A valid CAN_OBJ_BIND puts its object into the lowest free berth. -/
theorem exec_canObjBind_of_valid {b : Fin 512} (h : Starts s tr tag 0x0710 c) (hlen : c.data.length = 26)
    (hok : badBind c = none) (hb : freeBerth s = some b)
    (hroom : (objsOf s (finOf 6 (fld c 0 1)) (fun _ => true)).length < 64) :
    exec (.canObjBind tr tag) s = .next (settled (reply (setBerth (begun s tr tag) b (.can (boundObj c))) c stOK
      (beBytes 2 b.val))) := by
  have hb' : freeBerth (begun s tr tag) = some b := hb
  have hroom' : ¬ 64 ≤ (objsOf (begun s tr tag) (finOf 6 (fld c 0 1)) (fun _ => true)).length := Nat.not_le.2 hroom
  simp only [exec_canObjBind, execCanObjBind, onCmd_starts h, needLen_of_length hlen, hok, hb', hroom', if_false, done,
    boundObj, beq_iff_eq]

/-- CAN_OBJ_FREE frees an object without a pending frame. -/
theorem exec_canObjFree_of_idle {o : CanObj} (h : Starts s tr tag 0x0711 c) (hd : c.data = [])
    (ho : userObj s c = some o) (hp : o.pend = none) :
    exec (.canObjFree tr tag) s = .next (settled (reply (setBerth (begun s tr tag) c.berth .free) c stOK [])) := by
  have hfree : (some o).all (fun o => o.pend.isSome) = false := by rw [Option.all_some, hp]; rfl
  rw [exec_canObjFree, execCanObjFree, onCmd_starts h, userObj_begun, ho, hfree, needState_of_length (length_of_nil hd)]
  rfl

/-- CAN_SEND makes the staged and the given bytes pending. -/
theorem exec_canSend_of_valid {o : CanObj} {x : CanPort} (hx : s.can[o.port] = x)
    (h : Starts s tr tag 0x0712 c) (hlen : 2 ≤ c.data.length) (ho : userObj s c = some o)
    (htx : o.tx = true) (hp : o.pend = none) (hm : canMode s o.port = 1) (hs : x.state ≠ .sleep)
    (hreq : x.sleepReq = false) (hst : fld c 0 2 ≤ o.staged.length)
    (hmax : (o.staged.take (fld c 0 2) ++ c.data.drop 2).length ≤ maxData o.format)
    (hmin : minData o.format ≤ (o.staged.take (fld c 0 2) ++ c.data.drop 2).length) :
    exec (.canSend tr tag) s = .next (settled (accept (modObj (begun s tr tag) c.berth (fun o => { o with
      staged := [], pend := some
        { data := o.staged.take (fld c 0 2) ++ c.data.drop 2, at' := s.clk, cmd := some c.id } })) c)) := by
  have hm' : canMode (begun s tr tag) o.port = 1 := hm
  have hx' : (begun s tr tag).can[o.port] = x := hx
  have hfit := not_or.2 ⟨Nat.not_lt.2 hmax, Nat.not_lt.2 hmin⟩
  rw [exec_canSend, execCanSend, onCmd_starts h, if_neg (Nat.not_lt.2 hlen)]
  simp only [userObj_begun, ho, htx, hp, hm', hx', beq_false_of_ne hs, hreq, Nat.not_lt.2 hst, hfit, Bool.not_true,
    Option.isSome_none, bne_self_eq_false, Bool.or_self, Bool.false_eq_true, if_false, done]
  have hobj : canObj (begun s tr tag) c.berth = some o := canObj_of_userObj ho
  exact congrArg (fun t => Host.Outcome.next (settled (accept t c))) (modObj_congr hobj rfl)

/-- CAN_READ answers the frame held from a byte on, and takes it when its end is read. -/
theorem exec_canRead_of_valid {o : CanObj} {f : CanFrame} (h : Starts s tr tag 0x0713 c) (hlen : c.data.length = 2)
    (ho : userObj s c = some o) (htx : o.tx = false) (hf : o.frame = some f) (hoff : fld c 0 2 ≤ f.data.length) :
    exec (.canRead tr tag) s = .next (settled (reply
      (if f.data.length ≤ fld c 0 2 + 1000 then modObj (begun s tr tag) c.berth (fun o => { o with new := false })
        else begun s tr tag)
      c stOK (beBytes 1 (flag o.new 0) ++ beBytes 8 o.frameTime.toNat ++ beBytes 4 f.id.toNat
        ++ beBytes 1 (flag f.ide 0 + flag f.rtr 1 + flag (f.format == .fd || f.format == .fdBrs) 2
          + flag (f.format == .fdBrs) 3 + flag (f.format == .xl) 4) ++ beBytes 2 f.data.length
        ++ (f.data.drop (fld c 0 2)).take 1000))) := by
  have hend : fld c 0 2 + ((f.data.drop (fld c 0 2)).take 1000).length = f.data.length
      ↔ f.data.length ≤ fld c 0 2 + 1000 := by
    rw [List.length_take, List.length_drop]
    omega
  rw [exec_canRead, execCanRead, onCmd_starts h, needLen_of_length hlen]
  simp only [userObj_begun, ho, htx, hf, Option.getD_some, Nat.not_lt.2 hoff, Bool.false_eq_true, or_self, if_false,
    hend, done]

/-- CAN_STAGE puts its bytes at their offset, behind a gap of free bytes where nothing was staged. -/
theorem exec_canStage_of_valid {o : CanObj} (h : Starts s tr tag 0x0714 c) (hmin : 3 ≤ c.data.length)
    (hmax : c.data.length ≤ 1020) (ho : userObj s c = some o) (htx : o.tx = true) (hp : o.pend = none)
    (hfit : fld c 0 2 + (c.data.length - 2) ≤ 2048) :
    exec (.canStage tr tag) s = .next (settled (reply (modObj
      { begun s tr tag with freeCtr := s.freeCtr + (fld c 0 2 - o.staged.length) } c.berth (fun o => { o with
      staged := o.staged.take (fld c 0 2) ++ gapBytes s (fld c 0 2 - o.staged.length) ++ c.data.drop 2
        ++ o.staged.drop (fld c 0 2 + (c.data.length - 2)) })) c stOK [])) := by
  have hlen : ¬ (c.data.length < 3 ∨ 1020 < c.data.length) := by omega
  have hstop : (!o.tx || o.pend.isSome) = false := by rw [htx, hp]; rfl
  have hroom : ¬ 2048 < fld c 0 2 + (c.data.length - 2) := Nat.not_lt.2 hfit
  rw [exec_canStage, execCanStage, onCmd_starts h, if_neg hlen]
  simp only [userObj_begun, ho, hstop, hroom, Bool.false_eq_true, if_false, List.length_drop, done, gapBytes_begun,
    begun_freeCtr]
  have hobj : canObj { begun s tr tag with freeCtr := s.freeCtr + (fld c 0 2 - o.staged.length) } c.berth = some o :=
    canObj_of_userObj ho
  exact congrArg (fun t => Host.Outcome.next (settled (reply t c stOK []))) (modObj_congr hobj rfl)
end
end Sys2Proof.Machine

namespace Sys2Proof.Proofs
open Sys2Proof.Machine Sys2Proof.Safety

/-- Settles O14, by the state of the port and the frame of its attempt. -/
theorem canLineCommands : Obligations.CanLineCommands := by
  unfold Obligations.CanLineCommands
  intro s dt
  refine ⟨?start, ?commit, ?low, ?high, ?plain, ?delay, ?late, ?arbitration, ?error, ?errorDelay, ?timeout, ?restart,
    ?recovered, ?integrated⟩
  case start => exact fun p ha hm => exec_canStartOfFrame_of_active dt ha hm
  case commit => exact fun p b o f hat ho hf => exec_canSofSamplePoint_of_attempt dt hat ho hf
  case low => exact fun p frame ha hfmt hr => exec_canFrameReceive_of_low dt frame rfl ha hfmt hr
  case high => exact fun p frame ha hfmt hr => exec_canFrameReceive_of_high dt frame rfl ha hfmt hr
  case plain => exact fun p b o delay ha hat ho hd => exec_canFrameSent_of_plain dt ha hat ho hd
  case delay => exact fun p b o d ha hat ho hfmt hd hsum => exec_canFrameSent_of_delay dt ha hat ho hfmt hd hsum
  case late => exact fun p b o d ha hat ho hfmt hd => exec_canFrameSent_of_late dt ha hat ho hfmt hd
  case arbitration => exact fun p => exec_canArbitrationLost dt p s
  case error => exact fun p err tx d h x => exec_canBusError dt p err tx d h x none s
  case errorDelay => exact fun p err tx d h x delay => exec_canBusError dt p err tx d h x (some delay) s
  case timeout => exact fun b o f ho hf hc hne ht => exec_canTxTimeout_of_elapsed dt ho hf hc hne ht
  case restart => exact fun p at' hst hat ht => exec_canRestartDelayExpiry_of_elapsed dt hst hat ht
  case recovered => exact fun p hst => exec_canBusOffRecovered_of_recovering dt hst
  case integrated => exact fun p hst => exec_canIntegrationComplete_of_integrating dt hst

/-- Settles O15, by the state of the port and the tick of a wake-up that was asked for. -/
theorem canPowerCommands : Obligations.CanPowerCommands := by
  unfold Obligations.CanPowerCommands
  intro s dt p
  refine ⟨exec_canBusOnRequest dt p s, fun h => exec_canSleepRequest_of_free dt h, exec_canWakeRequest dt p s, ?sleep,
    ?wake, ?edge, ?frame⟩
  case sleep =>
    intro hr ha hw
    rw [exec_canSleepEntry_of_request dt hr ha, if_neg (fun h => hw (beq_iff_eq.1 h))]
    rfl
  case wake =>
    intro hr ha hw
    rw [exec_canSleepEntry_of_request dt hr ha, if_pos (beq_iff_eq.2 hw)]
    rfl
  case edge => exact fun low filter r hw hst hl ht => exec_canEdgeWake_of_low dt rfl hw hst hl ht
  case frame => exact fun frame flt id mask ide pat dmask hw hst hfmt hon =>
    exec_canFrameWake_of_match dt rfl hw hst hfmt hon

/-- Settles O16: each opcode on the object of its berth once its checks have passed.
The code of DIR (log 20) and the free bytes of the gap (log 21) are the model's choices. -/
theorem canOpcodes : Obligations.CanOpcodes := by
  unfold Obligations.CanOpcodes
  intro s tr tag c
  refine ⟨?bind, ?free, ?send, ?read, ?stage⟩
  case bind => exact fun b h hlen hok hb hroom => exec_canObjBind_of_valid h hlen hok hb hroom
  case free => exact fun o h hd ho hp => exec_canObjFree_of_idle h hd ho hp
  case send =>
    exact fun o h hlen ho htx hp hm hs hreq hst hmax hmin =>
      exec_canSend_of_valid rfl h hlen ho htx hp hm hs hreq hst hmax hmin
  case read => exact fun o f h hlen ho htx hf hoff => exec_canRead_of_valid h hlen ho htx hf hoff
  case stage => exact fun o h hmin hmax ho htx hp hfit => exec_canStage_of_valid h hmin hmax ho htx hp hfit

end Sys2Proof.Proofs

/-! Proofs about the Vornan fabric (20_fabric): frames and acknowledgements, the states of a link, discovery, election,
routes and time, and the opcodes of the fabric. -/
namespace Sys2Proof.Machine
open Sys2Proof.Safety

/-! ### What time leaves of the fabric -/

section
variable (s : State) (dt : Nat) (l : Fin 4)

theorem isUp_advance : isUp (advance s dt) l = isUp s l := rfl

theorem linkEnabled_advance : linkEnabled (advance s dt) l = linkEnabled s l := rfl

theorem linkEnabled_modLink (f : FabLink → FabLink) : linkEnabled (s.modLink l f) l = linkEnabled s l := rfl

theorem electing_advance : electing (advance s dt) = electing s := rfl

theorem reachable_of_fabric {s t : State} (h : t.fabric = s.fabric) : reachable t = reachable s := by
  rw [reachable, h, reachable]

/-- The link that was changed, after the change. -/
theorem links_modLink (f : FabLink → FabLink) :
    (s.modLink l f).fabric.links[l] = f s.fabric.links[l] := by
  simp only [State.modLink_fields, Fin.getElem_fin, vmod_self]

/-- A change of a link depends on what it makes of that link alone. -/
theorem modLink_congr {s : State} {l : Fin 4} {f g : FabLink → FabLink}
    (h : f s.fabric.links[l] = g s.fabric.links[l]) : s.modLink l f = s.modLink l g := by
  simp only [State.modLink, vmod, h]
end

theorem isUp_iff {s : State} {l : Fin 4} : isUp s l = true ↔ s.fabric.links[l].state = .up := beq_iff_eq

/-! ### Frames and acknowledgements (20 R522 to R525) -/

section
variable {s : State} (dt : Nat) {l : Fin 4} {body : List Byte} {f : FabFrame}

section
variable {x : FabLink} (hx : s.fabric.links[l] = x)
include hx

/-- A frame that does not read is counted. -/
theorem exec_fabricFrameReceive_of_bad (hdis : x.state ≠ .disabled)
    (hdown : x.state ≠ .down) (hr : readFrame body = none) :
    exec (.fabricFrameReceive dt l body) s = .next (settled (badFrame (advance s dt) l)) := by
  subst hx
  simp only [exec_fabricFrameReceive, execFabricFrameReceive, done, advance_fields, hdis, hdown, or_self, if_false, hr]

/-- A frame that reads is taken. -/
theorem exec_fabricFrameReceive_of_good (hdis : x.state ≠ .disabled)
    (hdown : x.state ≠ .down) (hr : readFrame body = some f) :
    exec (.fabricFrameReceive dt l body) s = .next (settled (takeFrame (advance s dt) l f)) := by
  subst hx
  simp only [exec_fabricFrameReceive, execFabricFrameReceive, done, advance_fields, hdis, hdown, or_self, if_false, hr]

theorem exec_fabricFrameReceive_of_up (hup : x.state = .up) (hr : readFrame body = some f) :
    exec (.fabricFrameReceive dt l body) s = .next (settled (takeFrame (advance s dt) l f)) :=
  exec_fabricFrameReceive_of_good dt hx (by rw [hup]; decide) (by rw [hup]; decide) hr

end

theorem takeFrame_of_hello {u i e : BitVec 64} {p n : Nat} {a : BitVec 8} (hm : f.msg = .hello u p a n i e) :
    takeFrame s l f = takeHello s l u a e := by
  rw [takeFrame, hm]

/-- On an UP link a frame other than HELLO goes by its class and its sequence number. -/
theorem takeFrame_of_not_hello {x : FabLink} (hx : s.fabric.links[l] = x) (hup : x.state = .up)
    (hm : ∀ u p a n i e, f.msg ≠ .hello u p a n i e) :
    takeFrame s l f = (if f.cls = .sync then routeFrame s l f
      else if f.lseq ≠ (linkClass x f.cls).rxSeq then
        putAck s l f.cls (linkClass x f.cls).rxSeq 0 true
      else routeFrame (putAck (s.modLink l (fun y => setLinkClass y f.cls { linkClass x f.cls with
        rxSeq := (linkClass x f.cls).rxSeq + 1 })) l f.cls f.lseq
          (if f.cls = .safe then 0 else 1) false) l f) := by
  subst hx
  unfold takeFrame
  split
  next u p a n i e hhello => exact (hm u p a n i e hhello).elim
  next => exact if_neg (not_not_intro hup)

/-- An acknowledgement of an UP link is taken. -/
theorem exec_fabricAckReceive_of_up {word : BitVec 32} {cls : FabClass} {q : BitVec 8} {credits : Nat} {neg : Bool}
    (hup : isUp s l = true) (hr : readAck (beBytes 4 word.toNat) = some (cls, q, credits, neg)) :
    exec (.fabricAckReceive dt l word) s = .next (settled (takeAck (advance s dt) l cls q credits neg)) := by
  simp only [exec_fabricAckReceive, execFabricAckReceive, done, isUp_advance, hup, Bool.not_true, Bool.false_eq_true,
    if_false, hr]

/-- The link once an acknowledgement has freed its frames and given its credits. -/
def ackLink (s : State) (l : Fin 4) (cls : FabClass) (q : BitVec 8) (credits : Nat) (positive : Bool) : State :=
  s.modLink l (fun y => setLinkClass y cls { linkClass y cls with
    credits := if cls = .safe then (linkClass y cls).credits else (linkClass y cls).credits + credits
    unacked := (ackedRest (linkClass y cls).unacked q positive).map (fun u => { u with at' := s.clk }) })

theorem takeAck_of_positive (s : State) (l : Fin 4) (cls : FabClass) (q : BitVec 8) (credits : Nat) :
    takeAck s l cls q credits false = pumpLink (ackLink s l cls q credits true) l cls := rfl

/-- A negative acknowledgement has what is left sent again. -/
theorem takeAck_of_negative {s t : State} {l : Fin 4} {cls : FabClass} {q : BitVec 8} {credits : Nat}
    (ht : t = ackLink s l cls q credits false) : takeAck s l cls q credits true =
      (if (linkClass t.fabric.links[l] cls).unacked = [] then t else resend t l cls) := by
  rw [ht]
  rfl

/-- Without an acknowledgement for 5 µs a class is sent again. -/
theorem exec_fabricRetryTimeout_of_elapsed {cls : Fin 3} {u : Unacked} {r : List Unacked} (hup : isUp s l = true)
    (hun : (linkClass s.fabric.links[l] (classOf cls)).unacked = u :: r)
    (ht : u.at' + usTicks 5 ≤ s.clk + dt) :
    exec (.fabricRetryTimeout dt l cls) s = .next (settled (resend (advance s dt) l (classOf cls))) := by
  simp only [exec_fabricRetryTimeout, execFabricRetryTimeout, done, advance_fields, isUp_advance, hup, hun,
    elapsed_advance, ht, decide_true, Bool.and_self, if_true]

/-! ### The states of a link (20 R521) -/

section
variable {x : FabLink} (hx : s.fabric.links[l] = x)
include hx

/-- Symbol lock takes a DOWN link that is enabled to TRAINING. -/
theorem exec_fabricSymbolLock_of_enabled (hst : x.state = .down) (hen : linkEnabled s l = true) :
    exec (.fabricSymbolLock dt l) s = .next (settled ((advance s dt).modLink l (fun y => { y with
      symbolLock := true, state := .training, helloRun := 0, echoSeen := false, neighbourUid := 0 }))) := by
  subst hx
  simp only [exec_fabricSymbolLock, execFabricSymbolLock, done, links_modLink, linkEnabled_modLink, linkEnabled_advance,
    advance_fields, hst, hen, and_self, if_true, State.modLink_modLink]

/-- Another link notes its symbol lock. -/
theorem exec_fabricSymbolLock_of_other (h : x.state ≠ .down ∨ linkEnabled s l = false) :
    exec (.fabricSymbolLock dt l) s = .next (settled ((advance s dt).modLink l (fun y =>
      { y with symbolLock := true }))) := by
  have hno : ¬ (x.state = .down ∧ linkEnabled s l = true) := by
    rintro ⟨hst, hen⟩
    obtain h | h := h
    · exact h hst
    · exact Bool.false_ne_true (h.symm.trans hen)
  subst hx
  simp only [exec_fabricSymbolLock, execFabricSymbolLock, done, links_modLink, linkEnabled_modLink, linkEnabled_advance,
    advance_fields, hno, if_false]

theorem exec_fabricLockLoss_of_up (hst : x.state = .up) :
    exec (.fabricLockLoss dt l) s = .next (settled (fabLinkDown (advance s dt) l)) := by
  subst hx
  simp only [exec_fabricLockLoss, execFabricLockLoss, done, advance_fields, hst]

theorem exec_fabricLockLoss_of_training (hst : x.state = .training ∨ x.state = .hello) :
    exec (.fabricLockLoss dt l) s = .next (settled ((advance s dt).modLink l (fun y => { y with
      state := .down, symbolLock := false, helloRun := 0, echoSeen := false }))) := by
  subst hx
  obtain hst | hst := hst <;> simp only [exec_fabricLockLoss, execFabricLockLoss, done, advance_fields, hst]

theorem exec_fabricHelloSend_of_training (hst : x.state = .training ∨ x.state = .hello)
    (ht : x.sentHello + usTicks 10 ≤ s.clk + dt) :
    exec (.fabricHelloSend dt l) s = .next (settled (sendHello (advance s dt) l)) := by
  subst hx
  obtain hst | hst := hst <;> simp only [exec_fabricHelloSend, execFabricHelloSend, done, advance_fields, hst,
    elapsed_advance, ht, decide_true, if_true]

theorem exec_fabricHelloSend_of_up (hst : x.state = .up)
    (ht : x.sentHello + msTicks 1 ≤ s.clk + dt) :
    exec (.fabricHelloSend dt l) s = .next (settled (sendHello (advance s dt) l)) := by
  subst hx
  simp only [exec_fabricHelloSend, execFabricHelloSend, done, advance_fields, hst, elapsed_advance, ht, decide_true,
    if_true]

/-- 5 ms without HELLO take an UP link down. -/
theorem exec_fabricHelloTimeout_of_elapsed (hst : x.state = .up)
    (ht : x.lastHello + msTicks 5 ≤ s.clk + dt) :
    exec (.fabricHelloTimeout dt l) s = .next (settled (fabLinkDown (advance s dt) l)) := by
  subst hx
  simp only [exec_fabricHelloTimeout, execFabricHelloTimeout, done, advance_fields, isUp_advance, isUp_iff.2 hst,
    elapsed_advance, ht, decide_true, Bool.and_self, if_true]

/-- 1 s ends HELD. -/
theorem exec_fabricHeldExpiry_of_elapsed (hst : x.state = .held)
    (ht : x.heldAt + msTicks 1000 ≤ s.clk + dt) :
    exec (.fabricHeldExpiry dt l) s = .next (settled ((advance s dt).modLink l (fun y => { y with
      state := if y.symbolLock then .training else .down }))) := by
  subst hx
  simp only [exec_fabricHeldExpiry, execFabricHeldExpiry, done, advance_fields, hst, elapsed_advance, ht, decide_true,
    and_self, if_true]

end
end

/-! ### Topology, election and routes (20 R527 to R529) -/

section
variable {s : State} {dt : Nat}

/-- A link state goes out with the next generation and into the database. -/
theorem exec_linkStateSend_of_due {u t : State} (hup : s.up = true)
    (hdue : s.fabric.linkDirty = true ∨ s.fabric.lastLinkState + msTicks 100 ≤ s.clk + dt)
    (hu : u = (advance s dt).modFabric (fun f => { f with
      ownGen := f.ownGen + 1, linkDirty := false, lastLinkState := s.clk + dt }))
    (ht : t = floodOwn (u.modFabric (fun f => { f with db := putRow f.db (ownRow u) })) (.linkState (ownRow u))) :
    exec (.linkStateSend dt) s = .next (settled
      (if s.fabric.linkDirty || !(s.fabric.db.any (fun r => r.uid == ownUid)) then topologyChanged t else t)) := by
  have hsend : (s.fabric.linkDirty || decide (s.fabric.lastLinkState + msTicks 100 ≤ s.clk + dt)) = true := by
    rw [Bool.or_eq_true, decide_eq_true_iff]
    exact hdue
  simp only [exec_linkStateSend, execLinkStateSend, done, advance_fields, advance_reads, elapsed_advance, hup, hsend,
    Bool.and_self, if_true, ← hu, ← ht]

/-- The Innkeeper sends every 10 ms. -/
theorem exec_innkeeperSend_of_due (hst : s.fabric.state = .innkeeper)
    (ht : s.fabric.lastInnkeeperSent + msTicks 10 ≤ s.clk + dt) :
    exec (.innkeeperSend dt) s = .next (settled (floodOwn ((advance s dt).modFabric (fun f =>
      { f with lastInnkeeperSent := s.clk + dt }))
      (.innkeeper ownUid (s.p0 0x8000 1) s.fabric.epoch (crc32c ((dbWords s.fabric).flatMap (fun w =>
        beBytes 8 w)))))) := by
  simp only [exec_innkeeperSend, execInnkeeperSend, done, advance_fields, advance_reads, hst, elapsed_advance, ht,
    decide_true, and_self, if_true]

/-- 30 ms without the Innkeeper call an election. -/
theorem exec_innkeeperTimeout_of_elapsed {k : BitVec 64 × Nat} (hk : s.fabric.innkeeper = some k)
    (hst : s.fabric.state = .member ∨ s.fabric.state = .discovering)
    (ht : s.fabric.lastInnkeeper + msTicks 30 ≤ s.clk + dt) :
    exec (.innkeeperTimeout dt) s = .next (settled ((advance s dt).modFabric (fun f => { f with
      state := .electing }))) := by
  simp only [exec_innkeeperTimeout, execInnkeeperTimeout, done, advance_fields, hk, Option.isSome_some, hst,
    elapsed_advance, ht, decide_true, and_self, if_true]

/-- The modules that may be elected, the highest rank first. -/
def electable (s : State) : List TopoRow :=
  byRank (s.fabric.db.filter (fun r => decide (0 < r.priority) && decide (r.uid ∈ reachable s)))

/-- The state in which an election decides: the loss of an Innkeeper raised. -/
def electedFrom (s : State) : State := if s.fabric.innkeeper.isSome then raise s 185 2 else s

theorem electedFrom_fabric (s : State) : (electedFrom s).fabric = s.fabric := by
  unfold electedFrom
  split <;> simp

theorem electable_of_fabric {s t : State} (h : t.fabric = s.fabric) : electable t = electable s := by
  rw [electable, electable, reachable_of_fabric h, h]

/-- The first of those that may be elected becomes the Innkeeper; without one the module discovers. -/
def elect (s : State) (l : List TopoRow) : State :=
  match l.head? with
  | none => s.modFabric (fun f => { f with state := .discovering, innkeeper := none, innkeeperAddr := 0xFF })
  | some r => if r.uid = ownUid then becomeInnkeeper s r.priority else adopt s r.uid r.priority 1

/-- An election that is due goes by its first candidate. -/
theorem exec_electionDecide_of_due (he : electing s = true)
    (ht : s.fabric.dbAt + msTicks (s.p0 0x8000 3) ≤ s.clk + dt) :
    exec (.electionDecide dt) s = .next (settled (elect (electedFrom (advance s dt)) (electable s))) := by
  have hcand : electable (electedFrom (advance s dt)) = electable s := electable_of_fabric (electedFrom_fabric _)
  rw [← hcand]
  simp only [exec_electionDecide, execElectionDecide, done, electing_advance, he, elapsed_advance, advance_fields,
    advance_reads, ht, decide_true, Bool.and_self, if_true, elect, electable, electedFrom] <;> rfl

/-- A ROUTE commits after 1 ms. -/
theorem exec_routeCommitTimeout_of_elapsed {e : BitVec 16} {at' : Nat} {w : List (BitVec 64)}
    (hr : s.fabric.routing = some (e, at', w)) (ht : at' + msTicks 1 ≤ s.clk + dt) :
    exec (.routeCommitTimeout dt) s = .next (settled (commitRoutes (advance s dt))) := by
  simp only [exec_routeCommitTimeout, execRouteCommitTimeout, done, advance_fields, hr, elapsed_advance, ht,
    decide_true, if_true]

/-! ### Time (20 R534 to R536) -/

/-- The trim is at its limit exactly when the frequency is at or beyond it. -/
theorem trim_at_limit (freq : Int) :
    (decide (freq ≠ clampI (-200000) 200000 freq) || clampI (-200000) 200000 freq == 200000
      || clampI (-200000) 200000 freq == -200000) = (decide (freq ≤ -200000) || decide (200000 ≤ freq)) := by
  rw [Bool.eq_iff_iff]
  simp only [clampI, Bool.or_eq_true, decide_eq_true_eq, beq_iff_eq]
  split_ifs with hlow hhigh
  · omega
  · omega
  · simp only [ne_eq, not_true_eq_false, decide_false, Bool.false_eq_true, false_or]
    omega

/-- An exchange with the parent. -/
theorem exec_timeExchange_of_parent {l : Fin 4} (t1 t2 t3 t4 root freq : Int)
    (hl : four.find? (fun l => s.fabric.links[l].timeParent && isUp s l) = some l) :
    exec (.timeExchange dt t1 t2 t3 t4 root freq) s = .next (settled (judgeAligned (steerBy
      (raiseIf (decide (freq ≤ -200000) || decide (200000 ≤ freq))
        (((advance s dt).modLink l (fun y => { y with
          delay := (clampI 0 65535 (linkDelay t1 t2 t3 t4)).toNat })).modFabric (fun f => { f with
            offset := parentOffset t1 t2 t3 t4 + root, trim := clampI (-200000) 200000 freq
            newParent := false })) 188 2)
      ((parentOffset t1 t2 t3 t4 + root).tdiv 50)) s.fabric.newParent
      (decide (-200 ≤ parentOffset t1 t2 t3 t4 + root) && decide (parentOffset t1 t2 t3 t4 + root ≤ 200)))) := by
  simp only [exec_timeExchange, execTimeExchange, done, advance_fields, isUp_advance, hl, trim_at_limit,
    State.modLink_fields]
end

/-! ### The opcodes of the fabric (23 R593) -/

section
variable {s : State} {tr : Transport} {tag : BitVec 16} {c : Cmd}

theorem begun_fabric (s : State) (tr : Transport) (tag : BitVec 16) : (begun s tr tag).fabric = s.fabric := rfl

theorem addrOf_begun (s : State) (tr : Transport) (tag : BitVec 16) (u : BitVec 64) :
    addrOf (begun s tr tag) u = addrOf s u := rfl

/-- FABRIC_TOPOLOGY answers the database. -/
theorem exec_fabricTopology_of_starts (h : Starts s tr tag 0x0800 c) (hd : c.data = []) :
    exec (.fabricTopology tr tag) s = .next (settled (reply (begun s tr tag) c stOK (beBytes 1 s.fabric.db.length
      ++ s.fabric.db.flatMap (fun r => beBytes 8 r.uid.toNat ++ beBytes 1 (addrOf s r.uid) ++ beBytes 1 r.priority ++
        (r.links.take 4).flatMap (fun k =>
          beBytes 1 (if k.up && edge s.fabric.db r.uid k.neighbour then addrOf s k.neighbour else 0xFF)))))) := by
  simp only [exec_fabricTopology, execFabricTopology, onCmd_starts h, needLen_of_length (length_of_nil hd), done, begun_fabric,
    addrOf_begun] <;> rfl

/-- The state in which LINK_RESET leaves a link that has gone down: it trains again where it can. -/
def retrained (u : State) (l : Fin 4) (lock : Bool) : State :=
  u.modLink l (fun y => { y with
    symbolLock := lock
    state := if y.state = .down ∧ lock = true ∧ linkEnabled u l = true then .training else y.state })

theorem beNat_singleton (k : Byte) : beNat [k] = k.toNat := by
  rw [beNat, List.foldl_cons, List.foldl_nil, Nat.zero_mul, Nat.zero_add]

/-- A link as LINK_RESET first leaves it: an UP link has gone down, and another is DOWN but for one that is HELD or
disabled. -/
def takenDown (s : State) (l : Fin 4) : State :=
  if isUp s l then fabLinkDown s l
  else match s.fabric.links[l].state with
    | .held => s
    | .disabled => s
    | _ => s.modLink l (fun y => { y with state := .down, helloRun := 0, echoSeen := false, neighbourUid := 0 })

theorem takenDown_of_not_up {l : Fin 4} {st : LinkState} (hst : s.fabric.links[l].state = st)
    (hup : isUp s l = false) : takenDown s l = if st = .held ∨ st = .disabled then s
      else s.modLink l (fun y => { y with state := .down, helloRun := 0, echoSeen := false, neighbourUid := 0 }) := by
  rw [takenDown, hup, if_neg Bool.false_ne_true, hst]
  cases st <;> rfl

/-- LINK_RESET takes its link down and lets it train again. -/
theorem exec_linkReset_of_valid {k : Byte} {l : Fin 4} {u : State} (h : Starts s tr tag 0x0801 c) (hd : c.data = [k])
    (hk : k.toNat ≤ 3) (hl : l = finOf 4 k.toNat) (hm : s.anyMachine = false) (hu : u = takenDown (begun s tr tag) l) :
    exec (.linkReset tr tag) s = .next (settled (reply (retrained u l s.fabric.links[l].symbolLock) c stOK
      [])) := by
  have hlen : c.data.length = 1 := by rw [hd]; rfl
  have hbyte : beNat c.data = k.toNat := by rw [hd, beNat_singleton]
  have hm' : (begun s tr tag).anyMachine = false := hm
  rw [exec_linkReset, execLinkReset, onCmd_starts h, hm', needState_of_length hlen]
  simp only [hbyte, Nat.not_lt.2 hk, if_false, done, hu, hl]
  rfl
end
end Sys2Proof.Machine

namespace Sys2Proof.Proofs
open Sys2Proof.Machine Sys2Proof.Safety

/-- Settles O17, by what the frame is and the sequence number its class expects, and by the sign of an
acknowledgement. -/
theorem fabricFrames : Obligations.FabricFrames := by
  unfold Obligations.FabricFrames
  intro s
  refine ⟨?bad, ?hello, ?sync, ?expected, ?outOfSequence, ?ack, ?negative, ?retry⟩
  case bad => exact fun dt l body hdis hdown hr => exec_fabricFrameReceive_of_bad dt rfl hdis hdown hr
  case hello =>
    intro dt l body f u i e p n a hdis hdown hr hm
    rw [exec_fabricFrameReceive_of_good dt rfl hdis hdown hr, takeFrame_of_hello hm]
  case sync =>
    intro dt l body f hup hr hc hm
    rw [exec_fabricFrameReceive_of_up dt rfl hup hr, takeFrame_of_not_hello (s := advance s dt) rfl hup hm, if_pos hc]
  case expected =>
    intro dt l body f hup hr hc hm hq
    rw [exec_fabricFrameReceive_of_up dt rfl hup hr, takeFrame_of_not_hello (s := advance s dt) rfl hup hm, if_neg hc,
      if_neg (show ¬ f.lseq ≠ (linkClass (advance s dt).fabric.links[l] f.cls).rxSeq from not_not_intro hq),
      hq]
    rfl
  case outOfSequence =>
    intro dt l body f hup hr hc hm hq
    rw [exec_fabricFrameReceive_of_up dt rfl hup hr, takeFrame_of_not_hello (s := advance s dt) rfl hup hm, if_neg hc,
      if_pos (show f.lseq ≠ (linkClass (advance s dt).fabric.links[l] f.cls).rxSeq from hq)]
    rfl
  case ack =>
    intro dt l word cls q credits hup hr
    rw [exec_fabricAckReceive_of_up dt hup hr, takeAck_of_positive]
    rfl
  case negative =>
    intro t dt l word cls q credits hup hr ht
    rw [exec_fabricAckReceive_of_up dt hup hr, takeAck_of_negative ht]
  case retry => exact fun dt l cls u r hup hun ht => exec_fabricRetryTimeout_of_elapsed dt hup hun ht

/-- Settles O18, by the state of the link. -/
theorem fabricLinkStates : Obligations.FabricLinkStates := by
  unfold Obligations.FabricLinkStates
  intro s dt l
  exact ⟨exec_fabricSymbolLock_of_enabled dt rfl, exec_fabricSymbolLock_of_other dt rfl,
    exec_fabricLockLoss_of_up dt rfl, exec_fabricLockLoss_of_training dt rfl, exec_fabricHelloSend_of_training dt rfl,
    exec_fabricHelloSend_of_up dt rfl, exec_fabricHelloTimeout_of_elapsed dt rfl,
    exec_fabricHeldExpiry_of_elapsed dt rfl⟩

/-- Settles O19: an election goes by its first candidate, LINK_RESET by whether the link was UP. -/
theorem fabricRoles : Obligations.FabricRoles := by
  unfold Obligations.FabricRoles
  intro s
  refine ⟨?linkState, ?send, ?timeout, ?nobody, ?other, ?self, ?commit, ?expiry, ?time, ?topology, ?resetUp,
    ?resetNotUp⟩
  case linkState => exact fun u t dt hup hdue hu ht => exec_linkStateSend_of_due hup hdue hu ht
  case send => exact fun dt hst ht => exec_innkeeperSend_of_due hst ht
  case timeout => exact fun dt k hk hst ht => exec_innkeeperTimeout_of_elapsed hk hst ht
  case nobody =>
    intro dt he ht hc
    have hcand : electable s = [] := hc
    rw [exec_electionDecide_of_due he ht, hcand]
    rfl
  case other =>
    intro dt r rest he ht hne hc
    have hcand : electable s = r :: rest := hc
    rw [exec_electionDecide_of_due he ht, hcand, elect, List.head?_cons]
    exact congrArg (fun t => Host.Outcome.next (settled t)) (if_neg hne)
  case self =>
    intro dt r rest he ht heq hc
    have hcand : electable s = r :: rest := hc
    rw [exec_electionDecide_of_due he ht, hcand, elect, List.head?_cons]
    exact congrArg (fun t => Host.Outcome.next (settled t)) (if_pos heq)
  case commit => exact fun dt e at' w hr ht => exec_routeCommitTimeout_of_elapsed hr ht
  case expiry => exact fun dt => exec_addressReservationExpiry dt s
  case time => exact fun dt l t1 t2 t3 t4 root freq hl => exec_timeExchange_of_parent t1 t2 t3 t4 root freq hl
  case topology => exact fun tr tag c h hd => exec_fabricTopology_of_starts h hd
  case resetUp => exact fun tr tag c k l h hd hk hl hm hup => exec_linkReset_of_valid h hd hk hl hm (if_pos hup).symm
  case resetNotUp =>
    intro u tr tag c k l h hd hk hl hm hup hu
    rw [exec_linkReset_of_valid h hd hk hl hm (hu.trans (takenDown_of_not_up (s := begun s tr tag) rfl hup).symm)]
    have hlock : u.fabric.links[l].symbolLock = s.fabric.links[l].symbolLock := by
      rw [hu]
      split
      · rfl
      · rw [links_modLink]; rfl
    refine congrArg (fun t => Host.Outcome.next (settled (reply t c stOK []))) (modLink_congr ?_)
    rw [← hlock]

end Sys2Proof.Proofs

/-! Proofs about the other ports (21_other_ports): Ethernet, the host SPI, the serial lines and the debug port. -/
namespace Sys2Proof.Machine
open Sys2Proof.Safety

/-! ### Ethernet (21 R542 to R544, R555) -/

section
variable {s : State} {dt : Nat} {e : Fin 2}

/-- A damaged frame is discarded. -/
theorem exec_ethFrameReceive_of_bad {frame : List Byte} {good : Bool} (hup : s.up = true)
    (hl : s.ports.eth[e].link ≠ 0) (h : good = false ∨ frame.length < 60 ∨ 1514 < frame.length) :
    exec (.ethFrameReceive dt e frame good) s = .next (settled (ethDiscard (advance s dt) e)) := by
  have hbad : (!good || decide (frame.length < 60) || decide (1514 < frame.length)) = true := by
    simpa [or_assoc] using h
  simp only [exec_ethFrameReceive, execEthFrameReceive, done, advance_fields, advance_reads, hup,
    beq_false_of_ne hl, hbad, Bool.not_true, Bool.or_self, Bool.false_eq_true, if_false, if_true]

section
variable {frame : List Byte} (hup : s.up = true) (hl : s.ports.eth[e].link ≠ 0) (hmin : 60 ≤ frame.length)
  (hmax : frame.length ≤ 1514)
include hup hl hmin hmax

/-- A good frame goes by its kind and its destination. -/
theorem exec_ethFrameReceive_of_good : exec (.ethFrameReceive dt e frame true) s = .next (settled (
    if field frame 12 2 = 0x0806 ∧ ((field frame 0 6 == (Config.mac e.val).toNat)
      || field frame 0 6 == 0xFFFFFFFFFFFF) = true then ethArp (advance s dt) e (frame.drop 14)
    else if field frame 12 2 = 0x0800 ∧ (field frame 0 6 == (Config.mac e.val).toNat) = true then
      ethIp (advance s dt) e (field frame 6 6) (frame.drop 14)
    else ethDiscard (advance s dt) e)) := by
  have hshort : ¬ frame.length < 60 := Nat.not_lt.2 hmin
  have hlong : ¬ 1514 < frame.length := Nat.not_lt.2 hmax
  simp only [exec_ethFrameReceive, execEthFrameReceive, done, advance_fields, advance_reads, hup,
    beq_false_of_ne hl, hshort, hlong, decide_false, Bool.not_true, Bool.or_self, Bool.false_eq_true, if_false]

theorem exec_ethFrameReceive_of_ip (hk : field frame 12 2 = 0x0800) (hown : field frame 0 6 = (Config.mac e.val).toNat) :
    exec (.ethFrameReceive dt e frame true) s = .next (settled (ethIp (advance s dt) e (field frame 6 6)
      (frame.drop 14))) := by
  have harp : ¬ (field frame 12 2 = 0x0806 ∧ ((field frame 0 6 == (Config.mac e.val).toNat)
      || field frame 0 6 == 0xFFFFFFFFFFFF) = true) := fun h => absurd (hk.symm.trans h.1) (by decide)
  rw [exec_ethFrameReceive_of_good hup hl hmin hmax, if_neg harp, if_pos ⟨hk, beq_iff_eq.2 hown⟩]

theorem exec_ethFrameReceive_of_arp (hk : field frame 12 2 = 0x0806)
    (hto : field frame 0 6 = (Config.mac e.val).toNat ∨ field frame 0 6 = 0xFFFFFFFFFFFF) :
    exec (.ethFrameReceive dt e frame true) s = .next (settled (ethArp (advance s dt) e (frame.drop 14))) := by
  have hto' : ((field frame 0 6 == (Config.mac e.val).toNat) || field frame 0 6 == 0xFFFFFFFFFFFF) = true := by
    rw [Bool.or_eq_true, beq_iff_eq, beq_iff_eq]
    exact hto
  rw [exec_ethFrameReceive_of_good hup hl hmin hmax, if_pos ⟨hk, hto'⟩]

theorem exec_ethFrameReceive_of_other
    (hip : ¬ (field frame 12 2 = 0x0800 ∧ field frame 0 6 = (Config.mac e.val).toNat))
    (harp : ¬ (field frame 12 2 = 0x0806 ∧
      (field frame 0 6 = (Config.mac e.val).toNat ∨ field frame 0 6 = 0xFFFFFFFFFFFF))) :
    exec (.ethFrameReceive dt e frame true) s = .next (settled (ethDiscard (advance s dt) e)) := by
  rw [← beq_iff_eq (b := (Config.mac e.val).toNat)] at hip
  rw [← beq_iff_eq (b := (Config.mac e.val).toNat), ← beq_iff_eq (b := 0xFFFFFFFFFFFF), ← Bool.or_eq_true] at harp
  rw [exec_ethFrameReceive_of_good hup hl hmin hmax, if_neg harp, if_neg hip]
end

section
variable (hb : s.start.bootBegun = true)
include hb

/-- Half duplex takes the link away. -/
theorem exec_ethPhyPoll_of_half {speed : Fin 4} (hs : speed ≠ 0) :
    exec (.ethPhyPoll dt e speed false) s = .next (settled
      (raise (modEth (advance s dt) e (fun x => { x with link := 0 })) 28 (2 + 16 * e.val))) := by
  simp only [exec_ethPhyPoll, execEthPhyPoll, done, advance_fields, hb, bne_iff_ne.2 hs, Bool.not_true, Bool.not_false,
    Bool.and_self, Bool.false_eq_true, if_false, if_true]

/-- A link that is no longer found is lost. -/
theorem exec_ethPhyPoll_of_lost (full : Bool) (hl : s.ports.eth[e].link ≠ 0) :
    exec (.ethPhyPoll dt e 0 full) s = .next (settled
      (raise (modEth (advance s dt) e (fun x => { x with link := 0 })) 28 (16 * e.val))) := by
  simp only [exec_ethPhyPoll, execEthPhyPoll, done, advance_fields, hb, bne_self_eq_false, Bool.false_and,
    Bool.not_true, Bool.false_eq_true, if_false, if_true, bne_iff_ne.2 hl, raiseIf]

/-- A link that stays takes the speed negotiated. -/
theorem exec_ethPhyPoll_of_kept {speed : Fin 4} (hs : speed ≠ 0) (hl : s.ports.eth[e].link ≠ 0) :
    exec (.ethPhyPoll dt e speed true) s = .next (settled (modEth (advance s dt) e (fun x =>
      { x with link := speed.val }))) := by
  simp only [exec_ethPhyPoll, execEthPhyPoll, done, advance_fields, hb, Bool.not_true, Bool.and_false,
    Bool.false_eq_true, if_false, hs, ne_eq, hl, not_false_eq_true, if_true]

/-- A link that is found takes its addresses and announces itself. -/
theorem exec_ethPhyPoll_of_found {speed : Fin 4} (hs : speed ≠ 0) (hl : s.ports.eth[e].link = 0)
    (hen : s.p0 (0x1300 + e.val) 5 = 1) (hup : s.up = true) :
    exec (.ethPhyPoll dt e speed true) s = .next (settled (raise
      (putArp (modEth (advance s dt) e (fun x => { x with
        link := speed.val, ip := BitVec.ofNat 32 (s.p0 (0x1300 + e.val) 2),
        mask := BitVec.ofNat 32 (s.p0 (0x1300 + e.val) 3), gateway := BitVec.ofNat 32 (s.p0 (0x1300 + e.val) 4) }))
        e (BitVec.ofNat 32 (s.p0 (0x1300 + e.val) 2)) (BitVec.ofNat 32 (s.p0 (0x1300 + e.val) 2))) 28
          (1 + 16 * e.val))) := by
  have hup' : ∀ f, (modEth (advance s dt) e f).up = true := fun _ => hup
  simp only [exec_ethPhyPoll, execEthPhyPoll, done, advance_fields, advance_reads, hb, hs, hl, hen, hup',
    Bool.not_true, Bool.and_false, Bool.false_eq_true, if_false, ne_eq, not_true_eq_false, beq_self_eq_true, if_true]
end

theorem sentReply_clk (s : State) (r : Reply) : (sentReply s r).clk = s.clk := by
  unfold sentReply
  dsimp only
  split <;> rfl

/-- A reply that has waited 100 ms for its destination is dropped. -/
theorem exec_arpTimeout_of_late (s : State) (dt : Nat) (e : Fin 2) :
    exec (.arpTimeout dt e) s = .next (settled (raiseIf ((s.porter.replies.filter (arpLate (advance s dt) e)) != [])
      (modEth ((s.porter.replies.filter (arpLate (advance s dt) e)).foldl sentReply (advance s dt)) e (fun x => { x with
        arpWait := x.arpWait.filter (fun w => !decide (w.2 + 20000000 ≤ s.clk + dt)) })) 29 (1 + 16 * e.val))) := by
  have hclk (l : List Reply) : (l.foldl sentReply (advance s dt)).clk = s.clk + dt :=
    forAll_keeps (f := fun r s => sentReply s r) (fun s => s.clk) (fun r s => sentReply_clk s r) (advance s dt)
  have hwait : msTicks 100 = 20000000 := rfl
  simp only [exec_arpTimeout, execArpTimeout, done, advance_fields, elapsed, hclk, hwait]

/-- A cache entry ends after 60 s. -/
theorem exec_arpEntryExpiry_of_late (s : State) (dt : Nat) (e : Fin 2) :
    exec (.arpEntryExpiry dt e) s = .next (settled (modEth (advance s dt) e (fun x => { x with
      arp := x.arp.filter (fun a => !decide (a.at' + 12000000000 ≤ s.clk + dt)) }))) := by
  have hkept : msTicks 60000 = 12000000000 := rfl
  simp only [exec_arpEntryExpiry, execArpEntryExpiry, done, elapsed_advance, hkept]
end

/-! ### The host SPI (21 R545 to R548) -/

section
variable {s : State} {dt : Nat} (h : hspiLive s = true)
include h

/-- A written packet is taken in while zeros go out. -/
theorem exec_hspiWritePacket_of_live (bytes : List Byte) :
    exec (.hspiWritePacket dt bytes) s = .next (settled (((advance s dt).modPorter (fun p => { p with
      ready := p.ready ++ [{ tr := .hspi, bytes := bytes }] })).put (.hspi (List.replicate bytes.length 0)))) := by
  have h' : hspiLive (advance s dt) = true := h
  simp only [exec_hspiWritePacket, execHspiWritePacket, done, h', if_true]

theorem exec_hspiReadReply_of_none {n : Nat} (ho : hspiOldest s = none) :
    exec (.hspiReadReply dt n) s = .next (settled ((advance s dt).put (.hspi [0, 0, 0]))) := by
  have h' : hspiLive (advance s dt) = true := h
  have ho' : hspiOldest (advance s dt) = none := ho
  simp only [exec_hspiReadReply, execHspiReadReply, done, h', ho', Bool.not_true, Bool.false_eq_true, if_false]

/-- The oldest reply is read, and released when all of it was clocked. -/
theorem exec_hspiReadReply_of_some {n : Nat} {r : Reply} (ho : hspiOldest s = some r) :
    exec (.hspiReadReply dt n) s = .next (settled (if r.bytes.length ≤ n then
      sentReply ((advance s dt).put (.hspi ([0] ++ beBytes 2 r.bytes.length ++ r.bytes.take n))) r
      else (advance s dt).put (.hspi ([0] ++ beBytes 2 r.bytes.length ++ r.bytes.take n)))) := by
  have h' : hspiLive (advance s dt) = true := h
  have ho' : hspiOldest (advance s dt) = some r := ho
  simp only [exec_hspiReadReply, execHspiReadReply, done, h', ho', Bool.not_true, Bool.false_eq_true, if_false]

/-- The status read clears START. -/
theorem exec_hspiReadStatus_of_live :
    exec (.hspiReadStatus dt) s = .next (settled (((advance s dt).put (.hspi ([0] ++
      beBytes 4 (hspiStatus (advance s dt))))).modPorts (fun p => { p with hspiStart := false }))) := by
  have h' : hspiLive (advance s dt) = true := h
  simp only [exec_hspiReadStatus, execHspiReadStatus, done, h', Bool.not_true, Bool.false_eq_true, if_false]

/-- In direct register mode a register is read. -/
theorem exec_hspiRegisterRead_of_mode {a : BitVec 32} (w : Fin 33) (hm : s.porter.regMode = true)
    (hr : readable (advance s dt) a.toNat = true) :
    exec (.hspiRegisterRead dt a (some w)) s = .next (settled ((wordRead (advance s dt) a.toNat).2.put (.hspi
      (List.replicate w.val 0 ++ [0x5A] ++ beBytes 4 (wordRead (advance s dt) a.toNat).1 ++ [0])))) := by
  have h' : hspiLive (advance s dt) = true := h
  rcases hw : wordRead (advance s dt) a.toNat with ⟨v, t⟩
  simp only [exec_hspiRegisterRead, execHspiRegisterRead, done, h', advance_fields, hm, hr, and_self, if_true, hw,
    Bool.not_true, Bool.false_eq_true, if_false]

/-- Outside it, and of what cannot be read, a free value comes. -/
theorem exec_hspiRegisterRead_of_refused {a : BitVec 32} (w : Fin 33)
    (hno : s.porter.regMode = false ∨ readable (advance s dt) a.toNat = false) :
    exec (.hspiRegisterRead dt a (some w)) s = .next (settled ((advance s dt).fresh.2.put (.hspi
      (List.replicate w.val 0 ++ [0x5A] ++ beBytes 4 (advance s dt).fresh.1 ++
        [if s.porter.regMode then 2 else 1])))) := by
  have h' : hspiLive (advance s dt) = true := h
  have hno' : ¬ (s.porter.regMode = true ∧ readable (advance s dt) a.toNat = true) := by
    rintro ⟨hm, hr⟩
    obtain hno | hno := hno
    · exact Bool.false_ne_true (hno.symm.trans hm)
    · exact Bool.false_ne_true (hno.symm.trans hr)
  simp only [exec_hspiRegisterRead, execHspiRegisterRead, done, h', advance_fields, hno', Bool.not_true,
    Bool.false_eq_true, if_false]

theorem exec_hspiRegisterWrite_of_no_mode (a w : BitVec 32) (n : Fin 33) (hm : s.porter.regMode = false) :
    exec (.hspiRegisterWrite dt a w (some n)) s = .next (settled ((advance s dt).put (.hspi
      (List.replicate n.val 0 ++ [0x5A] ++ [1])))) := by
  have h' : hspiLive (advance s dt) = true := h
  simp only [exec_hspiRegisterWrite, execHspiRegisterWrite, done, h', advance_fields, hm, Bool.not_true, Bool.not_false,
    Bool.false_eq_true, if_false, if_true]

/-- In direct register mode a register is written. -/
theorem exec_hspiRegisterWrite_of_mode {a w : BitVec 32} {t : State} (n : Fin 33) (hm : s.porter.regMode = true)
    (ha : a.toNat % 4 = 0) (hin : inMemory a.toNat = true ∨ (regWord (advance s dt) a.toNat).isSome = true)
    (hw : regWrite (advance s dt) a.toNat w.toNat = some t) :
    exec (.hspiRegisterWrite dt a w (some n)) s = .next (settled (t.put (.hspi
      (List.replicate n.val 0 ++ [0x5A] ++ [0])))) := by
  have h' : hspiLive (advance s dt) = true := h
  have hin' : (!inMemory a.toNat && (regWord (advance s dt) a.toNat).isNone) = false := by
    obtain hin | hin := hin
    · rw [hin]; rfl
    · rw [← Option.not_isSome, hin, Bool.not_true, Bool.and_false]
  simp only [exec_hspiRegisterWrite, execHspiRegisterWrite, done, h', advance_fields, hm, ha, hin', hw, Bool.not_true,
    Bool.false_eq_true, ne_eq, not_true_eq_false, or_self, if_false]

/-- An unknown command byte counts FORMAT. -/
theorem exec_hspiUnknownCommand_of_unknown {b : Byte} (hb : b.toNat ∉ [0x01, 0x02, 0x03, 0x10, 0x11]) :
    exec (.hspiUnknownCommand dt b) s = .next (settled (countTransport (advance s dt) 0 0)) := by
  have h' : hspiLive (advance s dt) = true := h
  exact congrArg (fun t => Host.Outcome.next (settled t)) (if_pos ⟨h', hb⟩)
end

/-! ### The serial lines (21 R549, R550) -/

/-- The settings in force for a received frame (21 R555; log 66). -/
def serSettings (s : State) (k : Fin 2) : State :=
  modSer s k (fun p => { p with node := s.p0 (0x1320 + k.val) 1, rate := s.p0 (0x1320 + k.val) 2 })

theorem modSer_settings (s : State) (dt : Nat) (k : Fin 2) : modSer (advance s dt) k (fun p => { p with
    node := s.p0 (0x1320 + k.val) 1, rate := s.p0 (0x1320 + k.val) 2 }) = serSettings (advance s dt) k := rfl

theorem ser_serSettings (s : State) (k : Fin 2) : (serSettings s k).ports.ser[k] =
    { s.ports.ser[k] with node := s.p0 (0x1320 + k.val) 1, rate := s.p0 (0x1320 + k.val) 2 } := by
  simp only [serSettings, modSer, State.modPorts_fields, Fin.getElem_fin, vmod_self]

section
variable {s : State} {dt gap : Nat} {k : Fin 2} (hup : s.up = true)
include hup

/-- A good frame to the own node or to all is unescaped and taken in. -/
theorem exec_serFrameReceive_of_good {rest l : List Byte} {node : Byte} (hlen : rest.length < 2198)
    (hgap : gap * s.p0 (0x1320 + k.val) 2 ≤ 200000000000) (hn : node.toNat = s.p0 (0x1320 + k.val) 1 ∨ node = 0xFF)
    (hl : unescape rest = some l) :
    exec (.serFrameReceive dt k (node :: rest) false gap) s = .next (settled ((serSettings (advance s dt) k).modPorter
      (fun p => { p with ready := p.ready ++ [{ tr := .ser k, bytes := l, silent := node == 0xFF }] }))) := by
  have hquiet : ¬ 200000000000 < gap * s.p0 (0x1320 + k.val) 2 := Nat.not_lt.2 hgap
  have hfit : ¬ 2200 < (node :: rest).length + 2 := by rw [List.length_cons]; omega
  have hup' : (serSettings (advance s dt) k).up = true := hup
  simp only [exec_serFrameReceive, execSerFrameReceive, done, modSer_settings, hup', ser_serSettings, advance_reads,
    hquiet, hfit, hn, hl, decide_false, Bool.not_true, Bool.or_self, Bool.false_eq_true, if_false, if_true]

/-- A damaged frame is discarded. -/
theorem exec_serFrameReceive_of_bad {bytes : List Byte} {framing : Bool}
    (h : framing = true ∨ 200000000000 < gap * s.p0 (0x1320 + k.val) 2 ∨ 2198 < bytes.length) :
    exec (.serFrameReceive dt k bytes framing gap) s = .next (settled (serDiscard (serSettings (advance s dt) k) k)) := by
  have hbad : (framing || decide (200000000000 < gap * s.p0 (0x1320 + k.val) 2) || decide (2200 < bytes.length + 2))
      = true := by
    rw [Bool.or_eq_true, Bool.or_eq_true, decide_eq_true_iff, decide_eq_true_iff, or_assoc]
    exact h.imp_right (Or.imp_right fun hb => Nat.add_lt_add_right hb 2)
  have hup' : (serSettings (advance s dt) k).up = true := hup
  simp only [exec_serFrameReceive, execSerFrameReceive, done, modSer_settings, hup', ser_serSettings, advance_reads,
    hbad, Bool.not_true, Bool.false_eq_true, if_false, if_true]

/-- The oldest reply goes out and is read back. -/
theorem exec_serReplySend_of_idle {idle : Nat} {back : List Byte} {r : Reply}
    (hr : s.porter.replies.find? (fun r => r.tr == .ser k) = some r)
    (hidle : charTimes (advance s dt) k idle (serIdle (advance s dt) k r) = true) :
    exec (.serReplySend dt k idle back) s = .next (settled (serReadBack ((advance s dt).put (.ser k (serFrame s k r))) k r
      (back == serFrame s k r))) := by
  have hframe : serFrame (advance s dt) k r = serFrame s k r := rfl
  simp only [exec_serReplySend, execSerReplySend, done, advance_fields, advance_reads, hr, hup, hidle, hframe,
    Bool.not_true, Bool.or_self, Bool.false_eq_true, if_false]
end

/-- A readback that matches releases the reply. -/
theorem serReadBack_of_good (s : State) (k : Fin 2) (r : Reply) :
    serReadBack s k r true = modSer (sentReply s r) k (fun p => { p with resent := false }) := rfl

/-! ### The debug port (21 R551, R552, R554) -/

section
variable {s : State} {dt : Nat}

theorem exec_tapInstructionLoad_of_allowed {ir : TapIr}
    (h : (ir ≠ .extest ∧ ir ≠ .clamp ∧ ir ≠ .highz) ∨ (s.anyMachine || s.anyAxis) = false) :
    exec (.tapInstructionLoad dt ir) s = .next (settled ((advance s dt).modPorts (fun p => { p with ir := ir }))) := by
  have hno : ¬ ((ir = .extest ∨ ir = .clamp ∨ ir = .highz) ∧ (s.anyMachine || s.anyAxis) = true) := by
    rintro ⟨hir, hon⟩
    obtain ⟨h1, h2, h3⟩ | hoff := h
    · exact hir.elim h1 (Or.elim · h2 h3)
    · exact Bool.false_ne_true (hoff.symm.trans hon)
  simp only [exec_tapInstructionLoad, execTapInstructionLoad, done, advance_reads, hno, if_false]

/-- A boundary instruction with a machine or axis enabled loads BYPASS. -/
theorem exec_tapInstructionLoad_of_refused {ir : TapIr} (hir : ir = .extest ∨ ir = .clamp ∨ ir = .highz)
    (hon : (s.anyMachine || s.anyAxis) = true) :
    exec (.tapInstructionLoad dt ir) s = .next (settled
      (raise ((advance s dt).modPorts (fun p => { p with ir := .bypass })) 31 0)) := by
  simp only [exec_tapInstructionLoad, execTapInstructionLoad, done, advance_reads, hir, hon, and_self, if_true]

/-- A challenge puts out a new nonce. -/
theorem exec_dbgChallenge_of_open (hir : s.ports.ir = .dbgChallenge) (hlock : s.ports.lockoutAt = none) :
    exec (.dbgChallenge dt) s = .next (settled (((freshNonce (advance s dt)).2.modPorts (fun p => { p with
      challenge := some (freshNonce s).1 })).put (.tap (freshNonce s).1))) := by
  simp only [exec_dbgChallenge, execDbgChallenge, done, advance_fields, hir, hlock, ne_eq, not_true_eq_false, if_false,
    Option.isSome_none, Bool.false_eq_true] <;> rfl

theorem responseRight_advance (s : State) (dt : Nat) (l : List Byte) :
    responseRight (advance s dt) l = responseRight s l := rfl

section
variable {l : List Byte} (hir : s.ports.ir = .dbgResponse) (hlock : s.ports.lockoutAt = none)
include hir hlock

/-- The right response unlocks. -/
theorem exec_dbgResponse_of_right (hr : responseRight s l = true) :
    exec (.dbgResponse dt l) s = .next (settled (raise ((advance s dt).modPorts (fun p => { p with
      unlocked := true, challenge := none })) 238 0)) := by
  simp only [exec_dbgResponse, execDbgResponse, done, advance_fields, hir, hlock, ne_eq, not_true_eq_false,
    Option.isSome_none, Bool.false_eq_true, or_self, if_false, responseRight_advance, hr, if_true]

/-- A wrong response is counted. -/
theorem exec_dbgResponse_of_wrong (hr : responseRight s l = false) (hw : s.ports.wrong < 2) :
    exec (.dbgResponse dt l) s = .next (settled (raiseIf (ctrInc 16 s.ports.wrongCount).2 (raise ((advance s
      dt).modPorts (fun p => { p with
        challenge := none, wrongCount := (ctrInc 16 s.ports.wrongCount).1, wrong := p.wrong + 1
        lockoutAt := none })) 238 4) 31 2)) := by
  have hfew : ¬ 3 ≤ s.ports.wrong + 1 := by omega
  simp only [exec_dbgResponse, execDbgResponse, done, advance_fields, hir, hlock, ne_eq, not_true_eq_false,
    Option.isSome_none, Bool.false_eq_true, or_self, if_false, responseRight_advance, hr, hfew, decide_false,
    raiseIf]

/-- The third wrong response in a row locks out. -/
theorem exec_dbgResponse_of_third (hr : responseRight s l = false) (hw : 2 ≤ s.ports.wrong) :
    exec (.dbgResponse dt l) s = .next (settled (raise (raiseIf (ctrInc 16 s.ports.wrongCount).2 (raise ((advance s
      dt).modPorts (fun p => { p with
        challenge := none, wrongCount := (ctrInc 16 s.ports.wrongCount).1, wrong := 0
        lockoutAt := some (s.clk + dt) })) 238 4) 31 2) 31 1)) := by
  have hthird : 3 ≤ s.ports.wrong + 1 := by omega
  simp only [exec_dbgResponse, execDbgResponse, done, advance_fields, hir, hlock, ne_eq, not_true_eq_false,
    Option.isSome_none, Bool.false_eq_true, or_self, if_false, responseRight_advance, hr, hthird, decide_true,
    if_true, raiseIf]
end

/-- The lockout ends after 60 s. -/
theorem exec_debugLockoutExpiry_of_elapsed {at' : Nat} (hl : s.ports.lockoutAt = some at')
    (ht : at' + msTicks 60000 ≤ s.clk + dt) :
    exec (.debugLockoutExpiry dt) s = .next (settled ((advance s dt).modPorts (fun p => { p with
      lockoutAt := none }))) := by
  simp only [exec_debugLockoutExpiry, execDebugLockoutExpiry, done, advance_fields, hl, elapsedO_advance_of_le ht,
    if_true]
end
end Sys2Proof.Machine

namespace Sys2Proof.Proofs
open Sys2Proof.Machine Sys2Proof.Safety

/-- Settles O11, by the kind and destination of the frame, and by the link before and after a poll.
That every poll raises half duplex is the model's choice (log 66). -/
theorem ethernetCommands : Obligations.EthernetCommands := by
  unfold Obligations.EthernetCommands
  intro s dt e
  refine ⟨?ip, ?arp, ?other, ?bad, ?half, ?lost, ?found, ?kept, exec_arpTimeout_of_late s dt e,
    exec_arpEntryExpiry_of_late s dt e⟩
  case ip => exact fun frame hup hl hmin hmax hk hown => exec_ethFrameReceive_of_ip hup hl hmin hmax hk hown
  case arp => exact fun frame hup hl hmin hmax hk hto => exec_ethFrameReceive_of_arp hup hl hmin hmax hk hto
  case other => exact fun frame hup hl hmin hmax hip harp =>
    exec_ethFrameReceive_of_other hup hl hmin hmax hip harp
  case bad => exact fun frame good hup hl h => exec_ethFrameReceive_of_bad hup hl h
  case half => exact fun speed hb hs => exec_ethPhyPoll_of_half hb hs
  case lost => exact fun full hb hl => exec_ethPhyPoll_of_lost hb full hl
  case found => exact fun speed hb hs hl hen hup => exec_ethPhyPoll_of_found hb hs hl hen hup
  case kept => exact fun speed hb hs hl => exec_ethPhyPoll_of_kept hb hs hl

/-- Settles O12: while HSPI is live, each command by what waits for the host and by direct register mode.
The free word of a refused read is the model's choice (log 66). -/
theorem hostPortCommands : Obligations.HostPortCommands := by
  unfold Obligations.HostPortCommands
  intro s dt
  refine ⟨?write, ?readNone, ?readSome, ?status, ?regRead, ?regRefused, ?noMode, ?regWrite, ?unknown⟩
  case write => exact fun bytes h => exec_hspiWritePacket_of_live h bytes
  case readNone => exact fun n h ho => exec_hspiReadReply_of_none h ho
  case readSome => exact fun n r h ho => exec_hspiReadReply_of_some h ho
  case status => exact fun h => exec_hspiReadStatus_of_live h
  case regRead => exact fun a w h hm hr => exec_hspiRegisterRead_of_mode h w hm hr
  case regRefused => exact fun a w h hno => exec_hspiRegisterRead_of_refused h w hno
  case noMode => exact fun a w n h hm => exec_hspiRegisterWrite_of_no_mode h a w n hm
  case regWrite => exact fun a w n t h hm ha hin hw => exec_hspiRegisterWrite_of_mode h n hm ha hin hw
  case unknown => exact fun b h hb => exec_hspiUnknownCommand_of_unknown h hb

/-- Settles O13, by what is damaged in a frame, the readback, and the count of wrong responses.
That a right response keeps that count, and when line settings are taken, are the model's choices (log 66). -/
theorem serialAndDebug : Obligations.SerialAndDebug := by
  unfold Obligations.SerialAndDebug
  intro s dt
  refine ⟨?good, ?bad, ?send, ?load, ?bypass, ?challenge, ?right, ?wrong, ?third, ?expiry⟩
  case good => exact fun gap k rest l node hup hlen hgap hn hl => exec_serFrameReceive_of_good hup hlen hgap hn hl
  case bad => exact fun gap k bytes framing hup h => exec_serFrameReceive_of_bad hup h
  case send =>
    intro idle k back r hup hr hidle
    rw [exec_serReplySend_of_idle hup hr hidle]
    by_cases hback : back = serFrame s k r
    · rw [if_pos hback, beq_iff_eq.2 hback, serReadBack_of_good]
    · rw [if_neg hback, beq_false_of_ne hback]
  case load => exact fun ir h => exec_tapInstructionLoad_of_allowed h
  case bypass => exact fun ir hir hon => exec_tapInstructionLoad_of_refused hir hon
  case challenge => exact exec_dbgChallenge_of_open
  case right => exact fun l hir hlock hr => exec_dbgResponse_of_right hir hlock hr
  case wrong => exact fun l hir hlock hr hw => exec_dbgResponse_of_wrong hir hlock hr hw
  case third => exact fun l hir hlock hr hw => exec_dbgResponse_of_third hir hlock hr hw
  case expiry => exact fun at' hl ht => exec_debugLockoutExpiry_of_elapsed hl ht

end Sys2Proof.Proofs

/-! Proofs about the system, safety, key, register, machine and image opcodes (23_opcodes, 24_register_map). -/
namespace Sys2Proof.Machine
open Sys2Proof.Safety

/-! ### The opcodes that only read (23 R579, R588) -/

section
variable {s : State} {tr : Transport} {tag : BitVec 16} {c : Cmd}

theorem runningImage_begun : runningImage (begun s tr tag) = runningImage s := rfl

theorem begun_start : (begun s tr tag).start = s.start := rfl

theorem statusData_begun : statusData (begun s tr tag) = statusData s := rfl

theorem safetyWord_begun (h0 : Bool) (m : Fin 4) : safetyWord (begun s tr tag) h0 m = safetyWord s h0 m := rfl

theorem inputBits_begun (h0 : Bool) : inputBits (begun s tr tag) h0 = inputBits s h0 := rfl

theorem safetyCrcs_begun : safetyCrcs (begun s tr tag) = safetyCrcs s := rfl

theorem exec_identify_of_starts (hd : c.data = []) (h : Starts s tr tag 0x0000 c) :
    exec (.identify tr tag) s = .next (settled (reply (begun s tr tag) c stOK
      (beBytes 8 Config.uid.toNat ++ beBytes 2 (runningImage s).version.toNat ++ [0x42]
        ++ beBytes 1 (flag s.start.imageSel 0) ++ beBytes 4 (runningImage s).generation.toNat ++ beBytes 4 0x296406B7
        ++ beBytes 1 s.fabric.addr.toNat))) := by
  simp only [exec_identify, execIdentify, onCmd_starts h, needLen_of_length (length_of_nil hd), done,
    runningImage_begun, begun_start, begun_fabric]

theorem exec_status_of_starts (hd : c.data = []) (h : Starts s tr tag 0x0001 c) :
    exec (.status tr tag) s = .next (settled (reply (begun s tr tag) c stOK (statusData s))) := by
  simp only [exec_status, execStatus, onCmd_starts h, needLen_of_length (length_of_nil hd), done, statusData_begun]

theorem exec_timeRead_of_starts (hd : c.data = []) (h : Starts s tr tag 0x0006 c) :
    exec (.timeRead tr tag) s = .next (settled (reply (begun s tr tag) c stOK
      (beBytes 8 s.tb.now.toNat ++ beBytes 4 (s32 s.fabric.offset) ++ beBytes 1 (flag s.tb.aligned 0)))) := by
  rw [exec_timeRead, execTimeRead, onCmd_starts h, needLen_of_length (length_of_nil hd)]
  rfl

theorem exec_barrier_of_starts (hd : c.data = []) (h : Starts s tr tag 0x0002 c) :
    exec (.barrier tr tag) s = .next (settled (reply (begun s tr tag) c stOK [])) := by
  rw [exec_barrier, execBarrier, onCmd_starts h, needLen_of_length (length_of_nil hd)]
  rfl

theorem exec_safetyStatus_of_starts (hd : c.data = []) (h : Starts s tr tag 0x0500 c) :
    exec (.safetyStatus tr tag) s = .next (settled (reply (begun s tr tag) c stOK
      (four.flatMap (fun m => beBytes 4 (safetyWord s false m)) ++ beBytes 1 (inputBits s false)
        ++ beBytes 1 (outsOn s) ++ beBytes 1 (connsLost s)))) := by
  have houts : outsOn (begun s tr tag) = outsOn s := rfl
  have hlost : connsLost (begun s tr tag) = connsLost s := rfl
  simp only [exec_safetyStatus, execSafetyStatus, onCmd_starts h, needLen_of_length (length_of_nil hd), done,
    safetyWord_begun, inputBits_begun, houts, hlost]

theorem exec_safetyCrc_of_starts (hd : c.data = []) (h : Starts s tr tag 0x0501 c) :
    exec (.safetyCrc tr tag) s = .next (settled (reply (begun s tr tag) c stOK
      ((safetyCrcs s).flatMap (beBytes 4)))) := by
  simp only [exec_safetyCrc, execSafetyCrc, onCmd_starts h, needLen_of_length (length_of_nil hd), done,
    safetyCrcs_begun]

/-! ### The opcodes that act (23 R580, R581, R588, R597) -/

/-- MODULE_RESET requests a reset unless one is pending. -/
theorem exec_moduleReset_of_starts (h : Starts s tr tag 0x0004 c) (hd : c.data = []) :
    exec (.moduleReset tr tag) s = .next (settled ((reply (begun s tr tag) c stOK []).modStart (fun x =>
      if x.resetPending.isSome then x else { x with resetPending := some .opcode, resetPendingAt := s.clk }))) := by
  rw [exec_moduleReset, execModuleReset, onCmd_starts h, needLen_of_length (length_of_nil hd)]
  rfl

/-- BLOCK_RESET resets the named block. -/
theorem exec_blockReset_of_starts {k : Byte} {b : Blk} (h : Starts s tr tag 0x0005 c) (hd : c.data = [k])
    (hr : resettable (tIndex c.target) k.toNat = .ok b) :
    exec (.blockReset tr tag) s = .next (settled (reply
      (if s.start.resetPending.isSome then begun s tr tag else resetBlock (begun s tr tag) b (some c.id)) c stOK
        [])) := by
  have hlen : c.data.length = 1 := by rw [hd]; rfl
  have hbyte : beNat c.data = k.toNat := by rw [hd, beNat_singleton]
  simp only [exec_blockReset, execBlockReset, onCmd_starts h, needLen_of_length hlen, hbyte, hr, done]
  rfl

/-- KEY_WRITE of key 8 sets the debug key. -/
theorem exec_keyWrite_of_debug {level : Byte} {key : List Byte} (h : Starts s tr tag 0x0A30 c)
    (hd : c.data = 8 :: level :: key) (hk : key.length = 32) :
    exec (.keyWrite tr tag) s = .next (settled (reply ((begun s tr tag).modPorter (fun p =>
      { p with debugKey := key })) c stOK [])) := by
  have hlen : c.data.length = 34 := by rw [hd, List.length_cons, List.length_cons, hk]
  have hslot : field c.data 0 1 = 8 := by rw [hd]; rfl
  have hkey : c.data.drop 2 = key := by rw [hd]; rfl
  simp only [exec_keyWrite, execKeyWrite, onCmd_starts h, needLen_of_length hlen, hslot, hkey, Nat.lt_irrefl, if_false,
    if_true, done]

/-- KEY_WRITE of another key sets its slot. -/
theorem exec_keyWrite_of_slot {k level : Byte} {key : List Byte} (h : Starts s tr tag 0x0A30 c)
    (hd : c.data = k :: level :: key) (hk : key.length = 32) (hmax : k.toNat ≤ 7) (h1 : 1 ≤ level.toNat)
    (h4 : level.toNat ≤ 4) :
    exec (.keyWrite tr tag) s = .next (settled (reply ((begun s tr tag).modPorter (fun p => { p with
      keys := vmod p.keys (finOf 8 k.toNat) (fun _ => some ⟨BitVec.ofNat 3 level.toNat, key⟩) })) c stOK [])) := by
  have hlen : c.data.length = 34 := by rw [hd, List.length_cons, List.length_cons, hk]
  have hslot : field c.data 0 1 = k.toNat := field_byte (by rw [hd]; rfl)
  have hlevel : field c.data 1 1 = level.toNat := field_byte (by rw [hd]; rfl)
  have hkey : c.data.drop 2 = key := by rw [hd]; rfl
  have hin : ¬ 8 < k.toNat := by omega
  have hno : ¬ k.toNat = 8 := by omega
  have hrange : ¬ (level.toNat < 1 ∨ 4 < level.toNat) := by omega
  simp only [exec_keyWrite, execKeyWrite, onCmd_starts h, needLen_of_length hlen, hslot, hlevel, hkey, hin, hno, hrange,
    if_false, done]

/-- SAFETY_VALIDATE with the right CRC writes one journal entry. -/
theorem exec_safetyValidate_of_right {x : Session} (h : Starts s tr tag 0x0502 c) (hlen : c.data.length = 4)
    (hcfg : s.safety.cfgFault = false) (hcrc : (safetyCrcs s).any (fun y => y != beNat c.data) = false)
    (hx : openSession s c.session = some x) :
    exec (.safetyValidate tr tag) s = .next (settled (reply (journal (begun s tr tag) 6 0
      (c.data ++ beBytes 2 c.session.toNat ++ beBytes 1 x.slot.val ++ [1] ++ List.replicate 4 0)) c stOK [])) := by
  have hcfg' : (begun s tr tag).safety.cfgFault = false := hcfg
  have hx' : openSession (begun s tr tag) c.session = some x := hx
  rw [exec_safetyValidate, execSafetyValidate, onCmd_starts h, hcfg', needState_of_length hlen]
  simp only [safetyCrcs_begun, hcrc, hx', Bool.false_eq_true, if_false, done]

section
variable {named : BitVec 16} {t : Cmd} (h : Starts s tr tag 0x0003 c) (hlen : c.data.length = 2)
  (hd : beNat c.data = named.toNat) (hne : named ≠ c.tag) (ht : findCmd (begun s tr tag) c.tr named = some t)
  (hl : t.level.toNat ≤ c.level.toNat)
include h hlen hd hne ht hl

/-- ABORT of a command that another may abort goes by its phase. -/
theorem exec_abort_of_named : exec (.abort tr tag) s = .next (settled (
    if t.phase = .waiting then reply (queueFor (begun s tr tag) t.tr t.tag false true stABORTED []) c stOK []
    else if t.phase = .running then
      reply (abortLong (begun s tr tag) t).1 c (if (abortLong (begun s tr tag) t).2 then stOK else stLATE) []
    else reply (begun s tr tag) c stLATE [])) := by
  have hnamed : BitVec.ofNat 16 (beNat c.data) = named := by rw [hd, BitVec.ofNat_toNat, BitVec.setWidth_eq]
  simp only [exec_abort, execAbort, onCmd_starts h, needLen_of_length hlen, hnamed, ht, hne, Nat.not_lt.2 hl, if_false,
    done]

theorem exec_abort_of_waiting (hp : t.phase = .waiting) :
    exec (.abort tr tag) s = .next (settled (reply (queueFor (begun s tr tag) t.tr t.tag false true stABORTED []) c
      stOK [])) := by
  rw [exec_abort_of_named h hlen hd hne ht hl, if_pos hp]

theorem exec_abort_of_running (hp : t.phase = .running) :
    exec (.abort tr tag) s = .next (settled (reply (abortLong (begun s tr tag) t).1 c
      (if (abortLong (begun s tr tag) t).2 then stOK else stLATE) [])) := by
  have hno : ¬ t.phase = .waiting := by rw [hp]; decide
  rw [exec_abort_of_named h hlen hd hne ht hl, if_neg hno, if_pos hp]
end

/-! ### Registers (24 R600, R601; 23 R591, R594, R595) -/

theorem exec_groupReadLatch_of_register {s t : State} {dt v : Nat} {a : BitVec 32}
    (h : regRead (advance s dt) a.toNat = some (v, t)) : exec (.groupReadLatch dt a) s = .next (settled t) := by
  simp only [exec_groupReadLatch, execGroupReadLatch, done, h]

theorem exec_berthRead_of_starts (h : Starts s tr tag 0x0703 c) (hd : c.data = []) :
    exec (.berthRead tr tag) s = .next (settled
      (reply (begun s tr tag) c stOK ((berthWords s c.berth).flatMap (beBytes 4)))) := by
  have hwords : berthWords (begun s tr tag) c.berth = berthWords s c.berth := rfl
  simp only [exec_berthRead, execBerthRead, onCmd_starts h, needLen_of_length (length_of_nil hd), done, hwords]

/-- Nothing is found where every index fails the test. -/
theorem find_range_eq_none {n : Nat} {p : Nat → Bool} (h : ∀ i, i < n → p i = false) : (List.range n).find? p = none :=
  List.find?_eq_none.2 fun i hi => by rw [h i (List.mem_range.1 hi)]; exact Bool.false_ne_true

/-- REG_READ reads its words once each of them is readable. -/
theorem exec_regRead_of_readable {a n : Nat} (h : Starts s tr tag 0x0A00 c) (hlen : c.data.length = 5)
    (ha : beNat (c.data.take 4) = a) (hn : beNat (c.data.drop 4) = n) (h1 : 1 ≤ n)
    (hr : ∀ i, i < n → readable (begun s tr tag) (a + 4 * i) = true) :
    exec (.regRead tr tag) s = .next (settled
      (reply (readWords n (begun s tr tag) a).2 c stOK (readWords n (begun s tr tag) a).1)) := by
  have hfind : (List.range n).find? (fun i => !readable (begun s tr tag) (a + 4 * i)) = none :=
    find_range_eq_none fun i hi => by rw [hr i hi]; rfl
  simp only [exec_regRead, execRegRead, onCmd_starts h, needLen_of_length hlen, ha, hn, Nat.one_le_iff_ne_zero.1 h1,
    if_false, hfind, done]

/-- REG_WRITE writes its words once none of them is refused. -/
theorem exec_regWrite_of_writable {a n : Nat} (h : Starts s tr tag 0x0A01 c) (hlen : c.data.length = 5 + 4 * n)
    (ha : beNat (c.data.take 4) = a) (hn : beNat ((c.data.drop 4).take 1) = n) (h1 : 1 ≤ n) (h254 : n ≤ 254)
    (hw : ∀ i, i < n → writeRefused (begun s tr tag) (a + 4 * i) = false) :
    exec (.regWrite tr tag) s = .next (settled
      (reply (writeWords n (begun s tr tag) a (c.data.drop 5)) c stOK [])) := by
  have hshort : ¬ 5 + 4 * n < 5 := by omega
  have hcount : ¬ (n = 0 ∨ n = 255) := by omega
  simp only [exec_regWrite, execRegWrite, onCmd_starts h, hshort, ha, hn, hcount, hlen, ne_eq, not_true_eq_false,
    if_false, find_range_eq_none hw, done]

/-- REG_MODE over HSPI switches direct register mode. -/
theorem exec_regMode_of_hspi {v : Byte} (h : Starts s tr tag 0x0A02 c) (htr : c.tr = .hspi) (hd : c.data = [v])
    (hv : v.toNat ≤ 1) :
    exec (.regMode tr tag) s = .next (settled
      (reply ((begun s tr tag).modPorter (fun p => { p with regMode := v.toNat == 1 })) c stOK [])) := by
  have hlen : c.data.length = 1 := by rw [hd]; rfl
  have hbyte : beNat c.data = v.toNat := by rw [hd, beNat_singleton]
  simp only [exec_regMode, execRegMode, onCmd_starts h, htr, ne_eq, not_true_eq_false, if_false,
    needLen_of_length hlen, hbyte, Nat.not_lt.2 hv, done]

/-! ### Machines (23 R583 to R586, 13 R352) -/

theorem exec_enable_of_ready (h : Starts s tr tag 0x0200 c) (hd : c.data = [])
    (hc : enableCheck (begun s tr tag) c.m = none) :
    exec (.enable tr tag) s = .next (settled (startEnable (accept (begun s tr tag) c) c.m (some c.id))) := by
  simp only [exec_enable, execEnable, onCmd_starts h, hc, needLen_of_length (length_of_nil hd), done]

theorem exec_enableComplete_of_result {dt : Nat} {m : Fin 4} {e : Enabling} {st : BitVec 16} {data : List Byte}
    (he : s.drive[m].enabling = some e) (hr : e.result = some (st, data)) :
    exec (.enableComplete dt m) s = .next (settled
      (complete ((advance s dt).modDrive m (fun d => { d with enabling := none })) e.cmd st data)) := by
  simp only [exec_enableComplete, execEnableComplete, done, advance_fields, he, hr]

theorem exec_disable_of_starts (h : Starts s tr tag 0x0201 c) (hd : c.data = []) :
    exec (.disable tr tag) s = .next (settled (stopByCommand (begun s tr tag) c false)) := by
  simp only [exec_disable, execDisable, onCmd_starts h, needLen_of_length (length_of_nil hd), done]

theorem exec_quickStop_of_starts (h : Starts s tr tag 0x0202 c) (hd : c.data = []) :
    exec (.quickStop tr tag) s = .next (settled (stopByCommand (begun s tr tag) c true)) := by
  simp only [exec_quickStop, execQuickStop, onCmd_starts h, needLen_of_length (length_of_nil hd), done]

/-- SET_REFERENCE seals the setpoint of the Stove that serves the machine. -/
theorem exec_setReference_of_stove {k : Byte} {v : List Byte} {x : Fin 4} (h : Starts s tr tag 0x0203 c)
    (hd : c.data = k :: v) (hv : v.length = 4) (hk : k.toNat ≤ 7) (hx : stoveOf (begun s tr tag) c.m = some x) :
    exec (.setReference tr tag) s = .next (settled
      (sealGroup (begun s tr tag) [(pkey 4 x.val 0x3003 (k.toNat + 1), beNat v)] false (some c.id))) := by
  have hlen : c.data.length = 5 := by rw [hd, List.length_cons, hv]
  have hfirst : beNat (c.data.take 1) = k.toNat := by
    rw [hd, List.take_succ_cons, List.take_zero, beNat_singleton]
  have hrest : c.data.drop 1 = v := by rw [hd]; rfl
  simp only [exec_setReference, execSetReference, onCmd_starts h, needLen_of_length hlen, hfirst, hrest,
    Nat.not_lt.2 hk, if_false, hx, done]

theorem exec_machineStatus_of_starts (h : Starts s tr tag 0x0204 c) (hd : c.data = []) :
    exec (.machineStatus tr tag) s = .next (settled (reply (begun s tr tag) c stOK
      (beBytes 1 s.startM[c.m].state.code ++ [0] ++ beBytes 2 (s16 (per1024 s.tfu[c.m].torque))
        ++ beBytes 2 (s16 (psiAbs s c.m)) ++ beBytes 4 (s32 (measuredSpeed s c.m))
        ++ beBytes 4 (readParam (begun s tr tag) 1 c.m.val 0x2410 0) ++ beBytes 4 (readParam (begun s tr tag) 1
            c.m.val 0x2710 0)
        ++ beBytes 4 (readParam (begun s tr tag) 1 c.m.val 0x8210 1) ++ beBytes 4 (readParam (begun s tr tag) 1
            c.m.val 0x6110 0)
        ++ beBytes 4 (readParam (begun s tr tag) 1 c.m.val 0x9004 0)))) := by
  have hpsi : psiAbs (begun s tr tag) c.m = psiAbs s c.m := rfl
  have hspeed : measuredSpeed (begun s tr tag) c.m = measuredSpeed s c.m := rfl
  have hstart : (begun s tr tag).startM = s.startM := rfl
  have htfu : (begun s tr tag).tfu = s.tfu := rfl
  simp only [exec_machineStatus, execMachineStatus, onCmd_starts h, needLen_of_length (length_of_nil hd), done, hpsi,
    hspeed, hstart, htfu]

theorem exec_homeLostTransfer_of_missed {dt : Nat} {m : Fin 4} {x : Share} (hx : s.share[m] = x)
    (hr : xferRole s m = 2) (ha : x.armed = true) (hm : 2 ≤ x.xferMissed) (hact : x.active = false)
    (hen : s.en m = false) :
    exec (.homeLostTransfer dt m) s = .next (settled ((advance s dt).modShare m (fun y =>
      { y with xferDue := true }))) := by
  have hr' : xferRole (advance s dt) m = 2 := hr
  subst hx
  simp only [exec_homeLostTransfer, execHomeLostTransfer, done, advance_fields, advance_reads, hr', ha, hm, hact, hen,
    and_self, if_true]

/-! ### Images (23 R596, R597; 22 R563) -/

theorem imageOf_begun (b : Bool) : imageOf (begun s tr tag) b = imageOf s b := rfl

/-- IMAGE_LOAD_BEGIN invalidates the area's header and opens the load. -/
theorem exec_imageLoadBegin_of_free {b : Bool} {n : Nat} (h : Starts s tr tag 0x0A10 c) (hlen : c.data.length = 5)
    (hb : field c.data 0 1 = flag b 0) (hn : field c.data 1 4 = n) (hth : throttling s = false)
    (hload : s.porter.load = none) (hsel : s.start.startState = .hold ∨ b ≠ s.start.imageSel) (hmin : 8 ≤ n)
    (hmax : n ≤ 8388480) (hmod : n % 8 = 0) :
    exec (.imageLoadBegin tr tag) s = .next (settled (reply ((modImage (begun s tr tag) b (fun _ => {})).modPorter
      (fun p => { p with load := some {
        imageB := b, length := n, transport := c.tr,
        session := if s.start.startState = .hold then none else some c.session, lastAt := s.clk } })) c stOK [])) := by
  have harea : (flag b 0 == 1) = b := by cases b <;> rfl
  have hin : ¬ 1 < flag b 0 := by cases b <;> decide
  have hsize : ¬ (n < 8 ∨ 8388480 < n ∨ n % 8 ≠ 0) := by omega
  have hth' : throttling (begun s tr tag) = false := hth
  have hload' : (begun s tr tag).porter.load = none := hload
  have hother : (!(s.start.startState == .hold) && !c.data.isEmpty && decide (flag b 0 ≤ 1) && b == s.start.imageSel)
      = false := by
    obtain hh | hne := hsel
    · rw [hh]; rfl
    · rw [beq_false_of_ne hne, Bool.and_false]
  rw [exec_imageLoadBegin, execImageLoadBegin, onCmd_starts h]
  simp only [hb, hn, harea, hth', hload', begun_start, hother, Option.isSome_none, Bool.or_self,
    needState_of_length hlen, hin, hsize, if_false, done, beq_iff_eq] <;> rfl

section
variable {x : ImageLoad}

/-- IMAGE_LOAD_DATA writes its bytes to the area. -/
theorem exec_imageLoadData_of_good {t : State} {bad : Bool} (h : Starts s tr tag 0x0A11 c)
    (hx : ownLoad (begun s tr tag) c = some x) (hmin : 12 ≤ c.data.length) (hmax : c.data.length ≤ 1020)
    (hoff : field c.data 0 4 % 8 = 0) (hin : field c.data 0 4 + (c.data.length - 4) ≤ x.length)
    (hw : mramWrite ((begun s tr tag).modPorter (fun p => { p with load := some { x with lastAt := s.clk } }))
      (imageBase x.imageB + field c.data 0 4) (c.data.drop 4) bad = (t, true)) :
    exec (.imageLoadData tr tag bad) s = .next (settled (reply t c stOK [])) := by
  have hsize : ¬ (c.data.length - 4 < 8 ∨ 1016 < c.data.length - 4) := by omega
  have hfit : ¬ x.length < field c.data 0 4 + (c.data.length - 4) := Nat.not_lt.2 hin
  have hclk : (begun s tr tag).clk = s.clk := rfl
  rw [exec_imageLoadData, execImageLoadData, onCmd_starts h]
  simp only [hx, List.length_drop, hsize, hoff, hfit, hclk, ne_eq, not_true_eq_false, or_self, if_false, hw, if_true,
    done]

/-- IMAGE_LOAD_END with a good header is accepted. -/
theorem exec_imageLoadEnd_of_good (h : Starts s tr tag 0x0A12 c) (hx : ownLoad (begun s tr tag) c = some x)
    (hlen : c.data.length = 128) (hgood : headerGood c.data = true) :
    exec (.imageLoadEnd tr tag) s = .next (settled (accept ((begun s tr tag).modPorter (fun p => { p with
      load := some { x with lastAt := s.clk, ending := some c.data } })) c)) := by
  rw [exec_imageLoadEnd, execImageLoadEnd, onCmd_starts h]
  simp only [hx, needLen_of_length hlen, hgood, Bool.not_true, Bool.false_eq_true, if_false, done,
    State.modPorter_modPorter] <;> rfl
end

/-- The image whose header a completed load writes. -/
def loadedImage (r : State) (x : ImageLoad) (h : List Byte) (good : Bool) : Image where
  headerOk := true
  generation := headerGeneration h
  version := headerVersion h
  trial := true
  trialCount := 0
  notBootable := false
  header := h
  length := x.length
  checked := cellsGet r.mem.mram (imageBase x.imageB) x.length
  sigOk := good

section
variable {r : State} {dt : Nat} {x : ImageLoad} {h : List Byte} {bad : Bool} (hload : s.porter.load = some x)
  (hend : x.ending = some h)
include hload hend

/-- The end of a load writes the header on trial and checks the signature. -/
theorem exec_imageLoadEndComplete_of_written {good : Bool}
    (hr : (if bad then spareMramRow ((advance s dt).modPorter (fun p => { p with load := none }))
        (dieOf (imageBase x.imageB)) else ((advance s dt).modPorter (fun p => { p with load := none }), true))
      = (r, true))
    (hgood : Config.imageSigned h (cellsGet r.mem.mram (imageBase x.imageB) x.length) = good) :
    exec (.imageLoadEndComplete dt bad) s = .next (settled (if good
      then complete (journalImage (modImage r x.imageB (fun _ => loadedImage r x h good)) 2 x.imageB
        (((endingCmd s).map (fun y => y.2)).getD 0)) (endingCmd s) stOK []
      else complete (modImage r x.imageB (fun _ => loadedImage r x h good)) (endingCmd s) stEXECFAULT [])) := by
  have hcmd : endingCmd (advance s dt) = endingCmd s := rfl
  simp only [exec_imageLoadEndComplete, execImageLoadEndComplete, done, advance_fields, hload, hend, hr, hcmd, hgood,
    Bool.not_true, Bool.false_eq_true, if_false, loadedImage]
end

/-- 60 s without an opcode close the load. -/
theorem exec_imageLoadIdleTimeout_of_elapsed {dt : Nat} {x : ImageLoad} (hload : s.porter.load = some x)
    (hend : x.ending = none) (ht : x.lastAt + msTicks 60000 ≤ s.clk + dt) :
    exec (.imageLoadIdleTimeout dt) s = .next (settled ((advance s dt).modPorter (fun p => { p with
      load := none }))) := by
  have hdue : (x.ending.isNone && elapsed (advance s dt) x.lastAt (msTicks 60000)) = true := by
    rw [hend, elapsed_advance, decide_eq_true ht]
    rfl
  simp only [exec_imageLoadIdleTimeout, execImageLoadIdleTimeout, done, advance_fields, hload, hdue, if_true]

/-- A state with the floor in both boot records, the standby record first. -/
def bootWritten (s : State) (floor : BitVec 16) : State :=
  writeBoot (writeBoot s (bootTarget s) floor) (!bootTarget s) floor

/-- CONFIRM_IMAGE ends a trial and writes the floor. -/
theorem exec_confirmImage_of_trial {r u : State} {bad : Bool} (h : Starts s tr tag 0x0A13 c) (hd : c.data = [])
    (ht : (imageOf s s.start.imageSel).trial = true)
    (hr : (if bad then spareMramRow (begun s tr tag) (dieOf (imageBase s.start.imageSel)) else (begun s tr tag, true))
      = (r, true))
    (hu : u = modImage r s.start.imageSel (fun x => { x with trial := false })) :
    exec (.confirmImage tr tag bad) s = .next (settled (reply (journalImage
      (bootWritten u (imageOf u s.start.imageSel).version) 3 s.start.imageSel c.tag) c stOK [])) := by
  simp only [exec_confirmImage, execConfirmImage, onCmd_starts h, needLen_of_length (length_of_nil hd), begun_start,
    imageOf_begun, ht, hr, Bool.not_true, Bool.false_eq_true, if_false, done, bootWritten, ← hu]

theorem exec_confirmImage_of_confirmed {bad : Bool} (h : Starts s tr tag 0x0A13 c) (hd : c.data = [])
    (ht : (imageOf s s.start.imageSel).trial = false) :
    exec (.confirmImage tr tag bad) s = .next (settled (reply (begun s tr tag) c stOK [])) := by
  simp only [exec_confirmImage, execConfirmImage, onCmd_starts h, needLen_of_length (length_of_nil hd), begun_start,
    imageOf_begun, ht, Bool.not_false, if_true, done]
end
end Sys2Proof.Machine

namespace Sys2Proof.Proofs
open Sys2Proof.Machine Sys2Proof.Safety

/-- Settles O6: the start of a command leaves all that these opcodes read. -/
theorem systemReads : Obligations.SystemReads := by
  unfold Obligations.SystemReads
  intro s tr tag c
  exact ⟨exec_identify_of_starts, exec_status_of_starts, exec_timeRead_of_starts, exec_barrier_of_starts,
    exec_safetyStatus_of_starts, exec_safetyCrc_of_starts⟩

/-- Settles O7, ABORT by the phase of the command it names.
That BLOCK_RESET does nothing while a module reset is pending is the model's choice (log 68). -/
theorem systemActs : Obligations.SystemActs := by
  unfold Obligations.SystemActs
  intro s tr tag c
  refine ⟨exec_moduleReset_of_starts, ?block, ?debugKey, ?slot, ?validate, ?waiting, ?running⟩
  case block => exact fun k b h hd hr => exec_blockReset_of_starts h hd hr
  case debugKey => exact fun level key h hd hk => exec_keyWrite_of_debug h hd hk
  case slot => exact fun k level key h hd hk hmax h1 h4 => exec_keyWrite_of_slot h hd hk hmax h1 h4
  case validate => exact fun x h hlen hcfg hcrc hx => exec_safetyValidate_of_right h hlen hcfg hcrc hx
  case waiting => exact fun named t h hlen hd hne ht hp hl => exec_abort_of_waiting h hlen hd hne ht hl hp
  case running => exact fun named t h hlen hd hne ht hp hl => exec_abort_of_running h hlen hd hne ht hl hp

/-- Settles O10: a command on several words finds none of them refused. -/
theorem registerCommands : Obligations.RegisterCommands := by
  unfold Obligations.RegisterCommands
  intro s
  refine ⟨?latch, ?write, ?berth, ?regRead, ?regWrite, ?regMode⟩
  case latch => exact fun dt a v t h => exec_groupReadLatch_of_register h
  case write => exact fun dt a w => exec_registerWrite dt a w s
  case berth => exact fun tr tag c h hd => exec_berthRead_of_starts h hd
  case regRead => exact fun tr tag c a n h hlen ha hn h1 hr => exec_regRead_of_readable h hlen ha hn h1 hr
  case regWrite => exact fun tr tag c a n h hlen ha hn h1 h254 hw => exec_regWrite_of_writable h hlen ha hn h1 h254 hw
  case regMode => exact fun tr tag c v h htr hd hv => exec_regMode_of_hspi h htr hd hv

/-- Settles O22, each opcode once its checks have passed. -/
theorem machineOpcodes : Obligations.MachineOpcodes := by
  unfold Obligations.MachineOpcodes
  intro s
  refine ⟨?enable, ?complete, ?disable, ?quickStop, ?reference, ?status, ?transfer⟩
  case enable => exact fun tr tag c h hd hc => exec_enable_of_ready h hd hc
  case complete => exact fun dt m e st data he hr => exec_enableComplete_of_result he hr
  case disable => exact fun tr tag c h hd => exec_disable_of_starts h hd
  case quickStop => exact fun tr tag c h hd => exec_quickStop_of_starts h hd
  case reference => exact fun tr tag c k v x h hd hv hk hx => exec_setReference_of_stove h hd hv hk hx
  case status => exact fun tr tag c h hd => exec_machineStatus_of_starts h hd
  case transfer => exact fun dt m hr ha hm hact hen => exec_homeLostTransfer_of_missed rfl hr ha hm hact hen

/-- Settles O9, the completion by the signature over the MRAM, CONFIRM_IMAGE by the trial flag.
The place of the body and the order of the writes are the model's choice (log 69). -/
theorem imageCommands : Obligations.ImageCommands := by
  unfold Obligations.ImageCommands
  intro s
  refine ⟨?begin, ?data, ?finish, ?verified, ?unverified, ?idle, ?trial, ?confirmed⟩
  case begin => exact fun tr tag c b n h hlen hb hn hth hload hsel hmin hmax hmod =>
    exec_imageLoadBegin_of_free h hlen hb hn hth hload hsel hmin hmax hmod
  case data => exact fun tr tag c x t bad h hx hmin hmax hoff hin hw =>
    exec_imageLoadData_of_good h hx hmin hmax hoff hin hw
  case finish => exact fun tr tag c x h hx hlen hgood => exec_imageLoadEnd_of_good h hx hlen hgood
  case verified =>
    intro r dt x h bad hload hend hr hgood
    rw [exec_imageLoadEndComplete_of_written hload hend hr hgood]
    rfl
  case unverified =>
    intro r dt x h bad hload hend hr hgood
    rw [exec_imageLoadEndComplete_of_written hload hend hr hgood]
    rfl
  case idle => exact fun dt x hload hend ht => exec_imageLoadIdleTimeout_of_elapsed hload hend ht
  case trial =>
    intro r tr tag c bad h hd ht hr
    rw [exec_confirmImage_of_trial h hd ht hr rfl]
    rfl
  case confirmed => exact fun tr tag c bad h hd ht => exec_confirmImage_of_confirmed h hd ht

end Sys2Proof.Proofs


/-! That O38 is open in the model: a state that meets the hypotheses of `filter_of_liveCalibration` (04 R111, log 10). -/
namespace Sys2Proof.Machine
open Sys2Proof.Safety

/-- The reset state, but that port 0 is a resolver port whose last value stands one tick later than the present tick. -/
def lateResolver : State :=
  (State.reset.setPar 0 0 0x0410 1 1).modPort 0 (fun y => { y with locked := true, posTick := State.reset.clk + 1 })

theorem lateResolver_calm : Calm lateResolver := by
  unfold Calm
  decide +kernel

end Sys2Proof.Machine

namespace Sys2Proof.Proofs
open Sys2Proof.Machine Sys2Proof.Safety

/-- Of O38 it follows that the filter cannot tell a time of -1 from none, for some error of the loop and the bandwidth of
that port. The filter is free, so neither O38 nor its negation can be proved: with a filter that leaves the loop as it is
O38 holds (`liveCalibration_of_filter`), and with one that moves it for a negative time only it fails. -/
theorem filter_neg_one_of_liveCalibration (h : Obligations.LiveCalibration) :
    ∃ e : Int, clampI (-8388352) 8388352 (Config.filter 1 e 0 (portPar lateResolver 0 6)) =
      clampI (-8388352) 8388352 (Config.filter 1 e (-1) (portPar lateResolver 0 6)) := by
  have hmode : portMode lateResolver 0 = 1 := by decide +kernel
  have hvana : analogUp lateResolver = true := by decide +kernel
  have hlocked : lateResolver.posPorts[(0 : Fin 4)].locked = true := by decide +kernel
  have hspeed : lateResolver.posPorts[(0 : Fin 4)].loopSpeed = 0 := by decide +kernel
  have htime : (lateResolver.clk : Int) - lateResolver.posPorts[(0 : Fin 4)].posTick = -1 := by decide +kernel
  obtain ⟨e, he⟩ := filter_of_liveCalibration h hmode hvana hlocked lateResolver_calm (by omega)
  rw [hspeed, htime, Int.zero_add, Int.zero_add] at he
  exact ⟨e, he⟩

end Sys2Proof.Proofs
